-- ==== Sys2Proof/Word.lean ====
section
/-! DEFINITION. Words, bytes and the sparse lists that hold the Holaile's memories. -/

namespace Sys2Proof

/-- One byte. -/
abbrev Byte := BitVec 8

/-- A 128-byte line of tile memory or of stream queue memory (R86, R155). -/
abbrev LineData := BitVec 1024

/-- A 256-byte vector, operand cache line or queue entry (R117, R121). -/
abbrev VecData := BitVec 2048

/-- A memory written down as the list of its entries that differ from its default, keys rising. -/
abbrev Sparse (α : Type) := List (Nat × α)

/-- A SHA-384 digest, first byte in bits [7:0] (R397 stores its first byte at the lowest address). -/
abbrev Digest := BitVec 384

/-- Bits [lo + n − 1 : lo] of a word, as a number. -/
def bits (x lo n : Nat) : Nat := (x >>> lo) % 2 ^ n

/-- Bit i of a word. -/
def bit (x i : Nat) : Bool := x.testBit i

/-- `true` as 1, `false` as 0. -/
def b2n (b : Bool) : Nat := if b then 1 else 0

/-- The signed value of the low n bits of x (two's complement). -/
def sext (n x : Nat) : Int :=
  if x % 2 ^ n < 2 ^ (n - 1) then (x % 2 ^ n : Nat) else ((x % 2 ^ n : Nat) : Int) - (2 ^ n : Nat)

/-- The low n bits of an integer, as a number. -/
def wrapInt (n : Nat) (i : Int) : Nat := (i % (2 ^ n : Nat)).toNat

/-- The low n bytes of x, least significant first (R14: little-endian). -/
def toBytes : Nat → Nat → List Byte
  | 0, _ => []
  | n + 1, x => BitVec.ofNat 8 x :: toBytes n (x / 256)

/-- The little-endian value of a byte string (R14). -/
def ofBytes : List Byte → Nat
  | [] => 0
  | b :: bs => b.toNat + 256 * ofBytes bs

/-- What a sparse memory with default `d` holds at key k. -/
def Sparse.get {α : Type} (d : α) : Sparse α → Nat → α
  | [], _ => d
  | (k, v) :: m, i => if i = k then v else Sparse.get d m i

/-- Insert or replace the entry of key i, keys rising; a value equal to the default removes the entry. -/
def Sparse.set {α : Type} [DecidableEq α] (d : α) : Sparse α → Nat → α → Sparse α
  | [], i, x => if x = d then [] else [(i, x)]
  | (k, v) :: m, i, x =>
    if i < k then (if x = d then (k, v) :: m else (i, x) :: (k, v) :: m)
    else if i = k then (if x = d then m else (k, x) :: m)
    else (k, v) :: Sparse.set d m i x

/-- The canonical form: keys strictly rising from `lo` on and no entry equal to the default. -/
def Sparse.wfFrom {α : Type} [DecidableEq α] (d : α) : Nat → Sparse α → Bool
  | _, [] => true
  | lo, (k, v) :: m => decide (lo ≤ k) && decide (v ≠ d) && Sparse.wfFrom d (k + 1) m

/-- The canonical form of a sparse memory. -/
def Sparse.wf {α : Type} [DecidableEq α] (d : α) (m : Sparse α) : Bool := Sparse.wfFrom d 0 m

/-- Write a run of values at rising keys. -/
def Sparse.setRun {α : Type} [DecidableEq α] (d : α) (m : Sparse α) (i : Nat) : List α → Sparse α
  | [] => m
  | x :: xs => Sparse.setRun d (Sparse.set d m i x) (i + 1) xs

/-- Read n values from key i on. -/
def Sparse.getRun {α : Type} (d : α) (m : Sparse α) (i n : Nat) : List α :=
  (List.range n).map (fun k => Sparse.get d m (i + k))

/-- Replace element i of a list, if there is one. -/
def setAt {α : Type} : List α → Nat → α → List α
  | [], _, _ => []
  | _ :: l, 0, x => x :: l
  | a :: l, n + 1, x => a :: setAt l n x

end Sys2Proof
end

