-- ==== Sys2Proof/Syntax.lean ====
section
/-! DEFINITION. The commands of the Holaile: one constructor for each row of the table of operations and events, and
the operands that carry what comes from outside the device. -/

namespace Sys2Proof

/-- The two sequencers of a core (R139). -/
inductive SeqId where
  | execute | access
  deriving DecidableEq, Repr

/-- A virtual core 32y + x of a lagoon (R20). -/
structure CoreId where
  lagoon : Nat
  v      : Nat
  deriving DecidableEq, Repr

/-- How a frame reached the port (R365 to R370): its length from the destination address to the FCS; its 802.1Q tag as (VLAN ID,
PCP); its DSCP; whether it is IPv4; whether it needs only what Table 2 of spec/12 lists, without an extension header, an option or
a fragment; whether its checksum holds; its source MAC address; and, where it came protected, its association and packet number. -/
structure Wire where
  len   : Nat
  tag   : Option (Nat × Nat)
  dscp  : Nat
  v4    : Bool
  plain : Bool
  sumOk : Bool
  mac   : Nat
  sec   : Option (Nat × Nat)
  deriving DecidableEq, Repr

/-- An HMP datagram as it arrives (R394, R395): its frame, source address and port, the address entry and the UDP port it came to, and
its payload: header, body, in a protected frame the GCM tag, and the CRC-32C. -/
structure Frame where
  wire  : Wire
  dport : Nat
  src   : Nat
  sport : Nat
  entry : Nat
  data  : List Byte
  deriving DecidableEq, Repr

/-- A lighthouse probe (R378): its frame, Ethernet or UDP form, its EtherType or UDP port, the address entry it came to, its source,
and its payload. -/
structure Probe where
  wire  : Wire
  l2    : Bool
  dport : Nat
  entry : Nat
  peer  : Nat
  sport : Nat
  word  : BitVec 128
  len   : Nat
  deriving DecidableEq, Repr

/-- An ICMP, neighbour, ARP or peer-delay frame (R367, R377): how it came, the address it asks for or announces, its sender's
address and link-layer address, and its payload. -/
structure NetFrame where
  wire   : Wire
  target : Nat
  peer   : Nat
  mac    : Nat
  body   : List Byte
  deriving DecidableEq, Repr

/-- A PTP synchronisation message (R377): its frame; the time it shows once its correction is taken in, and of a two-step master the
time that its follow-up gives in its place; its transport (0 UDP over IPv6, 1 UDP over IPv4, 2 Ethernet); and whether the path delay is
measured by delay request-response rather than peer to peer. -/
structure PtpMsg where
  wire      : Wire
  origin    : Nat
  followUp  : Option Nat
  transport : Nat
  e2e       : Bool
  deriving DecidableEq, Repr

/-- The time that a synchronisation message shows. -/
def PtpMsg.time (p : PtpMsg) : Nat := p.followUp.getD p.origin

/-- A reef record that completes, by its issuer, and how often the check of its reply record fails on the way (R223). -/
structure ReefDone where
  iss   : Nat
  fails : Nat
  deriving DecidableEq, Repr

/-- What an MKA frame brings about once processed under the CAK (R370): its check under the CAK, whether the peer is
live, and the security association it puts in use. -/
structure Mka where
  valid : Bool
  live  : Bool
  an    : Nat
  deriving DecidableEq, Repr

/-- A RoCEv2 packet (R371): its frame and UDP destination port; whether it is a reliable connected packet of a kind that Table 4 of
spec/12 supports; queue pair, PSN, source and address entry, R_Key, address, length, payload, CE mark; an immediate, which reaches
nothing (DESIGN CHOICE 113); and in an
acknowledgement its syndrome: 0 ACK, 1 RNR NAK, 2 NAK for a PSN out of order, 3 another NAK. -/
structure Packet where
  wire  : Wire
  dport : Nat
  rc    : Bool
  imm   : Option Nat
  syn   : Nat
  qpn   : Nat
  psn   : Nat
  src   : Nat
  entry : Nat
  rkey  : Nat
  addr  : Nat
  len   : Nat
  bytes : List Byte
  ce    : Bool
  deriving DecidableEq, Repr

/-- A DIMM as its SPD hub describes it (R514): capacity, MRDIMM or RDIMM, highest supported speed in MT/s. -/
structure Dimm where
  ch        : Nat
  supported : Bool
  mrdimm    : Bool
  bytes     : Nat
  mts       : Nat
  deriving DecidableEq, Repr

/-- What the board and the parts show during start-up (R520): straps, the 10 MHz reference, the outcome of PUF
reconstruction, MRAM items whose tag fails (in the order of R456 from 0: lifecycle state, provisioning record, tenant keys,
CAK, settings, logbook root, spare records; 7 and 8 where the latest and the previous logbook copy in flash does not match
its digest), DIMMs, power-goods, and what self-test finds. Cores and stacks are listed
by physical number, strait lanes as (die, boundary, direction, lane), causeway lanes as (group, direction, lane), cubes, vector
lanes and tile memory banks as (physical core, position). `trst`: the board holds TRST_N low (R503). -/
structure StartUp where
  feed     : Nat
  slot     : Nat
  bootSrc  : Nat
  linkMode : Nat
  ref10    : Bool
  puf      : Bool
  badItems : List Nat
  dimms    : List Dimm
  pgHb     : Bool
  pgCw     : Bool
  pgCe     : Bool
  hbmFail  : List Nat
  hbmLanes : List (Nat × Nat)
  cores    : List Nat
  cubes    : List (Nat × Nat)
  vlanes   : List (Nat × Nat)
  banks    : List (Nat × Nat)
  straits  : List (Nat × Nat × Nat × Nat)
  causeway : List (Nat × Nat × Nat)
  trst     : Bool
  deriving DecidableEq, Repr

/-- Where a check found an error (Tables 4 and 6 of spec/16): `addr` is the device address of the atom of an HBM or DDR5 error,
and `lagoons` are those whose traffic was on a link. -/
structure ErrAt where
  ploc    : Nat
  unit    : Nat
  subidx  : Nat
  word    : Nat
  bit     : Nat
  eclass  : Nat
  addr    : Nat
  lagoons : List Nat
  deriving DecidableEq, Repr

/-- What is read as a powered second passes (Table 7 of spec/16): the temperatures of its sensors in order, the lowest voltage of each
region's rail in mV (0, not read), and the codewords that the port's FEC corrected and could not correct. -/
structure SecondAt where
  temps  : List Int
  rails  : List Nat
  fixed  : Nat
  lost   : Nat
  deriving DecidableEq, Repr

/-- The commands, one for each row of spec/opcode_table.json, in its order. -/
inductive Instr where
  /-- NOP (R145): A bundle whose control operation is NOP issues its slots and does nothing else. -/
  | nop (c : CoreId) (q : SeqId)
  /-- REPEAT (R152): A REPEAT bundle issues n + 1 times in consecutive issues, applying INC after each. -/
  | repeatBundle (c : CoreId) (q : SeqId)
  /-- LOOP (R152): A LOOP bundle issues its slots once and then runs its body COUNT or X15 times on a loop counter. -/
  | loop (c : CoreId) (q : SeqId)
  /-- CALL (R153): A CALL bundle issues its slots, pushes a return address and continues at the routine named by the call table. -/
  | call (c : CoreId) (q : SeqId)
  /-- RET (R153): A RET bundle issues its slots and pops the call stack to the bundle after the CALL or SELECT. -/
  | ret (c : CoreId) (q : SeqId)
  /-- SELECT (R162): A SELECT takes the next choice, writes ARG to X15 and calls the variant it names, or raises 0x1301. -/
  | select (c : CoreId) (q : SeqId)
  /-- SETX (R147): A SETX writes an index or step register after the bundle's slots and INC. -/
  | setx (c : CoreId) (q : SeqId)
  /-- TAKE (R162): A TAKE takes the next choice, which must be a token, and writes its ARG to X15. -/
  | take (c : CoreId) (q : SeqId)
  /-- BSET (R241): The setter waits until the buoy is clear and then sets it. -/
  | bset (c : CoreId) (q : SeqId)
  /-- BCLR (R241): The clearer waits until the buoy is set and then clears it. -/
  | bclr (c : CoreId) (q : SeqId)
  /-- BWAIT_SET (R243): The clearer waits until the buoy is set, without changing it. -/
  | bwaitSet (c : CoreId) (q : SeqId)
  /-- BWAIT_CLEAR (R243): The setter waits until the buoy is clear, without changing it. -/
  | bwaitClear (c : CoreId) (q : SeqId)
  /-- BWAIT_TALLY (R246): The tally consumer waits until the tally exceeds its base by n and then adds n to the base. -/
  | bwaitTally (c : CoreId) (q : SeqId)
  /-- FENCE (R248): A fence covers the earlier operations of its classes, holding later ones, and optionally waits or sets a buoy on completion. -/
  | fence (c : CoreId) (q : SeqId)
  /-- BARRIER (R254): A member completes the named fence, arrives at the next episode of the barrier and waits. -/
  | barrier (c : CoreId) (q : SeqId)
  /-- CANCEL (R198): CANCEL waits for its buoy, clears it and discards the run-ahead fetches into the named inbound queues. -/
  | cancel (c : CoreId) (q : SeqId)
  /-- QMARK (R158): QMARK pushes a labelled marker into a queue after the sequencer's earlier entries. -/
  | qmark (c : CoreId) (q : SeqId)
  /-- QMATCH (R158): QMATCH consumes the head of a queue and requires a marker of the same label. -/
  | qmatch (c : CoreId) (q : SeqId)
  /-- END (R141): END ends the stream, after which the execute sequencer issues empty beats. -/
  | endStream (c : CoreId) (q : SeqId)
  /-- EMPTY_BEAT (R141): After END the execute sequencer issues an empty beat, and the trace ends at the first beat at which the row, sound and vector paths are settled. -/
  | emptyBeat (c : CoreId)
  /-- A_TILE_ISSUE (R92): A MATRIX slot issues an A tile with its row control word into the matrix row after the tag, mode and slot checks. -/
  | aTileIssue (c : CoreId) (w : BitVec 64)
  /-- CUBE_ACT (R85): A logical cube takes the A tile and its B register, adds the 8 x 8 contributions into its accumulator tile, and drains it if asked. -/
  | cubeAct (c : CoreId) (k : Nat)
  /-- SET (R97): A SET loads the named B register of all sixteen logical cubes along the wavefront. -/
  | setB (c : CoreId) (w : BitVec 64)
  /-- ONE (R97): A ONE loads the named B register of one logical cube. -/
  | oneB (c : CoreId) (w : BitVec 64)
  /-- ACCLOAD (R98): An ACCLOAD loads one accumulator tile of one cube from consecutive tile memory lines and makes it held. -/
  | accload (c : CoreId) (w : BitVec 64)
  /-- SOUND_ENTRY (R105): The next drained tile in the fixed order enters the sound when it is drained and there is room. -/
  | soundEntry (c : CoreId)
  /-- ADD (R124): Vector ADD adds two sources element by element with one rounding. -/
  | vAdd (c : CoreId) (w : BitVec 64)
  /-- SUB (R124): Vector SUB subtracts element by element with one rounding. -/
  | vSub (c : CoreId) (w : BitVec 64)
  /-- MUL (R124): Vector MUL multiplies element by element with one rounding. -/
  | vMul (c : CoreId) (w : BitVec 64)
  /-- FMA (R124): Vector FMA computes a x b + c with one rounding. -/
  | vFma (c : CoreId) (w : BitVec 64)
  /-- NEG (R124): Vector NEG negates each element. -/
  | vNeg (c : CoreId) (w : BitVec 64)
  /-- ABS (R124): Vector ABS takes the magnitude of each element. -/
  | vAbs (c : CoreId) (w : BitVec 64)
  /-- ADDS (R124): Saturating integer addition, setting SAT. -/
  | vAdds (c : CoreId) (w : BitVec 64)
  /-- SUBS (R124): Saturating integer subtraction, setting SAT. -/
  | vSubs (c : CoreId) (w : BitVec 64)
  /-- MULS (R124): Saturating integer multiplication, setting SAT. -/
  | vMuls (c : CoreId) (w : BitVec 64)
  /-- SHL (R124): Shifts every element left by IMM + X[XREG]. -/
  | vShl (c : CoreId) (w : BitVec 64)
  /-- SHR (R124): Shifts every element right logically by IMM + X[XREG]. -/
  | vShr (c : CoreId) (w : BitVec 64)
  /-- SAR (R124): Shifts every element right arithmetically by IMM + X[XREG]. -/
  | vSar (c : CoreId) (w : BitVec 64)
  /-- AND (R124): Bitwise AND of two sources. -/
  | vAnd (c : CoreId) (w : BitVec 64)
  /-- OR (R124): Bitwise OR of two sources. -/
  | vOr (c : CoreId) (w : BitVec 64)
  /-- XOR (R124): Bitwise XOR of two sources. -/
  | vXor (c : CoreId) (w : BitVec 64)
  /-- MIN (R81): Element-wise minimum with canonical NaN and -0 below +0. -/
  | vMin (c : CoreId) (w : BitVec 64)
  /-- MAX (R81): Element-wise maximum with canonical NaN and +0 above -0. -/
  | vMax (c : CoreId) (w : BitVec 64)
  /-- EQ (R120): Compares for equality and writes a mask. -/
  | vEq (c : CoreId) (w : BitVec 64)
  /-- NE (R120): Compares for inequality and writes a mask. -/
  | vNe (c : CoreId) (w : BitVec 64)
  /-- LT (R120): Compares less-than and writes a mask. -/
  | vLt (c : CoreId) (w : BitVec 64)
  /-- LE (R120): Compares less-or-equal and writes a mask. -/
  | vLe (c : CoreId) (w : BitVec 64)
  /-- TOTLT (R124): Compares by the total order and writes a mask. -/
  | vTotlt (c : CoreId) (w : BitVec 64)
  /-- SEL (R124): Selects each element from the first or second source by mask bit. -/
  | vSel (c : CoreId) (w : BitVec 64)
  /-- CVT (R525): Converts N elements between register groups, choosing MX scales where the target is MX. -/
  | vCvt (c : CoreId) (w : BitVec 64)
  /-- EXP (R125): Correctly rounded exponential. -/
  | vExp (c : CoreId) (w : BitVec 64)
  /-- EXP2 (R125): Correctly rounded base-2 exponential. -/
  | vExp2 (c : CoreId) (w : BitVec 64)
  /-- LN (R125): Correctly rounded natural logarithm. -/
  | vLn (c : CoreId) (w : BitVec 64)
  /-- LOG2 (R125): Correctly rounded base-2 logarithm. -/
  | vLog2 (c : CoreId) (w : BitVec 64)
  /-- RCP (R125): Correctly rounded reciprocal. -/
  | vRcp (c : CoreId) (w : BitVec 64)
  /-- SQRT (R125): Correctly rounded square root. -/
  | vSqrt (c : CoreId) (w : BitVec 64)
  /-- RSQRT (R125): Correctly rounded reciprocal square root. -/
  | vRsqrt (c : CoreId) (w : BitVec 64)
  /-- TANH (R125): Correctly rounded hyperbolic tangent. -/
  | vTanh (c : CoreId) (w : BitVec 64)
  /-- LOGISTIC (R125): Correctly rounded logistic function. -/
  | vLogistic (c : CoreId) (w : BitVec 64)
  /-- ERF (R125): Correctly rounded error function. -/
  | vErf (c : CoreId) (w : BitVec 64)
  /-- RSUM (R134): Sums the active elements of one vector by the pairwise tree into VD. -/
  | vRsum (c : CoreId) (w : BitVec 64)
  /-- RMAX (R134): Takes the maximum of the active elements into VD. -/
  | vRmax (c : CoreId) (w : BitVec 64)
  /-- RMIN (R134): Takes the minimum of the active elements into VD. -/
  | vRmin (c : CoreId) (w : BitVec 64)
  /-- COMPRESS (R131): Packs the active elements of a source into the low elements of the destination. -/
  | vCompress (c : CoreId) (w : BitVec 64)
  /-- EXPAND (R132): Spreads the low elements of a source into the active elements of the destination. -/
  | vExpand (c : CoreId) (w : BitVec 64)
  /-- COMPRESS_Q (R133): Appends the active elements to the packing buffer of an outbound queue, pushing full entries. -/
  | vCompressQ (c : CoreId) (w : BitVec 64)
  /-- EXPAND_Q (R133): Takes elements from the head entry of an inbound queue into the active elements. -/
  | vExpandQ (c : CoreId) (w : BitVec 64)
  /-- FLUSH_OQ (R133): Pushes a partly filled packing buffer with its element count. -/
  | vFlushOq (c : CoreId) (w : BitVec 64)
  /-- SUMM (R135): Reduces the active elements to a COUNT, ANY, MAX or SUM summary and pushes it to the summary queue. -/
  | vSumm (c : CoreId) (w : BitVec 64)
  /-- LDC (R148): Loads an operand cache line into a register. -/
  | vLdc (c : CoreId) (w : BitVec 64)
  /-- STC (R148): Stores a register into an operand cache line. -/
  | vStc (c : CoreId) (w : BitVec 64)
  /-- LDT (R148): Loads tile memory lines T and T + 1 into a register. -/
  | vLdt (c : CoreId) (w : BitVec 64)
  /-- STT (R123): Stores a register into tile memory lines T and T + 1 with tag and sidecars. -/
  | vStt (c : CoreId) (w : BitVec 64)
  /-- SPOP_W (R129): Pops the head sound entry widened to FP32, INT32 or FP64 vectors. -/
  | vSpopW (c : CoreId) (w : BitVec 64)
  /-- SPOP_P (R129): Pops the head sound entry as raw bytes into consecutive registers. -/
  | vSpopP (c : CoreId) (w : BitVec 64)
  /-- QPOP (R148): Pops one 256-byte entry of an inbound queue into a register. -/
  | vQpop (c : CoreId) (w : BitVec 64)
  /-- QPUSH (R148): Pushes one 256-byte entry into an outbound queue, taking an envelope for a message queue. -/
  | vQpush (c : CoreId) (w : BitVec 64)
  /-- STREAM_ISSUE (R171): The stream engine accepts a STREAM syllable as a stream operation after its bounds and ownership checks. -/
  | streamIssue (c : CoreId) (q : SeqId) (w : BitVec 64)
  /-- TRANSACTION_RELEASE (R192): The narrows releases a transaction once its in-flight, lead and reservation conditions hold. -/
  | transactionRelease (c : CoreId) (op : Nat)
  /-- WHEEL_SLOT (R185): A slot of a channel wheel starts and serves its owner's transaction, or is lent. -/
  | wheelSlot (ch : Nat) (bad : Bool)
  /-- TRANSACTION_RESPONSE (R171): A transaction's response arrives and is written to its destination, finishing the operation when last. -/
  | transactionResponse (c : CoreId) (op : Nat) (txn : Nat) (fails : Nat)
  /-- STREAM_QMARK (R527): The stream engine enters a marker into an inbound queue in issue order with the queue's fetches. -/
  | streamQmark (c : CoreId) (n : Nat)
  /-- STREAM_QMATCH (R527): The stream engine checks the head marker of an outbound queue in issue order with its PUTs. -/
  | streamQmatch (c : CoreId) (n : Nat)
  /-- CANCEL_DISCARD_DONE (R198): The last dropped response of a cancelled fetch arrives and later fetches into the queues may release. -/
  | cancelDiscardDone (c : CoreId)
  /-- FENCE_COMPLETE (R250): Every covered operation has finished and the fence completes, setting its buoy. -/
  | fenceComplete (c : CoreId) (n : Nat)
  /-- BARRIER_RELEASE (R254): When every member has arrived at an episode, all members are released. -/
  | barrierRelease (l : Nat) (b : Nat)
  /-- MESSAGE_SEND (R259): The message port sends the head entry of a message queue once its destination has room. -/
  | messageSend (c : CoreId) (n : Nat) (fails : Nat)
  /-- MESSAGE_DELIVERY (R258): An arriving message is checked against its handler and takes effect by its action, tally and buoy. -/
  | messageDelivery (l : Nat) (dst : Nat) (src : Nat)
  /-- COMBINING_CONTRIBUTION (R266): A contribution reaches a combining queue and is added in CINDEX order, delivering the round's result when complete. -/
  | combiningContribution (l : Nat) (n : Nat) (src : Nat)
  /-- FILL (R208): Reef FILL writes a raw constant into span 0. -/
  | reefFill (st : Nat) (iss : Nat)
  /-- REEF_CVT (R208): Reef CVT converts span 1 into span 0. -/
  | reefCvt (st : Nat) (iss : Nat)
  /-- REEF_ADD (R208): Reef ADD adds spans 1 and 2 into span 0. -/
  | reefAdd (st : Nat) (iss : Nat)
  /-- REEF_MUL (R208): Reef MUL multiplies spans 1 and 2 into span 0. -/
  | reefMul (st : Nat) (iss : Nat)
  /-- SCALE (R208): Reef SCALE multiplies span 1 by a parameter into span 0. -/
  | reefScale (st : Nat) (iss : Nat)
  /-- AXPBY (R208): Reef AXPBY computes fma(a, x1, round(b x2)) into span 0. -/
  | reefAxpby (st : Nat) (iss : Nat)
  /-- REDUCE_SUM (R215): Sums span 1 by the pairwise tree or exactly into one element. -/
  | reduceSum (st : Nat) (iss : Nat)
  /-- REDUCE_MAX (R215): Writes the maximum of span 1. -/
  | reduceMax (st : Nat) (iss : Nat)
  /-- REDUCE_MIN (R215): Writes the minimum of span 1. -/
  | reduceMin (st : Nat) (iss : Nat)
  /-- CHECK (R222): Writes the CRC-32C of span 1's bytes. -/
  | reefCheck (st : Nat) (iss : Nat)
  /-- SGDM (R216): Applies an SGD-with-momentum update in place. -/
  | sgdm (st : Nat) (iss : Nat)
  /-- ADAMW (R216): Applies an AdamW update in place. -/
  | adamw (st : Nat) (iss : Nat)
  /-- COMBINE (R217): A COMBINE record joins its group, and a full group adds its staging spans in CINDEX order into the target. -/
  | combine (st : Nat) (iss : Nat)
  /-- DIGEST (R221): Writes SHA-384 leaf digests of span 1 in 1 MiB leaves. -/
  | digest (st : Nat) (iss : Nat)
  /-- REEF_OP_COMPLETE (R212): A reef operation completes and sends its reply or ORs its flags into REEFSTAT. -/
  | reefOpComplete (st : Nat) (d : ReefDone)
  /-- FERRY_LINE_RECEIVED (R235): A ferry link delivers a line, which is kept locally and passed on as FERRYCFG says. -/
  | ferryLineReceived (p : Nat) (fails : Nat)
  /-- DEADLOCK (R271): No progress for DLWIN ticks with an agent waiting: the lagoon stops, a snapshot is taken and it faults. -/
  | deadlock (l : Nat)
  /-- PILOT_INSTRUCTION (R160): The pilot executes one RV32IMFC or Zicsr instruction at a pilot step. -/
  | pilotInstruction (c : CoreId)
  /-- WFI (R160): WFI stops the pilot until the next load and marks it finished. -/
  | wfi (c : CoreId)
  /-- EBREAK (R160): EBREAK halts the pilot under a D2 or D3 debugger, or raises 0x1305. -/
  | ebreak (c : CoreId)
  /-- HQ_SUMV (R162): Pops the head summary entry into a register, waiting for a readable one. -/
  | hqSumv (c : CoreId)
  /-- HQ_SUMH (R162): Reads the head summary entry's upper word without popping. -/
  | hqSumh (c : CoreId)
  /-- HQ_CHOOSE (R162): Pushes a choice word to the execute, access or both choice queues. -/
  | hqChoose (c : CoreId)
  /-- HQ_BUOY_SET (R162): The pilot sets a buoy. -/
  | hqBuoySet (c : CoreId)
  /-- HQ_BUOY_CLEAR (R162): The pilot clears a buoy. -/
  | hqBuoyClear (c : CoreId)
  /-- HQ_BUOY_WAIT_SET (R162): The pilot waits until a buoy is set. -/
  | hqBuoyWaitSet (c : CoreId)
  /-- HQ_BUOY_WAIT_CLEAR (R162): The pilot waits until a buoy is clear. -/
  | hqBuoyWaitClear (c : CoreId)
  /-- ARSTAT_WRITE (R82): A pilot CSR write to ARSTAT clears the flags set in the written value. -/
  | arstatWrite (c : CoreId)
  /-- SHARED_CSR_READ (R163): A pilot read of an execute-side CSR waits until its choices are taken and returns the value at that beat. -/
  | sharedCsrRead (c : CoreId)
  /-- SHARED_CSR_WRITE (R163): A pilot write of an execute-side CSR is held pending until the next choice is taken. -/
  | sharedCsrWrite (c : CoreId)
  /-- CSR_WRITE (R164): A pilot write to any other CSR takes effect or is ignored for read-only registers. -/
  | csrWrite (c : CoreId)
  /-- PROGRAM_BOUNDARY (R41): A lagoon reaches a program boundary and held power-mode, timing-mode and ageing changes take effect. -/
  | programBoundary (l : Nat) (raise : Nat)
  /-- THERMAL_GOVERNOR_TICK (R284): Every 1 ms the governor lowers or raises a region's setpoint by its hottest sensor. -/
  | thermalGovernorTick (r : Nat) (rate : Nat)
  /-- REGION_RESUME (R283): The delay monitor confirms the new rail and the region's pacers resume. -/
  | regionResume (r : Nat)
  /-- TEMPERATURE_SAMPLE (R284): A region sensor reading is taken and acted on for warnings and trips. -/
  | temperatureSample (r : Nat) (tj : Int)
  /-- RAIL_LOW (R280): A region's rail falls below 0.620 V and its pacers halt. -/
  | railLow (r : Nat) (mv : Nat)
  /-- RAIL_RECOVER (R280): The rail has been at or above 0.640 V for 1 us and the pacers resume. -/
  | railRecover (r : Nat)
  /-- RAIL_FAIL (R280): A low-rail halt lasts more than 1 ms and the owning lagoons fault. -/
  | railFail (r : Nat)
  /-- TIDE_TICK (R300): The tide advances one nanosecond, with slews, and each ledger classes the tick. -/
  | tideTick
  /-- PTP_SYNC (R303): A PTP synchronisation message arrives and disciplines the tide. -/
  | ptpSync (p : PtpMsg) (domain : Nat)
  /-- HOLDOVER_TIMEOUT (R303): No synchronisation message for 2 s while LOCKED and the tide enters HOLDOVER. -/
  | holdoverTimeout
  /-- DEFERRED_TIDE_STEP (R304): A tide step that waited for no lagoon running and no launch pending is made. -/
  | deferredTideStep
  /-- PPS_EDGE (R305): A 1PPS rising edge aligns the tide by step or slew. -/
  | ppsEdge
  /-- LAUNCH (R307): The tide reaches the launch count, the lock requirement is checked and each core issues beat 0. -/
  | launch (l : Nat)
  /-- GUARD_WINDOW (R354): A power-guard window starts and each context's bucket is refilled. -/
  | guardWindow (r : Nat)
  /-- OUTPUT_HASH_DONE (R327): A run's outputs have been hashed and its run record is built and offered to the builder. -/
  | outputHashDone (l : Nat)
  /-- RECORD_ACCEPTED (R336): The builder accepts a record into the open batch, the lagoon leaves DRAINING and service answers follow. -/
  | recordAccepted (l : Nat)
  /-- BATCH_WINDOW_EXPIRY (R333): BATCHWIN ticks pass since a batch's first record and the batch closes. -/
  | batchWindowExpiry
  /-- BATCH_SIGNED (R333): A closed batch is signed under ECDSA and HSS/LMS and sent to the host and sinks. -/
  | batchSigned
  /-- HELLO (R400): A HELLO frame opens a handshake and is answered with a signed HELLO_REPLY. -/
  | hello (f : Frame)
  /-- FINISH (R400): A FINISH frame's signature is verified and the session opens with FINISH_REPLY. -/
  | finish (f : Frame)
  /-- CERT_GET (R402): Returns part of the device's certificate chain without a session. -/
  | certGet (f : Frame)
  /-- HANDSHAKE_TIMEOUT (R400): A pending handshake not finished within 1 s is discarded. -/
  | handshakeTimeout (n : Nat)
  /-- SESSION_TIMEOUT (R403): A session with no authenticated command for 300 s ends. -/
  | sessionTimeout (n : Nat)
  /-- COMMAND_START (R409): An accepted ordered command starts once every earlier ordered command of its session has been answered. -/
  | commandStart (n : Nat)
  /-- LANDING_FENCE_MET (R411): The named landing ledger reaches FCOUNT and the waiting command continues. -/
  | landingFenceMet (n : Nat) (seq : Nat)
  /-- LANDING_TIMEOUT (R411): FTIMEOUT passes before the ledger reaches FCOUNT and the command is answered without executing. -/
  | landingTimeout (n : Nat) (seq : Nat)
  /-- HMP_NOP (R419): The mailbox NOP command does nothing and is answered OK. -/
  | cmdHmpNop (f : Frame)
  /-- CLOSE (R403): CLOSE ends the session after its reply. -/
  | cmdClose (f : Frame)
  /-- EVENTS (R424): Selects the event groups for which the session receives notices. -/
  | cmdEvents (f : Frame)
  /-- CONFIGURE (R474): Gives an empty lagoon its regions, stacks, channels and modes, clearing unclean memory. -/
  | cmdConfigure (f : Frame)
  /-- RELEASE (R474): Returns a configured lagoon to EMPTY after zeroing its memory. -/
  | cmdRelease (f : Frame)
  /-- LOAD (R346): Checks a landed image and writes it into the lagoon, which becomes LOADED and unsealed. -/
  | cmdLoad (f : Frame)
  /-- UNLOAD (R413): Returns a loaded or faulted lagoon to CONFIGURED. -/
  | cmdUnload (f : Frame)
  /-- SEAL (R414): Starts taking the input digests and closes the input regions to RoCE writes. -/
  | cmdSeal (f : Frame)
  /-- SEAL_DONE (R330): Input hashing completes, the lagoon is sealed and SEAL is answered with INROOT. -/
  | sealDone (l : Nat)
  /-- START (R307): Checks a sealed lagoon's plan and launch count and sets the launch. -/
  | cmdStart (f : Frame)
  /-- PAUSE (R415): Stops every core of a running lagoon at beat boundaries. -/
  | cmdPause (f : Frame)
  /-- PAUSE_DONE (R270): Every core has stopped and every sent message has taken effect; the lagoon is PAUSED. -/
  | pauseDone (l : Nat)
  /-- RESUME (R415): Resumes beat issue of a paused lagoon. -/
  | cmdResume (f : Frame)
  /-- STOP (R415): Stops a running or paused lagoon, which drains with END 0x0002. -/
  | cmdStop (f : Frame)
  /-- SETMODE (R42): Changes the power mode, timing mode or DLWIN, held to the next program boundary if running. -/
  | cmdSetmode (f : Frame)
  /-- WAIT_RUN (R419): Answers with a run's END, EVENT and record reference once its record is accepted. -/
  | cmdWaitRun (f : Frame)
  /-- READ (R421): Returns bytes of a status, ledger, record, batch, log or other object. -/
  | cmdRead (f : Frame)
  /-- XFER (R421): Writes an object to the host by RDMA WRITE. -/
  | cmdXfer (f : Frame)
  /-- SINK (R422): Sets or removes a sink for signed batches. -/
  | cmdSink (f : Frame)
  /-- SINK_ACK (R422): Reports the slots the host has consumed from a sink. -/
  | cmdSinkAck (f : Frame)
  /-- FLUSH (R333): Closes the open batch. -/
  | cmdFlush (f : Frame)
  /-- PATH (R334): Returns a record's leaf and sibling path to its batch root. -/
  | cmdPath (f : Frame)
  /-- BATCHWIN (R333): Sets the batch window. -/
  | cmdBatchwin (f : Frame)
  /-- POWER_P0 (R523): Wakes the device to P0. -/
  | cmdPowerP0 (f : Frame)
  /-- POWER_P1 (R416): Moves the device to P1 idle. -/
  | cmdPowerP1 (f : Frame)
  /-- POWER_P2 (R416): Moves the device to P2 drowse, returning loaded lagoons to CONFIGURED. -/
  | cmdPowerP2 (f : Frame)
  /-- POWER_P3 (R416): Moves the device to P3 harbour-only after committing the logbook. -/
  | cmdPowerP3 (f : Frame)
  /-- TIDE (R304): Sets PTP discipline, domain, 1PPS and optionally the time of a free tide. -/
  | cmdTide (f : Frame)
  /-- NET_MAC (R420): Sets or restores the MAC address. -/
  | cmdNetMac (f : Frame)
  /-- NET_LINK_LOCAL (R420): Sets the VLAN of address entry 0. -/
  | cmdNetLinkLocal (f : Frame)
  /-- NET_ADDRESS (R420): Writes, binds or clears address entries 1 to 15. -/
  | cmdNetAddress (f : Frame)
  /-- NET_HMPPORT (R420): Sets HMPPORT. -/
  | cmdNetHmpport (f : Frame)
  /-- QOS_PRIORITIES (R420): Sets lossless priorities and the traffic-to-priority map. -/
  | cmdQosPriorities (f : Frame)
  /-- QOS_DSCP_MAP (R420): Sets the DSCP-to-priority map. -/
  | cmdQosDscpMap (f : Frame)
  /-- QOS_PFCWD (R420): Sets the PFC watchdog time. -/
  | cmdQosPfcwd (f : Frame)
  /-- MACSEC_ENABLE (R420): Turns MACsec on or off and sets the replay window. -/
  | cmdMacsecEnable (f : Frame)
  /-- MACSEC_CAK (R420): Installs the pre-shared CAK and CKN. -/
  | cmdMacsecCak (f : Frame)
  /-- LIGHTHOUSE (R388): Writes LHCFG, LHETYPE and LHPORT. -/
  | cmdLighthouse (f : Frame)
  /-- TENANT_KEY_INSTALL (R458): Enrols a tenant key for a scope. -/
  | cmdTenantKeyInstall (f : Frame)
  /-- TENANT_KEY_REMOVE (R458): Removes a tenant key, ending the sessions it opened. -/
  | cmdTenantKeyRemove (f : Frame)
  /-- QP_CREATE (R371): Creates a RoCE queue pair bound to the session's owner. -/
  | cmdQpCreate (f : Frame)
  /-- QP_DESTROY (R372): Destroys a queue pair. -/
  | cmdQpDestroy (f : Frame)
  /-- LR_REGISTER (R373): Registers a landing region and returns its index and R_Key. -/
  | cmdLrRegister (f : Frame)
  /-- LR_DEREGISTER (R412): Deregisters a landing region. -/
  | cmdLrDeregister (f : Frame)
  /-- LIB_PUT (R165): Verifies and stores a landed library package. -/
  | cmdLibPut (f : Frame)
  /-- ATTEST (R466): Returns a signed attestation report. -/
  | cmdAttest (f : Frame)
  /-- DEBUG_OPEN (R477): Verifies a landed debug token and opens a debug session. -/
  | cmdDebugOpen (f : Frame)
  /-- DEBUG_CLOSE (R478): Ends the debug session opened by this mailbox session. -/
  | cmdDebugClose (f : Frame)
  /-- DEBUG_SESSION_EXPIRY (R478): A debug session reaches DURATION seconds of tide and ends. -/
  | debugSessionExpiry (scope : Nat)
  /-- LIFECYCLE_DEPLOY (R468): Moves the lifecycle from PROVISIONED to DEPLOYED. -/
  | cmdLifecycleDeploy (f : Frame)
  /-- LIFECYCLE_RETURN (R472): Moves the lifecycle to RETURNED and starts the wipe. -/
  | cmdLifecycleReturn (f : Frame)
  /-- WIPE_DONE (R472): The wipe completes, the pending flag clears and counter 7 advances. -/
  | wipeDone
  /-- CK_SNAPSHOT (R435): Copies the committed checkpoint state of a paused lagoon into a DDR5 area. -/
  | cmdCkSnapshot (f : Frame)
  /-- CK_SNAPSHOT_DONE (R435): The snapshot area is written and CKROOT computed and returned. -/
  | ckSnapshotDone (l : Nat)
  /-- CK_DRAIN (R441): Sends a range of DDR5 to the host store by RDMA WRITE. -/
  | cmdCkDrain (f : Frame)
  /-- CK_DRAIN_DONE (R441): A drain completes and is answered with the root of the bytes sent. -/
  | ckDrainDone (l : Nat)
  /-- CK_RESTORE (R447): Checks a checkpoint area against the loaded image and copies its spans back. -/
  | cmdCkRestore (f : Frame)
  /-- CK_RESTORED (R448): The restore copy completes and the restore is marked unproven. -/
  | ckRestored (l : Nat)
  /-- PAIR (R449): Records a replica partner and judges whether the pairing is correlated. -/
  | cmdPair (f : Frame)
  /-- COMPARE (R451): Compares the lagoon's latest root with the partner's root. -/
  | cmdCompare (f : Frame)
  /-- SVC_START (R425): Starts the decision service on a loaded lagoon. -/
  | cmdSvcStart (f : Frame)
  /-- SVC_STOP (R430): Closes the open window, runs closed batches and stops the service. -/
  | cmdSvcStop (f : Frame)
  /-- DECIDE (R428): A scoring request is checked and joins the current window. -/
  | cmdDecide (f : Frame)
  /-- DECISION_WINDOW_CLOSE (R426): A service window closes and its rows are written, sealed and run as a batch. -/
  | decisionWindowClose (l : Nat)
  /-- BATCH_RUN_START (R429): A waiting batch is sealed and run once the lagoon is free. -/
  | batchRunStart (l : Nat)
  /-- LIGHTHOUSE_PROBE (R379): A probe arrives and, if valid and spaced, a snapshot is taken at RXTIDE. -/
  | lighthouseProbe (p : Probe)
  /-- LIGHTHOUSE_REPLY (R385): The reply leaves at RXTIDE + 180 or 240 ns, late or dropped if its priority is paused. -/
  | lighthouseReply
  /-- ECHO_REQUEST (R367): An ICMP echo request is answered. -/
  | echoRequest (p : NetFrame)
  /-- NEIGHBOUR_SOLICITATION (R367): An ICMPv6 neighbour solicitation is answered. -/
  | neighbourSolicitation (p : NetFrame)
  /-- ARP_REQUEST (R367): An ARP request is answered. -/
  | arpRequest (p : NetFrame)
  /-- LINK_UP (R364): The link reaches alignment lock at the first width whose lanes all trained. -/
  | linkUp (lanes : Nat)
  /-- LINK_DOWN (R393): The link loses alignment lock. -/
  | linkDown
  /-- FEC_DEGRADED (R393): Uncorrected codewords exceed 1 in 10^12 over 10 s. -/
  | fecDegraded
  /-- MKA_FRAME (R370): An MKA frame is processed for key agreement. -/
  | mkaFrame (m : Mka)
  /-- MACSEC_PEER_LOST (R370): MKA declares its peer lost and the controlled port closes. -/
  | macsecPeerLost
  /-- PAUSE_FRAME (R369): A PFC PAUSE frame pauses or releases a priority on transmission. -/
  | pauseFrame (prio : Nat) (on : Bool)
  /-- PFC_HOLD (R369): A priority stays paused beyond PFCWD. -/
  | pfcHold (prio : Nat)
  /-- ROCE_WRITE (R374): An RDMA WRITE packet is checked, lands and adds to the landing ledger. -/
  | roceWrite (p : Packet)
  /-- ROCE_READ (R371): An RDMA READ request is served from a landing region. -/
  | roceRead (p : Packet)
  /-- ROCE_SEND (R431): A RoCE SEND to a resident service is taken as a request. -/
  | roceSend (p : Packet)
  /-- ROCE_READ_RESPONSE (R374): A read response for the device as initiator lands and adds to the ledger. -/
  | roceReadResponse (p : Packet)
  /-- ROCE_ACK (R371): An acknowledgement arrives for an initiator queue pair. -/
  | roceAck (p : Packet)
  /-- ROCE_ACK_TIMEOUT (R371): An ACK timeout expires and the queue pair retransmits, entering error after its retries. -/
  | roceAckTimeout (qpn : Nat)
  /-- CNP_RECEIVED (R371): A congestion notification lowers the queue pair's send rate. -/
  | cnpReceived (p : Packet)
  /-- I3C_DYNAMIC_ADDRESS (R389): The bus controller assigns the sideband port its dynamic address. -/
  | i3cDynamicAddress (a : Nat)
  /-- PLDM_BASE_QUERY (R390): Answers PLDM discovery, version and type queries. -/
  | pldmBaseQuery (n : Nat)
  /-- PLDM_SENSOR_READ (R390): Answers a PLDM numeric or state sensor read. -/
  | pldmSensorRead (n : Nat) (v : Int)
  /-- PLDM_FRU_READ (R390): Answers a PLDM FRU data read. -/
  | pldmFruRead
  /-- PLDM_FIRMWARE_UPDATE (R518): Stages a firmware or package image into boot flash and verifies it. -/
  | pldmFirmwareUpdate (pkg : Bool) (ver : Nat) (bytes : List Byte)
  /-- PLDM_FIRMWARE_ACTIVATE (R518): Copies a staged firmware over the first copy and verifies it again. -/
  | pldmFirmwareActivate
  /-- OEM_READ_RGNSTAT (R390): Returns a region's RGNSTAT to the BMC. -/
  | oemReadRgnstat (r : Nat)
  /-- OEM_READ_HEALTH (R390): Returns HEALTH to the BMC. -/
  | oemReadHealth
  /-- BMC_REQUEST_P3 (R391): The BMC requests and holds P3, carried out as a POWER command to P3. -/
  | bmcRequestP3
  /-- BMC_REQUEST_OFF (R392): The BMC requests off; the device stops lagoons, commits, lowers enables and signals off-ready. -/
  | bmcRequestOff
  /-- BMC_RELEASE (R391): The BMC releases its held power request. -/
  | bmcRelease
  /-- EXTEST (R480): TAP EXTEST drives boundary scan in BLANK and RETURNED. -/
  | extest (d : List Bool)
  /-- IDCODE (R480): TAP IDCODE returns the identification code. -/
  | idcode
  /-- SAMPLE_PRELOAD (R480): TAP SAMPLE/PRELOAD samples the boundary scan. -/
  | samplePreload (d : List Bool)
  /-- BYPASS (R480): TAP BYPASS selects the one-bit register. -/
  | bypass
  /-- TOKEN (R479): A debug token shifted in over JTAG is verified and opens a session or moves to BLANK. -/
  | token (bytes : List Byte)
  /-- TOKSTAT (R480): Returns the level granted and the token result. -/
  | tokstat
  /-- DBGSEL (R480): Selects the debug scope for DBGACC. -/
  | dbgsel (scope : Nat)
  /-- DBGACC_STATE (R481): Reads or writes the state of a virtual core. -/
  | dbgaccState (w : BitVec 128)
  /-- DBGACC_CORE_MEMORY (R481): Reads or writes a core memory. -/
  | dbgaccCoreMemory (w : BitVec 128)
  /-- DBGACC_PROGRAM_ADDRESS (R481): Reads or writes a program address in the lagoon's memory. -/
  | dbgaccProgramAddress (w : BitVec 128)
  /-- DBGACC_OBJECT (R481): Reads a READ object. -/
  | dbgaccObject (w : BitVec 128)
  /-- DBGACC_HALT_SEQUENCER (R481): Halts the execute sequencer at a beat boundary. -/
  | dbgaccHaltSequencer (w : BitVec 128)
  /-- DBGACC_STEP_SEQUENCER (R481): Steps the execute sequencer one beat. -/
  | dbgaccStepSequencer (w : BitVec 128)
  /-- DBGACC_RESUME_SEQUENCER (R481): Resumes the execute sequencer. -/
  | dbgaccResumeSequencer (w : BitVec 128)
  /-- DBGACC_HALT_PILOT (R481): Halts the pilot at an instruction. -/
  | dbgaccHaltPilot (w : BitVec 128)
  /-- DBGACC_STEP_PILOT (R481): Steps the pilot one instruction. -/
  | dbgaccStepPilot (w : BitVec 128)
  /-- DBGACC_RESUME_PILOT (R481): Resumes the pilot. -/
  | dbgaccResumePilot (w : BitVec 128)
  /-- PROVISION (R469): Writes the provisioning record in BLANK and moves to PROVISIONED. -/
  | provision (d : BitVec 1408)
  /-- PROVSTAT (R469): Returns the provisioning result. -/
  | provstat
  /-- FWLOAD (R461): A firmware image shifted in over JTAG is verified and run from harbour SRAM. -/
  | fwload (ver : Nat) (bytes : List Byte)
  /-- FWSTAT (R461): Returns the JTAG firmware load status. -/
  | fwstat
  /-- DBGEND (R478): Ends the JTAG-opened session of a scope. -/
  | dbgend (scope : Nat)
  /-- PORST_N_FALL (R511): PORST_N falls and within 10 us every enable lowers and every agent stops. -/
  | porstFall
  /-- PORST_N_RELEASE (R520): PORST_N rises and the device runs its start-up steps to mailbox readiness. -/
  | porstRelease (b : StartUp)
  /-- PGOOD_FAIL (R510): A power-good does not rise in time or falls, faulting lagoons and lowering the enable. -/
  | pgoodFail (g : Nat)
  /-- ERROR_CORRECTED (R487): A check corrects an error, writes it back, counts it and schedules a self-test. -/
  | errorCorrected (e : ErrAt)
  /-- ERROR_UNCORRECTABLE (R488): An uncorrectable error faults the run that met it, marks the word, or resets the device. -/
  | errorUncorrectable (e : ErrAt) (met : Nat)
  /-- TARGETED_SELF_TEST (R490): A scheduled self-test of an erring unit runs and classes the error. -/
  | targetedSelfTest (n : Nat) (pass : Bool)
  /-- SPARE_SUBSTITUTED (R492): A lasting unit is replaced by a spare at the lagoon's program boundary. -/
  | spareSubstituted (n : Nat) (pass : Bool)
  /-- SCRUB (R489): An atom is read, corrected and written back in a maintenance or refresh slot. -/
  | scrub (addr : Nat) (outcome : Nat)
  /-- LOGBOOK_SECOND (R496): A powered second passes and the logbook counters and histograms advance. -/
  | logbookSecond (at_ : SecondAt)
  /-- LOGBOOK_COMMIT (R497): Every 900 s the logbook is written to the other flash slot and its digest stored. -/
  | logbookCommit
  /-- STOP_DONE (R415): Every core of a stopped lagoon has halted at a beat boundary, and STOP is answered before the record is built. -/
  | stopDone (l : Nat)
  /-- LOAD_DONE (R348): The loader finishes writing the lagoon, which becomes LOADED, and LOAD is answered with IMGROOT and MAPDIG. -/
  | loadDone (l : Nat)
  /-- MEMORY_CLEARING_DONE (R474): The zeroing of a lagoon's stacks and channels by RELEASE or CONFIGURE completes, the clean flags are set and the command is answered. -/
  | memoryClearingDone (l : Nat)
  /-- POWER_STATE_ENTERED (R483): A move to or wake between power states completes after its entry or wake time and the POWER command is answered. -/
  | powerStateEntered
  /-- PGOOD_ASSERTED (R509): The board asserts PGOOD_HB, PGOOD_CW or PGOOD_CE after the device raised the matching enable, and start-up or the wake goes on. -/
  | pgoodAsserted (g : Nat)
  /-- AVSBUS_STATUS_TIMEOUT (R508): A regulator returns no valid status within 10 us of a voltage write, so the governor retries, and after two failures the region resumes at its old setpoint. -/
  | avsbusStatusTimeout (r : Nat)
  /-- SUPPLY_FAILURE (R511): A rail of steps 1 and 2 leaves its tolerance without PORST_N warning, losing all volatile state and possibly an MRAM write in progress. -/
  | supplyFailure
  /-- REFERENCE_LOST (R302): The 10 MHz reference chosen at reset disappears or leaves its tolerance while the tide counts from it. -/
  | referenceLost
  /-- PEER_DELAY_REQUEST (R377): A PTP peer-delay request arrives, is timestamped and answered under the peer-to-peer delay mechanism. -/
  | peerDelayRequest (p : NetFrame)
  /-- NEIGHBOUR_ADVERTISEMENT (R367): An ICMPv6 neighbour advertisement arrives and resolves a peer's link-layer address. -/
  | neighbourAdvertisement (p : NetFrame)
  /-- ARP_REPLY (R367): An ARP reply arrives and resolves an IPv4 peer's link-layer address. -/
  | arpReply (p : NetFrame)
  /-- ENDPOINT_ID_ASSIGNMENT (R389): The BMC, as bus owner, assigns the device its MCTP endpoint ID. -/
  | endpointIdAssignment (eid : Nat)
  deriving DecidableEq, Repr

end Sys2Proof
end

