-- ==== Sys2Proof/Machine/Crypto.lean ====
section
/-! DEFINITION. The published algorithms the spec computes with: AES-128 as the generator CBG-4x32-10 (R322 to R324),
SHA-384 with the tree hashes built on it (R328, R329), and CRC-32C (R222). -/

namespace Sys2Proof.Machine

/-! ## AES-128 (FIPS 197), by bytes -/

/-- The FIPS 197 substitution box, entry i in bits [8i + 7 : 8i]. -/
def sboxTable : Nat :=
  0x16BB54B00F2D99416842E6BF0D89A18CDF2855CEE9871E9B948ED9691198F8E19E1DC186B95735610EF6034866B53E708A8BBD4B1F74DDE8C6B4A61C2E2578BA08AE7A65EAF4566CA94ED58D6D37C8E779E4959162ACD3C25C2406490A3A32E0DB0B5EDE14B8EE4688902A22DC4F816073195D643D7EA7C41744975FEC130CCDD2F3FF1021DAB6BCF5389D928F40A351A89F3C507F02F94585334D43FBAAEFD0CF584C4A39BECB6A5BB1FC20ED00D153842FE329B3D63B52A05A6E1B1A2C830975B227EBE28012079A059618C323C7041531D871F1E5A534CCF73F362693FDB7C072A49CAFA2D4ADF04759FA7DC982CA76ABD7FE2B670130C56F6BF27B777C63

def sbox (x : Nat) : Nat := (sboxTable >>> (8 * (x % 256))) % 256

/-- Multiplication by x in GF(2^8). -/
def xtime (a : Nat) : Nat := if a < 128 then 2 * a else (2 * a) % 256 ^^^ 0x1B

/-- One column of MixColumns. -/
def mixColumn : List Nat → List Nat
  | [a, b, c, d] =>
    let t := a ^^^ b ^^^ c ^^^ d
    [a ^^^ t ^^^ xtime (a ^^^ b), b ^^^ t ^^^ xtime (b ^^^ c), c ^^^ t ^^^ xtime (c ^^^ d), d ^^^ t ^^^ xtime (d ^^^ a)]
  | l => l

/-- SubBytes and ShiftRows of sixteen bytes, column by column. -/
def subShift (s : List Nat) : List Nat :=
  [0, 5, 10, 15, 4, 9, 14, 3, 8, 13, 2, 7, 12, 1, 6, 11].map (fun i => sbox (s.getD i 0))

/-- MixColumns of sixteen bytes. -/
def mixColumns (s : List Nat) : List Nat :=
  mixColumn (s.take 4) ++ mixColumn ((s.drop 4).take 4) ++ mixColumn ((s.drop 8).take 4) ++ mixColumn (s.drop 12)

def xorBytes (a b : List Nat) : List Nat := List.zipWith (· ^^^ ·) a b

/-- The next round key. -/
def nextKey (rcon : Nat) (k : List Nat) : List Nat :=
  let t := [sbox (k.getD 13 0) ^^^ rcon, sbox (k.getD 14 0), sbox (k.getD 15 0), sbox (k.getD 12 0)]
  let a := xorBytes (k.take 4) t
  let b := xorBytes ((k.drop 4).take 4) a
  let c := xorBytes ((k.drop 8).take 4) b
  let d := xorBytes (k.drop 12) c
  a ++ b ++ c ++ d

/-- The remaining rounds: nine with MixColumns, the last without. -/
def aesRounds : List Nat → List Nat → List Nat → List Nat
  | [], _, s => s
  | [rc], k, s => xorBytes (subShift s) (nextKey rc k)
  | rc :: rcs, k, s =>
    let k' := nextKey rc k
    aesRounds rcs k' (xorBytes (mixColumns (subShift s)) k')

/-- AES-128 encryption of one block. -/
def aes128 (key block : List Nat) : List Nat :=
  aesRounds [0x01, 0x02, 0x04, 0x08, 0x10, 0x20, 0x40, 0x80, 0x1B, 0x36] key (xorBytes block key)

/-- The four bytes of a word, little-endian. -/
def word4 (x : Nat) : List Nat := [x % 256, x / 256 % 256, x / 65536 % 256, x / 16777216 % 256]

/-- CBG-4x32-10: one output word of the generator (R322, Table 4 of spec/10). -/
def cbgWord (c0 c1 c2 c3 k0 k1 i : Nat) : Nat :=
  let out := aes128 (word4 k0 ++ word4 k1 ++ List.replicate 8 0) (word4 c0 ++ word4 c1 ++ word4 c2 ++ word4 c3)
  let b := (out.drop (4 * i)).take 4
  b.getD 0 0 + 256 * b.getD 1 0 + 65536 * b.getD 2 0 + 16777216 * b.getD 3 0

/-- The draw of element position p: step, stream identity and key of Table 6 of spec/10 (R324). -/
def drawWord (k0 k1 stream step p : Nat) : Nat := cbgWord (p % 2 ^ 32 / 4) step stream 0 k0 k1 (p % 4)

/-! ## SHA-384 (FIPS 180-4) -/

def shaK0 : List Nat := [0x428A2F98D728AE22, 0x7137449123EF65CD,
  0xB5C0FBCFEC4D3B2F, 0xE9B5DBA58189DBBC,
  0x3956C25BF348B538, 0x59F111F1B605D019,
  0x923F82A4AF194F9B, 0xAB1C5ED5DA6D8118,
  0xD807AA98A3030242, 0x12835B0145706FBE]

def shaK1 : List Nat := [0x243185BE4EE4B28C, 0x550C7DC3D5FFB4E2,
  0x72BE5D74F27B896F, 0x80DEB1FE3B1696B1,
  0x9BDC06A725C71235, 0xC19BF174CF692694,
  0xE49B69C19EF14AD2, 0xEFBE4786384F25E3,
  0x0FC19DC68B8CD5B5, 0x240CA1CC77AC9C65]

def shaK2 : List Nat := [0x2DE92C6F592B0275, 0x4A7484AA6EA6E483,
  0x5CB0A9DCBD41FBD4, 0x76F988DA831153B5,
  0x983E5152EE66DFAB, 0xA831C66D2DB43210,
  0xB00327C898FB213F, 0xBF597FC7BEEF0EE4,
  0xC6E00BF33DA88FC2, 0xD5A79147930AA725]

def shaK3 : List Nat := [0x06CA6351E003826F, 0x142929670A0E6E70,
  0x27B70A8546D22FFC, 0x2E1B21385C26C926,
  0x4D2C6DFC5AC42AED, 0x53380D139D95B3DF,
  0x650A73548BAF63DE, 0x766A0ABB3C77B2A8,
  0x81C2C92E47EDAEE6, 0x92722C851482353B]

def shaK4 : List Nat := [0xA2BFE8A14CF10364, 0xA81A664BBC423001,
  0xC24B8B70D0F89791, 0xC76C51A30654BE30,
  0xD192E819D6EF5218, 0xD69906245565A910,
  0xF40E35855771202A, 0x106AA07032BBD1B8,
  0x19A4C116B8D2D0C8, 0x1E376C085141AB53]

def shaK5 : List Nat := [0x2748774CDF8EEB99, 0x34B0BCB5E19B48A8,
  0x391C0CB3C5C95A63, 0x4ED8AA4AE3418ACB,
  0x5B9CCA4F7763E373, 0x682E6FF3D6B2B8A3,
  0x748F82EE5DEFB2FC, 0x78A5636F43172F60,
  0x84C87814A1F0AB72, 0x8CC702081A6439EC]

def shaK6 : List Nat := [0x90BEFFFA23631E28, 0xA4506CEBDE82BDE9,
  0xBEF9A3F7B2C67915, 0xC67178F2E372532B,
  0xCA273ECEEA26619C, 0xD186B8C721C0C207,
  0xEADA7DD6CDE0EB1E, 0xF57D4F7FEE6ED178,
  0x06F067AA72176FBA, 0x0A637DC5A2C898A6]

def shaK7 : List Nat := [0x113F9804BEF90DAE, 0x1B710B35131C471B,
  0x28DB77F523047D84, 0x32CAAB7B40C72493,
  0x3C9EBE0A15C9BEBC, 0x431D67C49C100D4C,
  0x4CC5D4BECB3E42B6, 0x597F299CFC657E2A,
  0x5FCB6FAB3AD6FAEC, 0x6C44198C4A475817]

/-- The eighty round constants. -/
def shaK : List Nat := shaK0 ++ shaK1 ++ shaK2 ++ shaK3 ++ shaK4 ++ shaK5 ++ shaK6 ++ shaK7

/-- The initial hash value of SHA-384. -/
def sha384Init : List Nat := [0xCBBB9D5DC1059ED8, 0x629A292A367CD507,
  0x9159015A3070DD17, 0x152FECD8F70E5939,
  0x67332667FFC00B31, 0x8EB44A8768581511,
  0xDB0C2E0D64F98FA7, 0x47B5481DBEFA4FA4]

def rotr64 (x n : Nat) : Nat := (x >>> n) ||| ((x <<< (64 - n)) % 2 ^ 64)

/-- The message schedule, newest word first, extended by n words. -/
def shaSchedule : Nat → List Nat → List Nat
  | 0, w => w
  | n + 1, w =>
    let a := w.getD 1 0
    let b := w.getD 14 0
    let s1 := rotr64 a 19 ^^^ rotr64 a 61 ^^^ (a >>> 6)
    let s0 := rotr64 b 1 ^^^ rotr64 b 8 ^^^ (b >>> 7)
    shaSchedule n (((s1 + w.getD 6 0 + s0 + w.getD 15 0) % 2 ^ 64) :: w)

/-- One round on the eight working words. -/
def shaRound : List Nat → Nat → List Nat
  | [a, b, c, d, e, f, g, h], kw =>
    let s1 := rotr64 e 14 ^^^ rotr64 e 18 ^^^ rotr64 e 41
    let ch := (e &&& f) ^^^ ((2 ^ 64 - 1 - e) &&& g)
    let t1 := (h + s1 + ch + kw) % 2 ^ 64
    let s0 := rotr64 a 28 ^^^ rotr64 a 34 ^^^ rotr64 a 39
    let mj := (a &&& b) ^^^ (a &&& c) ^^^ (b &&& c)
    [(t1 + s0 + mj) % 2 ^ 64, a, b, c, (d + t1) % 2 ^ 64, e, f, g]
  | l, _ => l

/-- The compression function on one block of sixteen words. -/
def shaBlock (h w : List Nat) : List Nat :=
  let ws := (shaSchedule 64 w.reverse).reverse
  let out := (List.zipWith (fun k x => (k, x)) shaK ws).foldl (fun s p => shaRound s ((p.1 + p.2) % 2 ^ 64)) h
  List.zipWith (fun x y => (x + y) % 2 ^ 64) h out

/-- The big-endian number a byte string spells. -/
def beNat (bs : List Byte) : Nat := bs.foldl (fun a b => 256 * a + b.toNat) 0

/-- Pad a byte string with zeros to n bytes. -/
def padTo (n : Nat) (bs : List Byte) : List Byte := bs.take n ++ List.replicate (n - bs.length) 0

/-- n big-endian bytes of a number. -/
def beBytes (n x : Nat) : List Byte := (toBytes n x).reverse

/-- Compress whole blocks, as many as `fuel` and the bytes allow. -/
def shaBlocks : Nat → List Nat → List Byte → List Nat
  | 0, h, _ => h
  | n + 1, h, bs =>
    let w := (List.range 16).map (fun i => beNat ((bs.drop (8 * i)).take 8))
    shaBlocks n (shaBlock h w) (bs.drop 128)

/-- The padding of FIPS 180-4 for 1,024-bit blocks. -/
def shaPad (len : Nat) : List Byte :=
  0x80 :: List.replicate ((239 - len % 128) % 128) 0 ++ beBytes 16 (8 * len)

/-- SHA-384 of a byte string, as the 48 bytes of the digest in order. -/
def sha384Bytes (bs : List Byte) : List Byte :=
  let m := bs ++ shaPad bs.length
  ((shaBlocks (m.length / 128) sha384Init m).take 6).flatMap (beBytes 8)

/-- SHA-384 as a digest word, its first byte in bits [7:0]. -/
def sha384 (bs : List Byte) : Digest := BitVec.ofNat 384 (ofBytes (sha384Bytes bs))

/-- The bytes of a digest, first byte first (R327). -/
def digestBytes (d : Digest) : List Byte := toBytes 48 d.toNat

/-- HMAC-SHA384 (RFC 2104): HKDF of RFC 5869 extracts and expands with it (R401). -/
def hmac384 (key msg : List Byte) : List Byte :=
  let k := if key.length ≤ 128 then key else sha384Bytes key
  let pad (x : Byte) : List Byte := (k ++ List.replicate (128 - k.length) 0).map (x ^^^ ·)
  sha384Bytes (pad 0x5C ++ sha384Bytes (pad 0x36 ++ msg))

/-! ## Tree hashes (R328, R329) -/

/-- One level: nodes paired from the left, a last unpaired node passes up unchanged. -/
def hashLevel : List Digest → List Digest
  | a :: b :: rest => sha384 (1 :: (digestBytes a ++ digestBytes b)) :: hashLevel rest
  | l => l

/-- Levels until one node is left, at most `fuel`. -/
def hashTree : Nat → List Digest → Digest
  | 0, l => l.headD 0
  | n + 1, l =>
    match l with
    | [] => sha384 [2]
    | [d] => d
    | l => hashTree n (hashLevel l)

/-- Cut a byte string into runs of n bytes. -/
def chunks (n : Nat) : Nat → List Byte → List (List Byte)
  | 0, _ => []
  | fuel + 1, bs => if bs.isEmpty then [] else bs.take n :: chunks n fuel (bs.drop n)

/-- The leaf digest of R221: SHA-384 of 0x00 and the bytes. -/
def leafDigest (bs : List Byte) : Digest := sha384 (0 :: bs)

/-- The root of a byte string over leaves of 1 MiB (R328). -/
def merkleRoot (bs : List Byte) : Digest :=
  let leaves := (chunks (2 ^ 20) (bs.length / 2 ^ 20 + 1) bs).map leafDigest
  hashTree 64 leaves

/-! ## CRC-32C (R222) -/

/-- One bit of the reflected CRC. -/
def crcBit (c : Nat) : Nat := if c % 2 = 1 then (c / 2) ^^^ 0x82F63B78 else c / 2

/-- One byte of the CRC. -/
def crcByte (c : Nat) (b : Byte) : Nat :=
  let x := c ^^^ b.toNat
  crcBit (crcBit (crcBit (crcBit (crcBit (crcBit (crcBit (crcBit x)))))))

/-- CRC-32C: initial value and final exclusive OR 0xFFFF_FFFF (R222). -/
def crc32c (bs : List Byte) : Nat := bs.foldl crcByte 0xFFFFFFFF ^^^ 0xFFFFFFFF

end Sys2Proof.Machine
end

