-- ==== Sys2Proof/Machine/Cipher.lean ====
section
/-! DEFINITION. AES-256 (FIPS 197) in Galois/counter mode (SP 800-38D), which protects the mailbox's frames (R395, R398). -/

namespace Sys2Proof.Machine

/-! ## AES-256 -/

/-- Four bytes of a key schedule, each the exclusive OR of the word before it and the old word in its place. -/
def chainWords (k t : List Nat) : List Nat :=
  let a := xorBytes (k.take 4) t
  let b := xorBytes ((k.drop 4).take 4) a
  let c := xorBytes ((k.drop 8).take 4) b
  a ++ b ++ c ++ xorBytes (k.drop 12) c

/-- The next two round keys of AES-256 after `a` and `b`. -/
def nextKeys (rcon : Nat) (a b : List Nat) : List Nat × List Nat :=
  let a' := chainWords a [sbox (b.getD 13 0) ^^^ rcon, sbox (b.getD 14 0), sbox (b.getD 15 0), sbox (b.getD 12 0)]
  (a', chainWords b ((a'.drop 12).map sbox))

/-- A round with MixColumns. -/
def fullRound (s k : List Nat) : List Nat := xorBytes (mixColumns (subShift s)) k

/-- The remaining rounds, two for each constant; the last is without MixColumns. -/
def aes256Rounds : List Nat → List Nat → List Nat → List Nat → List Nat
  | [], _, _, s => s
  | [rc], a, b, s => xorBytes (subShift (fullRound s b)) (nextKeys rc a b).1
  | rc :: rcs, a, b, s =>
    let p := nextKeys rc a b
    aes256Rounds rcs p.1 p.2 (fullRound (fullRound s b) p.1)

/-- AES-256 encryption of one block of sixteen bytes. -/
def aes256 (key : List Byte) (block : List Byte) : List Byte :=
  let k := key.map (·.toNat)
  let out := aes256Rounds [0x01, 0x02, 0x04, 0x08, 0x10, 0x20, 0x40] (k.take 16) (k.drop 16) (xorBytes (block.map (·.toNat)) (k.take 16))
  (List.range 16).map (fun i => BitVec.ofNat 8 (out.getD i 0))

/-! ## GCM -/

/-- The product in GF(2^128), bit 0 of a block being its most significant. -/
def ghashMul : Nat → Nat → Nat → Nat → Nat
  | 0, _, _, z => z
  | n + 1, x, v, z =>
    ghashMul n x (if v % 2 = 1 then (v / 2) ^^^ (0xE1 * 2 ^ 120) else v / 2) (if x.testBit n then z ^^^ v else z)

/-- GHASH of blocks under hash key h. -/
def ghash (h : Nat) (blocks : List (List Byte)) : Nat := blocks.foldl (fun y b => ghashMul 128 (y ^^^ beNat b) h 0) 0

/-- A byte string filled up with zeros to whole blocks, as blocks. -/
def gcmBlocks (bs : List Byte) : List (List Byte) :=
  (chunks 16 (bs.length / 16 + 1) bs).map (fun b => b ++ List.replicate (16 - b.length) 0)

/-- Counter block i of a 12-byte IV; block 1 encrypts the tag. -/
def gcmCounter (iv : List Byte) (i : Nat) : List Byte := iv ++ beBytes 4 i

/-- The first n bytes of the key stream and a few more. -/
def gcmStream (key iv : List Byte) (n : Nat) : List Byte :=
  (List.range (n / 16 + 1)).flatMap (fun i => aes256 key (gcmCounter iv (i + 2)))

/-- Encryption and decryption alike: the exclusive OR with the key stream. -/
def gcmXor (key iv bs : List Byte) : List Byte := List.zipWith (· ^^^ ·) bs (gcmStream key iv bs.length)

/-- The 16-byte tag of a ciphertext and its additional authenticated data. -/
def gcmTag (key iv aad cipher : List Byte) : List Byte :=
  let h := beNat (aes256 key (List.replicate 16 0))
  let y := ghash h (gcmBlocks aad ++ gcmBlocks cipher ++ [beBytes 8 (8 * aad.length) ++ beBytes 8 (8 * cipher.length)])
  List.zipWith (· ^^^ ·) (beBytes 16 y) (aes256 key (gcmCounter iv 1))

/-- AES-256-GCM authenticated decryption: nothing where the tag differs. -/
def gcmOpen (key iv aad cipher tag : List Byte) : Option (List Byte) :=
  if gcmTag key iv aad cipher = tag then some (gcmXor key iv cipher) else none

end Sys2Proof.Machine
end

