-- ==== Sys2Proof/Machine/Curve.lean ====
section
/-! DEFINITION. The curve P-384 (FIPS 186-5, SP 800-186): points in SEC1 encoding, ECDH, and ECDSA with SHA-384 and the nonces of
RFC 6979 (R397, R400, R401, R458). -/

namespace Sys2Proof.Machine

/-! ## The field and the group -/

/-- The field's prime. -/
def p384 : Nat := 2 ^ 384 - 2 ^ 128 - 2 ^ 96 + 2 ^ 32 - 1

/-- The order of the base point. -/
def n384 : Nat := 0xFFFFFFFFFFFFFFFFFFFFFFFFFFFFFFFFFFFFFFFFFFFFFFFFC7634D81F4372DDF581A0DB248B0A77AECEC196ACCC52973

/-- The coefficient b of y² = x³ − 3x + b. -/
def b384 : Nat := 0xB3312FA7E23EE7E4988E056BE3F82D19181D9C6EFE8141120314088F5013875AC656398D8A2ED19D2A85C8EDD3EC2AEF

/-- A point: none is the point at infinity. -/
abbrev EcPoint := Option (Nat × Nat)

/-- The base point. -/
def g384 : EcPoint :=
  some (0xAA87CA22BE8B05378EB1C71EF320AD746E1D3B628BA79B9859F741E082542A385502F25DBF55296C3A545E3872760AB7,
    0x3617DE4A96262C6F5D9E98BF9292DC29F8F41DBD289A147CE9DA3113B5F0B8C00A60B1CE1D7E819D7A431D7C90EA0E5F)

/-- x to the power whose low n bits are those of e, modulo m. -/
def powMod (m x e : Nat) : Nat → Nat
  | 0 => 1
  | n + 1 =>
    let h := powMod m x (e / 2) n
    if e % 2 = 1 then h * h % m * x % m else h * h % m

/-- The inverse modulo a prime of 384 bits (Fermat). -/
def invMod (m x : Nat) : Nat := powMod m (x % m) (m - 2) 384

/-- Subtraction in the field. -/
def subMod (x y : Nat) : Nat := (x + p384 - y % p384) % p384

/-- The sum of two points. -/
def ecAdd : EcPoint → EcPoint → EcPoint
  | none, q => q
  | p, none => p
  | some (x1, y1), some (x2, y2) =>
    if x1 = x2 ∧ (y1 + y2) % p384 = 0 then none
    else
      let l := if x1 = x2 then (3 * x1 * x1 + p384 - 3) * invMod p384 (2 * y1) % p384
        else subMod y2 y1 * invMod p384 (subMod x2 x1) % p384
      let x3 := subMod (l * l) (x1 + x2)
      some (x3, subMod (l * subMod x1 x3) y1)

/-- The multiple of a point whose factor has n bits. -/
def ecMulBits (q : EcPoint) (k : Nat) : Nat → EcPoint
  | 0 => none
  | n + 1 =>
    let h := ecMulBits q (k / 2) n
    let d := ecAdd h h
    if k % 2 = 1 then ecAdd d q else d

/-- The multiple k·q, of k below 2^384. -/
def ecMul (k : Nat) (q : EcPoint) : EcPoint := ecMulBits q k 384

/-- Whether a pair of coordinates lies on the curve. -/
def onCurve (x y : Nat) : Bool :=
  decide (x < p384) && decide (y < p384) && y * y % p384 == (x * x * x + (p384 - 3) * x + b384) % p384

/-- The point that a 97-byte SEC1 uncompressed encoding gives, if it is a valid one (R397, R469). -/
def ecPoint (key : List Byte) : EcPoint :=
  let x := beNat ((key.drop 1).take 48)
  let y := beNat (key.drop 49)
  if key.length = 97 ∧ key.headD 0 = 4 ∧ onCurve x y = true then some (x, y) else none

/-- Whether a key is a valid P-384 point (R469). -/
def validPoint (key : List Byte) : Bool := (ecPoint key).isSome

/-- The SEC1 uncompressed encoding of a point. -/
def sec1 : EcPoint → List Byte
  | some (x, y) => 4 :: (beBytes 48 x ++ beBytes 48 y)
  | none => [0]

/-- A scalar from 1 to n − 1, as a drawn number gives it (DESIGN CHOICE 96). -/
def scalarOf (x : Nat) : Nat := 1 + x % (n384 - 1)

/-! ## ECDSA -/

/-- A digest as the number that ECDSA signs; SHA-384 has as many bits as the order. -/
def digestNum (d : List Byte) : Nat := beNat (d.take 48)

/-- Whether r then s, 48 bytes each, sign a digest under a public key (FIPS 186-5). -/
def ecdsaCheck (key digest sig : List Byte) : Bool :=
  let r := beNat (sig.take 48)
  let s := beNat (sig.drop 48)
  let w := invMod n384 s
  match ecPoint key with
  | none => false
  | some q =>
    if sig.length ≠ 96 ∨ r = 0 ∨ n384 ≤ r ∨ s = 0 ∨ n384 ≤ s then false
    else match ecAdd (ecMul (digestNum digest * w % n384) g384) (ecMul (r * w % n384) (some q)) with
      | some (x, _) => x % n384 == r
      | none => false

/-- Whether a signature of a message, taken with SHA-384, verifies. -/
def ecdsaVerify (key msg sig : List Byte) : Bool := ecdsaCheck key (sha384Bytes msg) sig

/-- r and s of a digest under a private key and a nonce, where neither is 0. -/
def ecdsaWith (d k : Nat) (digest : List Byte) : Option (List Byte) :=
  match ecMul k g384 with
  | none => none
  | some (x, _) =>
    let r := x % n384
    let s := invMod n384 k * (digestNum digest + r * d) % n384
    if k = 0 ∨ n384 ≤ k ∨ r = 0 ∨ s = 0 then none else some (beBytes 48 r ++ beBytes 48 s)

/-- The candidates of RFC 6979, section 3.2 step h, until one gives a signature; K and V are its generator's state. -/
def ecdsaTry (d : Nat) (digest : List Byte) : Nat → List Byte → List Byte → List Byte
  | 0, _, _ => []
  | n + 1, k, v =>
    let v1 := hmac384 k v
    match ecdsaWith d (beNat v1) digest with
    | some sig => sig
    | none =>
      let k2 := hmac384 k (v1 ++ [0])
      ecdsaTry d digest n k2 (hmac384 k2 v1)

/-- The ECDSA signature of a message with SHA-384 under a private key, with the nonce of RFC 6979. A candidate fails with a probability
below 2^-189, and 64 are tried. -/
def ecdsaSign (d : Nat) (msg : List Byte) : List Byte :=
  let h := sha384Bytes msg
  let seed := beBytes 48 d ++ beBytes 48 (digestNum h % n384)
  let v0 : List Byte := List.replicate 48 1
  let k1 := hmac384 (List.replicate 48 0) (v0 ++ [0] ++ seed)
  let v1 := hmac384 k1 v0
  let k2 := hmac384 k1 (v1 ++ [1] ++ seed)
  ecdsaTry d h 64 k2 (hmac384 k2 v1)

/-- The 48-byte x-coordinate of the ECDH product of a private scalar and a public key; nothing for a key that is not a valid point
(R401). -/
def ecdhX (d : Nat) (key : List Byte) : Option (List Byte) :=
  match ecPoint key with
  | none => none
  | some q => (ecMul d (some q)).map (fun p => beBytes 48 p.1)

end Sys2Proof.Machine
end

