-- ==== Sys2Proof/Machine/Hss.lean ====
section
/-! DEFINITION. SHA-256 (FIPS 180-4) and the verification of HSS/LMS signatures (RFC 8554), with its SHA-256 parameter sets of 32 bytes
(R458, R530). -/

namespace Sys2Proof.Machine

/-! ## SHA-256 -/

def sha256K0 : List Nat := [0x428A2F98, 0x71374491, 0xB5C0FBCF, 0xE9B5DBA5, 0x3956C25B, 0x59F111F1, 0x923F82A4, 0xAB1C5ED5,
  0xD807AA98, 0x12835B01, 0x243185BE, 0x550C7DC3, 0x72BE5D74, 0x80DEB1FE, 0x9BDC06A7, 0xC19BF174]

def sha256K1 : List Nat := [0xE49B69C1, 0xEFBE4786, 0x0FC19DC6, 0x240CA1CC, 0x2DE92C6F, 0x4A7484AA, 0x5CB0A9DC, 0x76F988DA,
  0x983E5152, 0xA831C66D, 0xB00327C8, 0xBF597FC7, 0xC6E00BF3, 0xD5A79147, 0x06CA6351, 0x14292967]

def sha256K2 : List Nat := [0x27B70A85, 0x2E1B2138, 0x4D2C6DFC, 0x53380D13, 0x650A7354, 0x766A0ABB, 0x81C2C92E, 0x92722C85,
  0xA2BFE8A1, 0xA81A664B, 0xC24B8B70, 0xC76C51A3, 0xD192E819, 0xD6990624, 0xF40E3585, 0x106AA070]

def sha256K3 : List Nat := [0x19A4C116, 0x1E376C08, 0x2748774C, 0x34B0BCB5, 0x391C0CB3, 0x4ED8AA4A, 0x5B9CCA4F, 0x682E6FF3,
  0x748F82EE, 0x78A5636F, 0x84C87814, 0x8CC70208, 0x90BEFFFA, 0xA4506CEB, 0xBEF9A3F7, 0xC67178F2]

/-- The sixty-four round constants. -/
def sha256K : List Nat := sha256K0 ++ sha256K1 ++ sha256K2 ++ sha256K3

/-- The initial hash value. -/
def sha256Init : List Nat := [0x6A09E667, 0xBB67AE85, 0x3C6EF372, 0xA54FF53A, 0x510E527F, 0x9B05688C, 0x1F83D9AB, 0x5BE0CD19]

def rotr32 (x n : Nat) : Nat := (x >>> n) ||| ((x <<< (32 - n)) % 2 ^ 32)

/-- The message schedule, newest word first, extended by n words. -/
def sha256Schedule : Nat → List Nat → List Nat
  | 0, w => w
  | n + 1, w =>
    let a := w.getD 1 0
    let b := w.getD 14 0
    let s1 := rotr32 a 17 ^^^ rotr32 a 19 ^^^ (a >>> 10)
    let s0 := rotr32 b 7 ^^^ rotr32 b 18 ^^^ (b >>> 3)
    sha256Schedule n (((s1 + w.getD 6 0 + s0 + w.getD 15 0) % 2 ^ 32) :: w)

/-- One round on the eight working words. -/
def sha256Round : List Nat → Nat → List Nat
  | [a, b, c, d, e, f, g, h], kw =>
    let s1 := rotr32 e 6 ^^^ rotr32 e 11 ^^^ rotr32 e 25
    let ch := (e &&& f) ^^^ ((2 ^ 32 - 1 - e) &&& g)
    let t1 := (h + s1 + ch + kw) % 2 ^ 32
    let s0 := rotr32 a 2 ^^^ rotr32 a 13 ^^^ rotr32 a 22
    let mj := (a &&& b) ^^^ (a &&& c) ^^^ (b &&& c)
    [(t1 + s0 + mj) % 2 ^ 32, a, b, c, (d + t1) % 2 ^ 32, e, f, g]
  | l, _ => l

/-- The compression function on one block of sixteen words. -/
def sha256Block (h w : List Nat) : List Nat :=
  let ws := (sha256Schedule 48 w.reverse).reverse
  let out := (List.zipWith (fun k x => (k, x)) sha256K ws).foldl (fun s p => sha256Round s ((p.1 + p.2) % 2 ^ 32)) h
  List.zipWith (fun x y => (x + y) % 2 ^ 32) h out

/-- Compress n whole blocks. -/
def sha256Blocks : Nat → List Nat → List Byte → List Nat
  | 0, h, _ => h
  | n + 1, h, bs =>
    sha256Blocks n (sha256Block h ((List.range 16).map (fun i => beNat ((bs.drop (4 * i)).take 4)))) (bs.drop 64)

/-- SHA-256 of a byte string. -/
def sha256 (bs : List Byte) : List Byte :=
  let m := bs ++ 0x80 :: List.replicate ((119 - bs.length % 64) % 64) 0 ++ beBytes 8 (8 * bs.length)
  (sha256Blocks (m.length / 64) sha256Init m).flatMap (beBytes 4)

/-! ## LM-OTS (RFC 8554, section 4) -/

/-- Bytes [off + n − 1 : off] of a byte string, and the big-endian number that they spell. -/
def part (bs : List Byte) (off n : Nat) : List Byte := (bs.drop off).take n
def beAt (bs : List Byte) (off n : Nat) : Nat := beNat (part bs off n)

/-- w, p and ls of a typecode, LMOTS_SHA256_N32_W1 to W8. -/
def otsParams : Nat → Option (Nat × Nat × Nat)
  | 1 => some (1, 265, 7)
  | 2 => some (2, 133, 6)
  | 3 => some (4, 67, 4)
  | 4 => some (8, 34, 0)
  | _ => none

/-- Element i of a byte string read as elements of w bits. -/
def otsCoef (bs : List Byte) (i w : Nat) : Nat :=
  ((bs.getD (i * w / 8) 0).toNat >>> (8 - (w * (i % (8 / w)) + w))) % 2 ^ w

/-- The checksum of a hash. -/
def otsChecksum (q : List Byte) (w ls : Nat) : Nat :=
  ((List.range (256 / w)).foldl (fun a i => a + (2 ^ w - 1 - otsCoef q i w)) 0 <<< ls) % 2 ^ 16

/-- n more steps of a chain from step j on. -/
def otsChain (pre : List Byte) : Nat → Nat → List Byte → List Byte
  | 0, _, t => t
  | n + 1, j, t => otsChain pre n (j + 1) (sha256 (pre ++ beBytes 1 j ++ t))

/-- The public key that an LM-OTS signature of a message gives for leaf q of tree `id` (algorithm 4b). -/
def otsKey (id : List Byte) (q : Nat) (msg sig : List Byte) : Option (List Byte) :=
  match otsParams (beAt sig 0 4) with
  | none => none
  | some (w, p, ls) =>
    let h := sha256 (id ++ beBytes 4 q ++ beBytes 2 0x8181 ++ part sig 4 32 ++ msg)
    let e := h ++ beBytes 2 (otsChecksum h w ls)
    let z (i : Nat) : List Byte :=
      let a := otsCoef e i w
      otsChain (id ++ beBytes 4 q ++ beBytes 2 i) (2 ^ w - 1 - a) a (part sig (36 + 32 * i) 32)
    some (sha256 (id ++ beBytes 4 q ++ beBytes 2 0x8080 ++ (List.range p).flatMap z))

/-! ## LMS (section 5) -/

/-- The height of a typecode, LMS_SHA256_M32_H5 to H25. -/
def lmsHeight : Nat → Option Nat
  | 5 => some 5
  | 6 => some 10
  | 7 => some 15
  | 8 => some 20
  | 9 => some 25
  | _ => none

/-- The root above a node, by the path from the leaf up. -/
def lmsRoot (id : List Byte) : Nat → List Byte → List (List Byte) → List Byte
  | _, t, [] => t
  | node, t, p :: ps =>
    let pre := id ++ beBytes 4 (node / 2) ++ beBytes 2 0x8383
    lmsRoot id (node / 2) (sha256 (if node % 2 = 1 then pre ++ p ++ t else pre ++ t ++ p)) ps

/-- Bytes of an LMS signature that begins a byte string; nothing where a typecode is none of the above. -/
def lmsSigLen (bs : List Byte) : Option Nat :=
  match otsParams (beAt bs 4 4) with
  | none => none
  | some (_, p, _) => (lmsHeight (beAt bs (40 + 32 * p) 4)).map (fun h => 44 + 32 * (p + h))

/-- Whether an LMS signature of a message verifies under a 56-byte public key (algorithm 6a). -/
def lmsVerify (key msg sig : List Byte) : Bool :=
  let id := part key 8 16
  let q := beAt sig 0 4
  match otsParams (beAt sig 4 4), lmsHeight (beAt key 0 4) with
  | some (_, p, _), some h =>
    let ots := part sig 4 (36 + 32 * p)
    beAt key 4 4 == beAt sig 4 4 && beAt sig (40 + 32 * p) 4 == beAt key 0 4 && sig.length == 44 + 32 * (p + h) && decide (q < 2 ^ h) &&
      key.length == 56 &&
      match otsKey id q msg ots with
      | none => false
      | some k =>
        let leaf := sha256 (id ++ beBytes 4 (2 ^ h + q) ++ beBytes 2 0x8282 ++ k)
        lmsRoot id (2 ^ h + q) leaf ((List.range h).map (fun i => part sig (44 + 32 * (p + i)) 32)) == part key 24 32
  | _, _ => false

/-! ## HSS (section 6) -/

/-- Whether n signed public keys and then the signature of the message verify, from the key of the top tree on (algorithm 6). -/
def hssLevels : Nat → List Byte → List Byte → List Byte → Bool
  | 0, key, msg, sig => lmsVerify key msg sig
  | n + 1, key, msg, sig =>
    match lmsSigLen sig with
    | none => false
    | some len =>
      let next := part sig len 56
      lmsVerify key next (sig.take len) && hssLevels n next msg (sig.drop (len + 56))

/-- Whether an HSS signature of a message verifies under a 60-byte public key of one to eight levels. -/
def hssVerify (key msg sig : List Byte) : Bool :=
  let l := beAt key 0 4
  decide (1 ≤ l) && decide (l ≤ 8) && beAt sig 0 4 + 1 == l && key.length == 60 && hssLevels (l - 1) (key.drop 4) msg (sig.drop 4)

end Sys2Proof.Machine
end

