-- ==== Sys2Proof/Config.lean ====
section
/-! DEFINITION. Free values: what the spec leaves open or what its text never gives, as constants without a body
(DESIGN CHOICE 8, 9, 12). No proof can see a value of any of them. -/

namespace Sys2Proof.Config

/-- The R_Key of the n-th registration (R373: the value is not specified). -/
opaque rkey : Nat → Nat

/-- What the device's ephemeral private scalar of the n-th handshake is drawn from, and its nonce (R400; DESIGN CHOICE 96). -/
opaque ephemeral : Nat → Nat
opaque dnonce : Nat → List Byte

/-- The shared secret of the n-th handshake where the host's public key is no valid point, of which R401 states no product
(DESIGN CHOICE 96). -/
opaque noProduct : Nat → List Byte → List Byte

/-- The HSS/LMS signature of a byte string under DIK-L with one leaf; the spec gives neither the derivation of the tree's secrets nor the
randomisers (R458, R463; DESIGN CHOICE 96). -/
opaque lmsSign : Nat → List Byte → List Byte

/-- The device secret that the keeper rebuilds from the PUF response and the helper data (R455; DESIGN CHOICE 96). -/
opaque deviceSecret : List Byte → BitVec 256

/-- The fixed input data of the key derivation for key n of Table 2 of spec/15, which names SP 800-108 and no label (R455). -/
opaque kdfInput : Nat → List Byte

/-- The DER of entry n of the certificate chain (R459; DESIGN CHOICE 96). -/
opaque cert : Nat → List Byte

/-- SHA-384 of FWK-E (0) and FWK-L (1), in boot ROM (R458; DESIGN CHOICE 96). -/
opaque fwkDigest : Nat → BitVec 384

/-- DBK-E and DBK-L, which Mehrairus publishes and whose digests the boot ROM holds (R458, R530; DESIGN CHOICE 96). -/
opaque dbkE : Nat → List Byte
opaque dbkL : Nat → List Byte

/-- The I3C provisional ID but for SLOT_ID, and where in it SLOT_ID stands (R389 gives neither; DESIGN CHOICE 99). -/
opaque i3cId : Nat → Nat
opaque i3cSlotAt : Nat → Nat

/-- The set of a channel's shoal lines that a granule belongs to (R228 gives sets of 16 ways and no index; DESIGN CHOICE 12). -/
opaque shoalSet : Nat → Nat

/-- Periods left in a region's guard window at a launch (R354; the pacers' phase is wall time). -/
opaque windowLeft : Nat → Nat

/-- The pacer trim that start-up self-test finds for a region (R281, R286). -/
opaque ptrim : Nat → Nat

/-- FERRYCFG of a virtual core of an image that carries the firmware signature (R234 names no section that holds it; DESIGN CHOICE 53). -/
opaque ferryCfg : Nat → List Byte → BitVec 32

/-- The send rate to which a congestion notification lowers a queue pair (R371 gives no figure). -/
opaque cnpRate : Nat → Nat

/-- The 16 bytes of READ object 0x0E, of which Table 9 of spec/13 names the content (state, PSNs, retries) and no layout. -/
opaque qpLayout : Nat → Nat → Nat → Nat → BitVec 128

/-- Which of a die's twelve pairs of adjacent regions boundary n joins, 12 for each die (R287 and R291 give the boundaries no
numbering; DESIGN CHOICE 40). -/
opaque boundaryPlace : Nat → Nat

/-- The Mehrairus JEP106 code in IDCODE (R480 names it and gives no value). -/
opaque jep106 : Nat → Nat

/-- The boundary scan cells that SAMPLE/PRELOAD captures, and how many there are (R480 gives no boundary scan chain). -/
opaque boundaryScan : Nat → List Bool

/-- The answers of PLDM types 0 and 4, whose encodings DSP0240 and DSP0257 give and the spec does not (R390). -/
opaque pldmBase : Nat → List (BitVec 8)

/-- Whether the lasting error of an HBM atom at a PLOC and WORD is one of a row (false) or of a column (true), which R492 replaces by
spares of their own and the spec does not tell apart (DESIGN CHOICE 110). -/
opaque hbmColumn : Nat → Nat → Bool

/-- The physical bank of a device address, which SUBIDX of a memory error gives and R180 and R181 do not decode (DESIGN CHOICE 110). -/
opaque memoryBank : Nat → Nat

/-- What HBM training finds on the n-th wake from P3 (R523): lanes that fail, as (stack, channel), and stacks with a channel that cannot
train (DESIGN CHOICE 100). -/
opaque wakeLanes : Nat → List (Nat × Nat)
opaque wakeFails : Nat → List Nat

/-- UNIT of form M for a physical core that fails as a whole, which Table 6 of spec/16 does not code. -/
opaque coreUnit : Nat → Nat

/-- TOPEN and TCLOSE of the gap notice of a lost batch (R335 and Table 10 of spec/10 state neither). -/
opaque gapTide : Nat → Nat

/-- What the device takes where the MRAM item of the lifecycle state and the wipe-pending flag is absent (R456 states no
state for that): the state, and the flag in bit 2. -/
opaque absentLife : Nat → Nat

end Sys2Proof.Config
end

