-- ==== Sys2Proof/Machine/PilotDecode.lean ====
section
/-! DEFINITION. The pilot's instruction forms: RV32C expanded to the 32-bit forms it abbreviates, and the immediates
and fields of RV32I, M, F and Zicsr (R160; RISC-V unprivileged ISA 20191213). -/

namespace Sys2Proof.Machine

/-! ## Building 32-bit forms -/

def encR (f7 rs2 rs1 f3 rd op : Nat) : Nat := f7 * 2 ^ 25 + rs2 * 2 ^ 20 + rs1 * 2 ^ 15 + f3 * 2 ^ 12 + rd * 2 ^ 7 + op
def encI (imm rs1 f3 rd op : Nat) : Nat := (imm % 4096) * 2 ^ 20 + rs1 * 2 ^ 15 + f3 * 2 ^ 12 + rd * 2 ^ 7 + op
def encS (imm rs2 rs1 f3 op : Nat) : Nat :=
  bits imm 5 7 * 2 ^ 25 + rs2 * 2 ^ 20 + rs1 * 2 ^ 15 + f3 * 2 ^ 12 + bits imm 0 5 * 2 ^ 7 + op
def encB (imm rs2 rs1 f3 : Nat) : Nat :=
  bits imm 12 1 * 2 ^ 31 + bits imm 5 6 * 2 ^ 25 + rs2 * 2 ^ 20 + rs1 * 2 ^ 15 + f3 * 2 ^ 12 + bits imm 1 4 * 2 ^ 8 +
    bits imm 11 1 * 2 ^ 7 + 0x63
def encU (imm20 rd op : Nat) : Nat := (imm20 % 2 ^ 20) * 2 ^ 12 + rd * 2 ^ 7 + op
def encJ (imm rd : Nat) : Nat :=
  bits imm 20 1 * 2 ^ 31 + bits imm 1 10 * 2 ^ 21 + bits imm 11 1 * 2 ^ 20 + bits imm 12 8 * 2 ^ 12 + rd * 2 ^ 7 + 0x6F

/-! ## Expansion of RV32FC (quadrants 0 to 2) -/

/-- Concatenate (value bit source, target bit) pairs of a compressed immediate. -/
def gatherBits (w : Nat) (ps : List (Nat × Nat)) : Nat := (ps.map (fun p => bits w p.1 1 * 2 ^ p.2)).sum

/-- The 32-bit form a 16-bit instruction abbreviates, or none for a form RV32FC does not define. -/
def expandC (w : Nat) : Option Nat :=
  let f3 := bits w 13 3
  let rd := bits w 7 5
  let rs2 := bits w 2 5
  let rdp := 8 + bits w 2 3
  let rs1p := 8 + bits w 7 3
  let immCI := wrapInt 12 (sext 6 (bits w 12 1 * 32 + bits w 2 5))
  let immW := gatherBits w [(12, 5), (11, 4), (10, 3), (6, 2), (5, 6)]
  let immJ := wrapInt 21 (sext 12 (gatherBits w [(12, 11), (11, 4), (10, 9), (9, 8), (8, 10), (7, 6), (6, 7), (5, 3), (4, 2), (3, 1), (2, 5)]))
  let immB := wrapInt 13 (sext 9 (gatherBits w [(12, 8), (11, 4), (10, 3), (6, 7), (5, 6), (4, 2), (3, 1), (2, 5)]))
  match w % 4, f3 with
  | 0, 0 =>
    let imm := gatherBits w [(12, 5), (11, 4), (10, 9), (9, 8), (8, 7), (7, 6), (6, 2), (5, 3)]
    if imm = 0 then none else some (encI imm 2 0 rdp 0x13)
  | 0, 2 => some (encI immW rs1p 2 rdp 0x03)
  | 0, 3 => some (encI immW rs1p 2 rdp 0x07)
  | 0, 6 => some (encS immW rdp rs1p 2 0x23)
  | 0, 7 => some (encS immW rdp rs1p 2 0x27)
  | 1, 0 => some (encI immCI rd 0 rd 0x13)
  | 1, 1 => some (encJ immJ 1)
  | 1, 2 => some (encI immCI 0 0 rd 0x13)
  | 1, 3 =>
    if rd = 2 then
      let imm := wrapInt 12 (sext 10 (gatherBits w [(12, 9), (6, 4), (5, 6), (4, 8), (3, 7), (2, 5)]))
      if imm = 0 then none else some (encI imm 2 0 2 0x13)
    else
      let imm := wrapInt 20 (sext 6 (bits w 12 1 * 32 + bits w 2 5))
      if imm = 0 then none else some (encU imm rd 0x37)
  | 1, 4 =>
    let sh := bits w 12 1 * 32 + bits w 2 5
    match bits w 10 2 with
    | 0 => if bit w 12 then none else some (encR 0 sh rs1p 5 rs1p 0x13)
    | 1 => if bit w 12 then none else some (encR 0x20 sh rs1p 5 rs1p 0x13)
    | 2 => some (encI immCI rs1p 7 rs1p 0x13)
    | _ =>
      if bit w 12 then none
      else match bits w 5 2 with
        | 0 => some (encR 0x20 rdp rs1p 0 rs1p 0x33)
        | 1 => some (encR 0 rdp rs1p 4 rs1p 0x33)
        | 2 => some (encR 0 rdp rs1p 6 rs1p 0x33)
        | _ => some (encR 0 rdp rs1p 7 rs1p 0x33)
  | 1, 5 => some (encJ immJ 0)
  | 1, 6 => some (encB immB 0 rs1p 0)
  | 1, 7 => some (encB immB 0 rs1p 1)
  | 2, 0 => if bit w 12 then none else some (encR 0 rs2 rd 1 rd 0x13)
  | 2, 2 =>
    if rd = 0 then none
    else some (encI (gatherBits w [(12, 5), (6, 4), (5, 3), (4, 2), (3, 7), (2, 6)]) 2 2 rd 0x03)
  | 2, 3 => some (encI (gatherBits w [(12, 5), (6, 4), (5, 3), (4, 2), (3, 7), (2, 6)]) 2 2 rd 0x07)
  | 2, 4 =>
    if !bit w 12 then
      if rs2 = 0 then (if rd = 0 then none else some (encI 0 rd 0 0 0x67))
      else some (encR 0 rs2 0 0 rd 0x33)
    else if rs2 = 0 then (if rd = 0 then some 0x00100073 else some (encI 0 rd 0 1 0x67))
    else some (encR 0 rs2 rd 0 rd 0x33)
  | 2, 6 => some (encS (gatherBits w [(12, 5), (11, 4), (10, 3), (9, 2), (8, 7), (7, 6)]) rs2 2 2 0x23)
  | 2, 7 => some (encS (gatherBits w [(12, 5), (11, 4), (10, 3), (9, 2), (8, 7), (7, 6)]) rs2 2 2 0x27)
  | _, _ => none

/-! ## Fields of a 32-bit form -/

def iOp (w : Nat) : Nat := bits w 0 7
def iRd (w : Nat) : Nat := bits w 7 5
def iF3 (w : Nat) : Nat := bits w 12 3
def iRs1 (w : Nat) : Nat := bits w 15 5
def iRs2 (w : Nat) : Nat := bits w 20 5
def iRs3 (w : Nat) : Nat := bits w 27 5
def iF7 (w : Nat) : Nat := bits w 25 7
def immI (w : Nat) : Int := sext 12 (bits w 20 12)
def immS (w : Nat) : Int := sext 12 (bits w 25 7 * 32 + bits w 7 5)
def immB (w : Nat) : Int := sext 13 (bits w 31 1 * 4096 + bits w 7 1 * 2048 + bits w 25 6 * 32 + bits w 8 4 * 2)
def immU (w : Nat) : Nat := bits w 12 20 * 4096
def immJ (w : Nat) : Int :=
  sext 21 (bits w 31 1 * 2 ^ 20 + bits w 12 8 * 4096 + bits w 20 1 * 2048 + bits w 21 10 * 2)

end Sys2Proof.Machine
end

