-- ==== Sys2Proof/Machine/Number.lean ====
section
/-! DEFINITION. Number formats, exact values, the one rounding and the conversions of spec/02 (R50 to R81). -/

namespace Sys2Proof.Machine

/-- The format tags of Table 1 of spec/02 (R51). -/
inductive Fmt where
  | fp64 | fp32 | bf16 | fp16 | e4m3 | e5m2 | e2m1 | mxE4M3 | mxE5M2 | mxE2M1
  | int32 | int16 | int8 | int4 | e8m0 | raw
  deriving DecidableEq, Repr

/-- The format that a 4-bit tag names (R51). -/
def Fmt.ofTag (t : Nat) : Fmt :=
  match t % 16 with
  | 0 => .fp64 | 1 => .fp32 | 2 => .bf16 | 3 => .fp16 | 4 => .e4m3 | 5 => .e5m2 | 6 => .e2m1
  | 7 => .mxE4M3 | 8 => .mxE5M2 | 9 => .mxE2M1 | 10 => .int32 | 11 => .int16 | 12 => .int8
  | 13 => .int4 | 14 => .e8m0 | _ => .raw

/-- The tag of a format (R51). -/
def Fmt.tag : Fmt → Nat
  | .fp64 => 0 | .fp32 => 1 | .bf16 => 2 | .fp16 => 3 | .e4m3 => 4 | .e5m2 => 5 | .e2m1 => 6
  | .mxE4M3 => 7 | .mxE5M2 => 8 | .mxE2M1 => 9 | .int32 => 10 | .int16 => 11 | .int8 => 12
  | .int4 => 13 | .e8m0 => 14 | .raw => 15

/-- The width of one element in bits (Table 1 of spec/02); untyped data is moved by the byte. -/
def Fmt.width : Fmt → Nat
  | .fp64 => 64 | .fp32 => 32 | .bf16 => 16 | .fp16 => 16 | .e4m3 => 8 | .e5m2 => 8 | .e2m1 => 4
  | .mxE4M3 => 8 | .mxE5M2 => 8 | .mxE2M1 => 4 | .int32 => 32 | .int16 => 16 | .int8 => 8
  | .int4 => 4 | .e8m0 => 8 | .raw => 8

/-- Tags 0x7 to 0x9: formats whose blocks carry scales (R57). -/
def Fmt.isMx : Fmt → Bool
  | .mxE4M3 | .mxE5M2 | .mxE2M1 => true
  | _ => false

/-- The integer formats (R58). -/
def Fmt.isInt : Fmt → Bool
  | .int32 | .int16 | .int8 | .int4 => true
  | _ => false

/-- The element format of an MX format; any other format itself (R57). -/
def Fmt.element : Fmt → Fmt
  | .mxE4M3 => .e4m3 | .mxE5M2 => .e5m2 | .mxE2M1 => .e2m1
  | f => f

/-- Field widths and special encodings of a floating-point format (Tables 1 and 2 of spec/02). -/
structure FloatFmt where
  ebits  : Nat
  mbits  : Nat
  bias   : Nat
  /-- encoding of the largest finite value -/
  maxFin : Nat
  inf    : Option Nat
  nan    : Option Nat
  deriving DecidableEq, Repr

def fp64F : FloatFmt := ⟨11, 52, 1023, 0x7FEFFFFFFFFFFFFF, some 0x7FF0000000000000, some 0x7FF8000000000000⟩
def fp32F : FloatFmt := ⟨8, 23, 127, 0x7F7FFFFF, some 0x7F800000, some 0x7FC00000⟩
def bf16F : FloatFmt := ⟨8, 7, 127, 0x7F7F, some 0x7F80, some 0x7FC0⟩
def fp16F : FloatFmt := ⟨5, 10, 15, 0x7BFF, some 0x7C00, some 0x7E00⟩
def e4m3F : FloatFmt := ⟨4, 3, 7, 0x7E, none, some 0x7F⟩
def e5m2F : FloatFmt := ⟨5, 2, 15, 0x7B, some 0x7C, some 0x7E⟩
def e2m1F : FloatFmt := ⟨2, 1, 1, 0x7, none, none⟩

/-- The floating-point layout of a format; none for integers, E8M0 and untyped bytes. -/
def Fmt.float? : Fmt → Option FloatFmt
  | .fp64 => some fp64F | .fp32 => some fp32F | .bf16 => some bf16F | .fp16 => some fp16F
  | .e4m3 | .mxE4M3 => some e4m3F
  | .e5m2 | .mxE5M2 => some e5m2F
  | .e2m1 | .mxE2M1 => some e2m1F
  | _ => none

/-- Position of the sign bit. -/
def FloatFmt.signBit (f : FloatFmt) : Nat := f.ebits + f.mbits

/-- The exponent of the least significant bit of a subnormal: 1 − bias − mbits (R52). -/
def FloatFmt.qmin (f : FloatFmt) : Int := 1 - (f.bias : Int) - f.mbits

/-- An exact value: a NaN, a signed infinity, or ± m · 2^e with a signed zero. -/
inductive Val where
  | nan
  | inf (neg : Bool)
  | fin (neg : Bool) (m : Nat) (e : Int)
  deriving DecidableEq, Repr

def Val.isNan : Val → Bool
  | .nan => true
  | _ => false

def Val.isInf : Val → Bool
  | .inf _ => true
  | _ => false

def Val.isZero : Val → Bool
  | .fin _ 0 _ => true
  | _ => false

def Val.neg : Val → Bool
  | .nan => false
  | .inf n => n
  | .fin n _ _ => n

/-- The value an encoding denotes (R52, R55): every listed NaN and infinity, everything else finite. -/
def FloatFmt.decode (f : FloatFmt) (x : Nat) : Val :=
  let neg := bit x f.signBit
  let mag := x % 2 ^ f.signBit
  if mag ≤ f.maxFin then
    let ef := mag / 2 ^ f.mbits
    let mf := mag % 2 ^ f.mbits
    if ef = 0 then .fin neg mf f.qmin
    else .fin neg (mf + 2 ^ f.mbits) (f.qmin + (ef : Int) - 1)
  else if f.inf = some mag then .inf neg
  else .nan

/-- The value of a signed integer element (R58). -/
def intVal (i : Int) : Val := .fin (i < 0) i.natAbs 0

/-- The value of one element's bits in a format without scales. -/
def Fmt.decode (f : Fmt) (x : Nat) : Val :=
  match f.float? with
  | some ff => ff.decode (x % 2 ^ f.width)
  | none => if f = .e8m0 then
      (if x % 256 = 255 then .nan else .fin false 1 ((x % 256 : Nat) - 127))
    else intVal (sext f.width x)

/-- The value of an MX element under its block's scale byte (R56, R57). -/
def Fmt.decodeScaled (f : Fmt) (x scale : Nat) : Val :=
  if scale % 256 = 255 then .nan
  else match f.decode x with
    | .fin n m e => .fin n m (e + ((scale % 256 : Nat) - 127 : Int))
    | v => v

/-! ## Exact operations -/

/-- The signed integer that ± m · 2^e is, in units of 2^u, for u ≤ e. -/
def signedAt (neg : Bool) (m : Nat) (e u : Int) : Int :=
  let a : Int := ((m * 2 ^ (e - u).toNat : Nat) : Int)
  if neg then -a else a

/-- Product, exact, with its sign the exclusive OR of the operands' (R62, R66, R67). -/
def Val.mul : Val → Val → Val
  | .nan, _ => .nan
  | _, .nan => .nan
  | .inf a, .inf b => .inf (a != b)
  | .inf a, .fin b m _ => if m = 0 then .nan else .inf (a != b)
  | .fin a m _, .inf b => if m = 0 then .nan else .inf (a != b)
  | .fin a m e, .fin b n f => .fin (a != b) (m * n) (e + f)

/-- Sum, exact; `rdn` gives the sign of an exact zero from addends of opposite sign (R66, R67). -/
def Val.add (rdn : Bool) : Val → Val → Val
  | .nan, _ => .nan
  | _, .nan => .nan
  | .inf a, .inf b => if a = b then .inf a else .nan
  | .inf a, .fin _ _ _ => .inf a
  | .fin _ _ _, .inf b => .inf b
  | .fin a m e, .fin b n f =>
    let u := min e f
    let s := signedAt a m e u + signedAt b n f u
    if s = 0 then .fin (if a = b then a else rdn) 0 u else .fin (s < 0) s.natAbs u

def Val.negate : Val → Val
  | .nan => .nan
  | .inf n => .inf (!n)
  | .fin n m e => .fin (!n) m e

def Val.abs : Val → Val
  | .nan => .nan
  | .inf _ => .inf false
  | .fin _ m e => .fin false m e

/-- Less-than of values that are not NaN, zeros equal (R80). -/
def Val.lt : Val → Val → Bool
  | .nan, _ => false
  | _, .nan => false
  | .inf a, .inf b => a && !b
  | .inf a, .fin _ _ _ => a
  | .fin _ _ _, .inf b => !b
  | .fin a m e, .fin b n f =>
    let u := min e f
    signedAt a m e u < signedAt b n f u

/-- Equality of values that are not NaN; −0 equals +0 (R80). -/
def Val.eq (x y : Val) : Bool :=
  !x.isNan && !y.isNan && !Val.lt x y && !Val.lt y x

/-- The total order: −∞, negatives, −0, +0, positives, +∞, NaN (R81). -/
def Val.totLt (x y : Val) : Bool :=
  if x.isNan then false
  else if y.isNan then true
  else if Val.lt x y then true
  else x.isZero && y.isZero && x.neg && !y.neg

/-- Minimum: NaN if either is NaN, −0 below +0 (R81). -/
def Val.min (x y : Val) : Val :=
  if x.isNan || y.isNan then .nan else if Val.totLt y x then y else x

/-- Maximum: NaN if either is NaN, +0 above −0 (R81). -/
def Val.max (x y : Val) : Val :=
  if x.isNan || y.isNan then .nan else if Val.totLt x y then y else x

/-! ## Rounding -/

/-- The rounding modes of Table 7 of spec/02 (R76); `rmm` is the pilot's ties-away mode of RISC-V F (R160). -/
inductive RMode where
  | rne | rtz | rdn | rup | rsr | rmm
  deriving DecidableEq, Repr

/-- The mode a 3-bit code names; 0b101 to 0b111 are refused at load (R76). -/
def RMode.ofCode : Nat → Option RMode
  | 0 => some .rne | 1 => some .rtz | 2 => some .rdn | 3 => some .rup | 4 => some .rsr
  | _ => none

/-- A magnitude known exactly, or to lie strictly between m · 2^e and (m + 1) · 2^e when `sticky`. -/
structure Approx where
  neg    : Bool
  m      : Nat
  e      : Int
  sticky : Bool
  deriving DecidableEq, Repr

/-- A magnitude rounded to a multiple n of 2^q (q given), and whether it was inexact.
`r` is the random word of R127: up when floor(distance × 2^32) + r reaches 2^32. -/
def roundMag (mode : RMode) (r : Nat) (a : Approx) (q : Int) : Nat × Bool :=
  if q ≤ a.e then (a.m * 2 ^ (a.e - q).toNat, a.sticky)
  else
    let d := (q - a.e).toNat
    let t := a.m / 2 ^ d
    let rem := a.m % 2 ^ d
    let half := 2 ^ (d - 1)
    let up := match mode with
      | .rne => rem > half || (rem == half && (a.sticky || t % 2 == 1))
      | .rtz => false
      | .rdn => a.neg && (rem != 0 || a.sticky)
      | .rup => !a.neg && (rem != 0 || a.sticky)
      | .rsr => rem * 2 ^ 32 / 2 ^ d + r % 2 ^ 32 ≥ 2 ^ 32
      | .rmm => rem ≥ half
    (if up then t + 1 else t, rem != 0 || a.sticky)

/-- What rounding into a floating-point format found. -/
structure Rounded where
  /-- encoding of the magnitude, as if the exponent had no upper bound -/
  mag       : Nat
  inexact   : Bool
  /-- below the smallest normal before rounding (R82, UF) -/
  tiny      : Bool
  /-- below the smallest normal after rounding with an unbounded exponent (RISC-V F) -/
  tinyAfter : Bool
  deriving DecidableEq, Repr

/-- Round a non-zero magnitude into a format's grid, subnormal grid included (R55, R76, R127). -/
def FloatFmt.roundMagnitude (f : FloatFmt) (mode : RMode) (r : Nat) (a : Approx) : Rounded :=
  let top : Int := a.e + Nat.log2 a.m
  let qn : Int := top - f.mbits
  let q : Int := max qn f.qmin
  let (n, ix) := roundMag mode r a q
  let (n', _) := roundMag mode r a qn
  let emin : Int := f.qmin + f.mbits
  { mag := (q - f.qmin).toNat * 2 ^ f.mbits + n
    inexact := ix
    tiny := top < emin
    tinyAfter := top < emin && !(top + 1 == emin && n' == 2 ^ (f.mbits + 1)) }

/-! ## Arithmetic status flags (Table 9 of spec/02, R82) -/

/-- The low eight bits of ARSTAT. -/
abbrev Flags := BitVec 8

def fNone : Flags := 0
def fNanIn : Flags := 0x01
def fNv : Flags := 0x02
def fUf : Flags := 0x04
def fOf : Flags := 0x08
def fSat : Flags := 0x10
def fNanLost : Flags := 0x20
def fXsLoss : Flags := 0x40
def fXsOvf : Flags := 0x80

/-- A flag where a condition holds. -/
def flagIf (b : Bool) (f : Flags) : Flags := if b then f else 0

/-- An encoding with a sign. -/
def FloatFmt.withSign (f : FloatFmt) (neg : Bool) (mag : Nat) : Nat :=
  if neg then mag + 2 ^ f.signBit else mag

/-- The canonical NaN; +0 in a format that has none (R54, Table 8 of spec/02). -/
def FloatFmt.qnan (f : FloatFmt) : Nat := f.nan.getD 0

/-- The overflow result of the NONSAT column of Table 8 (R77, R524). -/
def FloatFmt.overflowNonsat (f : FloatFmt) (mode : RMode) (neg : Bool) : Nat :=
  match f.inf with
  | some i =>
    let toMax := match mode with
      | .rtz => true
      | .rdn => !neg
      | .rup => neg
      | _ => false
    f.withSign neg (if toMax then f.maxFin else i)
  | none => f.qnan

/-- Round a magnitude into a format; `sat` names SAT or NONSAT, E2M1 always saturates (Table 8, R77). -/
def FloatFmt.roundApprox (f : FloatFmt) (mode : RMode) (r : Nat) (sat : Bool) (a : Approx) : Nat × Flags :=
  if a.m = 0 then (f.withSign a.neg 0, fNone)
  else
    let g := f.roundMagnitude mode r a
    if g.mag > f.maxFin then
      if sat || f.nan = none then (f.withSign a.neg f.maxFin, fSat)
      else (f.overflowNonsat mode a.neg, fOf)
    else (f.withSign a.neg g.mag, flagIf (g.tiny && g.inexact) fUf)

/-- Write an exact value in a floating-point format (Table 8 of spec/02). -/
def FloatFmt.round (f : FloatFmt) (mode : RMode) (r : Nat) (sat : Bool) : Val → Nat × Flags
  | .nan => (f.qnan, flagIf (f.nan = none) fNanLost)
  | .inf n =>
    match f.inf with
    | some i => (f.withSign n i, fNone)
    | none => if sat || f.nan = none then (f.withSign n f.maxFin, fSat) else (f.qnan, fNv)
  | .fin n m e => f.roundApprox mode r sat ⟨n, m, e, false⟩

/-- Write an exact value in a w-bit signed integer format: round, then saturate (R78, Table 8). -/
def roundInt (w : Nat) (mode : RMode) (r : Nat) : Val → Nat × Flags
  | .nan => (0, fNanLost)
  | .inf n => (if n then 2 ^ (w - 1) else 2 ^ (w - 1) - 1, fSat)
  | .fin neg m e =>
    let (n, _) := roundMag mode r ⟨neg, m, e, false⟩ 0
    if neg then
      if n > 2 ^ (w - 1) then (2 ^ (w - 1), fSat) else ((2 ^ w - n) % 2 ^ w, fNone)
    else if n > 2 ^ (w - 1) - 1 then (2 ^ (w - 1) - 1, fSat) else (n, fNone)

/-- Write an exact value in any format without scales (R76 to R78); E8M0 and untyped bytes take no conversion. -/
def Fmt.write (f : Fmt) (mode : RMode) (r : Nat) (sat : Bool) (v : Val) : Nat × Flags :=
  match f.float? with
  | some ff => ff.round mode r sat v
  | none => roundInt f.width mode r v

/-- One element's conversion (R76 to R78), with NAN_IN for a NaN read (R82). -/
def convertVal (dst : Fmt) (mode : RMode) (r : Nat) (sat : Bool) (v : Val) : Nat × Flags :=
  let (x, fl) := dst.write mode r sat v
  (x, fl ||| flagIf v.isNan fNanIn)

/-! ## MX blocks (R79) -/

/-- floor(log2) of a non-zero magnitude m · 2^e. -/
def log2Mag (m : Nat) (e : Int) : Int := e + Nat.log2 m

/-- emax of an MX element format (R79). -/
def Fmt.mxEmax (f : Fmt) : Int :=
  match f.element with
  | .e4m3 => 8
  | .e5m2 => 15
  | _ => 2

/-- floor(log2) of the largest magnitude among finite values; none when all are zero. -/
def maxLog2 : List Val → Option Int
  | [] => none
  | .fin _ m e :: vs =>
    if m = 0 then maxLog2 vs
    else match maxLog2 vs with
      | none => some (log2Mag m e)
      | some k => some (max k (log2Mag m e))
  | _ :: vs => maxLog2 vs

/-- Convert one element under a chosen power of two (R79): exact division, saturating. -/
def mxElement (f : Fmt) (mode : RMode) (r : Nat) (s : Int) : Val → Nat × Flags
  | .fin n m e => f.element.write mode r true (.fin n m (e - s))
  | v => f.element.write mode r true v

/-- A block of values with their random words into an MX block: scale byte, elements, flags (R79). -/
def mxBlock (f : Fmt) (mode : RMode) (vs : List (Val × Nat)) : Nat × List Nat × Flags :=
  let vals := vs.map Prod.fst
  let nanIn := flagIf (vals.any Val.isNan) fNanIn
  if vals.any (fun v => v.isNan || v.isInf) then (255, vs.map (fun _ => 0), fNv ||| nanIn)
  else
    match maxLog2 vals with
    | none =>
      let es := vs.map (fun p => mxElement f mode p.2 0 p.1)
      (0, es.map Prod.fst, fNone)
    | some k =>
      let s := max (-127) (min 127 (k - f.mxEmax))
      let es := vs.map (fun p => mxElement f mode p.2 s p.1)
      ((s + 127).toNat, es.map Prod.fst, es.foldl (fun a p => a ||| p.2) fNone)

/-! ## Sums in the accumulator formats (R62 to R67) -/

/-- Round to nearest with ties to even into a format, as the cube, the queue and the reef do (R62). -/
def rneTo (f : FloatFmt) (v : Val) : Nat × Flags := f.round .rne 0 false v

/-- The rounded value of an exact value, and the flags of the rounding. -/
def rneVal (f : FloatFmt) (v : Val) : Val × Flags :=
  let (x, fl) := rneTo f v
  (f.decode x, fl)

/-- One level of the pairwise tree: neighbours added with one rounding (R63); an odd last one stays. -/
def treeLevel (f : FloatFmt) : List Val → List Val × Flags
  | a :: b :: rest =>
    let (s, fl) := rneVal f (Val.add false a b)
    let nv := flagIf (s.isNan && !a.isNan && !b.isNan) fNv
    let (ss, fls) := treeLevel f rest
    (s :: ss, fl ||| nv ||| fls)
  | l => (l, fNone)

/-- The pairwise tree over a list (R63), by at most `fuel` levels. -/
def treeSum (f : FloatFmt) : Nat → List Val → Val × Flags
  | 0, l => (l.headD (.fin false 0 0), fNone)
  | fuel + 1, l =>
    match l with
    | [] => (.fin false 0 0, fNone)
    | [v] => (v, fNone)
    | l =>
      let (l', fl) := treeLevel f l
      let (v, fl') := treeSum f fuel l'
      (v, fl ||| fl')

/-! ## Division and square root (exact digits and a sticky) -/

/-- The quotient of two magnitudes to at least 200 bits. -/
def divApprox (neg : Bool) (m : Nat) (e : Int) (n : Nat) (f : Int) : Approx :=
  let k := 200 + Nat.log2 n
  let num := m * 2 ^ k
  ⟨neg, num / n, e - f - k, num % n != 0⟩

/-- The integer square root by successive bits, from bit `i` down. -/
def isqrtFrom : Nat → Nat → Nat → Nat
  | 0, _, acc => acc
  | i + 1, x, acc =>
    let t := acc + 2 ^ i
    isqrtFrom i x (if t * t ≤ x then t else acc)

/-- floor(√x). -/
def isqrt (x : Nat) : Nat := isqrtFrom (Nat.log2 x / 2 + 1) x 0

/-- The square root of m · 2^e to at least 100 bits. -/
def sqrtApprox (m : Nat) (e : Int) : Approx :=
  let k : Nat := 256 + (if (e % 2) = 0 then 0 else 1)
  let x := m * 2 ^ k
  let s := isqrt x
  ⟨false, s, (e - k) / 2, s * s != x⟩

end Sys2Proof.Machine
end

