-- ==== Sys2Proof/Machine/PilotFloat.lean ====
section
/-! DEFINITION. The pilot's single-precision arithmetic: RISC-V F as R160 states, with canonical NaNs (R54) and
subnormals kept (R55). Flags are those of fcsr: NV 16, DZ 8, OF 4, UF 2, NX 1. -/

namespace Sys2Proof.Machine

/-- A result and its fflags. -/
abbrev FpOut := Nat × Nat

/-- Whether a 32-bit pattern is a signalling NaN. -/
def isSnan (x : Nat) : Bool := bits x 23 8 == 255 && bits x 0 23 != 0 && !bit x 22

/-- NV for any signalling NaN among the operands. -/
def snanFlag (xs : List Nat) : Nat := if xs.any isSnan then 16 else 0

/-- Round a magnitude into binary32 by RISC-V F: overflow by mode with OF and NX, underflow judged after rounding. -/
def fpRound (mode : RMode) (a : Approx) : FpOut :=
  if a.m = 0 then (fp32F.withSign a.neg 0, 0)
  else
    let g := fp32F.roundMagnitude mode 0 a
    if g.mag > fp32F.maxFin then (fp32F.overflowNonsat mode a.neg, 5)
    else (fp32F.withSign a.neg g.mag, if g.inexact then (if g.tinyAfter then 3 else 1) else 0)

/-- Write an exact value; a NaN becomes 0x7FC00000. -/
def fpWrite (mode : RMode) : Val → FpOut
  | .nan => (0x7FC00000, 0)
  | .inf n => (fp32F.withSign n 0x7F800000, 0)
  | .fin n m e => fpRound mode ⟨n, m, e, false⟩

/-- An operation on values whose result is invalid where it is a NaN made from no NaN. -/
def fpArith (mode : RMode) (ins : List Nat) (v : Val) : FpOut :=
  let anyNan := ins.any (fun x => (fp32F.decode x).isNan)
  let r := fpWrite mode v
  (r.1, r.2 ||| snanFlag ins ||| (if v.isNan && !anyNan then 16 else 0))

def fpAdd (mode : RMode) (a b : Nat) : FpOut :=
  fpArith mode [a, b] (Val.add (mode == .rdn) (fp32F.decode a) (fp32F.decode b))

def fpSub (mode : RMode) (a b : Nat) : FpOut :=
  fpArith mode [a, b] (Val.add (mode == .rdn) (fp32F.decode a) (fp32F.decode b).negate)

def fpMul (mode : RMode) (a b : Nat) : FpOut := fpArith mode [a, b] (Val.mul (fp32F.decode a) (fp32F.decode b))

/-- FMADD family: ± (a × b) ± c with one rounding; infinity times zero is invalid even with a quiet NaN addend. -/
def fpFma (mode : RMode) (negP negC : Bool) (a b c : Nat) : FpOut :=
  let va := fp32F.decode a
  let vb := fp32F.decode b
  let p := va.mul vb
  let p' := if negP then p.negate else p
  let vc := fp32F.decode c
  let vc' := if negC then vc.negate else vc
  let r := fpArith mode [a, b, c] (Val.add (mode == .rdn) p' vc')
  (r.1, r.2 ||| (if p.isNan && !va.isNan && !vb.isNan then 16 else 0))

def fpDiv (mode : RMode) (a b : Nat) : FpOut :=
  match fp32F.decode a, fp32F.decode b with
  | .nan, _ | _, .nan => (0x7FC00000, snanFlag [a, b])
  | .inf _, .inf _ => (0x7FC00000, 16)
  | .inf n, .fin k _ _ => (fp32F.withSign (n != k) 0x7F800000, 0)
  | .fin n _ _, .inf k => (fp32F.withSign (n != k) 0, 0)
  | .fin n m e, .fin k m' e' =>
    if m' = 0 then (if m = 0 then (0x7FC00000, 16) else (fp32F.withSign (n != k) 0x7F800000, 8))
    else fpRound mode (divApprox (n != k) m e m' e')

def fpSqrt (mode : RMode) (a : Nat) : FpOut :=
  match fp32F.decode a with
  | .nan => (0x7FC00000, snanFlag [a])
  | .inf n => if n then (0x7FC00000, 16) else (0x7F800000, 0)
  | .fin n m e =>
    if m = 0 then (fp32F.withSign n 0, 0)
    else if n then (0x7FC00000, 16)
    else fpRound mode (sqrtApprox m e)

/-- FMIN.S and FMAX.S: a NaN operand yields the other, two NaNs the canonical NaN, −0 below +0. -/
def fpMinMax (isMax : Bool) (a b : Nat) : FpOut :=
  let va := fp32F.decode a
  let vb := fp32F.decode b
  let fl := snanFlag [a, b]
  if va.isNan then (if vb.isNan then 0x7FC00000 else b, fl)
  else if vb.isNan then (a, fl)
  else if isMax then (if Val.totLt va vb then b else a, fl)
  else (if Val.totLt vb va then b else a, fl)

/-- FEQ, FLT, FLE (funct3 2, 1, 0): FLT and FLE are invalid on any NaN, FEQ on a signalling one. -/
def fpCompare (funct3 a b : Nat) : FpOut :=
  let va := fp32F.decode a
  let vb := fp32F.decode b
  let nan := va.isNan || vb.isNan
  let fl := if funct3 = 2 then snanFlag [a, b] else if nan then 16 else 0
  let r := match funct3 with
    | 2 => Val.eq va vb
    | 1 => Val.lt va vb
    | _ => !nan && !Val.lt vb va
  (b2n r, fl)

/-- FCLASS.S. -/
def fpClass (a : Nat) : Nat :=
  let neg := bit a 31
  match fp32F.decode a with
  | .nan => if isSnan a then 0x100 else 0x200
  | .inf n => if n then 0x1 else 0x80
  | .fin _ m _ =>
    if m = 0 then (if neg then 0x8 else 0x10)
    else if bits a 23 8 = 0 then (if neg then 0x4 else 0x20)
    else if neg then 0x2 else 0x40

/-- FCVT.W.S and FCVT.WU.S: out of range and NaN saturate with NV. -/
def fpToInt (mode : RMode) (unsigned : Bool) (a : Nat) : FpOut :=
  let hi : Int := if unsigned then 0xFFFFFFFF else 0x7FFFFFFF
  let lo : Int := if unsigned then 0 else -0x80000000
  match fp32F.decode a with
  | .nan => (wrapInt 32 hi, 16)
  | .inf n => (wrapInt 32 (if n then lo else hi), 16)
  | .fin n m e =>
    let (q, ix) := roundMag mode 0 ⟨n, m, e, false⟩ 0
    let v : Int := if n then -(q : Int) else q
    if v < lo then (wrapInt 32 lo, 16) else if hi < v then (wrapInt 32 hi, 16) else (wrapInt 32 v, b2n ix)

/-- FCVT.S.W and FCVT.S.WU. -/
def fpFromInt (mode : RMode) (unsigned : Bool) (x : Nat) : FpOut :=
  fpWrite mode (intVal (if unsigned then ((x % 2 ^ 32 : Nat) : Int) else sext 32 x))

/-- FSGNJ, FSGNJN, FSGNJX (funct3 0, 1, 2): bit copies with a chosen sign. -/
def fpSgnj (funct3 a b : Nat) : Nat :=
  let s := bit b 31
  let sign := match funct3 with | 0 => s | 1 => !s | _ => bit a 31 != s
  a % 2 ^ 31 + (if sign then 2 ^ 31 else 0)

end Sys2Proof.Machine
end

