-- ==== Sys2Proof/Machine/CoreState.lean ====
section
/-! DEFINITION. The state of one virtual core: sequencers, matrix row, vector engine, queues, pilot, stream engine and
synchronisation (spec/02 to spec/08), as plain data. -/

namespace Sys2Proof.Machine

/-- A 128-byte line of tile memory with its tag and sidecar (R86); sidecar byte r in bits [8r + 7 : 8r]. -/
structure Line where
  data : LineData
  tag  : BitVec 4
  side : BitVec 64
  deriving DecidableEq, Repr

/-- A line as a program load leaves it: zero bytes, tag 0xF, zero sidecar (R86). -/
def Line.blank : Line := ⟨0, 0xF, 0⟩

/-! ## Matrix row -/

/-- The format of a held accumulator tile (R60, R61): an accumulator format of normal mode, or exact-sum with a note
whether its operation's operands were integers (R75). -/
inductive AccKind where
  | fp32 | fp64 | int32 | int64 | exact
  deriving DecidableEq, Repr

/-- A held accumulator tile: its first slot and kind (R89). -/
structure HeldTile where
  slot : Nat
  kind : AccKind
  deriving DecidableEq, Repr

/-- A tile converted into a drain register or carried by the sound (R102, R105): bytes in order, low first. -/
structure DrainTile where
  beat  : Nat
  cube  : Nat
  slot  : Nat
  tag   : BitVec 4
  bytes : Nat
  data  : Nat
  deriving DecidableEq, Repr

/-- One logical cube (R85 to R102): its bank by slot, held tiles, B registers, drain register and the next beat
position it acts at (R92). -/
structure Cube where
  bank  : Sparse VecData
  held  : List HeldTile
  b0    : Line
  b1    : Line
  drain : Option DrainTile
  pos   : Nat
  deriving DecidableEq, Repr

def Cube.blank : Cube := ⟨[], [], Line.blank, Line.blank, none, 0⟩

/-- An A tile in the row with its effective row control word and the drain profile it was issued under (R91, R103). -/
structure RowTile where
  beat : Nat
  line : Line
  fmt  : Fmt
  rcw  : BitVec 32
  prof : BitVec 32
  deriving DecidableEq, Repr

/-- A B-path operation under way (R96 to R99): the tag and sidecar of each member taken at issue, and the data bytes
taken so far at the beats of Table 4 of spec/03. -/
structure BOp where
  beat : Nat
  word : BitVec 48
  tags : List Line
  got  : Sparse (Option LineData)
  deriving DecidableEq, Repr

/-- The record of what a cube will hold when a tile issued now reaches it (R90, R93). -/
structure Future where
  tag0 : BitVec 4
  tag1 : BitVec 4
  held : List HeldTile
  deriving DecidableEq, Repr

def Future.blank : Future := ⟨0xF, 0xF, []⟩

/-- The matrix row (spec/03): sixteen logical cubes, tiles and B operations under way, the fixed order of drains still
to enter the sound (R105), the sound, when the paths are next free (R94, R98), and the first beat at which the tile at
the head of the sound can have entered it, after the pops so far (R105, R130). `freeing` holds the space of popped
tiles until the last beat of their pops ends: that beat and the bytes (R130). -/
structure Row where
  cubes   : Sparse Cube
  future  : Sparse Future
  tiles   : List RowTile
  bops    : List BOp
  order   : List (Nat × Nat)
  sound   : List DrainTile
  aFree   : Nat
  bFree   : Nat
  entryAt : Nat
  freeing : List (Nat × Nat)
  deriving DecidableEq, Repr

def Row.blank : Row := ⟨[], [], [], [], [], [], 0, 0, 0, []⟩

/-! ## Vector engine -/

/-- Where a pending vector result goes (R149). -/
inductive VTarget where
  | reg (n : Nat)
  | mask (n : Nat)
  | cache (l : Nat)
  | tile (l : Nat) (tag : BitVec 4) (side0 side1 : BitVec 64)
  deriving DecidableEq, Repr

/-- A result on its way: ready for reads from beat `ready` on; byte b is written where bit b of `mask` is set
(for a mask register, bit e where bit e is set). -/
structure VWrite where
  ready : Nat
  tgt   : VTarget
  data  : VecData
  mask  : BitVec 256
  deriving DecidableEq, Repr

/-- A summary entry and the period of its core from which the pilot may read it (R135, R277). -/
structure Summary where
  entry    : BitVec 64
  readable : Nat
  deriving DecidableEq, Repr

/-- The vector engine (spec/04). -/
structure Vec where
  regs     : Sparse VecData
  masks    : Sparse (BitVec 256)
  cache    : Sparse VecData
  pend     : List VWrite
  freeC    : Nat
  freeM    : Nat
  origCube : Nat
  origSlot : Nat
  summ     : List Summary
  deriving DecidableEq, Repr

def Vec.blank : Vec := ⟨[], [], [], [], 0, 0, 0, 0, []⟩

/-! ## Stream queues -/

/-- A queue entry with its header (R155), the conversion flags held beside it (R195), the envelope and the operation
number of an entry of a message queue (R256, R249), whether it has been sent to a group (R262), and of an entry that the vector engine
pushes the period of its core from which it is in its queue (R149, R277). -/
structure QEntry where
  lines : List LineData
  sides : List (BitVec 64)
  tag   : BitVec 4
  count : Nat
  mark  : Option (BitVec 8)
  flags : Flags
  env   : Nat
  op    : Nat
  sent  : Bool
  due   : Nat
  deriving DecidableEq, Repr

/-- One stream queue: its entries, head first, reserved entries not yet pushed (R192, R259), and its packing buffer's
format tag and bytes (R133); pushed and popped counts since load (R275). -/
structure Queue where
  cfg     : BitVec 32
  entries : List QEntry
  resv    : Nat
  pack    : List Byte
  pushed  : Nat
  popped  : Nat
  taken   : Nat
  deriving DecidableEq, Repr

def Queue.blank : Queue := ⟨0, [], 0, [], 0, 0, 0⟩

/-! ## Sequencers -/

/-- One loop under way (R152): counter, first body address, address after the body, iterations left, call depth. -/
structure LoopFrame where
  ctr   : Nat
  start : Nat
  stop  : Nat
  left  : Nat
  depth : Nat
  deriving DecidableEq, Repr

/-- A sequencer (R139): bundle address, index and step registers, loops, call stack, choice queue, issues of a REPEAT
made so far; END issued; halted by a debugger (R168); the posted fence a FENCE or BARRIER waits for, the barrier
arrival it made, and that it is released by a signal of number `way` (R250, R254, R255). -/
structure Seq where
  addr     : Nat
  x        : Sparse (BitVec 16)
  xs       : Sparse (BitVec 16)
  loops    : List LoopFrame
  stack    : List Nat
  choices  : List (BitVec 32)
  rep      : Nat
  ended    : Bool
  halted   : Bool
  fence    : Option Nat
  fenced   : Bool
  arrived  : Bool
  released : Bool
  way      : Nat
  deriving DecidableEq, Repr

def Seq.blank : Seq := ⟨0, [], [], [], [], [], 0, false, false, none, false, false, false, 0⟩

/-- One beat of the beat trace (R141): the trace address and the effective slot values. -/
structure TraceEntry where
  lib    : Bool
  ord    : Nat
  matrix : Option (BitVec 64)
  bpath  : Option (BitVec 64)
  vec    : Option (BitVec 64)
  vmove  : Option (BitVec 64)
  deriving DecidableEq, Repr

/-! ## Stream engine -/

/-- A transaction (R172): its granule, whether it writes memory, the byte positions of the operation it carries with
their program addresses, and its state; `data` holds bytes taken, in the order of `spots`. `way` is the number of its crossing of lanes, 0 for
none (R287); `back` tells that its response has still to be placed in the first lane of its way back, `retried` that its response has
failed its check once (R223). -/
structure Txn where
  id     : Nat
  write  : Bool
  spots  : List (Nat × Nat)
  state  : Nat          -- 0 waiting, 1 released, 2 served, 3 finished, 4 served and to be dropped
  stamp  : Nat
  data   : List Byte
  way    : Nat
  back   : Bool
  retried : Bool
  deriving DecidableEq, Repr

/-- An outstanding stream operation or stream-engine marker operation (R170, R171, R527). `kind` 1 FETCH, 2 PUT,
3 MOVE, 4 QMARK, 5 QMATCH; `base` the effective memory-side start, `first` the first core-side line, queue or target
address; `units` lines or entries written so far; `src` source bytes in hand, `out` converted bytes of a PUT or MOVE; `beat` the
beat, or the access sequencer's bundle address, of the bundle that issued it (R202). -/
structure StreamOp where
  id        : Nat
  seq       : SeqId
  desc      : Nat
  word      : BitVec 768
  kind      : Nat
  base      : Nat
  counts    : List Nat
  first     : Nat
  label     : BitVec 8
  txns      : List Txn
  units     : Nat
  reserved  : Nat
  out       : List Byte
  outScales : List Byte
  taken     : Nat
  flags     : Flags
  cancelled : Bool
  beat      : Nat
  deriving DecidableEq, Repr

/-- A covered class member not yet finished (R249): class 0 stream, 1 reef, 2 message. -/
structure Outst where
  id  : Nat
  seq : SeqId
  cls : Nat
  deriving DecidableEq, Repr

/-- A posted fence (R248): number, issuer, classes, first operation number not covered, buoy to set, WAIT. -/
structure Fence where
  id     : Nat
  seq    : SeqId
  mem    : Bool
  reef   : Bool
  msg    : Bool
  cutoff : Nat
  buoy   : Option Nat
  wait   : Bool
  deriving DecidableEq, Repr

/-- Conversion flags held until an execute-side fence orders their operation (R195, R249, R251): `via` the buoys of the access-side
fences that covered it, `ok` that the execute sequencer has cleared one of them. -/
structure HeldFlags where
  id    : Nat
  seq   : SeqId
  flags : Flags
  via   : List Nat
  ok    : Bool
  deriving DecidableEq, Repr

/-- A CANCEL whose discarding is under way (R198): its queues and the operations it cancelled. -/
structure Cancelling where
  mask : Nat
  ops  : List Nat
  deriving DecidableEq, Repr

/-! ## Pilot -/

/-- A pending pilot write of an execute-side CSR (R163), waiting for the choice of that ordinal. -/
structure PendCsr where
  csr   : Nat
  value : BitVec 32
  ord   : Nat
  deriving DecidableEq, Repr

/-- The values of the execute-side CSRs a pilot read returns: those at the end of the beat in which the last choice
was taken (R163). `beat` is that beat plus one. -/
structure CsrSnap where
  beat   : Nat
  dp     : List (BitVec 32)
  vrstep : BitVec 32
  vrbase : BitVec 32
  deriving DecidableEq, Repr

/-- The pilot (R160 to R164): registers, pc, memories by byte, fcsr, step and instruction counts, when each register's
result is usable (x in 0–31, f in 32–63), when the divider paths are free (Table 12 of spec/05). -/
structure Pilot where
  x        : Sparse (BitVec 32)
  f        : Sparse (BitVec 32)
  pc       : BitVec 32
  fcsr     : BitVec 8
  imem     : Sparse Byte
  dmem     : Sparse Byte
  cycle    : Nat
  instret  : Nat
  usable   : Sparse Nat
  fpFree   : Nat
  finished : Bool
  halted   : Bool
  pushed   : Nat
  taken    : Nat
  pend     : List PendCsr
  snap     : CsrSnap
  deriving DecidableEq, Repr

def Pilot.blank : Pilot :=
  ⟨[], [], 0, 0, [], [], 0, 0, [], 0, false, false, 0, 0, [], ⟨0, [0x180, 0x180, 0x180, 0x180], 0, 0⟩⟩

/-! ## Status and synchronisation -/

/-- An entry of the arithmetic status history (R82): flags set in a beat, or a clearing mask applied at its start. -/
inductive ArEvent where
  | set (beat : Nat) (f : Flags)
  | clear (beat : Nat) (f : Flags)
  deriving DecidableEq, Repr

/-- The execute-side and loaded CSRs (R103, R112, R118, R128, R164, R192, R234). -/
structure Csrs where
  dp       : List (BitVec 32)
  rowcfg   : BitVec 32
  vcfg     : BitVec 32
  vrkey0   : BitVec 32
  vrkey1   : BitVec 32
  vrstep   : BitVec 32
  vrbase   : BitVec 32
  libver   : BitVec 32
  narcfg   : BitVec 32
  ferrycfg : BitVec 32
  deriving DecidableEq, Repr

def Csrs.blank : Csrs :=
  ⟨[0x180, 0x180, 0x180, 0x180], 0x1000, 0x870A0C0, 0, 0, 0, 0, 0, 0x4C0, 0⟩

/-- A buoy: its configuration word, its state and the number of sets since load (R240, R275). -/
structure Buoy where
  cfg  : BitVec 32
  set  : Bool
  sets : Nat
  deriving DecidableEq, Repr

def Buoy.blank : Buoy := ⟨0, false, 0⟩

/-- A tally: its count, its consumer's base and its consumer (R246). -/
structure Tally where
  mt       : BitVec 32
  tb       : BitVec 32
  consumer : SeqId
  deriving DecidableEq, Repr

def Tally.blank : Tally := ⟨0, 0, .execute⟩

/-- One cause of the stall ledger (R298). -/
structure Cause where
  ticks    : Nat
  episodes : Nat
  deriving DecidableEq, Repr

/-- The stall ledger of a virtual core (R294 to R298): TSTART, TEND and the causes by number, up to the last beat; the causes with
the ticks since then, which enter with the next beat; the cause of the present episode for the execute sequencer and the pilot. -/
structure Ledger where
  tstart : Nat
  tend   : Nat
  causes : Sparse Cause
  since  : Sparse Cause
  lastX  : Nat
  lastP  : Nat
  deriving DecidableEq, Repr

def Ledger.blank : Ledger := ⟨0, 0, [], [], 0, 0⟩

/-- What a program load writes into one core and nothing else changes (R143, R153, R173, R256, R257, R341). -/
structure CoreImage where
  used      : Bool
  split     : Bool
  fold      : Nat
  prog      : Sparse (BitVec 64)
  libBase   : Nat
  progBase  : Nat
  execBase  : Nat
  accBase   : Nat
  calls     : Sparse Nat
  variants  : Sparse (List Nat)
  libCalls  : Sparse Nat
  libVars   : Sparse (List Nat)
  descs     : Sparse (BitVec 768)
  envelopes : Sparse (BitVec 64)
  handlers  : Sparse (BitVec 64)
  entryX    : Nat
  entryA    : Nat
  entryP    : BitVec 32
  pilotWin  : Nat
  pilotLib  : Nat
  data0     : Sparse Byte
  phys      : Nat
  ctx       : Nat
  rngFree   : Bool
  wslots    : Sparse Nat        -- slots its plan gives it on each channel wheel (R192)
  profiles  : List (BitVec 32)  -- the image's drain profiles (R344)
  deriving DecidableEq, Repr

def CoreImage.blank : CoreImage :=
  ⟨false, false, 1, [], 16384, 0, 0, 0, [], [], [], [], [], [], [], 0, 0, 0, 0x20000, 0x20000, [], 0, 0, false, [], [0x180, 0x180, 0x180, 0x180]⟩

/-- The state of one virtual core. `stall` counts the thousandths of pacer periods in which its execute sequencer issued no beat. -/
structure Core where
  img       : CoreImage
  ex        : Seq
  ac        : Seq
  beat      : Nat
  traceEnd  : Bool
  trace     : List TraceEntry
  tile      : Sparse Line
  row       : Row
  vec       : Vec
  queues    : Sparse Queue      -- IQ n at n, OQ n at 16 + n
  pilot     : Pilot
  csr       : Csrs
  arstat    : List ArEvent
  buoys     : Sparse Buoy
  tallies   : Sparse Tally
  delivered : Sparse Nat        -- messages delivered by each handler
  ops       : List StreamOp
  nextOp    : Nat
  nextTxn   : Nat
  outst     : List Outst
  fences    : List Fence
  doneFence : List Nat
  heldFlags : List HeldFlags
  cancels   : List Cancelling
  guardLu   : Nat
  ledger    : Ledger
  stopped   : Bool
  stall     : Nat
  qmem      : Sparse LineData   -- stream queue memory that no entry occupies, by line
  deriving DecidableEq, Repr

/-- A core that no load has written (DESIGN CHOICE 6). -/
def Core.blank : Core :=
  { img := CoreImage.blank, ex := Seq.blank, ac := Seq.blank, beat := 0, traceEnd := false, trace := [], tile := []
    row := Row.blank, vec := Vec.blank, queues := [], pilot := Pilot.blank, csr := Csrs.blank, arstat := []
    buoys := [], tallies := [], delivered := [], ops := [], nextOp := 0, nextTxn := 0, outst := [], fences := []
    doneFence := [], heldFlags := [], cancels := [], guardLu := 0, ledger := Ledger.blank, stopped := false, stall := 0, qmem := [] }

end Sys2Proof.Machine
end

