-- ==== Sys2Proof/Machine/Operands.lean ====
section
/-! DEFINITION. Operand forms: per-context limits, index registers and effective syllables, vector elements and masks,
queue configuration words (R96, R117, R120, R146 to R150, R155, R317). -/

namespace Sys2Proof.Machine

/-! ## Limits by FOLDMAX (Table 3 of spec/10, R317) -/

/-- A limit of FOLDMAX 1 divided among the contexts of an image's FOLDMAX. -/
def Core.limit (c : Core) (full : Nat) : Nat := full / c.img.fold

def Core.tileLines (c : Core) : Nat := c.limit 32768
def Core.cacheLines (c : Core) : Nat := c.limit 4096
def Core.accSlots (c : Core) : Nat := c.limit 256
def Core.maxOps (c : Core) : Nat := c.limit 128
def Core.soundTiles (c : Core) : Nat := c.limit 32
def Core.soundBytes (c : Core) : Nat := c.limit 65536

/-! ## Registers of a sequencer (R147) -/

/-- X register n of a sequencer; X0 reads 0 (R147). -/
def Seq.getX (q : Seq) (n : Nat) : Nat := if n % 16 = 0 then 0 else (Sparse.get 0 q.x (n % 16)).toNat

/-- Write X register n; X0 cannot be written (R147). -/
def Seq.setX (q : Seq) (n v : Nat) : Seq :=
  if n % 16 = 0 then q else { q with x := Sparse.set 0 q.x (n % 16) (BitVec.ofNat 16 v) }

def Seq.getXS (q : Seq) (n : Nat) : Nat := if n % 16 = 0 then 0 else (Sparse.get 0 q.xs (n % 16)).toNat

def Seq.setXS (q : Seq) (n v : Nat) : Seq :=
  if n % 16 = 0 then q else { q with xs := Sparse.set 0 q.xs (n % 16) (BitVec.ofNat 16 v) }

/-- INC: Xn increases by XSn where bit n is set, modulo 2^16 (R144, R147). -/
def Seq.applyInc (q : Seq) (inc : Nat) : Seq :=
  (List.range 16).foldl (fun s n => if bit inc n then s.setX n (s.getX n + s.getXS n) else s) q

def Core.seq (c : Core) : SeqId → Seq
  | .execute => c.ex
  | .access => c.ac

def Core.setSeq (c : Core) (i : SeqId) (q : Seq) : Core :=
  match i with
  | .execute => { c with ex := q }
  | .access => { c with ac := q }

/-! ## Core arrays -/

def Core.cube (c : Core) (n : Nat) : Cube := Sparse.get Cube.blank c.row.cubes (n % 16)
def Core.queue (c : Core) (n : Nat) : Queue := Sparse.get Queue.blank c.queues (n % 32)
/-- Far endpoint: 0 unused, 1 stream engine, 2 message port, 3 ferry chain. -/
def Queue.farEnd (q : Queue) : Nat := bits q.cfg.toNat 29 3
/-- Lines per entry. -/
def Queue.elines (q : Queue) : Nat := bits q.cfg.toNat 25 4 + 1
def Queue.depth (q : Queue) : Nat := bits q.cfg.toNat 12 13

/-- The line of queue memory that holds line r of an entry, the n-th pushed since the load (R155, DESIGN CHOICE 39). -/
def Queue.lineOf (q : Queue) (n r : Nat) : Nat := bits q.cfg.toNat 0 12 + n % max 1 q.depth * q.elines + r

/-- What a queue's popped entries leave in its memory. -/
def Queue.leaves (q : Queue) (n : Nat) (m : Sparse LineData) : Sparse LineData :=
  (List.range n).foldl (fun a j =>
    (((q.entries[j]?).map (·.lines)).getD []).zipIdx.foldl (fun b p => Sparse.set 0 b (q.lineOf (q.popped + j) p.2) p.1) a) m

def Core.setQueue (c : Core) (n : Nat) (q : Queue) : Core :=
  { c with queues := Sparse.set Queue.blank c.queues (n % 32) q, qmem := (c.queue n).leaves (q.popped - (c.queue n).popped) c.qmem }
def Core.buoy (c : Core) (n : Nat) : Buoy := Sparse.get Buoy.blank c.buoys (n % 64)
def Core.tally (c : Core) (n : Nat) : Tally := Sparse.get Tally.blank c.tallies (n % 16)
def Core.tileLine (c : Core) (l : Nat) : Line := Sparse.get Line.blank c.tile (l % c.tileLines)
def Core.setTileLine (c : Core) (l : Nat) (x : Line) : Core :=
  { c with tile := Sparse.set Line.blank c.tile (l % c.tileLines) x }
def Core.cacheLine (c : Core) (l : Nat) : VecData := Sparse.get 0 c.vec.cache (l % c.cacheLines)
def Core.setCacheLine (c : Core) (l : Nat) (x : VecData) : Core :=
  { c with vec := { c.vec with cache := Sparse.set 0 c.vec.cache (l % c.cacheLines) x } }
def Core.vreg (c : Core) (n : Nat) : VecData := Sparse.get 0 c.vec.regs (n % 32)
def Core.mreg (c : Core) (n : Nat) : BitVec 256 := Sparse.get 0 c.vec.masks (n % 8)

/-! ## Queue configuration (Table 10 of spec/05) -/

/-- Entries that are free: not held and not reserved (R192). -/
def Queue.room (q : Queue) : Nat := q.depth - (q.entries.length + q.resv)

/-! ## Effective syllables (R146, R148) -/

/-- Replace n bits of a word at position lo. -/
def putBits (x lo n v : Nat) : Nat := x - bits x lo n * 2 ^ lo + (v % 2 ^ n) * 2 ^ lo

/-- The MATRIX syllable with its effective tile index and slot in place (R146). -/
def effMatrix (c : Core) (q : Seq) (w : BitVec 64) : BitVec 64 :=
  let x := w.toNat
  let t := (q.getX (bits x 55 4) + bits x 36 15) % c.tileLines
  let s := (bits x 0 8 + q.getX (bits x 51 4)) % c.accSlots
  let y := if bit x 59 then x else putBits x 36 15 t
  BitVec.ofNat 64 (putBits y 0 8 s)

/-- The BPATH syllable with its effective tile index and slot in place (R146). -/
def effBpath (c : Core) (q : Seq) (w : BitVec 64) : BitVec 64 :=
  let x := w.toNat
  let t := (q.getX (bits x 60 4) + bits x 16 15) % c.tileLines
  let s := (bits x 0 8 + q.getX (bits x 56 4)) % c.accSlots
  BitVec.ofNat 64 (putBits (putBits x 16 15 t) 0 8 s)

/-- The VEC or VMOVE syllable with IMM + X[XREG] in place of IMM (R148). -/
def effVec (q : Seq) (w : BitVec 64) : BitVec 64 :=
  let x := w.toNat
  BitVec.ofNat 64 (putBits x 0 16 (bits x 0 16 + q.getX (bits x 20 4)))

/-- The fields of a VEC or VMOVE syllable (Table 5 of spec/05). -/
structure VOp where
  vop  : Nat
  fmt  : Fmt
  rm   : Nat
  ovf  : Bool
  msk  : Bool
  mreg : Nat
  vd   : Nat
  va   : Nat
  vb   : Nat
  vc   : Nat
  aux  : Nat
  imm  : Nat
  deriving DecidableEq, Repr

def VOp.ofSyl (w : BitVec 64) : VOp :=
  let x := w.toNat
  { vop := bits x 56 8, fmt := Fmt.ofTag (bits x 52 4), rm := bits x 49 3, ovf := bit x 48, msk := bit x 47
    mreg := bits x 44 3, vd := bits x 39 5, va := bits x 34 5, vb := bits x 29 5, vc := bits x 24 5
    aux := bits x 16 4, imm := bits x 0 16 }

/-- The rounding mode an instruction names; codes that the loader refuses round by RNE. -/
def VOp.mode (o : VOp) : RMode := (RMode.ofCode o.rm).getD .rne

/-! ## Elements of vectors (R117, R120) -/

/-- Elements of one 256-byte vector. -/
def Fmt.count (f : Fmt) : Nat := 2048 / f.width

/-- The unit a mask bit governs: one element, or one byte of two elements for 4-bit formats (R120). -/
def Fmt.unitBits (f : Fmt) : Nat := max 8 f.width

/-- Mask bits that a format uses (R120). -/
def Fmt.units (f : Fmt) : Nat := 2048 / f.unitBits

/-- Cut the low n · w bits of x into n fields of w bits, low first. -/
def splitBits (w : Nat) : Nat → Nat → List Nat
  | 0, _ => []
  | n + 1, x => x % 2 ^ w :: splitBits w n (x / 2 ^ w)

/-- Join fields of w bits, low first. -/
def joinBits (w : Nat) : List Nat → Nat
  | [] => 0
  | x :: xs => x % 2 ^ w + 2 ^ w * joinBits w xs

/-- The elements of a vector in a format (R117, R53). -/
def elems (f : Fmt) (v : VecData) : List Nat := splitBits f.width f.count v.toNat

/-- Which units are active: all without a mask, else the mask's bits below the unit count (R120). -/
def activeUnits (msk : Bool) (m : BitVec 256) (n : Nat) : List Bool :=
  (List.range n).map (fun e => !msk || m.toNat.testBit e)

/-- A byte mask from unit activity, `b` bytes to the unit. -/
def byteMask (b : Nat) : List Bool → Nat
  | [] => 0
  | a :: as => (if a then 2 ^ b - 1 else 0) + 2 ^ b * byteMask b as

/-- Replace the bytes of `old` whose mask bit is set by those of `new`. -/
def mergeBytes (old new mask : Nat) : Nat → Nat
  | 0 => 0
  | n + 1 => (if mask % 2 = 1 then new % 256 else old % 256) + 256 * mergeBytes (old / 256) (new / 256) (mask / 2) n

/-- A vector with the masked bytes replaced (R120: inactive elements keep their contents). -/
def mergeVec (old new : VecData) (mask : BitVec 256) : VecData :=
  if mask = BitVec.allOnes 256 then new
  else BitVec.ofNat 2048 (mergeBytes old.toNat new.toNat mask.toNat 256)

/-- The two lines of a vector, low first. -/
def lowLine (v : VecData) : LineData := BitVec.ofNat 1024 v.toNat
def highLine (v : VecData) : LineData := BitVec.ofNat 1024 (v.toNat / 2 ^ 1024)
def twoLines (a b : LineData) : VecData := BitVec.ofNat 2048 (a.toNat + 2 ^ 1024 * b.toNat)

/-- The random words of an RSR instruction's elements: position VRBASE + e (R126, R324). -/
def Core.draw (c : Core) (v : Nat) (s e : Nat) : Nat :=
  drawWord c.csr.vrkey0.toNat c.csr.vrkey1.toNat (16 * v + s) c.csr.vrstep.toNat (c.csr.vrbase.toNat + e)

/-! ## What a slot or control operation answers -/

/-- The wait kinds of Table 11 of spec/08 that an agent can be in, with their codes (R274). `streamAccept` and `guard`
are waits of the ledger that the deadlock detector does not count. -/
inductive WaitKind where
  | buoySet | buoyClear | tally | queueEmpty | queueFull | choice | choiceSpace | summary | pilotSync | fence
  | barrier | combine | credit | soundEmpty | soundFull | rowFeed | streamAccept | guard | busy
  deriving DecidableEq, Repr

/-- The WAIT code of a kind (R274); 0 for a wait the detector does not count. The A feed's wait is QUEUE_EMPTY. -/
def WaitKind.code : WaitKind → Nat
  | .buoySet => 1 | .buoyClear => 2 | .tally => 3 | .queueEmpty => 4 | .queueFull => 5 | .choice => 6
  | .choiceSpace => 7 | .summary => 8 | .pilotSync => 9 | .fence => 10 | .barrier => 11 | .combine => 12
  | .credit => 13 | .soundEmpty => 14 | .soundFull => 15 | .rowFeed => 4 | .streamAccept => 0
  | .guard => 0 | .busy => 0

/-- A step that completes, waits on an object, or raises an event of kind F naming an object (R140, R499). -/
inductive Res (α : Type) where
  | ok (a : α)
  | wait (k : WaitKind) (obj : Nat)
  | event (code obj : Nat)
  deriving DecidableEq, Repr

def Res.bind {α β : Type} (r : Res α) (f : α → Res β) : Res β :=
  match r with
  | .ok a => f a
  | .wait k o => .wait k o
  | .event e o => .event e o

end Sys2Proof.Machine
end

