-- ==== Sys2Proof/Machine/Flags.lean ====
section
/-! DEFINITION. The arithmetic status word as a history, so that its value at any beat boundary follows from the
program (R82, R83, R163). -/

namespace Sys2Proof.Machine

/-- The mask of the clears applied at beats in (b, n]. -/
def arCleared (log : List ArEvent) (b n : Nat) : Flags :=
  log.foldl (fun a e => match e with
    | .clear k f => if b < k ∧ k ≤ n then a ||| f else a
    | .set _ _ => a) 0

/-- ARSTAT [7:0] at the end of beat n: the flags set at beats up to n and not cleared after (R82). -/
def arValue (log : List ArEvent) (n : Nat) : Flags :=
  log.foldl (fun a e => match e with
    | .set b f => if b ≤ n then a ||| (f &&& ~~~ arCleared log b n) else a
    | .clear _ _ => a) 0

/-- Record the flags an operation raised in a beat. -/
def Core.raise (c : Core) (beat : Nat) (f : Flags) : Core :=
  if f = 0 then c else { c with arstat := .set beat f :: c.arstat }

/-- ARSTAT as a reader of the present state sees it. -/
def Core.arNow (c : Core) : Flags := arValue c.arstat c.beat

/-- One floating-point result with NAN_IN for a NaN read and NV for a NaN made from none (R82). A fused multiply-add of infinity times
zero and a NaN addend has read a NaN and sets NAN_IN alone (DESIGN CHOICE 101). -/
def fpResult (f : FloatFmt) (mode : RMode) (r : Nat) (sat : Bool) (ins : List Val) (v : Val) : Nat × Flags :=
  let (x, fl) := f.round mode r sat v
  let nanIn := ins.any Val.isNan
  (x, fl ||| flagIf nanIn fNanIn ||| flagIf (v.isNan && !nanIn) fNv)

end Sys2Proof.Machine
end

