-- ==== Sys2Proof/Machine/Row.lean ====
section
/-! DEFINITION. The matrix row: one beat of a cube, exact sums, drains, the B path and the sound (spec/02 R59 to R75,
spec/03). -/

namespace Sys2Proof.Machine

/-- The pacer periods of a core since its beat 0: those in which it issued a beat and those of its stalls. Latencies that the spec
states in beats of a core count these, whether or not a bundle issues (R277; DEDUCED 56). -/
def Core.clock (c : Core) : Nat := c.beat + c.stall / 1000

/-! ## Vector results landing (R149) -/

/-- Write one pending result (R149). -/
def Core.land (c : Core) (w : VWrite) : Core :=
  match w.tgt with
  | .reg n => { c with vec := { c.vec with
      regs := Sparse.set 0 c.vec.regs (n % 32) (mergeVec (c.vreg n) w.data w.mask) } }
  | .mask n => { c with vec := { c.vec with masks := Sparse.set 0 c.vec.masks (n % 8) (BitVec.ofNat 256 w.data.toNat) } }
  | .cache l => c.setCacheLine l w.data
  | .tile l tag s0 s1 => (c.setTileLine l ⟨lowLine w.data, tag, s0⟩).setTileLine (l + 1) ⟨highLine w.data, tag, s1⟩

/-- Land every pending result whose ready beat has come (R149, R122); of two for one register the later issued stands
(DESIGN CHOICE 90). -/
def Core.landDue (c : Core) : Core :=
  let due := c.vec.pend.filter (fun w => w.ready ≤ c.beat)
  let c1 := { c with vec := { c.vec with pend := c.vec.pend.filter (fun w => c.beat < w.ready) } }
  due.foldl Core.land c1

/-- The core once the results ready by beat n have landed, in the order in which they become ready (R149). -/
def Core.landedBy (c : Core) (n : Nat) : Core :=
  (List.range (n + 1 - c.beat)).foldl (fun (a : Core) i => { ({ a with beat := c.beat + i }).landDue with beat := c.beat }) c

/-- Land the results still pending at the end of a trace: no path is occupied then, so none is ready later than five beats on. -/
def Core.landLater (c : Core) : Core := c.landedBy (c.beat + 7)

/-! ## Shapes (Table 3 of spec/02, Table 1 of spec/03) -/

/-- The accumulator an operand format uses; none where the mode is not eligible or the format is no operand (R60). -/
def Fmt.acc? (f : Fmt) (exact : Bool) : Option AccKind :=
  match f with
  | .fp64 => if exact then none else some .fp64
  | .fp32 | .bf16 => if exact then none else some .fp32
  | .fp16 | .e4m3 | .e5m2 | .e2m1 | .mxE4M3 | .mxE5M2 | .mxE2M1 => some (if exact then .exact else .fp32)
  | .int32 => some (if exact then .exact else .int64)
  | .int16 | .int8 | .int4 => some (if exact then .exact else .int32)
  | .e8m0 | .raw => none

/-- Slots of an accumulator tile, which is also its alignment (Table 1 of spec/03). -/
def AccKind.slots : AccKind → Nat
  | .fp32 | .int32 => 1
  | .fp64 | .int64 => 2
  | .exact => 8

/-- Bits of one accumulator element (Table 1 of spec/03). -/
def AccKind.width : AccKind → Nat
  | .fp32 | .int32 => 32
  | .fp64 | .int64 => 64
  | .exact => 256

/-- The accumulator that an ACCLOAD's AKIND names, and its source lines (R96, R98). -/
def akind? : Nat → Option (AccKind × Nat)
  | 0 => some (.fp32, 2)
  | 1 => some (.fp64, 4)
  | 2 => some (.int32, 2)
  | 3 => some (.int64, 4)
  | 4 => some (.exact, 12)
  | _ => none

/-! ## Held tiles (R89) -/

/-- Whether a held tile covers a slot. -/
def HeldTile.covers (h : HeldTile) (s : Nat) : Bool := h.slot ≤ s && s < h.slot + h.kind.slots

/-- Whether two tiles share a slot. -/
def HeldTile.meets (a b : HeldTile) : Bool :=
  a.slot < b.slot + b.kind.slots && b.slot < a.slot + a.kind.slots

/-- Make a tile held; every held tile sharing a slot with it becomes unset as a whole (R89). -/
def holdTile (held : List HeldTile) (t : HeldTile) : List HeldTile :=
  t :: held.filter (fun h => !h.meets t)

/-- Make a tile unset (R89, R102). -/
def dropTile (held : List HeldTile) (t : HeldTile) : List HeldTile := held.filter (fun h => !(h == t))

/-! ## Exact sums (R69 to R75) -/

/-- An exact-sum element's fields within its 140-bit value (Table 5 of spec/02). -/
def xsValue (x : Nat) : Nat := x % 2 ^ 136
def xsNan (x : Nat) : Bool := bit x 136
def xsPinf (x : Nat) : Bool := bit x 137
def xsNinf (x : Nat) : Bool := bit x 138
def xsBig (x : Nat) : Bool := bit x 139

/-- Set one sticky flag of an exact-sum element. -/
def xsSetFlag (x b : Nat) : Nat := if bit x b then x else x + 2 ^ b

/-- Add an integer of 2^-48 units modulo 2^136, flags unchanged. -/
def xsAddInt (x : Nat) (i : Int) : Nat :=
  x - xsValue x + wrapInt 136 ((xsValue x : Int) + i)

/-- A product, or an element of a reef sum, enters an exact-sum element (R70). -/
def xsEnter (x : Nat) : Val → Nat × Flags
  | .nan => (xsSetFlag x 136, 0)
  | .inf n => (xsSetFlag x (if n then 138 else 137), 0)
  | .fin n m e =>
    if m = 0 then (x, 0)
    else if log2Mag m e ≥ 79 then (xsSetFlag x 139, 0)
    else
      let (u, ix) := roundMag .rne 0 ⟨n, m, e, false⟩ (-48)
      (xsAddInt x (if n then -(u : Int) else u), flagIf ix fXsLoss)

/-- Two raw records are added by value and flags (R74). -/
def xsAdd (x y : Nat) : Nat :=
  let v := (xsValue x + xsValue y) % 2 ^ 136
  let f := (x / 2 ^ 136 % 16) ||| (y / 2 ^ 136 % 16)
  v + f * 2 ^ 136

/-- The signed value of an exact-sum element and whether it lies in the window W (R72, rule 3). -/
def xsSigned (x : Nat) : Int := sext 136 (xsValue x)
def xsInWindow (x : Nat) : Bool := -(2 ^ 127 : Int) ≤ xsSigned x && xsSigned x < (2 ^ 127 : Int)

/-- The FP32 result of an exact-sum element by the first rule of R72 that applies.
A set NAN flag is a held NaN; a NaN from BIG or from both infinities is made from none (R82). -/
def xsToFp32 (x : Nat) : Nat × Flags :=
  let qnan := fp32F.qnan
  if xsNan x || xsBig x || (xsPinf x && xsNinf x) then
    (qnan, flagIf (xsNan x) fNanIn ||| flagIf (!xsNan x) fNv ||| flagIf (xsBig x) fXsOvf)
  else if xsPinf x then (0x7F800000, 0)
  else if xsNinf x then (0xFF800000, 0)
  else if !xsInWindow x then (if xsSigned x < 0 then 0xFF800000 else 0x7F800000, fXsOvf)
  else if xsSigned x = 0 then (0, 0)
  else fp32F.round .rne 0 false (.fin (xsSigned x < 0) (xsSigned x).natAbs (-48))

/-- The INT32 saturated result for integer operand formats (R75). Of an element that carries a flag or a fraction, which R75 says
cannot arise, the integer part of the finite sum is taken (DESIGN CHOICE 29). -/
def xsToInt32 (x : Nat) : Nat × Flags :=
  let s := xsSigned x
  let n := s / (2 ^ 48 : Int)
  if !xsInWindow x then (if s < 0 then 0x80000000 else 0x7FFFFFFF, fSat ||| fXsOvf)
  else if n < -(2 ^ 31 : Int) then (0x80000000, fSat)
  else if n > (2 ^ 31 - 1 : Int) then (0x7FFFFFFF, fSat)
  else (wrapInt 32 n, 0)

/-! ## One beat of a cube (R62, R63, R65, R70) -/

/-- The eight rows of K exact values of a tile line; MX rows scaled by their sidecar byte (R53, R57, R86). -/
def tileRows (f : Fmt) (l : Line) : List (List Val) :=
  (List.range 8).map (fun i =>
    let row := bits l.data.toNat (128 * i) 128
    let es := splitBits f.width (128 / f.width) row
    let sc := bits l.side.toNat (8 * i) 8
    es.map (fun x => if f.isMx then f.decodeScaled x sc else f.decode x))

/-- Flags of one product: NAN_IN for a NaN operand, NV for a NaN made from none (R82). -/
def productFlags (a b p : Val) : Flags :=
  let n := a.isNan || b.isNan
  flagIf n fNanIn ||| flagIf (p.isNan && !n) fNv

/-- The signed integer an exact integer value is. -/
def Val.toInt : Val → Int
  | .fin n m e => let k : Int := ((m * 2 ^ e.toNat : Nat) : Int); if n then -k else k
  | _ => 0

/-- One output element of a floating-point beat: rounded products, the tree, the accumulator (R62, R63). -/
def dotFloat (f : FloatFmt) (as bs : List Val) (acc : Nat) : Nat × Flags :=
  let ps := List.zipWith (fun a b =>
    let p := Val.mul a b
    let (v, fl) := rneVal f p
    (v, fl ||| productFlags a b p)) as bs
  let (t, ft) := treeSum f 6 (ps.map Prod.fst)
  let av := f.decode acc
  let s := Val.add false av t
  let (x, fx) := rneTo f s
  (x, ps.foldl (fun a p => a ||| p.2) (ft ||| fx ||| flagIf av.isNan fNanIn |||
    flagIf (s.isNan && !av.isNan && !t.isNan) fNv))

/-- One output element of an integer beat in normal mode: exact products, sums modulo 2^w (R65). -/
def dotInt (w : Nat) (as bs : List Val) (acc : Nat) : Nat :=
  wrapInt w ((acc : Int) + (List.zipWith (fun a b => a.toInt * b.toInt) as bs).sum)

/-- One output element of an exact-sum beat (R70, R71). -/
def dotExact (as bs : List Val) (acc : Nat) : Nat × Flags :=
  (List.zip as bs).foldl (fun st p =>
    let pr := Val.mul p.1 p.2
    let (x, fl) := xsEnter st.1 pr
    (x, st.2 ||| fl ||| productFlags p.1 p.2 pr)) (acc, flagIf (xsNan acc) fNanIn)

/-- One output element of a beat in the accumulator of its kind. -/
def dotElem (k : AccKind) (as bs : List Val) (acc : Nat) : Nat × Flags :=
  match k with
  | .fp32 => dotFloat fp32F as bs acc
  | .fp64 => dotFloat fp64F as bs acc
  | .int32 => (dotInt 32 as bs acc, 0)
  | .int64 => (dotInt 64 as bs acc, 0)
  | .exact => dotExact as bs acc

/-- One beat: the 8 × 8 contributions of an A and a B tile added into 64 accumulator elements (R85). -/
def cubeBeat (f : Fmt) (k : AccKind) (a b : Line) (acc : List Nat) : List Nat × Flags :=
  let ar := tileRows f a
  let br := tileRows f b
  let rs := (List.range 64).map (fun e =>
    dotElem k (ar.getD (e / 8) []) (br.getD (e % 8) []) (acc.getD e 0))
  (rs.map Prod.fst, rs.foldl (fun x r => x ||| r.2) 0)

/-! ## Accumulator banks (R88) -/

/-- The 64 elements of a tile from its slots. -/
def Cube.readTile (c : Cube) (slot : Nat) (k : AccKind) : List Nat :=
  let per := 2048 / k.width
  (List.range k.slots).flatMap (fun i => splitBits k.width per (Sparse.get 0 c.bank (slot + i)).toNat)

/-- Write the 64 elements of a tile into its slots. -/
def Cube.writeTile (c : Cube) (slot : Nat) (k : AccKind) (es : List Nat) : Cube :=
  let per := 2048 / k.width
  { c with bank := (List.range k.slots).foldl (fun b i =>
      Sparse.set 0 b (slot + i) (BitVec.ofNat 2048 (joinBits k.width ((es.drop (per * i)).take per)))) c.bank }

/-! ## Drains (Table 6 of spec/03) -/

/-- Whether a drain of this accumulator to this output format and rounding code is one of Table 6 (R104). -/
def drainAllowed (k : AccKind) (intOps : Bool) (ofmt rm : Nat) : Bool :=
  rm < 4 && match k with
    | .fp32 => 1 ≤ ofmt && ofmt ≤ 5
    | .fp64 => ofmt ≤ 1
    | .int32 => ofmt == 0xA || ofmt == 0xB || ofmt == 0xC || ofmt == 1
    | .int64 => ofmt == 0xA || ofmt == 0xF
    | .exact => ofmt == 1 || ofmt == 0xF || (ofmt == 0xA && intOps)

/-- One element's drain conversion (R104). -/
def drainElem (k : AccKind) (ofmt : Nat) (mode : RMode) (sat : Bool) (x : Nat) : Nat × Flags :=
  let o := Fmt.ofTag ofmt
  match k with
  | .fp32 => convertVal o mode 0 sat (fp32F.decode x)
  | .fp64 => convertVal o mode 0 sat (fp64F.decode x)
  | .int32 => convertVal o mode 0 sat (intVal (sext 32 x))
  | .int64 => if ofmt = 0xF then (x, 0) else convertVal o mode 0 sat (intVal (sext 64 x))
  | .exact => if ofmt = 1 then xsToFp32 x else if ofmt = 0xA then xsToInt32 x else (x % 2 ^ 140, 0)

/-- Bits of a drained element. -/
def drainWidth (k : AccKind) (ofmt : Nat) : Nat :=
  if ofmt = 0xF then (match k with | .exact => 192 | _ => 64) else (Fmt.ofTag ofmt).width

/-- The fields of a drain profile (Table 5 of spec/03). -/
def profOfmt (p : BitVec 32) : Nat := bits p.toNat 8 4
def profSat (p : BitVec 32) : Bool := bit p.toNat 7
def profMode (p : BitVec 32) : Nat := bits p.toNat 4 3

/-- Convert a tile by a drain profile (R102, R104). -/
def drainTile (beat cube slot : Nat) (k : AccKind) (prof : BitVec 32) (es : List Nat) : DrainTile × Flags :=
  let o := profOfmt prof
  let mode := (RMode.ofCode (profMode prof)).getD .rne
  let rs := es.map (drainElem k o mode (profSat prof))
  let w := drainWidth k o
  (⟨beat, cube, slot, BitVec.ofNat 4 o, 8 * w, joinBits w (rs.map Prod.fst)⟩, rs.foldl (fun a r => a ||| r.2) 0)

/-! ## Row control word (Table 2 of spec/03) -/

def rcwMask (w : BitVec 32) (c : Nat) : Bool := bit w.toNat (16 + c)
def rcwDrain (w : BitVec 32) : Bool := bit w.toNat 15
def rcwProf (w : BitVec 32) : Nat := bits w.toNat 13 2
def rcwInit (w : BitVec 32) : Bool := bit w.toNat 12
def rcwExact (w : BitVec 32) : Bool := bit w.toNat 11
def rcwBsel (w : BitVec 32) : Bool := bit w.toNat 10
def rcwSlot (w : BitVec 32) : Nat := bits w.toNat 0 8

/-! ## Issue of an A tile (R90, R93, R94, R104, R107, R108) -/

/-- The check of one masked cube against what it will hold (R61, R89, R90, R93): an event code, or none. -/
def checkCube (fu : Future) (fmt : Fmt) (kind : AccKind) (rcw : BitVec 32) : Option Nat :=
  let tag := if rcwBsel rcw then fu.tag1 else fu.tag0
  let slot := rcwSlot rcw
  if tag.toNat ≠ fmt.tag then some 0x1101
  else if rcwInit rcw then none
  else match fu.held.find? (fun h => h.covers slot) with
    | none => some 0x1104
    | some h => if h = ⟨slot, kind⟩ then none else some 0x1101

/-- The record of a cube after an A tile is issued to it. -/
def futureAfter (fu : Future) (kind : AccKind) (rcw : BitVec 32) : Future :=
  let t : HeldTile := ⟨rcwSlot rcw, kind⟩
  let h := if rcwInit rcw then holdTile fu.held t else fu.held
  { fu with held := if rcwDrain rcw then dropTile h t else h }

def Row.futureOf (r : Row) (c : Nat) : Future := Sparse.get Future.blank r.future c

/-- Logical cubes an A tile acts in. -/
def maskedCubes (rcw : BitVec 32) : List Nat := (List.range 16).filter (rcwMask rcw)

/-- A tiles issued that cube 0 has not yet taken; its inbound link holds two (R107). -/
def Row.waitingAtEntry (r : Row) : Nat :=
  (r.tiles.filter (fun t => (Sparse.get Cube.blank r.cubes 0).pos ≤ t.beat)).length

/-- Whether pops of an inbound queue wait for a CANCEL's discarding (R199). -/
def Core.cancelHolds (c : Core) (n : Nat) : Bool := n < 16 && c.cancels.any (fun k => bit k.mask n)

/-- The entry at the head of an inbound queue for a data pop: a wait, an underflow, or the entry (R156, R158). -/
def Core.headData (c : Core) (n : Nat) (k : WaitKind) : Res QEntry :=
  match (c.queue n).entries with
  | [] => .wait k n
  | e :: _ => if c.cancelHolds n then .wait k n else if e.mark.isSome then .event 0x1303 n else .ok e

/-- Pop the head entry of a queue; its held conversion flags enter ARSTAT in this beat (R195). -/
def Core.popEntry (c : Core) (n : Nat) : Core :=
  let q := c.queue n
  match q.entries with
  | [] => c
  | e :: rest => (c.setQueue n { q with entries := rest, popped := q.popped + 1, taken := 0 }).raise c.beat e.flags

/-- The cube at which the row entry's wait ends: the lowest cube whose drain register is full (R107, R274). -/
def Core.blockedCube (c : Core) : Nat :=
  ((List.range 16).find? (fun k => (c.cube k).drain.isSome)).getD 0

/-- The line an A tile carries, from tile memory or the head of an inbound queue (R108). -/
def Core.aLine (c : Core) (x : Nat) : Res Line :=
  if bit x 59 then
    (c.headData (bits x 55 4) .rowFeed).bind (fun e => .ok ⟨e.lines.headD 0, e.tag, e.sides.headD 0⟩)
  else .ok (c.tileLine (bits x 36 15))

/-- Check an A tile against the row (R59, R68, R90, R93, R94, R104): an event and the cube concerned, or none. A slot that is not
aligned is refused whatever the mask (R90). Where several checks fail the first in this order is reported, with cube 0 for
those that concern no one cube (DESIGN CHOICE 28). -/
def Core.checkATile (c : Core) (fmt : Fmt) (l : Line) (rcw : BitVec 32) : Option (Nat × Nat) :=
  if l.tag.toNat ≠ fmt.tag ∨ fmt = .e8m0 ∨ fmt = .raw then some (0x1101, 0)
  else match fmt.acc? (rcwExact rcw) with
    | none => some (0x1102, 0)
    | some k =>
      if c.beat < c.row.aFree then some (0x1106, 0)
      else if rcwSlot rcw % k.slots ≠ 0 then some (0x1104, 0)
      else
        let p := c.csr.dp.getD (rcwProf rcw) 0
        match (maskedCubes rcw).findSome? (fun n => (checkCube (c.row.futureOf n) fmt k rcw).map (fun e => (e, n))) with
        | some e => some e
        | none =>
          if rcwDrain rcw && !drainAllowed k fmt.isInt (profOfmt p) (profMode p) then some (0x1105, 0) else none

/-- Put an accepted A tile into the row (R92, R105). -/
def Core.enterATile (c : Core) (fmt : Fmt) (k : AccKind) (l : Line) (rcw : BitVec 32) : Core :=
  let cs := maskedCubes rcw
  let r := c.row
  { c with row := { r with
      tiles := r.tiles ++ [⟨c.beat, l, fmt, rcw, c.csr.dp.getD (rcwProf rcw) 0⟩]
      future := cs.foldl (fun m n => Sparse.set Future.blank m n (futureAfter (r.futureOf n) k rcw)) r.future
      order := if rcwDrain rcw then r.order ++ cs.map (fun n => (c.beat, n)) else r.order
      aFree := c.beat + (if rcwExact rcw then 2 else 1) } }

/-- The MATRIX slot: one A tile issued into the row with effective syllable x (R92). -/
def Core.issueMatrix (c : Core) (w : BitVec 64) : Res Core :=
  let x := w.toNat
  let fmt := Fmt.ofTag (bits x 60 4)
  let rcw := BitVec.ofNat 32 x
  (c.aLine x).bind (fun l =>
    if 2 ≤ c.row.waitingAtEntry then .wait .soundFull c.blockedCube
    else match c.checkATile fmt l rcw with
      | some (e, n) => .event e n
      | none =>
        match fmt.acc? (rcwExact rcw) with
        | none => .event 0x1102 0
        | some k =>
          let c' := c.enterATile fmt k l rcw
          .ok (if bit x 59 then c'.popEntry (bits x 55 4) else c'))

/-! ## The B path (R96 to R99) -/

def bopKind (w : BitVec 48) : Nat := bits w.toNat 46 2
def bopCube (w : BitVec 48) : Nat := bits w.toNat 42 4
def bopBsel (w : BitVec 48) : Bool := bit w.toNat 41
def bopAkind (w : BitVec 48) : Nat := bits w.toNat 38 3
def bopTile (w : BitVec 48) : Nat := bits w.toNat 16 15
def bopSlot (w : BitVec 48) : Nat := bits w.toNat 0 8

/-- Lines an ACCLOAD reads; 1 for the other operations. -/
def bopLines (w : BitVec 48) : Nat :=
  if bopKind w = 3 then ((akind? (bopAkind w)).map Prod.snd).getD 1 else 1

/-- The tile index of member or line m (R96, R99). -/
def bopIndex (skew : Bool) (w : BitVec 48) (m : Nat) : Nat :=
  if bopKind w = 1 then bopTile w + (if skew then 65 * m else m) else bopTile w + m

/-- Members a B-path operation reads: 16 for SET, 1 for ONE, its lines for ACCLOAD. -/
def bopMembers (w : BitVec 48) : Nat :=
  if bopKind w = 1 then 16 else if bopKind w = 3 then bopLines w else 1

/-- The beat at which member or line m's data bytes are read (Table 4 of spec/03). -/
def bopReadBeat (skew : Bool) (u : Nat) (w : BitVec 48) (m : Nat) : Nat :=
  match bopKind w with
  | 1 => if skew then u + m else u
  | 2 => if skew then u + bopCube w else u
  | _ => if skew then u + bopCube w + m else u + m

def Core.skew (c : Core) : Bool := bit c.csr.rowcfg.toNat 0

/-- The record after a B-path operation issues: the tags its registers will hold (R93), the tile an ACCLOAD holds. -/
def Core.futureBpath (c : Core) (w : BitVec 48) : Sparse Future :=
  let upd (m : Sparse Future) (n : Nat) (t : BitVec 4) :=
    let fu := Sparse.get Future.blank m n
    Sparse.set Future.blank m n (if bopBsel w then { fu with tag1 := t } else { fu with tag0 := t })
  match bopKind w with
  | 1 => (List.range 16).foldl (fun m n => upd m n (c.tileLine (bopIndex c.skew w n)).tag) c.row.future
  | 2 => upd c.row.future (bopCube w) (c.tileLine (bopTile w)).tag
  | _ =>
    match akind? (bopAkind w) with
    | none => c.row.future
    | some (k, _) =>
      let fu := c.row.futureOf (bopCube w)
      Sparse.set Future.blank c.row.future (bopCube w) { fu with held := holdTile fu.held ⟨bopSlot w, k⟩ }

/-- The BPATH slot with effective syllable (R96, R98). -/
def Core.issueBpath (c : Core) (syl : BitVec 64) : Res Core :=
  let w : BitVec 48 := BitVec.ofNat 48 syl.toNat
  if bopKind w = 0 then .ok c
  else if c.beat < c.row.bFree then .event 0x1106 (bopCube w)
  else if bopKind w = 3 && (match akind? (bopAkind w) with
      | none => true
      | some (k, _) => bopSlot w % k.slots != 0) then .event 0x1104 (bopCube w)
  else .ok { c with row := { c.row with
      bops := c.row.bops ++ [⟨c.beat, w, (List.range (bopMembers w)).map (fun m => c.tileLine (bopIndex c.skew w m)), []⟩]
      future := c.futureBpath w
      bFree := c.beat + bopLines w } }

/-- Take the data bytes of every B-path read due in beat n (Table 4 of spec/03). -/
def Core.captureReads (c : Core) (n : Nat) : Core :=
  { c with row := { c.row with bops := c.row.bops.map (fun o =>
      { o with got := (List.range (bopMembers o.word)).foldl (fun g m =>
          if bopReadBeat c.skew o.beat o.word m = n
          then Sparse.set none g m (some (c.tileLine (bopIndex c.skew o.word m)).data) else g) o.got }) } }

/-! ## A cube's beat (CUBE_ACT) -/

/-- An A tile acts in a cube: contributions, then the drain copy if asked (R85, R89, R102). -/
def cubeTake (cu : Cube) (n : Nat) (t : RowTile) : Cube × Flags :=
  match t.fmt.acc? (rcwExact t.rcw) with
  | none => (cu, 0)
  | some k =>
    let slot := rcwSlot t.rcw
    let b := if rcwBsel t.rcw then cu.b1 else cu.b0
    let acc := if rcwInit t.rcw then List.replicate 64 0 else cu.readTile slot k
    let (es, fl) := cubeBeat t.fmt k t.line b acc
    let cu1 := (if rcwInit t.rcw then { cu with held := holdTile cu.held ⟨slot, k⟩ } else cu).writeTile slot k es
    if rcwDrain t.rcw then
      let (d, fd) := drainTile t.beat n slot k t.prof es
      ({ cu1 with drain := some d, held := dropTile cu1.held ⟨slot, k⟩ }, fl ||| fd)
    else (cu1, fl)

/-- Line m of an ACCLOAD is written into its tile (R98); an XS24 record lands with the line of its last byte. What A tiles of
beats u + 1 to u + n − 1 add to lines already written stays, by the order of R97 (DEDUCED 30). -/
def accLoadLine (cu : Cube) (o : BOp) (m : Nat) : Cube :=
  match akind? (bopAkind o.word) with
  | none => cu
  | some (k, _) =>
    let slot := bopSlot o.word
    let cu1 := if m = 0 then { cu with held := holdTile cu.held ⟨slot, k⟩ } else cu
    let line (j : Nat) : Nat := ((Sparse.get none o.got j).getD 0).toNat
    let es := cu1.readTile slot k
    let es' := match k with
      | .exact =>
        let src := joinBits 1024 ((List.range (m + 1)).map line)
        (List.range 64).map (fun e => if (24 * e + 23) / 128 = m then bits src (192 * e) 140 else es.getD e 0)
      | _ =>
        let per := 1024 / k.width
        (List.range 64).map (fun e => if e / per = m then bits (line m) (k.width * (e % per)) k.width else es.getD e 0)
    cu1.writeTile slot k es'

/-- The member or line a B-path operation writes in cube n at beat q, if it writes one (R97, R98). -/
def bopMemberAt (n q : Nat) (o : BOp) : Option Nat :=
  match bopKind o.word with
  | 3 => if bopCube o.word = n ∧ o.beat + n ≤ q ∧ q < o.beat + n + bopLines o.word then some (q - (o.beat + n)) else none
  | k => if (k = 1 ∨ bopCube o.word = n) ∧ o.beat + n = q then some (if k = 1 then n else 0) else none

/-- The B-path write of an operation that reaches cube n at beat q (R97, R98). -/
def bopWrite (n q : Nat) (cu : Cube) (o : BOp) : Cube :=
  match bopMemberAt n q o with
  | none => cu
  | some m =>
    if bopKind o.word = 3 then accLoadLine cu o m
    else
      let reg : Line :=
        let t := o.tags.getD m Line.blank
        { t with data := (Sparse.get none o.got m).getD 0 }
      if bopBsel o.word then { cu with b1 := reg } else { cu with b0 := reg }

/-- Whether every byte the B path writes in cube n at beat q has been read. -/
def Core.readsDone (c : Core) (n q : Nat) : Bool :=
  c.row.bops.all (fun o => match bopMemberAt n q o with
    | none => true
    | some m => (Sparse.get none o.got m).isSome)

/-- Read at once what the B path writes in cube n at beat q, as tile memory holds it at the beats of Table 4: results due by then have
landed (R99, R113, R149). -/
def Core.takeReads (c : Core) (n q : Nat) : Core :=
  { c with row := { c.row with bops := c.row.bops.map (fun o => match bopMemberAt n q o with
      | none => o
      | some m =>
        if (Sparse.get none o.got m).isSome then o
        else
          let k := c.landedBy (bopReadBeat c.skew o.beat o.word m)
          { o with got := Sparse.set none o.got m (some (k.tileLine (bopIndex c.skew o.word m)).data) }) } }

/-- The A tile that reaches cube n at beat q (R92). -/
def Row.tileAt (r : Row) (n q : Nat) : Option RowTile := r.tiles.find? (fun t => t.beat + n == q)

/-- Tiles cube n has passed on by beat q that cube n + 1 has not taken; the link holds two (R107). -/
def Core.linkTiles (c : Core) (n q : Nat) : Nat :=
  (c.row.tiles.filter (fun t => t.beat + n ≤ q && (c.cube (n + 1)).pos ≤ t.beat + n + 1)).length

/-- Whether cube n can act at its next beat position q: the bundle of beat q − n has issued and the cube to its west is
ahead, the B-path bytes it takes have been read, the link to its east has room, and a drain it owes finds its drain
register free (R92, R107). Tiles in flight go on while the execute sequencer waits (R107, R108). -/
def Core.cubeReady (c : Core) (n : Nat) : Bool :=
  let cu := c.cube n
  let q := cu.pos
  let tile := c.row.tileAt n q
  !c.traceEnd && !c.stopped && n < 16 && (if n = 0 then decide (q < c.beat) else decide (q ≤ (c.cube (n - 1)).pos)) &&
    c.readsDone n q && (tile.isNone || n == 15 || c.linkTiles n q ≤ 2) &&
    (match tile with
     | none => true
     | some t => !(rcwMask t.rcw n && rcwDrain t.rcw) || cu.drain.isNone)

/-- A logical cube acts at its next beat position: the A tile, then the B-path writes (R97, CUBE_ACT). -/
def Core.cubeAct (c : Core) (n : Nat) : Core :=
  if c.cubeReady n then
    let cu := c.cube n
    let q := cu.pos
    let (cu1, fl) := match c.row.tileAt n q with
      | some t => if rcwMask t.rcw n then cubeTake cu n t else (cu, 0)
      | none => (cu, 0)
    let cu2 := c.row.bops.foldl (bopWrite n q) cu1
    let cubes := Sparse.set Cube.blank c.row.cubes n { cu2 with pos := q + 1 }
    let c1 := { c with row := { c.row with
        cubes := cubes
        tiles := if n = 15 then c.row.tiles.filter (fun t => q < t.beat + 15 || c.beat ≤ t.beat + 15) else c.row.tiles
        bops := if n = 15 then c.row.bops.filter (fun o => q < o.beat + 15 + bopLines o.word) else c.row.bops } }
    c1.raise q fl
  else c

/-- Whether a cube's act at its next position would set XS_OVF, and so raise the notice 0x1103 (R84). -/
def Core.cubeOverflows (c : Core) (n : Nat) : Bool :=
  c.cubeReady n && match c.row.tileAt n (c.cube n).pos with
    | some t => rcwMask t.rcw n && ((cubeTake (c.cube n) n t).2 &&& fXsOvf) != 0
    | none => false

/-- The drained tile that enters the sound next, if it is drained and there is room, the space of pops whose last beat has
not ended not counted as free (R105, R106, R130). -/
def Core.nextSound (c : Core) : Option (DrainTile × Nat) :=
  match c.row.order with
  | [] => none
  | (u, n) :: _ =>
    match (c.cube n).drain with
    | none => none
    | some d =>
      if d.beat = u ∧ c.row.sound.length + c.row.freeing.length < c.soundTiles ∧
          (c.row.sound.map (·.bytes)).sum + (c.row.freeing.map (·.2)).sum + d.bytes ≤ c.soundBytes ∧ !c.traceEnd ∧ !c.stopped then some (d, n) else none

/-- A drained tile enters the sound (R105). -/
def Core.soundEntry (c : Core) : Core :=
  match c.nextSound with
  | none => c
  | some (d, n) =>
    { c with row := { c.row with
        order := c.row.order.tail
        sound := c.row.sound ++ [d]
        cubes := Sparse.set Cube.blank c.row.cubes n { c.cube n with drain := none } } }

/-- The first beat at which the tile after the last of some tiles can enter the sound, if the first of them can enter
at beat b: one enters per beat, none before the beat after it was drained (R105). -/
def entryBeat (b : Nat) (l : List DrainTile) : Nat := l.foldl (fun a d => max a (d.beat + d.cube + 1) + 1) b

/-- Whether the drain that cube j owes at its next position waits for its drain register (R107). -/
def Core.drainHeld (c : Core) (j : Nat) : Bool :=
  (c.cube j).drain.isSome && match c.row.tileAt j (c.cube j).pos with
    | none => false
    | some t => rcwMask t.rcw j && rcwDrain t.rcw

/-- Whether a tile has acted in cube k by the last beat, or is held behind a drain (R141). -/
def Core.tileSettled (c : Core) (t : RowTile) (k : Nat) : Bool :=
  decide (t.beat + k < c.beat) ||
    decide ((c.cube k).pos ≤ t.beat + k) && (List.range 16).any (fun j => c.drainHeld j && decide ((c.cube j).pos ≤ t.beat + j))

/-- B-path operations of the trace still take effect when it ends (R97, R98). -/
def Core.finishBops (c : Core) : Core :=
  if c.row.bops.isEmpty then c
  else
    (List.range 16).foldl (fun (a : Core) n =>
      let p := (a.cube n).pos
      (List.range (c.beat + 28 - p)).foldl (fun (a : Core) i =>
        let a1 := a.takeReads n (p + i)
        let cu := a1.row.bops.foldl (bopWrite n (p + i)) (a1.cube n)
        { a1 with row := { a1.row with cubes := Sparse.set Cube.blank a1.row.cubes n cu } }) a) c

end Sys2Proof.Machine
end

