-- ==== Sys2Proof/Machine/Special.lean ====
section
/-! DEFINITION. The special functions of R125: the exact mathematical value, enclosed between integers until both ends
round alike, then rounded once (spec/04, Table 4). -/

namespace Sys2Proof.Machine

/-- The ten special functions of Table 3 of spec/04. -/
inductive SpecialFn where
  | exp | exp2 | ln | log2 | rcp | sqrt | rsqrt | tanh | logistic | erf
  deriving DecidableEq, Repr

/-- A positive real between lo · 2^e and hi · 2^e. -/
structure Encl where
  lo : Nat
  hi : Nat
  e  : Int
  deriving DecidableEq, Repr

/-- Ceiling of a division. -/
def cdiv (a b : Nat) : Nat := (a + b - 1) / b

/-- Σ z^(2i+1)/(2i+1) from term i on, in units of 2^-p, by Horner with z = a/b: lower ends.
`n` terms remain; each step is 1/(2i+1) + z² · rest. -/
def atanhLo (p zz num den : Nat) : Nat → Nat → Nat
  | 0, _ => 0
  | n + 1, i => 2 ^ p / (2 * i + 1) + atanhLo p zz num den n (i + 1) * num / den / zz

/-- The same from above; the tail after the last term is below 2 units of its own size. -/
def atanhHi (p zz num den : Nat) : Nat → Nat → Nat
  | 0, _ => 2 ^ (p + 1)
  | n + 1, i => cdiv (2 ^ p) (2 * i + 1) + cdiv (cdiv (atanhHi p zz num den n (i + 1) * num) den) zz

/-- Bounds on atanh(a/b) · 2^p for 0 ≤ a/b ≤ 1/3. -/
def atanhEncl (p a b : Nat) : Nat × Nat :=
  let n := p / 3 + 8
  (atanhLo p 1 (a * a) (b * b) n 0 * a / b, cdiv (atanhHi p 1 (a * a) (b * b) n 0 * a) b)

/-- Bounds on ln 2 · 2^p: ln 2 = 2 atanh(1/3). -/
def ln2Encl (p : Nat) : Nat × Nat :=
  let (l, h) := atanhEncl p 1 3
  (2 * l, 2 * h)

/-- Horner for Σ x^n/n! with x in units of 2^-p: 1 + (x/i) · rest, lower ends. -/
def expLo (p x : Nat) : Nat → Nat → Nat
  | 0, _ => 2 ^ p
  | n + 1, i => 2 ^ p + x * expLo p x n (i + 1) / (i * 2 ^ p)

/-- The same from above, the last factor bounded by 2. -/
def expHi (p x : Nat) : Nat → Nat → Nat
  | 0, _ => 2 ^ (p + 1)
  | n + 1, i => 2 ^ p + cdiv (x * expHi p x n (i + 1)) (i * 2 ^ p)

/-- m · 2^e in units of 2^-p, floor. -/
def fixLo (p m : Nat) (e : Int) : Nat :=
  let s := e + p
  if 0 ≤ s then m * 2 ^ s.toNat else m / 2 ^ (-s).toNat

/-- m · 2^e in units of 2^-p, ceiling. -/
def fixHi (p m : Nat) (e : Int) : Nat :=
  let s := e + p
  if 0 ≤ s then m * 2 ^ s.toNat else cdiv m (2 ^ (-s).toNat)

/-- Bounds on e^x for ± m · 2^e = x, |x| < 2^13: x = k ln 2 + y with y between 0.6 and 1.5. -/
def expEncl (p : Nat) (neg : Bool) (m : Nat) (e : Int) : Encl :=
  let (l2, h2) := ln2Encl p
  let lo : Int := if neg then -((fixHi p m e : Nat) : Int) else fixLo p m e
  let hi : Int := if neg then -((fixLo p m e : Nat) : Int) else fixHi p m e
  let k : Int := lo / (h2 : Int) - 1
  let kl : Int := if 0 ≤ k then k * h2 else k * l2
  let kh : Int := if 0 ≤ k then k * l2 else k * h2
  let n := p / 4 + 16
  ⟨expLo p (lo - kl).toNat n 1, expHi p (hi - kh).toNat n 1, k - p⟩

/-- Bounds on ln y · 2^p for y = a / 2^s in [1, 2): 2 atanh((y − 1)/(y + 1)). -/
def lnEncl (p a s : Nat) : Nat × Nat :=
  let (l, h) := atanhEncl p (a - 2 ^ s) (a + 2 ^ s)
  (2 * l, 2 * h)

/-- arctan(1/x) · 2^p from below and above: the alternating series cut on each side. -/
def atanInv (p x : Nat) : Nat → Nat → Nat → Int
  | 0, _, _ => 0
  | n + 1, i, pw =>
    let t : Int := (2 ^ p / (pw * (2 * i + 1)) : Nat)
    (if i % 2 = 0 then t else -t) + atanInv p x n (i + 1) (pw * x * x)

/-- Bounds on π · 2^p by Machin's formula, widened by the truncation of every term. -/
def piEncl (p : Nat) : Nat × Nat :=
  let n := p / 4 + 8
  let v : Int := 16 * atanInv p 5 n 0 5 - 4 * atanInv p 239 n 0 239
  ((v - 20 * n).toNat, (v + 20 * n).toNat)

/-- Horner for Σ (2x²)^n / (1·3·…·(2n+1)) with w = 2x² in units of 2^-p, lower ends. -/
def erfLo (p w : Nat) : Nat → Nat → Nat
  | 0, _ => 2 ^ p
  | n + 1, i => 2 ^ p + w * erfLo p w n (i + 1) / ((2 * i + 3) * 2 ^ p)

/-- The same from above; the tail's factor is at most 2 where n is large enough. -/
def erfHi (p w : Nat) : Nat → Nat → Nat
  | 0, _ => 2 ^ (p + 1)
  | n + 1, i => 2 ^ p + cdiv (w * erfHi p w n (i + 1)) ((2 * i + 3) * 2 ^ p)

/-- Bounds on erf(m · 2^e) for 2^-100 ≤ x < 10: (2/√π) · x · e^(−x²) · Σ. -/
def erfEncl (p m : Nat) (e : Int) : Encl :=
  let xl := fixLo p (2 * m * m) (2 * e)
  let xh := fixHi p (2 * m * m) (2 * e)
  let n := 250 + p / 2
  let (pl, ph) := piEncl (2 * p)
  let ex := expEncl p true (m * m) (2 * e)
  let sl := isqrt pl
  let sh := isqrt ph + 1
  ⟨2 * m * ex.lo * erfLo p xl n 0 / sh, cdiv (2 * m * ex.hi * erfHi p xh n 0) sl, e + ex.e⟩

/-- t/(1+t) for t in an enclosure. -/
def ratioEncl (p : Nat) (t : Encl) : Encl :=
  let one := fixLo p 1 0
  let tl := fixLo p t.lo t.e
  let th := fixHi p t.hi t.e
  ⟨t.lo * 2 ^ p / (one + th), cdiv (t.hi * 2 ^ p) (one + tl), t.e⟩

/-- (1 − t)/(1 + t) for t = e^(−2x) in an enclosure, t < 1. -/
def tanhEncl (p : Nat) (t : Encl) : Encl :=
  let one := fixLo p 1 0
  let tl := fixLo p t.lo t.e
  let th := fixHi p t.hi t.e
  ⟨(one - th) * 2 ^ p / (one + th), cdiv ((one - tl) * 2 ^ p) (one + tl), -(p : Int)⟩

/-- 1/(1+t). -/
def oneOverEncl (p : Nat) (t : Encl) : Encl :=
  let one := fixLo p 1 0
  let tl := fixLo p t.lo t.e
  let th := fixHi p t.hi t.e
  ⟨one * 2 ^ p / (one + th), cdiv (one * 2 ^ p) (one + tl), -(p : Int)⟩

/-- The precisions tried in turn (DESIGN CHOICE 15: the last one's lower end stands if all fail to decide). -/
def specialPrecisions : List Nat := [256, 1024, 2560]

/-- Round an irrational value enclosed at rising precision, once both ends of the enclosure round alike. -/
def roundEncl (f : FloatFmt) (mode : RMode) (r : Nat) (neg : Bool) (g : Nat → Encl) : List Nat → Nat × Flags
  | [] => (f.qnan, fNone)
  | p :: ps =>
    let c := g p
    let a := f.roundApprox mode r false ⟨neg, max c.lo 1, c.e, true⟩
    let b := f.roundApprox mode r false ⟨neg, max (c.hi - 1) 1, c.e, true⟩
    if (a = b && c.lo != 0) || ps.isEmpty then a else roundEncl f mode r neg g ps

/-- The bound at which the exponentials of every format have left its range, 2^12. -/
def clampArg (m : Nat) (e : Int) : Nat × Int :=
  if log2Mag m e ≥ 12 then (1, 12) else (m, e)

/-- A value just below (`below`) or just above ± m · 2^e, closer than any rounding boundary. -/
def nearApprox (neg below : Bool) (m : Nat) (e : Int) : Approx :=
  ⟨neg, if below then m * 2 ^ 300 - 1 else m * 2 ^ 300, e - 300, true⟩

/-- ln of m · 2^e as sign and enclosure: y in [1, 2) and k with x = 2^k · y. -/
def lnParts (m : Nat) (e : Int) : Int × Nat × Nat :=
  let s := Nat.log2 m
  (e + s, m, s)

/-- |k ln 2 + ln y| and its sign. -/
def lnEnclFull (p : Nat) (k : Int) (a s : Nat) : Encl :=
  let (l2, h2) := ln2Encl p
  let (yl, yh) := lnEncl p a s
  if 0 ≤ k then ⟨k.toNat * l2 + yl, k.toNat * h2 + yh, -(p : Int)⟩
  else ⟨(-k).toNat * l2 - yh, (-k).toNat * h2 - yl, -(p : Int)⟩

/-- |k + ln y / ln 2|. -/
def log2EnclFull (p : Nat) (k : Int) (a s : Nat) : Encl :=
  let (l2, h2) := ln2Encl p
  let (yl, yh) := lnEncl p a s
  let ql := yl * 2 ^ p / h2
  let qh := cdiv (yh * 2 ^ p) l2
  if 0 ≤ k then ⟨k.toNat * 2 ^ p + ql, k.toNat * 2 ^ p + qh, -(p : Int)⟩
  else ⟨(-k).toNat * 2 ^ p - qh, (-k).toNat * 2 ^ p - ql, -(p : Int)⟩

/-- 2^x for x = ± m · 2^e with a fractional part: k = floor x and e^((x − k) ln 2). -/
def exp2Encl (p : Nat) (neg : Bool) (m : Nat) (e : Int) : Encl :=
  let (l2, h2) := ln2Encl p
  let d := (-e).toNat
  let sx : Int := if neg then -(m : Int) else m
  let k : Int := sx / (2 ^ d : Nat)
  let fr : Nat := (sx - k * (2 ^ d : Nat)).toNat
  let n := p / 4 + 16
  ⟨expLo p (l2 * fr / 2 ^ d) n 1, expHi p (cdiv (h2 * fr) (2 ^ d)) n 1, k - p⟩

/-- A special function of a non-zero finite value, rounded once (R125). -/
def specialFinite (f : FloatFmt) (mode : RMode) (r : Nat) (fn : SpecialFn) (neg : Bool) (m : Nat) (e : Int) :
    Nat × Flags :=
  let small : Bool := log2Mag m e < -100
  let exact (v : Val) := f.round mode r false v
  let ap (a : Approx) := f.roundApprox mode r false a
  let (cm, ce) := clampArg m e
  match fn with
  | .exp =>
    if small then ap (nearApprox false neg 1 0)
    else roundEncl f mode r false (fun p => expEncl p neg cm ce) specialPrecisions
  | .exp2 =>
    if small then ap (nearApprox false neg 1 0)
    else if 0 ≤ ce || cm % 2 ^ (-ce).toNat = 0 then
      let k : Nat := if 0 ≤ ce then cm * 2 ^ ce.toNat else cm / 2 ^ (-ce).toNat
      exact (.fin false 1 (if neg then -(k : Int) else k))
    else roundEncl f mode r false (fun p => exp2Encl p neg cm ce) specialPrecisions
  | .ln =>
    if neg then (f.qnan, fNv)
    else
      let (k, a, s) := lnParts m e
      if k = 0 ∧ a = 2 ^ s then (0, fNone)
      else roundEncl f mode r (k < 0) (fun p => lnEnclFull p k a s) specialPrecisions
  | .log2 =>
    if neg then (f.qnan, fNv)
    else
      let (k, a, s) := lnParts m e
      if a = 2 ^ s then (if k = 0 then (0, fNone) else exact (.fin (k < 0) k.natAbs 0))
      else roundEncl f mode r (k < 0) (fun p => log2EnclFull p k a s) specialPrecisions
  | .rcp => ap (divApprox neg 1 0 m e)
  | .sqrt => if neg then (f.qnan, fNv) else ap (sqrtApprox m e)
  | .rsqrt =>
    if neg then (f.qnan, fNv)
    else
      let k : Nat := 512 + 2 * Nat.log2 m + (if e % 2 = 0 then 0 else 1)
      let q := 2 ^ k / m
      let s := isqrt q
      ap ⟨false, s, -((k : Int) + e) / 2, s * s != q || 2 ^ k % m != 0⟩
  | .tanh =>
    if small then ap (nearApprox neg true m e)
    else if log2Mag m e ≥ 10 then ap (nearApprox neg true 1 0)
    else roundEncl f mode r neg (fun p => tanhEncl p (expEncl p true m (e + 1))) specialPrecisions
  | .logistic =>
    if small then ap (nearApprox false neg 1 (-1))
    else if neg then roundEncl f mode r false (fun p => ratioEncl p (expEncl p true cm ce)) specialPrecisions
    else if log2Mag m e ≥ 10 then ap (nearApprox false true 1 0)
    else roundEncl f mode r false (fun p => oneOverEncl p (expEncl p true m e)) specialPrecisions
  | .erf =>
    if Val.lt (.fin false 10 0) (.fin false m e) then ap (nearApprox neg true 1 0)
    else if small then
      let c (p : Nat) : Encl :=
        let (pl, ph) := piEncl (2 * p)
        ⟨2 * m * 2 ^ (2 * p) / (isqrt ph + 1) - 1, cdiv (2 * m * 2 ^ (2 * p)) (isqrt pl), e - p⟩
      roundEncl f mode r neg c specialPrecisions
    else roundEncl f mode r neg (fun p => erfEncl p m e) specialPrecisions

/-- A special function of any value: Table 4 of spec/04, then `specialFinite`; NV where a NaN arises from no NaN. -/
def special (f : FloatFmt) (mode : RMode) (r : Nat) (fn : SpecialFn) (v : Val) : Nat × Flags :=
  let one := (f.round .rne 0 false (.fin false 1 0)).1
  let inf (n : Bool) := f.withSign n (f.inf.getD 0)
  match v with
  | .nan => (f.qnan, fNone)
  | .inf false =>
    match fn with
    | .exp | .exp2 | .ln | .log2 | .sqrt => (inf false, fNone)
    | .rcp | .rsqrt => (0, fNone)
    | .tanh | .erf | .logistic => (one, fNone)
  | .inf true =>
    match fn with
    | .exp | .exp2 | .logistic => (0, fNone)
    | .ln | .log2 | .sqrt | .rsqrt => (f.qnan, fNv)
    | .rcp => (f.withSign true 0, fNone)
    | .tanh | .erf => (f.withSign true one, fNone)
  | .fin n m e =>
    if m = 0 then
      match fn with
      | .exp | .exp2 => (one, fNone)
      | .ln | .log2 => (inf true, fNone)
      | .rcp | .rsqrt => (inf n, fNone)
      | .sqrt | .tanh | .erf => (f.withSign n 0, fNone)
      | .logistic => (f.round .rne 0 false (.fin false 1 (-1)))
    else specialFinite f mode r fn n m e

end Sys2Proof.Machine
end

