-- ==== Sys2Proof/Machine/Vector.lean ====
section
/-! DEFINITION. The vector engine's compute instructions (spec/04, spec/05 R148 and R149). -/

namespace Sys2Proof.Machine

/-- What a vector instruction does when it issues: results with their ready distance from the issue beat, the beats it
occupies its path, flags, and random words drawn (R126, R149). -/
structure VOut where
  writes : List (Nat × VTarget × VecData × BitVec 256)
  occ    : Nat
  flags  : Flags
  drawn  : Nat
  deriving DecidableEq, Repr

/-- Inputs per beat of a conversion from a source format (Table 1 of spec/04); 256 for INT4, which the table does not name
(DESIGN CHOICE 34). -/
def cvtRate (f : Fmt) : Nat := match f.width with | 64 => 32 | 32 => 64 | 16 => 128 | _ => 256

/-- Beats that a compute instruction occupies its path (R116, R149). -/
def vecBeats (o : VOp) : Nat :=
  if o.vop = 0x30 then
    let src := Fmt.ofTag o.aux
    (max src.count o.fmt.count + cvtRate src - 1) / cvtRate src
  else if 0x38 ≤ o.vop ∧ o.vop ≤ 0x41 then (if o.fmt = .fp64 then 8 else o.fmt.count / 16)
  else 1

/-- The formats of the arithmetic classes (Table 3 of spec/04). -/
def Fmt.isArith : Fmt → Bool
  | .fp64 | .fp32 | .bf16 | .fp16 | .int32 | .int16 | .int8 => true
  | _ => false

/-- INT32, INT16, INT8: the formats of the integer classes (Table 3 of spec/04). -/
def Fmt.isVecInt : Fmt → Bool
  | .int32 | .int16 | .int8 => true
  | _ => false

/-! ## Element operations (R124, R80, R81) -/

/-- Saturate an integer to a w-bit signed format, with SAT (R58). -/
def saturate (w : Nat) (i : Int) : Nat × Flags :=
  if i < -(2 ^ (w - 1) : Int) then (2 ^ (w - 1), fSat)
  else if i > (2 ^ (w - 1) : Int) - 1 then (2 ^ (w - 1) - 1, fSat)
  else (wrapInt w i, 0)

/-- Integer element operations by opcode: wrapping, saturating, shifts and logic (Table 3 of spec/04). -/
def intElem (op w : Nat) (a b c imm : Nat) : Option (Nat × Flags) :=
  let x := sext w a
  let y := sext w b
  let n := imm % w
  match op with
  | 0x01 => some (wrapInt w (x + y), 0)
  | 0x02 => some (wrapInt w (x - y), 0)
  | 0x03 => some (wrapInt w (x * y), 0)
  | 0x04 => some (wrapInt w (x * y + sext w c), 0)
  | 0x05 => some (wrapInt w (-x), 0)
  | 0x06 => some (wrapInt w (if x < 0 then -x else x), 0)
  | 0x08 => some (saturate w (x + y))
  | 0x09 => some (saturate w (x - y))
  | 0x0A => some (saturate w (x * y))
  | 0x10 => some (a * 2 ^ n % 2 ^ w, 0)
  | 0x11 => some (a % 2 ^ w / 2 ^ n, 0)
  | 0x12 => some (wrapInt w (x / (2 ^ n : Nat)), 0)
  | 0x13 => some (a &&& b, 0)
  | 0x14 => some (a ||| b, 0)
  | 0x15 => some (a ^^^ b, 0)
  | 0x18 => some (if y < x then b else a, 0)
  | 0x19 => some (if x < y then b else a, 0)
  | _ => none

/-- Floating-point element operations by opcode (Table 3 of spec/04, R524: overflow as IEEE 754-2019). -/
def floatElem (op : Nat) (f : FloatFmt) (mode : RMode) (r : Nat) (a b c : Nat) : Option (Nat × Flags) :=
  let x := f.decode a
  let y := f.decode b
  let z := f.decode c
  let rdn := mode == .rdn
  match op with
  | 0x01 => some (fpResult f mode r false [x, y] (Val.add rdn x y))
  | 0x02 => some (fpResult f mode r false [x, y] (Val.add rdn x y.negate))
  | 0x03 => some (fpResult f mode r false [x, y] (Val.mul x y))
  | 0x04 => some (fpResult f mode r false [x, y, z] (Val.add rdn (Val.mul x y) z))
  | 0x05 => some (fpResult f mode r false [x] x.negate)
  | 0x06 => some (fpResult f mode r false [x] x.abs)
  | 0x18 => some (fpResult f .rne 0 false [x, y] (Val.min x y))
  | 0x19 => some (fpResult f .rne 0 false [x, y] (Val.max x y))
  | _ => none

/-- One element of an element-wise instruction; none where the class does not accept the format (R138). -/
def elemOp (op : Nat) (f : Fmt) (mode : RMode) (r a b c imm : Nat) : Option (Nat × Flags) :=
  if f.isVecInt then intElem op f.width a b c imm
  else match f with
    | .fp64 | .fp32 | .bf16 | .fp16 => f.float?.bind (fun ff => floatElem op ff mode r a b c)
    | _ => none

/-- Ordered and total-order comparisons by opcode (R80, R81). -/
def compareVal (op : Nat) (x y : Val) : Bool :=
  match op with
  | 0x20 => Val.eq x y
  | 0x21 => !Val.eq x y
  | 0x22 => Val.lt x y
  | 0x23 => Val.lt x y || Val.eq x y
  | _ => Val.totLt x y

/-- RMODE RSR: every element-wise instruction, special function and CVT that names it draws and so advances VRBASE; compares,
SEL, packing and reductions do not (R126; DEDUCED 32). -/
def drawsWords (o : VOp) : Bool := o.rm == 4

/-- Element-wise classes: arithmetic, saturating, shift and logic, minimum and maximum (0x01 to 0x19). -/
def vecElementwise (c : Core) (v : Nat) (o : VOp) : Res VOut :=
  let f := o.fmt
  let n := f.count
  if (elemOp o.vop f o.mode 0 0 0 0 0).isNone then .event 0x1203 0
  else
    let as := elems f (c.vreg o.va)
    let bs := elems f (c.vreg o.vb)
    let cs := elems f (c.vreg o.vc)
    let act := activeUnits o.msk (c.mreg o.mreg) n
    let rs := (List.range n).map (fun e =>
      if act.getD e false then
        (elemOp o.vop f o.mode (if drawsWords o then c.draw v o.aux e else 0) (as.getD e 0) (bs.getD e 0) (cs.getD e 0)
          o.imm).getD (0, 0)
      else (0, 0))
    .ok { writes := [(3, .reg o.vd, BitVec.ofNat 2048 (joinBits f.width (rs.map Prod.fst)),
            BitVec.ofNat 256 (byteMask (f.width / 8) act))]
          occ := 1, flags := rs.foldl (fun a r => a ||| r.2) 0, drawn := if drawsWords o then n else 0 }

/-- Compare classes: a mask of the elements for which the comparison holds (R120). -/
def vecCompare (c : Core) (o : VOp) : Res VOut :=
  let f := o.fmt
  let n := f.count
  if !f.isArith then .event 0x1203 0
  else
    let as := elems f (c.vreg o.va)
    let bs := elems f (c.vreg o.vb)
    let m := c.mreg o.mreg
    let act := activeUnits o.msk m n
    let rs := (List.range n).map (fun e =>
      let x := f.decode (as.getD e 0)
      let y := f.decode (bs.getD e 0)
      if act.getD e false then (compareVal o.vop x y, flagIf (x.isNan || y.isNan) fNanIn)
      else (m.toNat.testBit e, 0))
    .ok { writes := [(3, .mask o.mreg, BitVec.ofNat 2048 (joinBits 1 (rs.map (fun r => b2n r.1))), BitVec.allOnes 256)]
          occ := 1, flags := rs.foldl (fun a r => a ||| r.2) 0, drawn := 0 }

/-- SEL: from VA where the mask bit is set, else from VB, by mask unit (R120, R124). The mask is MREG whatever MSK says, and VC
is not read (DEDUCED 33). -/
def vecSelect (c : Core) (o : VOp) : Res VOut :=
  let b := o.fmt.unitBits / 8
  let m := byteMask b (activeUnits true (c.mreg o.mreg) o.fmt.units)
  .ok { writes := [(3, .reg o.vd, mergeVec (c.vreg o.vb) (c.vreg o.va) (BitVec.ofNat 256 m), BitVec.allOnes 256)]
        occ := 1, flags := 0, drawn := 0 }

/-! ## Special functions (R125) -/

def specialOf : Nat → Option SpecialFn
  | 0x38 => some .exp | 0x39 => some .exp2 | 0x3A => some .ln | 0x3B => some .log2 | 0x3C => some .rcp
  | 0x3D => some .sqrt | 0x3E => some .rsqrt | 0x3F => some .tanh | 0x40 => some .logistic | 0x41 => some .erf
  | _ => none

/-- Special functions: exact value rounded once, 4 or 16 elements per beat (R116, R125). -/
def vecSpecial (c : Core) (v : Nat) (o : VOp) : Res VOut :=
  let f := o.fmt
  let n := f.count
  match specialOf o.vop, (match f with | .fp64 | .fp32 | .bf16 | .fp16 => f.float? | _ => none) with
  | some fn, some ff =>
    let as := elems f (c.vreg o.va)
    let act := activeUnits o.msk (c.mreg o.mreg) n
    let rs := (List.range n).map (fun e =>
      if act.getD e false then
        let x := ff.decode (as.getD e 0)
        let r := special ff o.mode (if drawsWords o then c.draw v o.aux e else 0) fn x
        (r.1, r.2 ||| flagIf x.isNan fNanIn)
      else (0, 0))
    let occ := vecBeats o
    .ok { writes := [(occ + 5, .reg o.vd, BitVec.ofNat 2048 (joinBits f.width (rs.map Prod.fst)),
            BitVec.ofNat 256 (byteMask (f.width / 8) act))]
          occ := occ, flags := rs.foldl (fun a r => a ||| r.2) 0, drawn := if drawsWords o then n else 0 }
  | _, _ => .event 0x1203 0

/-! ## Conversion (R525) -/

/-- Elements from consecutive registers. -/
def groupElems (c : Core) (f : Fmt) (base n : Nat) : List Nat :=
  (List.range (n / f.count)).flatMap (fun k => elems f (c.vreg (base + k)))

/-- The scale byte of element e in a scale register (R525). -/
def scaleByte (v : VecData) (b : Nat) : Nat := bits v.toNat (8 * b) 8

/-- Blocks of 32 of an MX conversion: scale from the active elements; a block with none keeps its scale (R525). -/
def cvtBlocks (f : Fmt) (mode : RMode) (oldScales : VecData) : Nat → List (Val × Nat × Bool) → Nat →
    List (Nat × List Nat × Flags)
  | 0, _, _ => []
  | n + 1, vs, b =>
    let blk := vs.take 32
    let on := blk.filter (fun p => p.2.2)
    let r : Nat × List Nat × Flags :=
      if on.isEmpty then (scaleByte oldScales b, List.replicate 32 0, 0)
      else
        let (s, es, fl) := mxBlock f mode (on.map (fun p => (p.1, p.2.1)))
        let spread := blk.foldl (fun (st : List Nat × List Nat) p =>
          if p.2.2 then (st.1 ++ [st.2.headD 0], st.2.tail) else (st.1 ++ [0], st.2)) ([], es)
        (s, spread.1, fl)
    r :: cvtBlocks f mode oldScales n (vs.drop 32) (b + 1)

/-- CVT between register groups (R525). -/
def vecConvert (c : Core) (v : Nat) (o : VOp) : Res VOut :=
  let src := Fmt.ofTag o.aux
  let dst := o.fmt
  if src = .e8m0 ∨ src = .raw ∨ dst = .e8m0 ∨ dst = .raw then .event 0x1203 0
  else
    let n := max src.count dst.count
    let s := n / src.count
    let t := n / dst.count
    let pair := n = 512
    let m := c.mreg o.mreg
    let act := (List.range n).map (fun e => !o.msk || m.toNat.testBit (if pair then e / 2 else e))
    let xs := groupElems c src o.va n
    let ss := c.vreg (o.va + s)
    let vals := (List.range n).map (fun e =>
      (if src.isMx then src.decodeScaled (xs.getD e 0) (scaleByte ss (e / 32)) else src.decode (xs.getD e 0),
        (if drawsWords o then c.draw v o.aux e else 0), act.getD e false))
    let blocks := if dst.isMx then cvtBlocks dst o.mode (c.vreg (o.vd + t)) (n / 32) vals 0 else []
    let rs : List Nat × Flags :=
      if dst.isMx then (blocks.flatMap (fun b => b.2.1), blocks.foldl (fun a b => a ||| b.2.2) 0)
      else
        let l := vals.map (fun p => if p.2.2 then convertVal dst o.mode p.2.1 (!o.ovf) p.1 else (0, 0))
        (l.map Prod.fst, l.foldl (fun a r => a ||| r.2) 0)
    let occ := vecBeats o
    let per := dst.count
    let regs := (List.range t).map (fun k =>
      let es := (rs.1.drop (per * k)).take per
      let a := (act.drop (per * k)).take per
      let bm := if dst.width = 4 then byteMask 1 ((List.range 256).map (fun j => a.getD (2 * j) false))
                else byteMask (dst.width / 8) a
      (occ + 3, VTarget.reg ((o.vd + k) % 32), BitVec.ofNat 2048 (joinBits dst.width es), BitVec.ofNat 256 bm))
    let scales := if dst.isMx then
        [(occ + 3, VTarget.reg ((o.vd + t) % 32), BitVec.ofNat 2048 (joinBits 8 (blocks.map (fun b => b.1))),
          BitVec.allOnes 256)] else []
    .ok { writes := regs ++ scales, occ := occ, flags := rs.2, drawn := if drawsWords o then n else 0 }

/-! ## Reductions and summaries (R134, R135) -/

/-- Fold a maximum or minimum over values (R81). -/
def foldMM (isMax : Bool) : List Val → Option Val
  | [] => none
  | [v] => some v
  | v :: vs => (foldMM isMax vs).map (fun w => if isMax then Val.max v w else Val.min v w)

/-- SUM, MAX or MIN of a vector's elements: kind 0, 1, 2; result in FP64, FP32 or INT32 with flags (R134). -/
def reduceVec (kind : Nat) (f : Fmt) (es : List Nat) (act : List Bool) : Nat × Flags :=
  let vals := List.zipWith (fun e a => (f.decode e, a)) es act
  let on := (vals.filter Prod.snd).map Prod.fst
  let nanIn := flagIf (on.any Val.isNan) fNanIn
  if f.isInt then
    let w := f.width
    match kind with
    | 0 => (wrapInt 32 ((on.map Val.toInt).sum), 0)
    | 1 => (wrapInt 32 ((on.map Val.toInt).foldl max (-(2 ^ (w - 1) : Int))), 0)
    | _ => (wrapInt 32 ((on.map Val.toInt).foldl min ((2 ^ (w - 1) : Int) - 1)), 0)
  else
    let ff := if f = .fp64 then fp64F else fp32F
    match kind with
    | 0 =>
      let (s, fl) := treeSum ff 10 (vals.map (fun p => if p.2 then p.1 else .fin false 0 0))
      ((rneTo ff s).1, fl ||| nanIn)
    | k =>
      match foldMM (k == 1) on with
      | none => (ff.withSign (k == 1) (ff.inf.getD 0), 0)
      | some v => ((rneTo ff v).1, nanIn)

/-- RSUM, RMAX, RMIN: the result in the low bytes of VD, every other byte 0 (R134). -/
def vecReduce (c : Core) (o : VOp) : Res VOut :=
  let f := o.fmt
  if !f.isArith then .event 0x1203 0
  else
    let kind := o.vop - 0x48
    let (x, fl) := reduceVec kind f (elems f (c.vreg o.va)) (activeUnits o.msk (c.mreg o.mreg) f.count)
    .ok { writes := [(5, .reg o.vd, BitVec.ofNat 2048 x, BitVec.allOnes 256)], occ := 1, flags := fl, drawn := 0 }

/-- The entry a SUMM pushes and its flags; none where the kind does not accept the format, and for the kinds 4 to 15, to which
the spec gives no meaning (R134, R135; DESIGN CHOICE 35). -/
def summEntry (c : Core) (o : VOp) : Option (BitVec 64 × Flags) :=
  let f := o.fmt
  let mk (kind tag value : Nat) : BitVec 64 :=
    BitVec.ofNat 64 (value % 2 ^ 32 + (o.imm % 256) * 2 ^ 48 + tag * 2 ^ 56 + kind * 2 ^ 60)
  let act := activeUnits o.msk (c.mreg o.mreg) f.units
  let n := (act.filter id).length
  let sums : Bool := f.isArith && f != .fp64
  match o.aux with
  | 0 => some (mk 0 0xA n, 0)
  | 1 => some (mk 1 0xA (if n = 0 then 0 else 1), 0)
  | 2 => if sums then
      let (x, fl) := reduceVec 1 f (elems f (c.vreg o.va)) act
      some (mk 2 (if f.isInt then 0xA else 1) x, fl) else none
  | 3 => if sums then
      let (x, fl) := reduceVec 0 f (elems f (c.vreg o.va)) act
      some (mk 3 (if f.isInt then 0xA else 1) x, fl) else none
  | _ => none

/-! ## Packing (R131, R132, R133) -/

/-- The active units of a list, in order. -/
def packUnits (us : List Nat) (act : List Bool) : List Nat :=
  ((List.zip us act).filter Prod.snd).map Prod.fst

/-- Spread values over the active places, zero elsewhere; also what is left over. -/
def spreadUnits : List Nat → List Bool → List Nat
  | _, [] => []
  | us, false :: as => 0 :: spreadUnits us as
  | [], true :: as => 0 :: spreadUnits [] as
  | u :: us, true :: as => u :: spreadUnits us as

/-- The units of a vector: elements, or bytes for 4-bit formats (R120). -/
def unitsOf (f : Fmt) (v : VecData) : List Nat := splitBits f.unitBits f.units v.toNat

/-- COMPRESS and EXPAND between registers (R131, R132). -/
def vecPack (c : Core) (o : VOp) : Res VOut :=
  let f := o.fmt
  let us := unitsOf f (c.vreg o.va)
  let act := activeUnits o.msk (c.mreg o.mreg) f.units
  let r := if o.vop = 0x50 then packUnits us act else spreadUnits us act
  .ok { writes := [(3, .reg o.vd, BitVec.ofNat 2048 (joinBits f.unitBits r), BitVec.allOnes 256)]
        occ := 1, flags := 0, drawn := 0 }

/-! ## Issue -/

/-- Put an instruction's results on their way from beat `c.beat` (R149). -/
def Core.addWrites (c : Core) (ws : List (Nat × VTarget × VecData × BitVec 256)) : Core :=
  { c with vec := { c.vec with
      pend := c.vec.pend ++ ws.map (fun w => ⟨c.beat + w.1, w.2.1, w.2.2.1, w.2.2.2⟩) } }

/-- Issue a compute result: writes, path occupancy, flags, VRBASE (R126, R149). -/
def Core.applyOut (c : Core) (r : VOut) : Core :=
  let c1 := (c.addWrites r.writes).raise c.beat r.flags
  { c1 with
    vec := { c1.vec with freeC := c.beat + r.occ }
    csr := { c1.csr with vrbase := c1.csr.vrbase + BitVec.ofNat 32 r.drawn } }

/-- Push an entry into an outbound queue (R156): waits for room; for a message queue the envelope is checked (R256)
and the entry is an outstanding operation of the execute sequencer (R249). -/
def Core.pushOq (c : Core) (envOk : Nat → Option Nat) (n : Nat) (e : QEntry) : Res Core :=
  let i := 16 + n % 16
  let q := c.queue i
  if q.farEnd = 2 then
    match envOk (e.env % 256) with
    | none => .event 0x3101 i
    | some cls =>
      if q.room = 0 then .wait .queueFull i
      else
        let e' := { e with op := c.nextOp }
        .ok { c.setQueue i { q with entries := q.entries ++ [e'], pushed := q.pushed + 1 } with
              nextOp := c.nextOp + 1, outst := c.outst ++ [⟨c.nextOp, .execute, cls⟩] }
  else if q.room = 0 then .wait .queueFull i
  else .ok (c.setQueue i { q with entries := q.entries ++ [e], pushed := q.pushed + 1 })

/-- A 256-byte entry of two lines, in its queue from period `due` on. -/
def entryOf (v : VecData) (tag : Fmt) (count env due : Nat) : QEntry :=
  ⟨[lowLine v, highLine v], [0, 0], BitVec.ofNat 4 tag.tag, count, none, 0, env, 0, false, due⟩

/-- The period from which an entry that an instruction of one beat pushes now is in its queue, which is written at the end of the beat
after its issue (Table 7 of spec/05). -/
def Core.pushDue (c : Core) : Nat := c.clock + 2

/-- Whether an entry of an outbound queue is in it: its period has come. -/
def Core.inQueue (c : Core) (e : QEntry) : Bool := decide (e.due ≤ c.clock)

/-- COMPRESS.Q: append the active units to the packing buffer, pushing it when it fills, with the tag of the instruction that
fills it (R133; DESIGN CHOICE 36). -/
def Core.compressQ (c : Core) (envOk : Nat → Option Nat) (o : VOp) : Res Core :=
  let f := o.fmt
  let us := packUnits (unitsOf f (c.vreg o.va)) (activeUnits o.msk (c.mreg o.mreg) f.units)
  let i := 16 + o.aux % 16
  let buf := (c.queue i).pack ++ us.flatMap (toBytes (f.unitBits / 8))
  let c1 := { c with vec := { c.vec with freeC := c.beat + 1 } }
  if buf.length < 256 then .ok (c1.setQueue i { c.queue i with pack := buf })
  else
    let v : VecData := BitVec.ofNat 2048 (ofBytes (buf.take 256))
    (c1.pushOq envOk o.aux (entryOf v f f.count o.imm c.pushDue)).bind (fun c2 =>
      .ok (c2.setQueue i { c2.queue i with pack := buf.drop 256 }))

/-- FLUSH: push a partly filled packing buffer with its element count (R133). -/
def Core.flushOq (c : Core) (envOk : Nat → Option Nat) (o : VOp) : Res Core :=
  let f := o.fmt
  let i := 16 + o.aux % 16
  let buf := (c.queue i).pack
  let c1 := { c with vec := { c.vec with freeC := c.beat + 1 } }
  if buf.isEmpty then .ok c1
  else
    let v : VecData := BitVec.ofNat 2048 (ofBytes buf)
    (c1.pushOq envOk o.aux (entryOf v f (8 * buf.length / f.width) o.imm c.pushDue)).bind (fun c2 =>
      .ok (c2.setQueue i { c2.queue i with pack := [] }))

/-- Units that an entry supplies in a format: its element count, by unit (R133, R155). -/
def entryUnits (f : Fmt) (e : QEntry) : List Nat :=
  let all := joinBits 1024 (e.lines.map (·.toNat))
  splitBits f.unitBits (e.count * f.width / f.unitBits) all

/-- Take k units from the head entries of an inbound queue, popping entries that are used up (R133). With k = 0 it takes
nothing and does not wait (DESIGN CHOICE 36). -/
def Core.takeUnits (c : Core) (f : Fmt) (n : Nat) : Nat → Nat → List Nat → Res (Core × List Nat)
  | 0, _, acc => .ok (c, acc)
  | _, 0, acc => .ok (c, acc)
  | fuel + 1, k, acc =>
    (c.headData n .queueEmpty).bind (fun e =>
      let q := c.queue n
      let us := (entryUnits f e).drop q.taken
      if k < us.length then
        .ok (c.setQueue n { q with taken := q.taken + k }, acc ++ us.take k)
      else Core.takeUnits (c.popEntry n) f n fuel (k - us.length) (acc ++ us))

/-- EXPAND.Q: spread units of the head entries over the active places (R133). -/
def Core.expandQ (c : Core) (o : VOp) : Res Core :=
  let f := o.fmt
  let act := activeUnits o.msk (c.mreg o.mreg) f.units
  let n := o.aux % 16
  (c.takeUnits f n ((c.queue n).entries.length + 1) (act.filter id).length []).bind (fun p =>
    if p.2.length < (act.filter id).length then .wait .queueEmpty n
    else .ok ((p.1).applyOut ⟨[(3, .reg o.vd, BitVec.ofNat 2048 (joinBits f.unitBits (spreadUnits p.2 act)),
      BitVec.allOnes 256)], 1, 0, 0⟩))

/-- SUMM: reduce and push one entry, readable from o + 1 + 6 periods after its issue on (R135, R277). -/
def Core.summ (c : Core) (o : VOp) : Res Core :=
  match summEntry c o with
  | none => .event 0x1203 0
  | some (e, fl) =>
    if 16 ≤ c.vec.summ.length then .event 0x1202 0
    else
      let c1 := c.raise c.beat fl
      .ok { c1 with vec := { c1.vec with summ := c1.vec.summ ++ [⟨e, c.clock + 8⟩], freeC := c.beat + 1 } }

def applyRes (c : Core) (r : Res VOut) : Res Core := r.bind (fun x => .ok (c.applyOut x))

/-- The VEC slot with effective fields (R124, R148). -/
def Core.issueVec (c : Core) (v : Nat) (envOk : Nat → Option Nat) (o : VOp) : Res Core :=
  if o.vop < 0x20 then applyRes c (vecElementwise c v o)
  else if o.vop < 0x25 then applyRes c (vecCompare c o)
  else if o.vop = 0x28 then applyRes c (vecSelect c o)
  else if o.vop = 0x30 then applyRes c (vecConvert c v o)
  else if 0x38 ≤ o.vop ∧ o.vop ≤ 0x41 then applyRes c (vecSpecial c v o)
  else if 0x48 ≤ o.vop ∧ o.vop ≤ 0x4A then applyRes c (vecReduce c o)
  else if o.vop = 0x50 ∨ o.vop = 0x51 then applyRes c (vecPack c o)
  else if o.vop = 0x52 then c.compressQ envOk o
  else if o.vop = 0x53 then c.expandQ o
  else if o.vop = 0x54 then c.flushOq envOk o
  else if o.vop = 0x58 then c.summ o
  else .event 0x1203 0

end Sys2Proof.Machine
end

