-- ==== Sys2Proof/Machine/VectorMove.lean ====
section
/-! DEFINITION. The vector moves of the VMOVE slot: loads, stores, sound pops, queue pops and pushes (R121 to R123,
R129, R130, R148). -/

namespace Sys2Proof.Machine

/-- The line index of a move: IMM + X[XREG], with the origin register for a store that asks for it (R148). -/
def moveIndex (c : Core) (o : VOp) (store : Bool) : Nat :=
  o.imm + (if store && bit o.aux 3 then (256 * c.vec.origCube + c.vec.origSlot) * 2 ^ (o.aux % 8) else 0)

/-- Issue a move's results and occupy its path (R149). -/
def Core.applyMove (c : Core) (ws : List (Nat × VTarget × VecData × BitVec 256)) (occ : Nat) : Core :=
  let c1 := c.addWrites ws
  { c1 with vec := { c1.vec with freeM := c.beat + occ } }

/-- LDC: an operand cache line into a register, ready at i + 2 (R121, R149). -/
def Core.ldc (c : Core) (o : VOp) : Res Core :=
  .ok (c.applyMove [(2, .reg o.vd, c.cacheLine (moveIndex c o false), BitVec.allOnes 256)] 1)

/-- STC: a register into an operand cache line at the end of beat i + 1 (R121, R149). -/
def Core.stc (c : Core) (o : VOp) : Res Core :=
  .ok (c.applyMove [(2, .cache (moveIndex c o true), c.vreg o.va, BitVec.allOnes 256)] 1)

/-- LDT: tile memory lines T and T + 1 into a register (R148). -/
def Core.ldt (c : Core) (o : VOp) : Res Core :=
  let t := moveIndex c o false
  .ok (c.applyMove [(2, .reg o.vd, twoLines (c.tileLine t).data (c.tileLine (t + 1)).data, BitVec.allOnes 256)] 1)

/-- STT: a register into tile memory lines T and T + 1 with tag FMT, and for an MX tag the sidecars of VB (R123, R148). -/
def Core.stt (c : Core) (o : VOp) : Res Core :=
  let s := (c.vreg o.vb).toNat
  let s0 : BitVec 64 := if o.fmt.isMx then BitVec.ofNat 64 s else 0
  let s1 : BitVec 64 := if o.fmt.isMx then BitVec.ofNat 64 (s / 2 ^ 64) else 0
  .ok (c.applyMove [(2, .tile (moveIndex c o true) (BitVec.ofNat 4 o.fmt.tag) s0 s1, c.vreg o.va, BitVec.allOnes 256)] 1)

/-- Take the head of the sound: its origin is kept and its space is free at the end of the last of the pop's `occ` beats; it
has entered before this beat (R130). -/
def Core.popSound (c : Core) (d : DrainTile) (occ : Nat) : Core :=
  { c with row := { c.row with sound := c.row.sound.tail, entryAt := min (entryBeat c.row.entryAt [d]) c.beat
                               freeing := c.row.freeing ++ [(c.beat + occ - 1, d.bytes)] }
           vec := { c.vec with origCube := d.cube, origSlot := d.slot } }

/-- The vectors SPOP.W delivers, widened exactly; none where the form does not take the tag (Table 6 of spec/04). -/
def widenTile (d : DrainTile) : Option (List VecData) :=
  let f := Fmt.ofTag d.tag.toNat
  let es := splitBits f.width 64 d.data
  match f with
  | .fp32 | .bf16 | .fp16 | .e4m3 | .e5m2 =>
    some [BitVec.ofNat 2048 (joinBits 32 (es.map (fun x => ((Fmt.fp32).write .rne 0 false (f.decode x)).1)))]
  | .int32 | .int16 | .int8 =>
    some [BitVec.ofNat 2048 (joinBits 32 (es.map (fun x => wrapInt 32 (sext f.width x))))]
  | .fp64 => some [BitVec.ofNat 2048 d.data, BitVec.ofNat 2048 (d.data / 2 ^ 2048)]
  | _ => none

/-- Deliver vectors to consecutive registers, one per beat (R129, R149). -/
def Core.deliver (c : Core) (d : DrainTile) (vd : Nat) (vs : List VecData) : Core :=
  let occ := vs.length
  let ws := (List.range occ).map (fun k =>
    (occ + 1, VTarget.reg ((vd + k) % 32), vs.getD k 0, BitVec.allOnes 256))
  (c.popSound d occ).applyMove ws occ

/-- SPOP.W: the head entry widened to FP32, INT32 or FP64 vectors (R129). -/
def Core.spopW (c : Core) (o : VOp) : Res Core :=
  match c.row.sound with
  | [] => .wait .soundEmpty 0
  | d :: _ =>
    if d.tag.toNat ≠ o.fmt.tag then .event 0x1201 0
    else match widenTile d with
      | none => .event 0x1201 0
      | some vs => .ok (c.deliver d o.vd vs)

/-- SPOP.P: the head entry's bytes in order (R129). -/
def Core.spopP (c : Core) (o : VOp) : Res Core :=
  match c.row.sound with
  | [] => .wait .soundEmpty 0
  | d :: _ =>
    if d.tag.toNat ≠ o.fmt.tag then .event 0x1201 0
    else .ok (c.deliver d o.vd ((List.range ((d.bytes + 255) / 256)).map (fun k =>
      BitVec.ofNat 2048 (d.data / 2 ^ (2048 * k)))))

/-- QPOP: one 256-byte entry of an inbound queue into a register (R148). -/
def Core.qpop (c : Core) (o : VOp) : Res Core :=
  let n := o.aux % 16
  (c.headData n .queueEmpty).bind (fun e =>
    .ok ((c.popEntry n).applyMove [(2, .reg o.vd, twoLines (e.lines.headD 0) ((e.lines.drop 1).headD 0),
      BitVec.allOnes 256)] 1))

/-- QPUSH: one 256-byte entry with tag FMT and zero sidecars into an outbound queue (R148, R256). -/
def Core.qpush (c : Core) (envOk : Nat → Option Nat) (o : VOp) : Res Core :=
  (c.pushOq envOk o.aux (entryOf (c.vreg o.va) o.fmt o.fmt.count o.imm c.pushDue)).bind (fun c1 => .ok (c1.applyMove [] 1))

/-- The VMOVE slot with effective fields (R148). -/
def Core.issueMove (c : Core) (envOk : Nat → Option Nat) (o : VOp) : Res Core :=
  match o.vop with
  | 0x80 => c.ldc o
  | 0x81 => c.stc o
  | 0x82 => c.ldt o
  | 0x83 => c.stt o
  | 0x84 => c.spopW o
  | 0x85 => c.spopP o
  | 0x86 => c.qpop o
  | 0x87 => c.qpush envOk o
  | _ => .event 0x1203 0

end Sys2Proof.Machine
end

