-- ==== Sys2Proof/Machine/Stream.lean ====
section
/-! DEFINITION. Stream operations: descriptors, address arithmetic, acceptance checks, expansion into transactions,
conversion on the way, queue reservation, fences over them and CANCEL (spec/06, R248 to R251, R527). -/

namespace Sys2Proof.Machine

/-! ## Descriptor fields (Table 1 of spec/06) -/

def dBits (d : BitVec 768) (lo n : Nat) : Nat := bits d.toNat lo n
def dKind (d : BitVec 768) : Nat := dBits d 766 2
def dDkind (d : BitVec 768) : Nat := dBits d 764 2
def dSfmt (d : BitVec 768) : Fmt := Fmt.ofTag (dBits d 760 4)
def dDfmt (d : BitVec 768) : Fmt := Fmt.ofTag (dBits d 756 4)
def dMode (d : BitVec 768) : RMode := (RMode.ofCode (dBits d 753 3)).getD .rne
def dSat (d : BitVec 768) : Bool := !bit d.toNat 752
def dNdim (d : BitVec 768) : Nat := dBits d 749 3
def dPsk (d : BitVec 768) : Bool := bit d.toNat 748
def dCount (d : BitVec 768) (i : Nat) : Nat := dBits d (576 + 16 * i) 16
def dStride (d : BitVec 768) (i : Nat) : Int := sext 32 (dBits d (384 + 32 * i) 32)
def dIscale (d : BitVec 768) : Int := sext 32 (dBits d 352 32)
def dDscale (d : BitVec 768) : Nat := dBits d 336 16
def dPstr (d : BitVec 768) : Nat := dBits d 320 16
def dSbase (d : BitVec 768) : Nat := dBits d 256 64
def dBhi (d : BitVec 768) : Nat := dBits d 192 64
def dBlo (d : BitVec 768) : Nat := dBits d 128 64
def dDest (d : BitVec 768) : Nat := dBits d 64 64
def dBase (d : BitVec 768) : Nat := dBits d 0 64

/-- The format of the memory side that the descriptor's strides walk: SFMT for FETCH and MOVE, DFMT for PUT (R174). -/
def dMemFmt (d : BitVec 768) : Fmt := if dKind d = 2 then dDfmt d else dSfmt d

/-- Bytes of one step of dimension 0: an element, or a byte of two elements for 4-bit formats (R174, R175). -/
def itemBytes (f : Fmt) : Nat := max 1 (f.width / 8)

/-- Elements of one step of dimension 0. -/
def itemElems (f : Fmt) : Nat := if f.width = 4 then 2 else 1

/-- The counts with the outermost replaced by X[CREG] when CREG is not X0 (R174). -/
def dCounts (d : BitVec 768) (creg xc : Nat) : List Nat :=
  (List.range (dNdim d)).map (fun i => if creg ≠ 0 ∧ i + 1 = dNdim d then xc else dCount d i)

/-- Every address visited, dimension 0 fastest, modulo 2^64 (R174). -/
def addrList : List (Nat × Int) → Int → List Nat
  | [], a => [wrapInt 64 a]
  | (n, st) :: dims, a => (List.range n).flatMap (fun (i : Nat) => addrList dims (a + (i : Int) * st))

/-- Dimensions of a descriptor, outermost first, with their counts. -/
def dDims (d : BitVec 768) (counts : List Nat) : List (Nat × Int) :=
  ((List.range counts.length).map (fun i => (counts.getD i 0, dStride d i))).reverse

/-- The lowest and highest byte that a walk touches, before any wrapping; none where it touches nothing (R184). -/
def walkSpan (dims : List (Nat × Int)) (start : Int) (isz : Nat) : Option (Int × Int) :=
  if dims.any (fun p => p.1 = 0) then none
  else
    let lo := dims.foldl (fun a p => if p.2 < 0 then a + ((p.1 : Int) - 1) * p.2 else a) start
    let hi := dims.foldl (fun a p => if p.2 < 0 then a else a + ((p.1 : Int) - 1) * p.2) start
    some (lo, hi + isz - 1)

/-! ## What an operation visits -/

def StreamOp.items (o : StreamOp) : List Nat := addrList (dDims o.word o.counts) (o.base : Int)

def StreamOp.nItems (o : StreamOp) : Nat := o.counts.foldl (· * ·) 1

/-- Elements of the whole operation. -/
def StreamOp.total (o : StreamOp) : Nat := o.nItems * itemElems (dMemFmt o.word)

/-- The shift of the scale address: 4 for tag 0x9, 5 for tags 0x7 and 0x8 (R178). -/
def scaleShift (f : Fmt) : Nat := if f = .mxE2M1 then 4 else 5

/-- The program address of the scale of the byte at address a, from memory-side start S (R178). -/
def scaleAddr (d : BitVec 768) (f : Fmt) (s a : Nat) : Nat :=
  wrapInt 64 ((dSbase d : Int) + wrapInt 64 ((a : Int) - s) / (2 ^ scaleShift f : Nat))

/-- The byte spots (position, address) of the memory side that the strides walk, in element order, the scale byte of an item after
its data (R172). Positions of scale bytes follow those of all data. -/
def StreamOp.walkSpots (o : StreamOp) : List (Nat × Nat) :=
  let f := dMemFmt o.word
  let isz := itemBytes f
  let its := o.items
  (List.range its.length).flatMap (fun (k : Nat) =>
    (List.range isz).map (fun (j : Nat) => (k * isz + j, wrapInt 64 (((its.getD k 0 : Nat) : Int) + (j : Int)))) ++
      (if f.isMx then [(its.length * isz + k, scaleAddr o.word f (dBase o.word) (its.getD k 0))] else []))

/-- The byte spots of a MOVE's target: elements packed in order from `first` (R174), then scales (R178). -/
def StreamOp.moveSpots (o : StreamOp) : List (Nat × Nat) :=
  let f := dDfmt o.word
  let n := (o.total * f.width + 7) / 8
  let at_ (k : Nat) : Nat := wrapInt 64 ((o.first + k : Nat) : Int)
  (List.range n).flatMap (fun k =>
    (k, at_ k) :: (if f.isMx then [(n + k, scaleAddr o.word f (dDest o.word) (at_ k))] else []))

/-- Add a spot to the transaction of its granule, or open one (R172: one transaction for each granule touched). -/
def addSpot (gs : List (Nat × List (Nat × Nat))) (s : Nat × Nat) : List (Nat × List (Nat × Nat)) :=
  match gs with
  | [] => [(s.2 / 1024, [s])]
  | (g, l) :: rest => if g = s.2 / 1024 then (g, l ++ [s]) :: rest else (g, l) :: addSpot rest s

/-- Transactions from spots, numbered from `id` on, in the element order of the first byte that each carries. Writes of MX data go in
the order of the last, since a granule of scales is whole only with the last of its blocks (R172; DEDUCED 47). -/
def mkTxns (id : Nat) (write mx : Bool) (spots : List (Nat × Nat)) : List Txn :=
  let gs := if write && mx then ((spots.reverse.foldl addSpot []).reverse.map (fun g => (g.1, g.2.reverse))) else spots.foldl addSpot []
  (List.range gs.length).map (fun i => ⟨id + i, write, (gs.getD i (0, [])).2, 0, 0, [], 0, false, false⟩)

/-! ## Acceptance (R171, R174, R184) -/

/-- The core-side first line, queue or target of an operation (R174, R176). -/
def dFirst (d : BitVec 768) (xb : Nat) : Nat :=
  if dKind d = 3 then wrapInt 64 ((dDest d : Int) + (xb : Int) * dIscale d)
  else if dDkind d = 0 then dDest d % 16
  else if dDkind d = 1 then dDest d % 32768 + xb * dDscale d
  else dDest d % 4096 + xb * dDscale d

/-- The effective start: BASE + OFF × esz + X[BREG] × ISCALE (R174, R175). -/
def dStart (d : BitVec 768) (off : Int) (xb : Nat) : Nat :=
  wrapInt 64 ((dBase d : Int) + off * (dMemFmt d).width / 8 + (xb : Int) * dIscale d)

/-- The operation a STREAM syllable starts (R150, R174, R176), before it is given transactions. -/
def Core.streamOp (c : Core) (i : SeqId) (w : BitVec 64) : StreamOp :=
  let x := w.toNat
  let q := c.seq i
  let d := Sparse.get 0 c.img.descs (bits x 48 8 % c.limit 256)
  let xb := q.getX (bits x 44 4)
  let creg := bits x 40 4
  { id := c.nextOp, seq := i, desc := bits x 48 8, word := d, kind := dKind d
    base := dStart d (sext 32 (bits x 0 32)) xb, counts := dCounts d creg (q.getX creg), first := dFirst d xb
    label := 0, txns := [], units := 0, reserved := 0, out := [], outScales := [], taken := 0, flags := 0
    cancelled := false, beat := if i = .access ∧ c.img.split = true then q.addr else c.beat }

/-- Data intervals and scale intervals an operation touches (R184). -/
def StreamOp.spans (o : StreamOp) : List (Int × Int) × List (Int × Int) :=
  let d := o.word
  let f := dMemFmt d
  match walkSpan (dDims d o.counts) o.base (itemBytes f) with
  | none => ([], [])
  | some (lo, hi) =>
    let n := (o.total * (dDfmt d).width + 7) / 8
    let tgt : List (Int × Int) := if o.kind = 3 then [((o.first : Int), (o.first : Int) + n - 1)] else []
    let at_ (g : Fmt) (s : Nat) (a : Int) : Int := (scaleAddr d g s (wrapInt 64 a) : Nat)
    -- the shift is of a value modulo 2^64: an interval that begins below the start touches scales at both ends
    let sc (g : Fmt) (s : Nat) (p : Int × Int) : List (Int × Int) :=
      if p.1 < s ∧ (s : Int) ≤ p.2 then [(at_ g s p.1, at_ g s ((s : Int) - 1)), (at_ g s s, at_ g s p.2)]
      else [(at_ g s p.1, at_ g s p.2)]
    let s1 := if f.isMx then sc f (dBase d) (lo, hi) else []
    let s2 := if o.kind = 3 ∧ (dDfmt d).isMx then tgt.flatMap (sc (dDfmt d) (dDest d)) else []
    ((lo, hi) :: tgt, s1 ++ s2)

/-- The refusal of an operation at acceptance: 0x2101 outside its bounds, 0x2102 outside owned memory (R184). -/
def StreamOp.refusal (o : StreamOp) (owned : Nat → Nat → Bool) : Option Nat :=
  let (ds, ss) := o.spans
  if ds.any (fun p => p.1 < (dBlo o.word : Int) || (dBhi o.word : Int) ≤ p.2) then some 0x2101
  else if (ds ++ ss).any (fun p => p.1 < 0 || p.2 < p.1 || !owned p.1.toNat p.2.toNat) then some 0x2102
  else none

/-- Operations that count against the limit of R171. -/
def Core.outstandingOps (c : Core) : Nat := (c.ops.filter (fun o => o.kind ≤ 3)).length

/-- A STREAM slot: accept, wait under STREAM_ACCEPT, or refuse (R151, R171, R184). -/
def Core.acceptStream (c : Core) (i : SeqId) (owned : Nat → Nat → Bool) (w : BitVec 64) : Res Core :=
  if c.maxOps ≤ c.outstandingOps then .wait .streamAccept 0
  else
    let o := c.streamOp i w
    match o.refusal owned with
    | some e => .event e (bits w.toNat 48 8)
    | none =>
      if o.nItems = 0 then .ok { c with nextOp := c.nextOp + 1 }
      else
        let t1 := mkTxns c.nextTxn (o.kind == 2) (dMemFmt o.word).isMx o.walkSpots
        let t2 := if o.kind = 3 then mkTxns (c.nextTxn + t1.length) true (dDfmt o.word).isMx o.moveSpots else []
        .ok { c with
          ops := c.ops ++ [{ o with txns := t1 ++ t2 }]
          nextOp := c.nextOp + 1
          nextTxn := c.nextTxn + t1.length + t2.length
          outst := c.outst ++ [⟨c.nextOp, i, 0⟩] }

/-! ## Conversion of a run of elements (R177, R178) -/

/-- Convert blocks of 32 values into an MX format, the last block padded with zeros. -/
def mxRun (f : Fmt) (mode : RMode) : Nat → List Val → List Nat × List Nat × Flags
  | 0, _ => ([], [], 0)
  | n + 1, vs =>
    if vs.isEmpty then ([], [], 0)
    else
      let blk := vs.take 32
      let pad := blk ++ List.replicate (32 - blk.length) (.fin false 0 0)
      let (s, es, fl) := mxBlock f mode (pad.map (fun v => (v, 0)))
      let (ss, rest, fl') := mxRun f mode n (vs.drop 32)
      (s :: ss, es.take blk.length ++ rest, fl ||| fl')

/-- Elements with their scale bytes, converted from one format to another: elements out, the scale byte of each
element out, and flags. Equal tags and tags 0xE and 0xF move bits unchanged (R54, R177). -/
def convertRun (src dst : Fmt) (mode : RMode) (sat : Bool) (es : List (Nat × Nat)) : List Nat × List Nat × Flags :=
  if src = dst then (es.map Prod.fst, es.map Prod.snd, 0)
  else
    let vals := es.map (fun p => if src.isMx then src.decodeScaled p.1 p.2 else src.decode p.1)
    if dst.isMx then
      let (ss, xs, fl) := mxRun dst mode (es.length / 32 + 1) vals
      (xs, (List.range es.length).map (fun k => ss.getD (k / 32) 0), fl)
    else
      let rs := vals.map (convertVal dst mode 0 sat)
      (rs.map Prod.fst, rs.map (fun _ => 0), rs.foldl (fun a r => a ||| r.2) 0)

/-! ## Source bytes in hand -/

/-- The byte at a position of the memory side that has arrived. -/
def StreamOp.arrived (o : StreamOp) (p : Nat) : Option Byte :=
  (o.txns.filter (fun t => !t.write && t.state == 3)).findSome? (fun t =>
    ((List.zip t.spots t.data).find? (fun s => s.1.1 == p)).map Prod.snd)

/-- Elements [lo, hi) of a FETCH or MOVE as read from memory, with their scales; none while bytes are missing. -/
def StreamOp.memElems (o : StreamOp) (lo hi : Nat) : Option (List (Nat × Nat)) :=
  let f := dSfmt o.word
  let isz := itemBytes f
  let nData := o.nItems * isz
  (List.range (hi - lo)).mapM (fun k =>
    let e := lo + k
    let item := e / itemElems f
    (((List.range isz).mapM (fun j => o.arrived (item * isz + j))).map ofBytes).bind (fun x =>
      let v := if f.width = 4 then bits x (4 * (e % 2)) 4 else x
      if f.isMx then (o.arrived (nData + item)).map (fun s => (v, s.toNat)) else some (v, 0)))

/-! ## A FETCH's destination (R176, R178) -/

/-- Bytes of one destination unit: a tile line, a cache line or a queue entry. -/
def Core.unitBytes (c : Core) (o : StreamOp) : Nat :=
  if dDkind o.word = 0 then 128 * (c.queue (if o.kind = 2 then 16 + o.first else o.first)).elines
  else if dDkind o.word = 1 then 128 else 256

/-- Elements of one destination unit in the destination format. -/
def Core.unitElems (c : Core) (o : StreamOp) : Nat := c.unitBytes o * 8 / (dDfmt o.word).width

/-- Units that a FETCH writes. -/
def Core.nUnits (c : Core) (o : StreamOp) : Nat := (o.total + c.unitElems o - 1) / c.unitElems o

/-- The tile memory index of unit k: consecutive, or at the pre-skewed places (R176). -/
def StreamOp.tileIndex (o : StreamOp) (k : Nat) : Nat :=
  if dPsk o.word then o.first + dPstr o.word * (k / 16) + 65 * (k % 16) else o.first + k

/-- The sidecar of the 128-byte line `l` of a unit: byte r is the scale of the element at byte 16r (R178). -/
def sidecarOf (f : Fmt) (scales : List Nat) (l : Nat) : BitVec 64 :=
  if f.isMx then
    BitVec.ofNat 64 (joinBits 8 ((List.range 8).map (fun r => scales.getD ((128 * l + 16 * r) * 8 / f.width) 0)))
  else 0

/-- Write unit k of a FETCH: the tile or cache line, or the queue entry with its header (R155, R176, R195). -/
def Core.writeUnit (c : Core) (o : StreamOp) (k : Nat) (es : List (Nat × Nat)) : Core × Flags :=
  let d := o.word
  let f := dDfmt d
  let (xs, ss, fl) := convertRun (dSfmt d) f (dMode d) (dSat d) es
  let all := joinBits f.width xs
  if dDkind d = 1 then
    (c.setTileLine (o.tileIndex k) ⟨BitVec.ofNat 1024 all, BitVec.ofNat 4 f.tag, sidecarOf f ss 0⟩, fl)
  else if dDkind d = 2 then (c.setCacheLine (o.first + k) (BitVec.ofNat 2048 all), fl)
  else
    let q := c.queue o.first
    let n := q.elines
    let e : QEntry :=
      { lines := (List.range n).map (fun l => BitVec.ofNat 1024 (all / 2 ^ (1024 * l)))
        sides := (List.range n).map (sidecarOf f ss)
        tag := BitVec.ofNat 4 f.tag, count := es.length, mark := none, flags := fl, env := 0, op := 0, sent := false, due := 0 }
    (c.setQueue o.first { q with entries := q.entries ++ [e], resv := q.resv - 1, pushed := q.pushed + 1 }, 0)

/-- Replace an operation by its number. -/
def Core.setOp (c : Core) (o : StreamOp) : Core :=
  { c with ops := c.ops.map (fun p => if p.id = o.id then o else p) }

def Core.op? (c : Core) (id : Nat) : Option StreamOp := c.ops.find? (fun o => o.id == id)

/-- Whether an earlier operation still has entries to enter into the same inbound queue (R156, R527). -/
def Core.earlierInto (c : Core) (o : StreamOp) : Bool :=
  c.ops.any (fun p => p.id < o.id && !p.cancelled && p.first == o.first &&
    ((p.kind == 1 && dDkind p.word == 0) || p.kind == 4))

/-- Write every unit whose bytes have all arrived, in ascending order (R176), at most `fuel`. -/
def Core.pourUnits : Nat → Core → Nat → Core
  | 0, c, _ => c
  | fuel + 1, c, id =>
    match c.op? id with
    | none => c
    | some o =>
      if o.kind ≠ 1 ∨ o.cancelled ∨ c.nUnits o ≤ o.units ∨ (dDkind o.word = 0 && c.earlierInto o) then c
      else
        let n := c.unitElems o
        match o.memElems (o.units * n) (min o.total ((o.units + 1) * n)) with
        | none => c
        | some es =>
          let (c1, fl) := c.writeUnit o o.units es
          Core.pourUnits fuel (c1.setOp { o with units := o.units + 1, flags := o.flags ||| fl }) id

/-- Whether an operation has finished (R171, R198). -/
def Core.opFinished (c : Core) (o : StreamOp) : Bool :=
  decide (o.kind ≤ 3) && o.txns.all (fun t => t.state == 3) && (o.cancelled || o.kind != 1 || c.nUnits o ≤ o.units)

/-- Retire a finished operation: it is outstanding no more, and its flags wait for a fence, or enter ARSTAT at once where the core's
own run has ended before it (R171, R195). -/
def Core.retireOp (c : Core) (id : Nat) : Core :=
  match c.op? id with
  | none => c
  | some o =>
    if c.opFinished o then
      let late := c.traceEnd && c.pilot.finished
      { c with
        ops := c.ops.filter (fun p => p.id ≠ id)
        outst := c.outst.filter (fun p => p.id ≠ id)
        heldFlags := if late ∨ o.flags = 0 ∨ o.cancelled then c.heldFlags
                     else c.heldFlags ++ [⟨o.id, o.seq, o.flags, [], false⟩]
        arstat := (c.raise c.beat (if late ∧ !o.cancelled then o.flags else 0)).arstat }
    else c

/-- Pour and retire every operation, in issue order: an earlier operation's end lets a later one enter (R156). -/
def Core.settleOps (c : Core) : Core :=
  c.ops.foldl (fun c1 o => (Core.pourUnits (c1.nUnits o + 1) c1 o.id).retireOp o.id) c

/-! ## A PUT's source (R176, R178) -/

/-- Source elements of a unit in hand, as (bits, scale). -/
def unitSource (f : Fmt) (bytes : Nat) (all : Nat) (sides : List (BitVec 64)) : List (Nat × Nat) :=
  let es := splitBits f.width (bytes * 8 / f.width) all
  (List.range es.length).map (fun k =>
    let byte := k * f.width / 8
    (es.getD k 0, bits ((sides.getD (byte / 128) 0).toNat) (8 * (byte % 128 / 16)) 8))

/-- A PUT takes its next source unit (R176): its elements are added to those in hand. Tag and marker checks by R158
and R202. `out` holds element values, `outScales` their scales, one list entry of 8 bytes each to the element. -/
def Core.takeSource (c : Core) (o : StreamOp) : Res (Core × StreamOp × List (Nat × Nat)) :=
  let d := o.word
  let f := dSfmt d
  let bad (t : BitVec 4) : Bool := f != .raw && t.toNat != f.tag
  if dDkind d = 1 then
    let l := c.tileLine (o.tileIndex o.taken)
    if bad l.tag then .event 0x2103 o.desc
    else .ok (c, { o with taken := o.taken + 1 }, unitSource f 128 l.data.toNat [l.side])
  else if dDkind d = 2 then
    .ok (c, { o with taken := o.taken + 1 }, unitSource f 256 (c.cacheLine (o.first + o.taken)).toNat [])
  else
    let n := 16 + o.first
    match (c.queue n).entries with
    | [] => .wait .queueEmpty n
    | e :: _ =>
      if !c.inQueue e then .wait .queueEmpty n
      else if e.mark.isSome then .event 0x1303 n
      else if bad e.tag then .event 0x2103 o.desc
      else
        let es := unitSource f (128 * e.lines.length) (joinBits 1024 (e.lines.map (·.toNat))) e.sides
        let q := c.queue n
        .ok ((c.setQueue n { q with entries := q.entries.tail, popped := q.popped + 1 }).raise c.beat e.flags,
          { o with taken := o.taken + 1 }, es.take e.count)

/-- Elements in hand, packed eight bytes each in `out` with one scale byte each in `outScales`. -/
def StreamOp.inHand (o : StreamOp) : List (Nat × Nat) :=
  (List.range o.outScales.length).map (fun k => (ofBytes ((o.out.drop (8 * k)).take 8), (o.outScales.getD k 0).toNat))

def StreamOp.addInHand (o : StreamOp) (es : List (Nat × Nat)) : StreamOp :=
  { o with out := o.out ++ es.flatMap (fun p => toBytes 8 p.1)
           outScales := o.outScales ++ es.map (fun p => BitVec.ofNat 8 p.2) }

/-- Take source units until n elements are in hand, or until there is none to take. -/
def Core.gather : Nat → Core → StreamOp → Nat → Res (Core × StreamOp)
  | 0, c, o, _ => .ok (c, o)
  | fuel + 1, c, o, n =>
    if n ≤ o.outScales.length then .ok (c, o)
    else match c.takeSource o with
      | .ok r => if r.2.2.isEmpty then Core.gather fuel r.1 r.2.1 n else Core.gather fuel r.1 (r.2.1.addInHand r.2.2) n
      | .wait _ _ => .ok (c, o)
      | .event e x => .event e x

/-- The last element (exclusive) whose bytes a write transaction carries, whole MX blocks included. -/
def StreamOp.needed (o : StreamOp) (t : Txn) : Nat :=
  let f := dDfmt o.word
  let n := (o.total * f.width + 7) / 8
  let last := t.spots.foldl (fun a s => max a (if s.1 < n then s.1 + 1 else s.1 - n + 1)) 0
  let e := last * 8 / f.width + (if last * 8 % f.width = 0 then 0 else 1)
  min o.total (if f.isMx ∧ dSfmt o.word ≠ f then (e + 31) / 32 * 32 else e)

/-- The bytes a write transaction carries, from the elements in hand, and conversion flags (R177, R178). A block that is converted
into MX is converted whole, padded with zeros only at the operation's end (R79). -/
def StreamOp.writeBytes (o : StreamOp) (t : Txn) (es : List (Nat × Nat)) : List Byte × Flags :=
  let f := dDfmt o.word
  let whole := if f.isMx ∧ dSfmt o.word ≠ f ∧ es.length < o.total then es.take (es.length / 32 * 32) else es
  let (xs, ss, fl) := convertRun (dSfmt o.word) f (dMode o.word) (dSat o.word) whole
  let n := (o.total * f.width + 7) / 8
  let packed := joinBits f.width xs
  (t.spots.map (fun s =>
    if s.1 < n then BitVec.ofNat 8 (packed / 2 ^ (8 * s.1))
    else BitVec.ofNat 8 (ss.getD ((s.1 - n) * 8 / f.width) 0)), fl)

/-! ## Release (R192) -/

/-- Transactions of a core released and not finished. -/
def Core.inFlight (c : Core) : Nat :=
  (c.ops.map (fun o => (o.txns.filter (fun t => t.state = 1 ∨ t.state = 2 ∨ t.state = 4)).length)).sum

/-- TXMAX, at most the per-context limit (R192, R317). -/
def Core.txMax (c : Core) : Nat := min (bits c.csr.narcfg.toNat 0 8) (c.limit 192)

/-- NLEAD: revolutions of lead (Table 5 of spec/06). -/
def Core.nLead (c : Core) : Nat := bits c.csr.narcfg.toNat 10 2 + 1

/-- Whether a posted fence of the operation's sequencer holds operations of a class issued after it (R250). -/
def Core.fenceHolds (c : Core) (i : SeqId) (cls id : Nat) : Bool :=
  c.fences.any (fun f => f.seq == i && f.cutoff ≤ id &&
    (match cls with | 0 => f.mem | 1 => f.reef | _ => f.msg))

/-- Whether a CANCEL under way holds a FETCH issued after it (R199). -/
def Core.cancelBlocks (c : Core) (o : StreamOp) : Bool :=
  o.kind == 1 && dDkind o.word == 0 && !o.cancelled && c.cancels.any (fun k => bit k.mask o.first && !k.ops.contains o.id)

/-- Entries of the queue that a FETCH's transaction falls in, counted from the operation's first (R192 rule 3). A granule of scales
reserves up to the entry of its first scale alone: the rest wait beside the engine for their entries (DEDUCED 47). -/
def Core.entriesNeeded (c : Core) (o : StreamOp) (t : Txn) : Nat :=
  let f := dSfmt o.word
  let isz := itemBytes f
  let nData := o.nItems * isz
  let firstScale := ((t.spots.find? (fun s => nData ≤ s.1)).map (fun s => s.1 - nData)).getD 0
  let last := t.spots.foldl (fun a s => if s.1 < nData then max a (s.1 / isz) else a) firstScale
  (last * itemElems f + itemElems f - 1) / c.unitElems o + 1

/-- Whether an operation enters an inbound queue and has entries of it still to reserve: a FETCH, or a QMARK (R192, R527). -/
def Core.unreserved (c : Core) (p : StreamOp) : Bool :=
  !p.cancelled && ((p.kind == 1 && dDkind p.word == 0 && decide (p.reserved < c.nUnits p)) || (p.kind == 4 && p.reserved == 0))

/-- Each QMARK on queue n that is next in order reserves its entry as a FETCH does, where one is free (R527). -/
def Core.reserveMarks (c : Core) (n : Nat) : Core :=
  c.ops.foldl (fun (a : Core) p =>
    if p.kind = 4 ∧ p.first = n ∧ p.reserved = 0 ∧ 0 < (a.queue n).room ∧
        (a.ops.any (fun x => decide (x.id < p.id) && x.first == n && a.unreserved x)) = false then
      (a.setQueue n { a.queue n with resv := (a.queue n).resv + 1 }).setOp { p with reserved := 1 }
    else a) c

/-- Reserve queue entries for a transaction; none while there is no room or an earlier operation is not yet whole. -/
def Core.reserve (c0 : Core) (o : StreamOp) (t : Txn) : Option (Core × StreamOp) :=
  if o.kind = 1 ∧ dDkind o.word = 0 then
    let c := c0.reserveMarks o.first
    let need := c.entriesNeeded o t - o.reserved
    let before := c.ops.any (fun p => decide (p.id < o.id) && p.first == o.first && c.unreserved p)
    let q := c.queue o.first
    if need = 0 then some (c, o)
    else if before ∨ q.room < need then none
    else some (c.setQueue o.first { q with resv := q.resv + need }, { o with reserved := o.reserved + need })
  else some (c0, o)

/-- Bytes of a transaction: those of its granule that it carries. -/
def Txn.bytes (t : Txn) : Nat := min 1024 t.spots.length

/-- Bytes a MOVE holds in the transit buffer: those read, less the share of them that has been written (R170, R192 rule 4). -/
def Core.transitBytes (c : Core) : Nat :=
  (c.ops.filter (fun o => o.kind = 3)).foldl (fun a o =>
    let sum (p : Txn → Bool) : Nat := ((o.txns.filter p).map Txn.bytes).sum
    let r := sum (fun t => !t.write && t.state != 0)
    let w := sum (fun t => t.write && t.state == 3)
    a + (r - w * sum (fun t => !t.write) / max 1 (sum (fun t => t.write)))) 0

/-- Whether an earlier PUT or QMATCH still has entries of the same outbound queue to take (R156, R527). -/
def Core.earlierFrom (c : Core) (o : StreamOp) : Bool :=
  c.ops.any (fun p => p.id < o.id && p.first == o.first &&
    ((p.kind == 2 && dDkind p.word == 0 && p.outScales.length < p.total) || p.kind == 5))

/-- Prepare the next waiting transaction of an operation for release: its reservation, or the bytes it writes. A PUT that finds
fewer entries than the transaction needs takes those there are, and no transaction is released yet (R176). -/
def Core.prepare (c : Core) (o : StreamOp) (t : Txn) : Res (Core × StreamOp × Option Txn) :=
  if !t.write then
    if o.kind = 3 ∧ 16384 < c.transitBytes + t.bytes then .wait .busy 0
    else match c.reserve o t with
      | none => .wait .busy 0
      | some (c1, o1) => .ok (c1, o1, some t)
  else if o.kind = 2 then
    if dDkind o.word = 0 && c.earlierFrom o then .wait .queueEmpty (16 + o.first)
    else (Core.gather (o.total + c.unitElems o + 1) c o (o.needed t)).bind (fun r =>
      if r.2.outScales.length < o.needed t then
        if r.2.taken = o.taken then .wait .queueEmpty (16 + o.first) else .ok (r.1, r.2, none)
      else
        let (bs, fl) := r.2.writeBytes t (r.2.inHand.take o.total)
        .ok (r.1, { r.2 with flags := r.2.flags ||| fl }, some { t with data := bs }))
  else
    match o.memElems 0 (o.needed t) with
    | none => .wait .busy 0
    | some es =>
      let (bs, fl) := o.writeBytes t es
      .ok (c, { o with flags := o.flags ||| fl }, some { t with data := bs })

/-- The next transaction of an operation to release: element order, reads of a MOVE before its writes (R172). -/
def StreamOp.nextTxn (o : StreamOp) : Option Txn :=
  match o.txns.find? (fun t => t.state == 0 && !t.write) with
  | some t =>
    -- a MOVE may write what has arrived before its later reads are released
    if o.kind = 3 then
      match o.txns.find? (fun u => u.state == 0 && u.write) with
      | some u => if (o.memElems 0 (o.needed u)).isSome then some u else some t
      | none => some t
    else some t
  | none => o.txns.find? (fun t => t.state == 0)

/-- Mark a transaction released with its stamp (R187: served in release order). -/
def Core.markReleased (c : Core) (o : StreamOp) (t : Txn) (stamp : Nat) : Core :=
  c.setOp { o with txns := o.txns.map (fun u => if u.id = t.id then { t with state := 1, stamp := stamp } else u) }

/-! ## Markers of the stream engine (R527) -/

/-- STREAM_QMARK: the first waiting marker of an inbound queue enters in issue order, when an entry is free. -/
def Core.streamQmark (c : Core) (n : Nat) : Core :=
  match c.ops.find? (fun o => o.kind == 4 && o.first == n) with
  | none => c
  | some o =>
    let q := c.queue n
    if c.earlierInto o ∨ (o.reserved = 0 ∧ q.room = 0) ∨ c.cancels.any (fun k => bit k.mask n && !k.ops.contains o.id) then c
    else
      let e : QEntry := ⟨[], [], 0xF, 0, some o.label, 0, 0, 0, false, 0⟩
      ({ c.setQueue n { q with entries := q.entries ++ [e], resv := q.resv - o.reserved, pushed := q.pushed + 1 } with
          ops := c.ops.filter (fun p => p.id ≠ o.id) }).settleOps

/-- Check the head of a queue against a QMATCH label (R158): wait, 0x1302, 0x1304 or a pop. -/
def Core.matchHead (c : Core) (n : Nat) (label : BitVec 8) : Res Core :=
  match (c.queue n).entries with
  | [] => .wait .queueEmpty n
  | e :: _ =>
    if c.cancelHolds n then .wait .queueEmpty n
    else match e.mark with
      | none => .event 0x1302 n
      | some l => if l = label then .ok (c.popEntry n) else .event 0x1304 n

/-- STREAM_QMATCH: the first waiting QMATCH on an outbound queue checks its head in issue order (R527). -/
def Core.streamQmatch (c : Core) (n : Nat) : Res Core :=
  match c.ops.find? (fun o => o.kind == 5 && o.first == n) with
  | none => .wait .busy n
  | some o =>
    if c.earlierFrom o then .wait .queueEmpty (16 + n)
    else (c.matchHead (16 + n) o.label).bind (fun c1 => .ok { c1 with ops := c1.ops.filter (fun p => p.id ≠ o.id) })

/-! ## CANCEL (R197, R198) -/

/-- Cancel one FETCH: unserved transactions are discarded, served ones are dropped on arrival (R198). -/
def cancelOp (o : StreamOp) : StreamOp :=
  { o with cancelled := true
           txns := (o.txns.filter (fun t => t.state ≥ 2)).map (fun t => if t.state = 2 then { t with state := 4 } else t) }

/-- The discarding of a CANCEL: its FETCHes and the contents of its queues (R198). -/
def Core.cancel (c : Core) (mask : Nat) : Core :=
  let hit (o : StreamOp) : Bool := bit mask o.first && o.first < 16 && ((o.kind == 1 && dDkind o.word == 0) || o.kind == 4)
  let ids := (c.ops.filter hit).map (·.id)
  let ops := (c.ops.filter (fun o => !(hit o && o.kind == 4))).map (fun o => if hit o then cancelOp o else o)
  let c1 := (List.range 16).foldl (fun (a : Core) n =>
    if bit mask n then
      let q := a.queue n
      a.setQueue n { q with entries := [], resv := 0, taken := 0, popped := q.popped + q.entries.length }
    else a) { c with ops := ops }
  Core.settleOps { c1 with cancels := c1.cancels ++ [Cancelling.mk mask ids] }

/-- CANCEL_DISCARD_DONE: a cancel whose operations have all finished is done, and later fetches may release (R199). -/
def Core.cancelDone (c : Core) : Core :=
  { c with cancels := c.cancels.filter (fun k => k.ops.any (fun i => (c.op? i).isSome)) }

/-! ## Fences (R248 to R251) -/

/-- Whether a fence covers an outstanding member of its classes (R249). -/
def Fence.covers (f : Fence) (o : Outst) : Bool :=
  o.seq == f.seq && o.id < f.cutoff && (match o.cls with | 0 => f.mem | 1 => f.reef | _ => f.msg)

/-- Whether every operation a fence covers has finished. -/
def Core.fenceMet (c : Core) (f : Fence) : Bool := !c.outst.any f.covers

/-- Post a fence (R248, R250). -/
def Core.postFence (c : Core) (i : SeqId) (mem reef msg : Bool) (buoy : Option Nat) (wait : Bool) : Core :=
  { c with fences := c.fences ++ [⟨c.nextOp, i, mem, reef, msg, c.nextOp, buoy, wait⟩], nextOp := c.nextOp + 1 }

/-- The held flags that an execute-side FENCE with MEM and WAIT orders enter ARSTAT in its bundle's beat (R195, R251):
those of the execute sequencer's own earlier operations, and of access operations whose fence's buoy it has cleared. -/
def Core.orderFlags (c : Core) (cutoff : Nat) : Core :=
  let hit (h : HeldFlags) : Bool := (h.seq == .execute && h.id < cutoff) || h.ok
  let fl := (c.heldFlags.filter hit).foldl (fun a h => a ||| h.flags) (0 : Flags)
  ({ c with heldFlags := c.heldFlags.filter (fun h => !hit h) }).raise c.beat fl

end Sys2Proof.Machine
end

