-- ==== Sys2Proof/Machine/Sequencer.lean ====
section
/-! DEFINITION. Sequencers: bundles, the conditions under which a bundle issues, its slots, INC and its control
operation (R139 to R163, R240 to R254, R197, R352, R354). -/

namespace Sys2Proof.Machine

/-- What issue in a core needs to know of its lagoon: the virtual core number, the class (1 reef, 2 message) of a valid
envelope, which program addresses the lagoon owns, and which items have come to the end of their way through lanes. -/
structure Ctx where
  v     : Nat
  envOk : Nat → Option Nat
  owned : Nat → Nat → Bool
  home  : Nat → Bool

/-! ## Bundles (R143 to R145) -/

/-- A decoded bundle: the head's fields, the slots present and the number of syllables. -/
structure Bundle where
  kind : Nat
  cop  : Nat
  inc  : Nat
  carg : Nat
  m    : Option (BitVec 64)
  b    : Option (BitVec 64)
  v    : Option (BitVec 64)
  vm   : Option (BitVec 64)
  s0   : Option (BitVec 64)
  s1   : Option (BitVec 64)
  size : Nat
  deriving DecidableEq, Repr

/-- The slot whose presence bit is bit `p` of the head and which follows `n` stored slots. -/
def slotAt (prog : Sparse (BitVec 64)) (a h p n : Nat) : Option (BitVec 64) :=
  if bit h p then some (Sparse.get 0 prog (a + 1 + n)) else none

/-- The bundle whose head syllable is at address a (Table 1 of spec/05; only present slots are stored). -/
def bundleAt (prog : Sparse (BitVec 64)) (a : Nat) : Bundle :=
  let h := (Sparse.get 0 prog a).toNat
  let nM := b2n (bit h 54)
  let nB := nM + b2n (bit h 55)
  let nV := nB + b2n (bit h 56)
  let nVm := nV + b2n (bit h 57)
  let nS0 := nVm + b2n (bit h 58)
  { kind := bits h 60 4, cop := bits h 48 6, inc := bits h 32 16, carg := bits h 0 32
    m := slotAt prog a h 54 0, b := slotAt prog a h 55 nM, v := slotAt prog a h 56 nB, vm := slotAt prog a h 57 nV
    s0 := slotAt prog a h 58 nVm, s1 := slotAt prog a h 59 nS0
    size := 1 + nS0 + b2n (bit h 59) }

/-- The address after n bundles from a. -/
def skipBundles (prog : Sparse (BitVec 64)) : Nat → Nat → Nat
  | 0, a => a
  | n + 1, a => skipBundles prog n (a + (bundleAt prog a).size)

/-- Bundles of a kind that lie from a up to the target address (R141). -/
def countBundles (prog : Sparse (BitVec 64)) (kind target : Nat) : Nat → Nat → Nat
  | 0, _ => 0
  | fuel + 1, a =>
    if target ≤ a then 0
    else
      let b := bundleAt prog a
      (if b.kind = kind then 1 else 0) + countBundles prog kind target fuel (a + b.size)

/-- The kind of bundle the execute sequencer issues: execute in split mode, unified in unified mode (R139). -/
def Core.issueKind (c : Core) : Nat := if c.img.split then 1 else 3

/-- Whether an address lies in the resident library's core block (R529). -/
def Core.inLib (c : Core) (a : Nat) : Bool := c.img.libBase ≤ a

/-- The trace address: library or image code, and the ordinal among the bundles the execute sequencer issues (R141). -/
def Core.traceAddr (c : Core) (a : Nat) : Bool × Nat :=
  let base := if c.inLib a then c.img.libBase else c.img.progBase
  (c.inLib a, countBundles c.img.prog c.issueKind a (a - base) base)

/-- The bundle a sequencer stands at. -/
def Core.bundle (c : Core) (i : SeqId) : Bundle := bundleAt c.img.prog (c.seq i).addr

/-! ## Slots -/

/-- The work of one slot of a bundle (R140, R145). -/
inductive Slot where
  | matrix (w : BitVec 64)
  | bpath (w : BitVec 64)
  | vec (w : BitVec 64)
  | vmove (w : BitVec 64)
  | stream (w : BitVec 64)
  deriving DecidableEq, Repr

/-- The slots a bundle carries, in issue order: STREAM0 before STREAM1 (R143, R151). -/
def Bundle.slots (b : Bundle) : List Slot :=
  b.m.toList.map .matrix ++ b.b.toList.map .bpath ++ b.v.toList.map .vec ++ b.vm.toList.map .vmove ++
    b.s0.toList.map .stream ++ b.s1.toList.map .stream

/-- Issue one slot with the index registers of `q`, as they stood at the start of the issue (R146 to R150). -/
def Core.issueSlot (x : Ctx) (i : SeqId) (c : Core) : Slot → Res Core
  | .matrix w => c.issueMatrix (effMatrix c (c.seq i) w)
  | .bpath w => c.issueBpath (effBpath c (c.seq i) w)
  | .vec w => c.issueVec x.v x.envOk (VOp.ofSyl (effVec (c.seq i) w))
  | .vmove w => c.issueMove x.envOk (VOp.ofSyl (effVec (c.seq i) w))
  | .stream w => c.acceptStream i x.owned w

/-- Issue slots one after the other. -/
def Core.issueSlots (x : Ctx) (i : SeqId) (c : Core) (l : List Slot) : Res Core :=
  l.foldl (fun r s => r.bind (fun c1 => c1.issueSlot x i s)) (.ok c)

/-- The wait of one slot, if it cannot proceed (R140). -/
def Core.slotWait (x : Ctx) (i : SeqId) (c : Core) (s : Slot) : Option (WaitKind × Nat) :=
  match c.issueSlot x i s with
  | .wait k o => some (k, o)
  | _ => none

/-- The load units a slot charges, `d` being the core after the slot issued (Table 8 of spec/11). -/
def slotCharge (c d : Core) : Slot → Nat
  | .matrix w =>
    let rcw := BitVec.ofNat 32 w.toNat
    (maskedCubes rcw).length * (if rcwExact rcw then 8 else 4)
  | .vec _ => 16 * (d.vec.freeC - c.beat)
  | .vmove _ => 4
  | _ => 0

def slotsCharge (c d : Core) (l : List Slot) : Nat := (l.map (slotCharge c d)).sum

/-- The charge of a bundle's slots as far as they can issue; a vector instruction that waits itself takes one beat. -/
def Core.bundleCharge (x : Ctx) (c : Core) (i : SeqId) (l : List Slot) : Nat :=
  (l.map (fun s => match c.issueSlot x i s, s with
    | .ok d, _ => slotCharge c d s
    | _, .vec _ => 16
    | _, _ => slotCharge c c s)).sum

/-! ## Buoys and tallies (R241, R246) -/

def Core.putBuoy (c : Core) (n : Nat) (b : Buoy) : Core := { c with buoys := Sparse.set Buoy.blank c.buoys (n % 64) b }

/-- Set a buoy and count the set (R241, R275). -/
def Core.setBuoy (c : Core) (n : Nat) : Core :=
  let b := c.buoy n
  c.putBuoy n { b with set := true, sets := b.sets + 1 }

def Core.clearBuoy (c : Core) (n : Nat) : Core := c.putBuoy n { c.buoy n with set := false }

/-- A clear by the execute sequencer also makes the conversion flags announced by that buoy orderable (R249). -/
def Core.clearByExec (c : Core) (n : Nat) : Core :=
  let c1 := c.clearBuoy n
  { c1 with heldFlags := c1.heldFlags.map (fun h => if h.via.contains (n % 64) then { h with ok := true } else h) }

def Core.clearBy (c : Core) (i : SeqId) (n : Nat) : Core :=
  match i with
  | .execute => c.clearByExec n
  | .access => c.clearBuoy n

def Core.putTally (c : Core) (n : Nat) (t : Tally) : Core :=
  { c with tallies := Sparse.set Tally.blank c.tallies (n % 16) t }

/-- n of a tally wait: (N + X[XREG]) mod 2^16 (R246). -/
def tallyCount (q : Seq) (carg : Nat) : Nat := (bits carg 0 16 + q.getX (bits carg 20 4)) % 65536

/-- Whether (MT − TB) mod 2^32 ≥ n (R246). -/
def Tally.reached (t : Tally) (n : Nat) : Bool := n ≤ (t.mt - t.tb).toNat

/-! ## Control operations (Table 2 of spec/05) -/

inductive Cop where
  | nop | repeat | loop | call | ret | select | setx | take | bset | bclr | bwait | fence | barrier | cancel
  | qmark | qmatch | finish | other
  deriving DecidableEq, Repr

def Cop.ofCode : Nat → Cop
  | 0x00 => .nop | 0x01 => .repeat | 0x02 => .loop | 0x03 => .call | 0x04 => .ret | 0x05 => .select | 0x06 => .setx
  | 0x07 => .take | 0x08 => .bset | 0x09 => .bclr | 0x0A => .bwait | 0x0B => .fence | 0x0C => .barrier
  | 0x0D => .cancel | 0x10 => .qmark | 0x11 => .qmatch | 0x1F => .finish | _ => .other

/-- Classes named by FENCE's bits [2:0] or BARRIER's bits [10:8]: MEM, REEF, MSG (Tables 4 and 5 of spec/08). -/
def fenceClasses (cop : Cop) (carg : Nat) : Nat :=
  match cop with
  | .fence => bits carg 0 3
  | .barrier => bits carg 8 3
  | _ => 0

/-- Whether the operation waits on a fence of its own: FENCE with WAIT, or a BARRIER that names classes. -/
def needsFence (cop : Cop) (carg : Nat) : Bool :=
  match cop with
  | .fence => bit carg 15
  | .barrier => fenceClasses .barrier carg != 0
  | _ => false

/-- Whether a marker operation is done by the stream engine: QMARK on an IQ, QMATCH on an OQ (R527). -/
def markByStream (cop : Cop) (carg : Nat) : Bool :=
  match cop with
  | .qmark => !bit carg 20
  | .qmatch => bit carg 20
  | _ => false

/-- The variant table and call table a bundle uses: the library's in library code (R529). -/
def Core.callTable (c : Core) (a : Nat) : Sparse Nat := if c.inLib a then c.img.libCalls else c.img.calls
def Core.variantTable (c : Core) (a : Nat) : Sparse (List Nat) := if c.inLib a then c.img.libVars else c.img.variants

/-- The wait of a control operation, if its condition does not hold yet; a member of a barrier is released once the signal has come
(R255). -/
def Core.copWait (x : Ctx) (c : Core) (i : SeqId) (b : Bundle) : Option (WaitKind × Nat) :=
  let q := c.seq i
  match Cop.ofCode b.cop with
  | .select | .take => if q.choices.isEmpty then some (.choice, 0) else none
  | .bset => if (c.buoy (bits b.carg 0 6)).set then some (.buoyClear, bits b.carg 0 6) else none
  | .bclr => if (c.buoy (bits b.carg 0 6)).set then none else some (.buoySet, bits b.carg 0 6)
  | .bwait =>
    match bits b.carg 30 2 with
    | 0 => if (c.buoy (bits b.carg 0 6)).set then none else some (.buoySet, bits b.carg 0 6)
    | 1 => if (c.buoy (bits b.carg 0 6)).set then some (.buoyClear, bits b.carg 0 6) else none
    | _ => if (c.tally (bits b.carg 26 4)).reached (tallyCount q b.carg) then none else some (.tally, bits b.carg 26 4)
  | .fence => if bit b.carg 15 && !q.fenced then some (.fence, 0) else none
  | .barrier =>
    if needsFence .barrier b.carg && !q.fenced then some (.fence, bits b.carg 0 6)
    else if q.released && x.home q.way then none else some (.barrier, bits b.carg 0 6)
  | .cancel => if (c.buoy (bits b.carg 8 6)).set then none else some (.buoySet, bits b.carg 8 6)
  | .qmark =>
    let n := 16 + bits b.carg 16 4
    if !markByStream .qmark b.carg && (c.queue n).room = 0 then some (.queueFull, n) else none
  | .qmatch =>
    let n := bits b.carg 16 4
    if !markByStream .qmatch b.carg && ((c.queue n).entries.isEmpty || c.cancelHolds n) then some (.queueEmpty, n) else none
  | _ => none

/-- A stream-engine marker operation (R527): kind 4 QMARK, 5 QMATCH. -/
def Core.markOp (c : Core) (i : SeqId) (kind carg : Nat) : Core :=
  let o : StreamOp :=
    { id := c.nextOp, seq := i, desc := 0, word := 0, kind := kind, base := 0, counts := [], first := bits carg 16 4
      label := BitVec.ofNat 8 carg, txns := [], units := 0, reserved := 0, out := [], outScales := [], taken := 0
      flags := 0, cancelled := false, beat := if i = .access ∧ c.img.split = true then (c.seq i).addr else c.beat }
  { c with ops := c.ops ++ [o], nextOp := c.nextOp + 1 }

/-- A marker entry with its label and, for a message queue, its envelope (R155, R158). -/
def markEntry (carg : Nat) : QEntry :=
  ⟨[], [], 0xF, 0, some (BitVec.ofNat 8 carg), 0, bits carg 8 8, 0, false, 0⟩

/-- The choice at the head of a sequencer's queue checked against SELECT or TAKE (R162): the address SELECT calls and
the choice's ARG, or event 0x1301. -/
def Core.choose (c : Core) (i : SeqId) (b : Bundle) : Res (Option Nat × Nat) :=
  let q := c.seq i
  match q.choices with
  | [] => .wait .choice 0
  | w :: _ =>
    let v := bits w.toNat 0 16
    if Cop.ofCode b.cop = .take then
      if v = 0xFFFF then .ok (none, bits w.toNat 16 16) else .event 0x1301 0
    else
      let rs := Sparse.get [] (c.variantTable q.addr) (bits b.carg 0 16)
      if v = 0xFFFF ∨ rs.length ≤ v then .event 0x1301 0 else .ok (some (rs.getD v 0), bits w.toNat 16 16)

/-- The effect of a control operation on synchronisation objects and queues, before INC and the choice of the next
bundle. Its wait has ended. -/
def Core.copEffect (x : Ctx) (c : Core) (i : SeqId) (b : Bundle) : Res Core :=
  let q := c.seq i
  match Cop.ofCode b.cop with
  | .select | .take => (c.choose i b).bind (fun _ => .ok c)
  | .bset => .ok (c.setBuoy (bits b.carg 0 6))
  | .bclr => .ok (c.clearBy i (bits b.carg 0 6))
  | .bwait =>
    if bits b.carg 30 2 = 2 then
      let t := c.tally (bits b.carg 26 4)
      .ok (c.putTally (bits b.carg 26 4) { t with tb := t.tb + BitVec.ofNat 32 (tallyCount q b.carg) })
    else .ok c
  | .cancel => .ok ((c.clearBy i (bits b.carg 8 6)).cancel (bits b.carg 16 16))
  | .qmark =>
    if markByStream .qmark b.carg then .ok (c.markOp i 4 b.carg)
    else c.pushOq x.envOk (bits b.carg 16 4) (markEntry b.carg)
  | .qmatch =>
    if markByStream .qmatch b.carg then .ok (c.markOp i 5 b.carg)
    else c.matchHead (bits b.carg 16 4) (BitVec.ofNat 8 b.carg)
  | _ => .ok c

/-- Before the slots: a posted FENCE is posted, so that the bundle's slots count as issued after it; a FENCE with WAIT
that covers stream operations orders their conversion flags in this beat (R250, R251). -/
def Core.copBefore (c : Core) (i : SeqId) (b : Bundle) : Core :=
  let q := c.seq i
  match Cop.ofCode b.cop with
  | .fence =>
    if bit b.carg 15 then
      if i = .execute ∧ bit b.carg 0 then c.orderFlags (q.fence.getD 0) else c
    else c.postFence i (bit b.carg 0) (bit b.carg 1) (bit b.carg 2)
      (if bit b.carg 14 then some (bits b.carg 8 6) else none) false
  | _ => c

/-! ## Where the sequencer goes next (R147, R152, R153, R162) -/

/-- Move to an address, returning to loop bodies that end there at the present call depth (R152). -/
def Seq.settle : Nat → Seq → Nat → Seq
  | 0, q, a => { q with addr := a % 16384 }
  | fuel + 1, q, a =>
    match q.loops with
    | [] => { q with addr := a % 16384 }
    | f :: rest =>
      if f.stop = a ∧ f.depth = q.stack.length then
        if f.left ≤ 1 then Seq.settle fuel { q with loops := rest } a
        else { q with loops := { f with left := f.left - 1 } :: rest, addr := f.start % 16384 }
      else { q with addr := a % 16384 }

def Seq.moveTo (q : Seq) (a : Nat) : Seq := Seq.settle (q.loops.length + 1) q a

/-- INC and then the control operation's own register writes and control flow. `q0` holds the registers as they stood
at the start of the issue. -/
def Core.flow (c : Core) (i : SeqId) (b : Bundle) : Core :=
  let q0 := c.seq i
  let next := q0.addr + b.size
  let q := q0.applyInc b.inc
  let prog := c.img.prog
  match Cop.ofCode b.cop with
  | .repeat =>
    if q.rep < bits b.carg 0 16 then c.setSeq i { q with rep := q.rep + 1 }
    else c.setSeq i ({ q with rep := 0 }.moveTo next)
  | .loop =>
    let n := if bit b.carg 15 then q0.getX 15 else bits b.carg 0 15 + 1
    let stop := skipBundles prog (bits b.carg 16 13) next
    if n = 0 then c.setSeq i (q.moveTo stop)
    else c.setSeq i { q with loops := ⟨bits b.carg 29 3, next, stop, n, q.stack.length⟩ :: q.loops, addr := next % 16384 }
  | .call =>
    c.setSeq i { q with stack := next :: q.stack
                        addr := Sparse.get 0 (c.callTable q0.addr) (bits b.carg 0 16) % 16384 }
  | .ret =>
    match q.stack with
    | [] => c.setSeq i (q.moveTo next)
    | a :: rest => c.setSeq i ({ q with stack := rest }.moveTo a)
  | .select | .take =>
    match c.choose i b with
    | .ok (some a, arg) =>
      c.setSeq i { (q.setX 15 arg) with choices := q.choices.tail, stack := next :: q.stack, addr := a % 16384 }
    | .ok (none, arg) => c.setSeq i ({ (q.setX 15 arg) with choices := q.choices.tail }.moveTo next)
    | _ => c
  | .setx =>
    let n := bits b.carg 28 4
    let v := bits b.carg 0 16
    c.setSeq i ((if bit b.carg 27 then q.setXS n v else q.setX n v).moveTo next)
  | .finish => c.setSeq i { q with ended := true }
  | .fence | .barrier =>
    c.setSeq i ({ q with fence := none, fenced := false, arrived := false, released := false, way := 0 }.moveTo next)
  | _ => c.setSeq i (q.moveTo next)

/-! ## Pending pilot CSR writes (R163) -/

/-- Apply one pending write at the start of beat `c.beat`. In bound mode a write of VRSTEP also sets VRBASE to 0 and a
write of VRBASE is ignored (R325). -/
def Core.applyPend (c : Core) (p : PendCsr) : Core :=
  let v := p.value
  match p.csr with
  | 0x7C0 => { c with arstat := .clear c.beat (BitVec.ofNat 8 v.toNat) :: c.arstat }
  | 0x7C9 => { c with csr := { c.csr with vrstep := v, vrbase := if c.img.rngFree then c.csr.vrbase else 0 } }
  | 0x7CA => if c.img.rngFree then { c with csr := { c.csr with vrbase := v } } else c
  | n => if 0x7C1 ≤ n ∧ n ≤ 0x7C4 then { c with csr := { c.csr with dp := setAt c.csr.dp (n - 0x7C1) (v &&& 0xFF0) } } else c

/-- The execute sequencer has taken a choice in the beat that has just ended: the values at its end are kept for the
pilot's reads, and the writes tied to the choice apply at the start of the new beat (R163). -/
def Core.choiceTaken (c : Core) : Core :=
  let k := c.pilot.taken + 1
  let c1 := { c with pilot := { c.pilot with
    taken := k
    snap := ⟨c.beat, c.csr.dp, c.csr.vrstep, c.csr.vrbase⟩
    pend := c.pilot.pend.filter (fun p => k < p.ord) } }
  (c.pilot.pend.filter (fun p => p.ord ≤ k)).foldl Core.applyPend c1

/-! ## Issue of a bundle (R140, R142) -/

/-- Every wait that holds a bundle at its present state: its slots' waits, then its control operation's. -/
def Core.bundleWaits (x : Ctx) (c : Core) (i : SeqId) (b : Bundle) : List (WaitKind × Nat) :=
  let d := c.copBefore i b
  b.slots.filterMap (fun s => d.slotWait x i s) ++ (c.copWait x i b).toList

/-- The issue of a bundle whose waits have ended: fence, slots, control operation, INC and flow; none of it happens
where an event of kind F stops it. The slots come first, so a CANCEL discards a stream operation of its own bundle (R198 says only
'issued before it'; DESIGN CHOICE 104). -/
def Core.issueBody (x : Ctx) (c : Core) (i : SeqId) (b : Bundle) : Res Core :=
  ((c.copBefore i b).issueSlots x i b.slots).bind (fun c1 =>
    if c.guardLu < slotsCharge c c1 b.slots then .wait .guard 0
    else ({ c1 with guardLu := c.guardLu - slotsCharge c c1 b.slots }.copEffect x i b).bind (fun c2 => .ok (c2.flow i b)))

/-- The trace entry of a bundle: its trace address and effective slot values (R141). -/
def Core.traceEntry (c : Core) (b : Bundle) : TraceEntry :=
  let q := c.ex
  let (l, n) := c.traceAddr q.addr
  ⟨l, n, b.m.map (effMatrix c q), b.b.map (effBpath c q), b.v.map (effVec q), b.vm.map (effVec q)⟩

/-- The end of a beat: the B-path reads due in it, the next beat number, a choice taken in it. -/
def Core.endBeat (c : Core) (tookChoice : Bool) : Core :=
  let c0 := c.captureReads c.beat
  let c1 := { c0 with beat := c.beat + 1, row := { c0.row with freeing := c0.row.freeing.filter (fun p => c.beat < p.1) } }
  if tookChoice then c1.choiceTaken else c1

/-- Whether a sequencer may issue at all: the core runs, the stream has not ended, no debugger holds it; while the
execute sequencer is halted the access sequencer stops too (R141, R168). -/
def Core.mayIssue (c : Core) (i : SeqId) : Bool :=
  !c.stopped && !(c.seq i).ended && !c.ex.halted &&
    (match i with | .execute => true | .access => c.img.split)

/-- Issue the bundle a sequencer stands at. -/
def Core.issueBundle (x : Ctx) (c : Core) (i : SeqId) : Res Core :=
  let b := c.bundle i
  match i with
  | .access =>
    match c.bundleWaits x i b with
    | w :: _ => .wait w.1 w.2
    | [] => c.issueBody x i b
  | .execute =>
    let c0 := c.landDue
    match c0.bundleWaits x i b with
    | w :: _ => .wait w.1 w.2
    | [] => (c0.issueBody x i b).bind (fun c1 =>
        let took := Cop.ofCode b.cop = .select ∨ Cop.ofCode b.cop = .take
        .ok ({ c1 with trace := c0.traceEntry b :: c1.trace }.endBeat took))

/-- Post the fence a FENCE with WAIT or a BARRIER waits for, once (R250, R254). -/
def Core.postOwnFence (c : Core) (i : SeqId) : Core :=
  let b := c.bundle i
  let q := c.seq i
  let cop := Cop.ofCode b.cop
  if needsFence cop b.carg ∧ q.fence = none ∧ !q.fenced then
    let k := fenceClasses cop b.carg
    let by_ := if cop = .fence ∧ bit b.carg 14 then some (bits b.carg 8 6) else none
    (c.postFence i (bit k 0) (bit k 1) (bit k 2) by_ true).setSeq i { q with fence := some c.nextOp }
  else c

/-- A member whose fence is complete arrives at its barrier (R254). -/
def Core.arrive (c : Core) (i : SeqId) : Core :=
  let b := c.bundle i
  let q := c.seq i
  if Cop.ofCode b.cop = .barrier ∧ (needsFence .barrier b.carg → q.fenced) then c.setSeq i { q with arrived := true } else c

/-- The sequencer's step at a control operation: it issues, or takes the steps that come before a fence's or barrier's
completion (posting, arriving) and waits. -/
def Core.seqStep (x : Ctx) (c : Core) (i : SeqId) : Res Core :=
  if c.mayIssue i then
    let d := (c.postOwnFence i).arrive i
    match d.issueBundle x i with
    | .wait k o => if d = c then .wait k o else .ok d
    | r => r
  else .wait .busy 0

/-- A fence completes: every covered operation has finished and the buoy it sets is clear (R250). The conversion flags
of access-side operations it covers become tied to its buoy (R249). -/
def Core.fenceComplete (c : Core) (f : Fence) : Core :=
  let c1 := match f.buoy with
    | some n => c.setBuoy n
    | none => c
  let q := c1.seq f.seq
  let c2 := if q.fence = some f.id then c1.setSeq f.seq { q with fenced := true } else c1
  { c2 with
    fences := c2.fences.filter (fun g => g.id ≠ f.id)
    heldFlags := if f.seq = .access ∧ f.mem then c2.heldFlags.map (fun h =>
      if h.seq = .access ∧ h.id < f.cutoff then { h with via := h.via ++ f.buoy.toList } else h) else c2.heldFlags }

/-- Whether a posted fence can complete. -/
def Core.fenceReady (c : Core) (f : Fence) : Bool :=
  c.fenceMet f && (match f.buoy with | some n => !(c.buoy n).set | none => true)

/-! ## Empty beats and the end of the trace (R141) -/

/-- Whether every A tile has acted in its cubes or waits behind a drain, every drained tile that has room is in the
sound, each by the beats of R92 and R105, and no vector instruction occupied a path in the last beat. -/
def Core.settled (c : Core) : Bool :=
  c.row.tiles.all (fun t => (maskedCubes t.rcw).all (fun k => c.tileSettled t k)) &&
    c.nextSound.isNone && decide (entryBeat c.row.entryAt c.row.sound ≤ c.beat) &&
    decide (c.vec.freeC < c.beat) && decide (c.vec.freeM < c.beat)

/-- Whether the row has done everything it can by the end of the last beat. -/
def Core.rowCaughtUp (c : Core) : Bool :=
  (c.row.tiles.isEmpty && c.row.bops.isEmpty || (List.range 16).all (fun k => !c.cubeReady k)) && c.nextSound.isNone

/-- EMPTY_BEAT: once the row has caught up, the trace ends if the core is settled, else an empty beat issues. Where nothing is
left at END's own beat, that beat is the last (DEDUCED 37). -/
def Core.emptyBeat (c : Core) : Core :=
  if c.ex.ended ∧ !c.traceEnd ∧ !c.stopped ∧ !c.ex.halted ∧ c.rowCaughtUp then
    if c.settled then { c.finishBops.landLater with traceEnd := true }
    else
      let c0 := c.landDue
      let (l, n) := c0.traceAddr c0.ex.addr
      { c0 with trace := ⟨l, n, none, none, none, none⟩ :: c0.trace }.endBeat false
  else c

end Sys2Proof.Machine
end

