-- ==== Sys2Proof/Machine/Pilot.lean ====
section
/-! DEFINITION. The pilot: RV32IMFC and Zicsr, the queue extension, the pilot's CSRs and its fixed latencies
(R160 to R164, Tables 11 to 14 of spec/05). -/

namespace Sys2Proof.Machine

/-! ## Registers and memories (R161) -/

def Pilot.getX (p : Pilot) (n : Nat) : Nat := if n = 0 then 0 else (Sparse.get 0 p.x n).toNat
def Pilot.getF (p : Pilot) (n : Nat) : Nat := (Sparse.get 0 p.f n).toNat

/-- Write integer register n, usable from step u; x0 stays 0. -/
def Pilot.setX (p : Pilot) (n v u : Nat) : Pilot :=
  if n = 0 then p
  else { p with x := Sparse.set 0 p.x n (BitVec.ofNat 32 v), usable := Sparse.set 0 p.usable n u }

/-- Write floating-point register n, usable from step u. -/
def Pilot.setF (p : Pilot) (n v u : Nat) : Pilot :=
  { p with f := Sparse.set 0 p.f n (BitVec.ofNat 32 v), usable := Sparse.set 0 p.usable (32 + n) u }

/-- Raise floating-point flags in fcsr. -/
def Pilot.fflags (p : Pilot) (fl : Nat) : Pilot := { p with fcsr := p.fcsr ||| BitVec.ofNat 8 (fl % 32) }

/-- Whether an address is instruction memory of the context: its window or the library's pilot code (R161, R317). -/
def Core.inImem (c : Core) (a : Nat) : Bool := a < c.img.pilotWin || (c.img.pilotLib ≤ a && a < 0x20000)

/-- Whether n bytes at an address lie in the context's data memory, aligned (R161). -/
def Core.inDmem (c : Core) (a n : Nat) : Bool :=
  a % n == 0 && 0x100000 ≤ a && a + n ≤ 0x100000 + c.limit 0x40000

def Core.dread (c : Core) (a n : Nat) : Nat := ofBytes (Sparse.getRun 0 c.pilot.dmem (a - 0x100000) n)

def Core.dwrite (c : Core) (a n v : Nat) : Core :=
  { c with pilot := { c.pilot with dmem := Sparse.setRun 0 c.pilot.dmem (a - 0x100000) (toBytes n v) } }

/-- The instruction at pc, expanded to 32 bits, and its length; 0x1306 outside instruction memory. -/
def Core.pilotFetch (c : Core) : Res (Option Nat × Nat) :=
  let a := c.pilot.pc.toNat
  if !c.inImem a || !c.inImem (a + 1) then .event 0x1306 a
  else
    let lo := ofBytes (Sparse.getRun 0 c.pilot.imem a 2)
    if lo % 4 ≠ 3 then .ok (expandC lo, 2)
    else if !c.inImem (a + 2) || !c.inImem (a + 3) then .event 0x1306 a
    else .ok (some (ofBytes (Sparse.getRun 0 c.pilot.imem a 4)), 4)

/-! ## Steps (Table 12 of spec/05) -/

/-- Whether an instruction is floating-point. -/
def isFp (w : Nat) : Bool := [0x07, 0x27, 0x43, 0x47, 0x4B, 0x4F, 0x53].contains (iOp w)

/-- The registers an instruction reads: x in 0–31, f in 32–63. -/
def pilotSources (w : Nat) : List Nat :=
  let r1 := iRs1 w
  let r2 := iRs2 w
  match iOp w with
  | 0x13 | 0x03 | 0x67 | 0x07 => [r1]
  | 0x33 | 0x63 | 0x23 => [r1, r2]
  | 0x27 => [r1, 32 + r2]
  | 0x43 | 0x47 | 0x4B | 0x4F => [32 + r1, 32 + r2, 32 + iRs3 w]
  | 0x53 => if iF7 w = 0x68 ∨ iF7 w = 0x78 then [r1] else if bits w 27 5 = 0x0B ∨ iF7 w = 0x60 ∨ iF7 w = 0x70 then [32 + r1]
            else [32 + r1, 32 + r2]
  | 0x73 => if iF3 w = 1 ∨ iF3 w = 2 ∨ iF3 w = 3 then [r1] else []
  | 0x0B => if iF3 w = 2 then [r1] else []
  | _ => []

/-- The step in which an instruction issues: after its sources are usable and, for floating point, the divider path. -/
def Pilot.issueStep (p : Pilot) (w : Nat) : Nat :=
  let t := (pilotSources w).foldl (fun a r => max a (if r = 0 then 0 else Sparse.get 0 p.usable r)) p.cycle
  if isFp w then max t p.fpFree else t

/-- Retire an instruction issued in step t that holds issue for `busy` steps, going on at `pc`. -/
def Core.retire (c : Core) (t busy pc : Nat) (p : Pilot) : Core :=
  { c with pilot := { p with pc := BitVec.ofNat 32 pc, cycle := t + busy, instret := p.instret + 1 } }

/-! ## CSRs (R163, R164, Table 14 of spec/05) -/

/-- The CSRs shared with the execute side (R163). -/
def isSharedCsr (n : Nat) : Bool := (0x7C0 ≤ n && n ≤ 0x7C4) || n == 0x7C9 || n == 0x7CA

/-- The value of a CSR that is not shared, or none where R164 lists no such CSR. `t` is the present pilot step. -/
def Core.csrRead (c : Core) (v t n : Nat) : Option Nat :=
  match n with
  | 0x001 => some (bits c.pilot.fcsr.toNat 0 5)
  | 0x002 => some (bits c.pilot.fcsr.toNat 5 3)
  | 0x003 => some c.pilot.fcsr.toNat
  | 0x301 => some 0x40001124
  | 0xC00 => some (t % 2 ^ 32)
  | 0xC80 => some (t / 2 ^ 32 % 2 ^ 32)
  | 0xC02 => some (c.pilot.instret % 2 ^ 32)
  | 0xC82 => some (c.pilot.instret / 2 ^ 32 % 2 ^ 32)
  | 0xF14 => some v
  | 0x7C5 => some c.csr.rowcfg.toNat
  | 0x7C6 => some c.csr.vcfg.toNat
  | 0x7C7 => some c.csr.vrkey0.toNat
  | 0x7C8 => some c.csr.vrkey1.toNat
  | 0x7CB => some (v % 32 * 256 + v / 32)
  | 0x7CC => some c.csr.libver.toNat
  | 0x7CD => some c.csr.narcfg.toNat
  | 0x7CE => some c.csr.ferrycfg.toNat
  | n =>
    if 0x7D0 ≤ n ∧ n ≤ 0x7EF then some (c.queue (n - 0x7D0)).cfg.toNat
    else if 0xFC0 ≤ n ∧ n ≤ 0xFFF then some (c.buoy (n - 0xFC0)).cfg.toNat
    else none

/-- The value of a shared CSR at the end of the beat in which the last choice pushed was taken (R163). -/
def Core.sharedValue (c : Core) (n : Nat) : Nat :=
  let s := c.pilot.snap
  match n with
  | 0x7C0 => if s.beat = 0 then 0 else (arValue c.arstat (s.beat - 1)).toNat
  | 0x7C9 => s.vrstep.toNat
  | 0x7CA => s.vrbase.toNat
  | n => (s.dp.getD (n - 0x7C1) 0).toNat

/-- Whether a shared read can return: every pushed choice has been taken, and for ARSTAT the row has acted through
that beat (R82, R163). -/
def Core.sharedReady (c : Core) (n : Nat) : Bool :=
  c.pilot.taken == c.pilot.pushed &&
    (n != 0x7C0 || (List.range 16).all (fun k => decide (c.pilot.snap.beat ≤ (c.cube k).pos) || c.row.tiles.isEmpty))

/-- Hold a shared write pending for the next choice; a later write to the same CSR replaces it (R163). -/
def Core.pendCsr (c : Core) (n v : Nat) : Core :=
  let k := c.pilot.pushed + 1
  { c with pilot := { c.pilot with
    pend := c.pilot.pend.filter (fun p => !(p.csr == n && p.ord == k)) ++ [⟨n, BitVec.ofNat 32 v, k⟩] } }

/-- Write a CSR that is not shared: fflags, frm and fcsr; the others are read-only and ignore writes (R164). -/
def Core.csrWrite (c : Core) (n v : Nat) : Core :=
  let f := c.pilot.fcsr.toNat
  let put (x : Nat) : Core := { c with pilot := { c.pilot with fcsr := BitVec.ofNat 8 x } }
  match n with
  | 0x001 => put (putBits f 0 5 v)
  | 0x002 => put (putBits f 5 3 v)
  | 0x003 => put v
  | _ => c

def isCsrOp (w : Nat) : Bool := iOp w == 0x73 && iF3 w != 0 && iF3 w != 4

/-- The operand of a CSR instruction: rs1 or the immediate. -/
def csrOperand (p : Pilot) (w : Nat) : Nat := if bit (iF3 w) 2 then iRs1 w else p.getX (iRs1 w)

/-- CSRRW writes always; CSRRS and CSRRC only where rs1 is not x0, or the immediate not 0. -/
def csrWrites (w : Nat) : Bool := iF3 w % 4 == 1 || iRs1 w != 0

/-- CSRRW with rd = x0 does not read. -/
def csrReads (w : Nat) : Bool := iF3 w % 4 != 1 || iRd w != 0

/-- The value a CSR instruction writes, from the value it reads. -/
def csrNew (p : Pilot) (w old : Nat) : Nat :=
  let s := csrOperand p w
  match iF3 w % 4 with
  | 1 => s
  | 2 => old ||| s
  | _ => old &&& (s ^^^ 0xFFFFFFFF)

/-- A CSR instruction (R163, R164). -/
def Core.csrInstr (c : Core) (v w len : Nat) : Res Core :=
  let n := bits w 20 12
  let t := c.pilot.issueStep w
  let pc := c.pilot.pc.toNat + len
  if isSharedCsr n then
    if csrReads w && !c.sharedReady n then .wait .pilotSync 0
    else
      let old := c.sharedValue n
      let c1 := if csrWrites w then c.pendCsr n (csrNew c.pilot w old) else c
      .ok (c1.retire t 1 pc (if csrReads w then c1.pilot.setX (iRd w) old (t + 2) else c1.pilot))
  else match c.csrRead v t n with
    | none => .event 0x1305 0
    | some old =>
      let c1 := if csrWrites w then c.csrWrite n (csrNew c.pilot w old) else c
      .ok (c1.retire t 1 pc (if csrReads w then c1.pilot.setX (iRd w) old (t + 2) else c1.pilot))

/-! ## Integer instructions -/

/-- The result of an OP or OP-IMM instruction; none for a form RV32IM does not define. -/
def aluResult (imm : Bool) (f3 f7 a b : Nat) : Option Nat :=
  let sa := sext 32 a
  let sb := sext 32 b
  if !imm ∧ f7 = 1 then
    match f3 with
    | 0 => some (a * b % 2 ^ 32)
    | 1 => some (wrapInt 32 (sa * sb / (2 ^ 32 : Nat)))
    | 2 => some (wrapInt 32 (sa * (b : Int) / (2 ^ 32 : Nat)))
    | 3 => some (a * b / 2 ^ 32)
    | 4 => some (if b = 0 then 2 ^ 32 - 1 else wrapInt 32 (sa.tdiv sb))
    | 5 => some (if b = 0 then 2 ^ 32 - 1 else a / b)
    | 6 => some (if b = 0 then a else wrapInt 32 (sa.tmod sb))
    | _ => some (if b = 0 then a else a % b)
  else
    let plain := imm || f7 == 0
    match f3 with
    | 0 => if plain then some ((a + b) % 2 ^ 32) else if f7 = 0x20 then some ((a + 2 ^ 32 - b) % 2 ^ 32) else none
    | 1 => if f7 = 0 then some (a * 2 ^ (b % 32) % 2 ^ 32) else none
    | 2 => if plain then some (b2n (sa < sb)) else none
    | 3 => if plain then some (b2n (a < b)) else none
    | 4 => if plain then some (a ^^^ b) else none
    | 5 => if f7 = 0 then some (a / 2 ^ (b % 32))
           else if f7 = 0x20 then some (wrapInt 32 (sa / (2 ^ (b % 32) : Nat))) else none
    | 6 => if plain then some (a ||| b) else none
    | _ => if plain then some (a &&& b) else none

/-- Steps until an integer result is usable, and steps for which nothing else issues (Table 12). -/
def aluLatency (imm : Bool) (f3 f7 : Nat) : Nat × Nat :=
  if !imm ∧ f7 = 1 then (if f3 < 4 then (2, 1) else (34, 34)) else (1, 1)

/-- Whether a branch is taken; none for an undefined funct3. -/
def branchTaken (f3 a b : Nat) : Option Bool :=
  match f3 with
  | 0 => some (a == b) | 1 => some (a != b)
  | 4 => some (sext 32 a < sext 32 b) | 5 => some (sext 32 b ≤ sext 32 a)
  | 6 => some (a < b) | 7 => some (b ≤ a)
  | _ => none

/-- A loaded value extended to 32 bits, with its size; none for an undefined funct3. -/
def loadForm (f3 : Nat) : Option (Nat × Bool) :=
  match f3 with
  | 0 => some (1, true) | 1 => some (2, true) | 2 => some (4, true) | 4 => some (1, false) | 5 => some (2, false)
  | _ => none

/-! ## Floating-point instructions -/

/-- The rounding mode of an instruction: its rm field, or frm where rm is 0b111. -/
def Pilot.roundMode (p : Pilot) (w : Nat) : Option RMode :=
  let m := if iF3 w = 7 then bits p.fcsr.toNat 5 3 else iF3 w
  match m with
  | 0 => some .rne | 1 => some .rtz | 2 => some .rdn | 3 => some .rup | 4 => some .rmm | _ => none

/-- Where a floating-point result goes and its latency and divider occupancy. -/
structure FpRes where
  toX  : Bool
  out  : FpOut
  lat  : Nat
  busy : Nat
  deriving DecidableEq, Repr

/-- The result of an OP-FP instruction; none for a form RV32F does not define. -/
def Pilot.opFp (p : Pilot) (w : Nat) : Option FpRes :=
  let a := p.getF (iRs1 w)
  let b := p.getF (iRs2 w)
  let xa := p.getX (iRs1 w)
  let f3 := iF3 w
  let r2 := iRs2 w
  let f (o : FpOut) (l k : Nat) : Option FpRes := some ⟨false, o, l, k⟩
  let x (o : FpOut) : Option FpRes := some ⟨true, o, 2, 0⟩
  match iF7 w with
  | 0x00 => (p.roundMode w).bind (fun m => f (fpAdd m a b) 4 0)
  | 0x04 => (p.roundMode w).bind (fun m => f (fpSub m a b) 4 0)
  | 0x08 => (p.roundMode w).bind (fun m => f (fpMul m a b) 4 0)
  | 0x0C => (p.roundMode w).bind (fun m => f (fpDiv m a b) 16 16)
  | 0x2C => if r2 = 0 then (p.roundMode w).bind (fun m => f (fpSqrt m a) 16 16) else none
  | 0x10 => if f3 < 3 then f (fpSgnj f3 a b, 0) 2 0 else none
  | 0x14 => if f3 < 2 then f (fpMinMax (f3 == 1) a b) 2 0 else none
  | 0x60 => if r2 < 2 then (p.roundMode w).bind (fun m => x (fpToInt m (r2 == 1) a)) else none
  | 0x70 =>
    if r2 ≠ 0 then none
    else if f3 = 0 then x (a, 0) else if f3 = 1 then x (fpClass a, 0) else none
  | 0x50 => if f3 < 3 then x (fpCompare f3 a b) else none
  | 0x68 => if r2 < 2 then (p.roundMode w).bind (fun m => f (fpFromInt m (r2 == 1) xa) 2 0) else none
  | 0x78 => if r2 = 0 ∧ f3 = 0 then f (xa, 0) 2 0 else none
  | _ => none

/-! ## Execution -/

/-- An instruction that is neither WFI, EBREAK, a CSR access nor of the queue extension. -/
def Core.plainInstr (c : Core) (w len : Nat) : Res Core :=
  let p := c.pilot
  let pc := p.pc.toNat
  let t := p.issueStep w
  let next := pc + len
  let a := p.getX (iRs1 w)
  let b := p.getX (iRs2 w)
  let rd := iRd w
  let f3 := iF3 w
  match iOp w with
  | 0x37 => .ok (c.retire t 1 next (p.setX rd (immU w) (t + 1)))
  | 0x17 => .ok (c.retire t 1 next (p.setX rd ((pc + immU w) % 2 ^ 32) (t + 1)))
  | 0x6F => .ok (c.retire t 2 (wrapInt 32 ((pc : Int) + immJ w)) (p.setX rd next (t + 2)))
  | 0x67 =>
    if f3 ≠ 0 then .event 0x1305 0
    else .ok (c.retire t 2 (wrapInt 32 ((a : Int) + immI w) / 2 * 2) (p.setX rd next (t + 2)))
  | 0x63 =>
    match branchTaken f3 a b with
    | none => .event 0x1305 0
    | some true => .ok (c.retire t 2 (wrapInt 32 ((pc : Int) + immB w)) p)
    | some false => .ok (c.retire t 1 next p)
  | 0x03 =>
    match loadForm f3 with
    | none => .event 0x1305 0
    | some (n, sg) =>
      let ad := wrapInt 32 ((a : Int) + immI w)
      if c.inDmem ad n then
        let x := c.dread ad n
        .ok (c.retire t 1 next (p.setX rd (if sg then wrapInt 32 (sext (8 * n) x) else x) (t + 2)))
      else .event 0x1306 ad
  | 0x23 =>
    if 2 < f3 then .event 0x1305 0
    else
      let ad := wrapInt 32 ((a : Int) + immS w)
      if c.inDmem ad (2 ^ f3) then
        let c1 := c.dwrite ad (2 ^ f3) b
        .ok (c1.retire t 1 next c1.pilot)
      else .event 0x1306 ad
  | 0x13 =>
    let isShift := f3 = 1 ∨ f3 = 5
    let bv := if isShift then iRs2 w else wrapInt 32 (immI w)
    match aluResult true f3 (if isShift then iF7 w else 0) a bv with
    | none => .event 0x1305 0
    | some r => .ok (c.retire t 1 next (p.setX rd r (t + 1)))
  | 0x33 =>
    match aluResult false f3 (iF7 w) a b with
    | none => .event 0x1305 0
    | some r =>
      let (lat, busy) := aluLatency false f3 (iF7 w)
      .ok (c.retire t busy next (p.setX rd r (t + lat)))
  | 0x0F => if f3 = 0 then .ok (c.retire t 1 next p) else .event 0x1305 0
  | 0x07 =>
    if f3 ≠ 2 then .event 0x1305 0
    else
      let ad := wrapInt 32 ((a : Int) + immI w)
      if c.inDmem ad 4 then .ok (c.retire t 1 next (p.setF rd (c.dread ad 4) (t + 2))) else .event 0x1306 ad
  | 0x27 =>
    if f3 ≠ 2 then .event 0x1305 0
    else
      let ad := wrapInt 32 ((a : Int) + immS w)
      if c.inDmem ad 4 then
        let c1 := c.dwrite ad 4 (p.getF (iRs2 w))
        .ok (c1.retire t 1 next c1.pilot)
      else .event 0x1306 ad
  | 0x53 =>
    match p.opFp w with
    | none => .event 0x1305 0
    | some r =>
      let p1 := (if r.toX then p.setX rd r.out.1 (t + r.lat) else p.setF rd r.out.1 (t + r.lat)).fflags r.out.2
      .ok (c.retire t 1 next { p1 with fpFree := if r.busy = 0 then p1.fpFree else t + r.busy })
  | op =>
    if op = 0x43 ∨ op = 0x47 ∨ op = 0x4B ∨ op = 0x4F then
      match p.roundMode w, bits w 25 2 with
      | some m, 0 =>
        let r := fpFma m (op == 0x4B || op == 0x4F) (op == 0x47 || op == 0x4F) (p.getF (iRs1 w)) (p.getF (iRs2 w)) (p.getF (iRs3 w))
        .ok (c.retire t 1 next ((p.setF rd r.1 (t + 4)).fflags r.2))
      | _, _ => .event 0x1305 0
    else .event 0x1305 0

/-! ## The queue extension (R162, Table 13 of spec/05) -/

/-- The head summary entry where it is readable: six periods after its push (R135, R277). -/
def Core.summReadable (c : Core) : Option (BitVec 64) :=
  match c.vec.summ with
  | [] => none
  | e :: _ => if e.readable ≤ c.clock then some e.entry else none

/-- HQ.SUMV and HQ.SUMH. -/
def Core.hqSum (c : Core) (high : Bool) (w len : Nat) : Res Core :=
  match c.summReadable with
  | none => .wait .summary 0
  | some e =>
    let t := c.pilot.issueStep w
    let v := if high then bits e.toNat 32 32 else bits e.toNat 0 32
    let c1 := if high then c else { c with vec := { c.vec with summ := c.vec.summ.tail } }
    .ok (c1.retire t 1 (c.pilot.pc.toNat + len) (c.pilot.setX (iRd w) v (t + 2)))

/-- Push a choice to a sequencer. -/
def Core.pushChoice (c : Core) (i : SeqId) (v : Nat) : Core :=
  let q := c.seq i
  let c1 := c.setSeq i { q with choices := q.choices ++ [BitVec.ofNat 32 v] }
  match i with
  | .execute => { c1 with pilot := { c1.pilot with pushed := c1.pilot.pushed + 1 } }
  | .access => c1

/-- HQ.CHOOSE: waits for space in each queue it pushes into; in unified mode access choices are discarded (R159). -/
def Core.hqChoose (c : Core) (w len : Nat) : Res Core :=
  let t := bits w 20 2
  let toX := bit t 0
  let toA := bit t 1 && c.img.split
  if t = 0 then .event 0x1305 0
  else if toX && 4 ≤ c.ex.choices.length then .wait .choiceSpace 0
  else if toA && 4 ≤ c.ac.choices.length then .wait .choiceSpace 1
  else
    let v := c.pilot.getX (iRs1 w)
    let c1 := if toX then c.pushChoice .execute v else c
    let c2 := if toA then c1.pushChoice .access v else c1
    .ok (c2.retire (c.pilot.issueStep w) 1 (c.pilot.pc.toNat + len) c2.pilot)

/-- HQ.BUOY by op: set, clear, wait until set, wait until clear (Table 2 of spec/08). -/
def Core.hqBuoy (c : Core) (w len : Nat) : Res Core :=
  let n := bits w 20 6
  let isSet := (c.buoy n).set
  let go (c1 : Core) : Res Core := .ok (c1.retire (c.pilot.issueStep w) 1 (c.pilot.pc.toNat + len) c1.pilot)
  match bits w 26 2 with
  | 0 => if isSet then .wait .buoyClear n else go (c.setBuoy n)
  | 1 => if isSet then go (c.clearBuoy n) else .wait .buoySet n
  | 2 => if isSet then go c else .wait .buoySet n
  | _ => if isSet then .wait .buoyClear n else go c

/-! ## Classes of instruction, one for each step of the pilot -/

/-- The steps of the table that a pilot instruction belongs to. -/
inductive PClass where
  | plain | wfi | ebreak | sumv | sumh | choose | buoySet | buoyClear | buoyWaitSet | buoyWaitClear
  | arstatWrite | sharedRead | sharedWrite | csrWrite
  deriving DecidableEq, Repr

/-- The class of an instruction. The fields of custom-0 that Table 13 of spec/05 does not use for an operation are not looked at
(DESIGN CHOICE 103). -/
def pclass (w : Nat) : PClass :=
  if w = 0x10500073 then .wfi
  else if w = 0x00100073 then .ebreak
  else if isCsrOp w then
    let n := bits w 20 12
    if csrWrites w then (if n = 0x7C0 then .arstatWrite else if isSharedCsr n then .sharedWrite else .csrWrite)
    else if isSharedCsr n then .sharedRead else .plain
  else if iOp w = 0x0B then
    match iF3 w with
    | 0 => .sumv
    | 1 => .sumh
    | 2 => .choose
    | 3 => match bits w 26 2 with | 0 => .buoySet | 1 => .buoyClear | 2 => .buoyWaitSet | _ => .buoyWaitClear
    | _ => .plain
  else .plain

/-- Whether the execute sequencer issues no beat at present: it has ended, is halted, waits, or is held by its power guard (R277). -/
def Core.execHeld (x : Ctx) (c : Core) : Bool :=
  let b := c.bundle .execute
  let d := c.landDue
  c.ex.ended || c.ex.halted || !(d.bundleWaits x .execute b).isEmpty ||
    decide (d.guardLu < (d.copBefore .execute b).bundleCharge x .execute b.slots)

/-- One pilot instruction of any class. `d2` tells whether a debugger at level D2 or above is attached (R160). -/
def Core.pilotRun (x : Ctx) (d2 : Bool) (c : Core) (w len : Nat) : Res Core :=
  let pc := c.pilot.pc.toNat
  match pclass w with
  | .wfi =>
    let t := c.pilot.issueStep w
    .ok (c.retire t 1 (pc + len) { c.pilot with finished := true })
  | .ebreak => if d2 then .ok { c with pilot := { c.pilot with halted := true } } else .event 0x1305 0
  | .sumv => c.hqSum false w len
  | .sumh => c.hqSum true w len
  | .choose => c.hqChoose w len
  | .buoySet | .buoyClear | .buoyWaitSet | .buoyWaitClear => c.hqBuoy w len
  | .arstatWrite | .sharedRead | .sharedWrite | .csrWrite => c.csrInstr x.v w len
  | .plain => if isCsrOp w then c.csrInstr x.v w len else c.plainInstr w len

/-- Whether the pilot steps at all: the core runs, the pilot has not finished and no debugger holds it. -/
def Core.pilotMay (c : Core) : Bool := !c.stopped && !c.pilot.finished && !c.pilot.halted

/-- The pilot's next step, if it is of the class commanded; an instruction that cannot be decoded is `plain`. -/
def Core.pilotStep (x : Ctx) (d2 : Bool) (c : Core) (k : PClass) : Res Core :=
  if !c.pilotMay then .wait .busy 0
  else match c.pilotFetch with
    | .ok (none, _) => if k = .plain then .event 0x1305 0 else .wait .busy 0
    | .ok (some w, len) => if pclass w = k then c.pilotRun x d2 w len else .wait .busy 0
    | .event e o => if k = .plain then .event e o else .wait .busy 0
    | .wait a b => .wait a b

end Sys2Proof.Machine
end

