-- ==== Sys2Proof/Machine/ReefMath.lean ====
section
/-! DEFINITION. Reef operation records and their arithmetic in the base die (R207 to R222). -/

namespace Sys2Proof.Machine

/-! ## The record (Table 1 of spec/07) -/

/-- A reef operation record, its 128 bytes as one little-endian word. -/
abbrev ReefRec := BitVec 1024

def rBits (r : ReefRec) (lo n : Nat) : Nat := bits r.toNat lo n
def rAddr (r : ReefRec) (k : Nat) : Nat := rBits r (768 + 64 * k) 64
def rParam (r : ReefRec) (n : Nat) : Nat := rBits r (256 + 32 * n) 32
def rCount (r : ReefRec) : Nat := rBits r 224 32
def rPos (r : ReefRec) : Nat := rBits r 192 32
def rStep (r : ReefRec) : Nat := rBits r 160 32
def rTagid (r : ReefRec) : Nat := rBits r 128 32
def rSid (r : ReefRec) : Nat := rBits r 112 16
def rNcontrib (r : ReefRec) : Nat := rBits r 96 16
def rCindex (r : ReefRec) : Nat := rBits r 80 16
def rGroup (r : ReefRec) : Nat := rBits r 72 8
def rOp (r : ReefRec) : Nat := rBits r 56 8
def rFmt (r : ReefRec) (k : Nat) : Fmt := Fmt.ofTag (rBits r (52 - 4 * k) 4)
def rRmode (r : ReefRec) : Nat := rBits r 37 3
def rOvf (r : ReefRec) : Bool := bit r.toNat 36
def rXs (r : ReefRec) : Bool := bit r.toNat 35
def rAccum (r : ReefRec) : Bool := bit r.toNat 34
def rReply (r : ReefRec) : Bool := bit r.toNat 33
def rRiq (r : ReefRec) : Nat := rBits r 28 4

/-- The fields that every record of one combining group shares (R217). -/
def groupKey (r : ReefRec) : List Nat :=
  [rOp r, rAddr r 0, rCount r, (rFmt r 0).tag, (rFmt r 1).tag, rNcontrib r, rRmode r, b2n (rOvf r), b2n (rXs r), b2n (rAccum r)]

/-- Replace GROUP, NCONTRIB and CINDEX in a contribution (R267). -/
def stampCombine (r : ReefRec) (group n k : Nat) : ReefRec :=
  BitVec.ofNat 1024 (putBits (putBits (putBits r.toNat 72 8 group) 96 16 n) 80 16 k)

/-! ## Spans (R207, R208) -/

/-- Bytes of one element: XS24 records where XS is 1 and the tag is 0xF, else the format's width. -/
def reefEsz (xs : Bool) (f : Fmt) : Nat := if f = .raw ∧ xs then 24 else max 1 (f.width / 8)

/-- Leaves of 1 MiB in a DIGEST (R221). -/
def leafCount (n : Nat) : Nat := (n + 0xFFFFF) / 0x100000

/-- Bytes of one element of the target: where an exact sum takes in the target's present value, that is an XS24 record whatever FMT0
the result is written by (R215). -/
def targetEsz (r : ReefRec) : Nat := if rXs r ∧ rAccum r then 24 else reefEsz (rXs r) (rFmt r 0)

/-- The spans an operation uses, as (span, bytes) (Table 2 of spec/07). -/
def reefSpans (r : ReefRec) : List (Nat × Nat) :=
  let n := rCount r
  let full (k : Nat) : Nat × Nat := (k, n * reefEsz (rXs r) (rFmt r k))
  match rOp r with
  | 0x01 => [full 0]
  | 0x02 | 0x05 => [full 0, full 1]
  | 0x03 | 0x04 | 0x06 => [full 0, full 1, full 2]
  | 0x10 => [(0, targetEsz r), full 1]
  | 0x11 | 0x12 => [(0, reefEsz false (rFmt r 1)), full 1]
  | 0x18 => [(0, 4), (1, n)]
  | 0x20 => [full 0, full 1, full 2]
  | 0x21 => [full 0, full 1, full 2, full 3]
  | 0x30 => [(0, n * targetEsz r), full 1]
  | 0x40 => [(0, 48 * leafCount n), (1, n)]
  | _ => []

/-- The formats of the spans that the operation uses. -/
def reefFmts (r : ReefRec) : List Fmt := (reefSpans r).map (fun p => rFmt r p.1)

/-- Whether two spans overlap without being identical (R209); an empty span overlaps nothing. -/
def partlyOverlap (a b : Nat × Nat) : Bool :=
  a != b && a.2 != 0 && b.2 != 0 && decide (a.1 < b.1 + b.2) && decide (b.1 < a.1 + a.2)

def isInt4 (f : Fmt) : Bool := [Fmt.int32, .int16, .int8].contains f
def isFloat4 (f : Fmt) : Bool := f.float?.isSome && !f.isMx && f != .e2m1

/-- Formats an XS sum can end in: XS24, FP32, and INT32 for integer data (R215). Another FMT0 beside XS = 1 is refused, of which the
spec states neither a result nor a refusal (DESIGN CHOICE 106). -/
def xsTargetOk (r : ReefRec) : Bool :=
  rFmt r 0 == .raw || rFmt r 0 == .fp32 || (rFmt r 0 == .int32 && (isInt4 (rFmt r 1) || rFmt r 1 == .raw))

/-- Whether a record's formats are refused for its operation (R209). -/
def reefFmtBad (r : ReefRec) : Bool :=
  let fs := reefFmts r
  let op := rOp r
  let mixed := fs.any isInt4 && fs.any isFloat4
  if fs.any (fun f => [6, 7, 8, 9, 13, 14].contains f.tag) then true
  else if op = 0x01 ∨ op = 0x18 ∨ op = 0x40 then false
  else if op = 0x02 then fs.any (· == .raw) && !(fs.all (· == .raw))
  else if rXs r then
    !xsTargetOk r || [Fmt.fp64, .fp32, .bf16].contains (rFmt r 1)
  else if fs.any (· == .raw) then true
  else if op = 0x05 ∨ op = 0x06 then fs.any isInt4
  else if op = 0x20 ∨ op = 0x21 then fs.any isInt4 || fs.any (· == .fp64)
  else mixed

/-- Whether R209 refuses a record (event 0x2201). -/
def reefInvalid (r : ReefRec) : Bool :=
  let op := rOp r
  let ss := (reefSpans r).map (fun p => (rAddr r p.1, p.2))
  !([0x01, 0x02, 0x03, 0x04, 0x05, 0x06, 0x10, 0x11, 0x12, 0x18, 0x20, 0x21, 0x30, 0x40].contains op) ||
    rBits r 64 8 != 0 || bit r.toNat 32 || rBits r 0 28 != 0 || decide (5 ≤ rRmode r) ||
    (rXs r && op != 0x10 && op != 0x30) || reefFmtBad r ||
    ss.any (fun a => ss.any (fun b => partlyOverlap a b))

/-! ## Elements -/

/-- Elements of esz bytes from a byte string. -/
def elemsOf (esz : Nat) : Nat → List Byte → List Nat
  | 0, _ => []
  | n + 1, bs => ofBytes (bs.take esz) :: elemsOf esz n (bs.drop esz)

/-- The bytes of elements. -/
def bytesOf (esz : Nat) (es : List Nat) : List Byte := es.flatMap (toBytes esz)

/-- One step rounded by RNE into the computing format, with NV for a NaN made from no NaN (R82, R213). -/
def reefStep (f : FloatFmt) (ins : List Val) (v : Val) : Val × Flags :=
  let (w, fl) := rneVal f v
  (w, fl ||| flagIf (v.isNan && !ins.any Val.isNan) fNv)

/-- The drawn word for element i of a span with stream offset k (R214). -/
def reefWord (k0 k1 : Nat) (r : ReefRec) (k i : Nat) : Nat :=
  if rRmode r = 4 then drawWord k0 k1 (0x10000 + (rSid r + k) % 65536) (rStep r) ((rPos r + i) % 2 ^ 32) else 0

/-- Store a value of the computing format into a span's format (R213, R214). -/
def reefStore (r : ReefRec) (comp dst : Fmt) (word : Nat) (v : Val) : Nat × Flags :=
  if dst = comp then dst.write .rne 0 false v
  else dst.write ((RMode.ofCode (rRmode r)).getD .rne) word (!rOvf r) v

/-- The computing format of a floating-point operation (R213). -/
def reefComp (fs : List Fmt) : Fmt := if fs.contains .fp64 then .fp64 else .fp32
def compF (f : Fmt) : FloatFmt := if f = .fp64 then fp64F else fp32F

/-- The sum by the pairwise tree of R63 over elements padded with +0 to a power of two. -/
def reefTree (f : FloatFmt) (vs : List Val) : Val × Flags :=
  let n := 2 ^ (Nat.log2 (2 * vs.length - 1))
  if vs.isEmpty then (.fin false 0 0, 0) else treeSum f 40 (vs ++ List.replicate (n - vs.length) (.fin false 0 0))

/-- Write an exact-sum value by FMT0 (R215). -/
def xsOut (f : Fmt) (x : Nat) : Nat × Flags :=
  match f with
  | .raw => (x, 0)
  | .fp32 => xsToFp32 x
  | _ => xsToInt32 x

/-- One element enters an exact sum: raw XS24 by R74, another format as a product does under R70. -/
def xsTake (f : Fmt) (acc : Nat × Flags) (e : Nat) : Nat × Flags :=
  if f = .raw then (xsAdd acc.1 (e % 2 ^ 140), acc.2)
  else
    let (x, fl) := xsEnter acc.1 (f.decode e)
    (x, acc.2 ||| fl)

/-- Map a function with flags over a list, with element indices. -/
def mapFlags {α β : Type} (g : Nat → α → β × Flags) : Nat → List α → List β × Flags
  | _, [] => ([], 0)
  | i, a :: as =>
    let (b, f) := g i a
    let (bs, fs) := mapFlags g (i + 1) as
    (b :: bs, f ||| fs)

def nanInOf (vs : List Val) : Flags := flagIf (vs.any Val.isNan) fNanIn

/-- NAN_IN of elements that enter an exact sum: a NaN, or a record that holds one (R82). -/
def xsNanIn (f : Fmt) (es : List Nat) : Flags :=
  flagIf (es.any (fun e => if f = .raw then xsNan e else (f.decode e).isNan)) fNanIn

/-- What a reef operation does: bytes for spans, the value for RESULT, flags. -/
structure ReefOut where
  writes : List (Nat × List Byte)
  result : Nat
  flags  : Flags
  deriving DecidableEq, Repr

/-! ## Operations -/

/-- Element i of ADD, MUL, SCALE or AXPBY in floating point. -/
def reefFloat (op : Nat) (f : FloatFmt) (a b x y : Val) : Val × Flags :=
  let rdn := false
  match op with
  | 0x03 => reefStep f [x, y] (Val.add rdn x y)
  | 0x04 => reefStep f [x, y] (Val.mul x y)
  | 0x05 => reefStep f [a, x] (Val.mul a x)
  | _ =>
    let (t, f1) := reefStep f [b, y] (Val.mul b y)
    let p := Val.mul a x
    let (s, f2) := reefStep f [a, x, t] (Val.add rdn p t)
    (s, f1 ||| f2)

/-- CVT, ADD, MUL, SCALE, AXPBY over whole spans; `sp k` holds the elements of span k. -/
def reefElementwise (k0 k1 : Nat) (r : ReefRec) (sp : Nat → List Nat) : ReefOut :=
  let op := rOp r
  let fs := reefFmts r
  let d := rFmt r 0
  let es (k : Nat) : List Nat := sp k
  let xs := (es 1).map (fun e => (rFmt r 1).decode e)
  let ys := if op = 0x02 ∨ op = 0x05 then xs else (es 2).map (fun e => (rFmt r 2).decode e)
  let two := op = 0x03 ∨ op = 0x04 ∨ op = 0x06
  if op = 0x02 ∧ d = .raw then ⟨[(0, bytesOf 1 (es 1))], 0, 0⟩
  else if fs.any isInt4 ∧ op ≠ 0x02 then
    let (out, fl) := mapFlags (fun i (p : Val × Val) =>
      let v := if op = 0x03 then p.1.toInt + p.2.toInt else p.1.toInt * p.2.toInt
      let w := sext 32 (wrapInt 32 v)
      if d = .int32 then (wrapInt 32 w, (0 : Flags)) else reefStore r .int32 d (reefWord k0 k1 r 0 i) (intVal w)) 0 (List.zip xs ys)
    ⟨[(0, bytesOf (reefEsz false d) out)], 0, fl⟩
  else
    let comp := reefComp fs
    let f := compF comp
    let par (n : Nat) : Val := fp32F.decode (rParam r n)
    let (out, fl) := mapFlags (fun i (p : Val × Val) =>
      let (v, f1) := if op = 0x02 then (p.1, (0 : Flags)) else reefFloat op f (par 0) (par 1) p.1 p.2
      let (e, f2) := reefStore r (if op = 0x02 then .raw else comp) d (reefWord k0 k1 r 0 i) v
      (e, f1 ||| f2)) 0 (List.zip xs ys)
    ⟨[(0, bytesOf (reefEsz false d) out)], 0,
      fl ||| nanInOf (if two then xs ++ ys else xs)⟩

/-- REDUCE_SUM, REDUCE_MAX and REDUCE_MIN (R215). `target` is the present value of the target element. -/
def reefReduce (k0 k1 : Nat) (r : ReefRec) (es : List Nat) (target : Nat) : ReefOut :=
  let f1 := rFmt r 1
  let f0 := rFmt r 0
  let vs := es.map f1.decode
  let one (f : Fmt) (x : Nat) (fl : Flags) : ReefOut := ⟨[(0, toBytes (reefEsz (rXs r) f) x)], x, fl⟩
  if rOp r = 0x10 then
    if es = [] then one f0 0 0
    else if rXs r then
      let start : Nat × Flags := (if rAccum r then target % 2 ^ 140 else 0, 0)
      let (x, fl) := es.foldl (xsTake f1) start
      let (o, fl') := xsOut f0 x
      one f0 o (fl ||| fl' ||| xsNanIn f1 es ||| (if rAccum r then xsNanIn .raw [target] else 0))
    else if isInt4 f1 then
      let s := (vs.map Val.toInt).sum + (if rAccum r then (f0.decode target).toInt else 0)
      let w := sext 32 (wrapInt 32 s)
      if f0 = .int32 then one f0 (wrapInt 32 w) 0
      else
        let (o, fl) := reefStore r .int32 f0 (reefWord k0 k1 r 0 0) (intVal w)
        one f0 o fl
    else
      let comp := if f1 = .fp64 then Fmt.fp64 else .fp32
      let f := compF comp
      let (s, fl) := reefTree f vs
      let (s2, fl2) := if rAccum r then
          let t := f0.decode target
          let (a, b) := reefStep f [s, t] (Val.add false s t)
          (a, b ||| nanInOf [t])
        else (s, 0)
      let (o, fl3) := reefStore r comp f0 (reefWord k0 k1 r 0 0) s2
      one f0 o (fl ||| fl2 ||| fl3 ||| nanInOf vs)
  else
    let isMax := rOp r == 0x11
    if isInt4 f1 then
      let w := f1.width
      let is := vs.map Val.toInt
      let m := if isMax then is.foldl max (-(2 ^ (w - 1) : Int)) else is.foldl min ((2 ^ (w - 1) : Int) - 1)
      one f1 (wrapInt w m) 0
    else match foldMM isMax vs with
      | none => one f1 ((f1.float?.map FloatFmt.qnan).getD 0) 0
      | some v => one f1 (f1.write .rne 0 false v).1 (nanInOf vs)

/-- One element of SGDM: w′ and m′ with flags (R216). -/
def sgdmStep (lr mu wd w g m : Val) : Val × Val × Flags :=
  let f := fp32F
  let (g1, a) := reefStep f [wd, w, g] (Val.add false (Val.mul wd w) g)
  let (m', b) := reefStep f [mu, m, g1] (Val.add false (Val.mul mu m) g1)
  let (w', c) := reefStep f [lr, m', w] (Val.add false (Val.mul lr m') w)
  (w', m', a ||| b ||| c)

/-- Correctly rounded quotient in FP32. -/
def reefDiv (x y : Val) : Val × Flags :=
  match x, y with
  | .nan, _ | _, .nan => (.nan, 0)
  | .inf _, .inf _ => (.nan, fNv)
  | .inf n, .fin k _ _ => (.inf (n != k), 0)
  | .fin n _ _, .inf k => (.fin (n != k) 0 0, 0)
  | .fin n m e, .fin k m' e' =>
    if m' = 0 then (if m = 0 then (.nan, fNv) else (.inf (n != k), 0))
    else
      let (b, fl) := fp32F.roundApprox .rne 0 false (divApprox (n != k) m e m' e')
      (fp32F.decode b, fl)

/-- Correctly rounded square root in FP32. -/
def reefSqrt (x : Val) : Val × Flags :=
  match x with
  | .nan => (.nan, 0)
  | .inf n => if n then (.nan, fNv) else (.inf false, 0)
  | .fin n m e =>
    if m = 0 then (.fin n 0 0, 0)
    else if n then (.nan, fNv)
    else
      let (b, fl) := fp32F.roundApprox .rne 0 false (sqrtApprox m e)
      (fp32F.decode b, fl)

/-- One element of ADAMW: w′, m′ and v′ with flags; `p n` is PARAMn (R216). -/
def adamwStep (p : Nat → Val) (w g m v : Val) : Val × Val × Val × Flags :=
  let f := fp32F
  let fma (a b c : Val) : Val × Flags := reefStep f [a, b, c] (Val.add false (Val.mul a b) c)
  let mul (a b : Val) : Val × Flags := reefStep f [a, b] (Val.mul a b)
  let (t1, a1) := mul (p 2) g
  let (m', a2) := fma (p 1) m t1
  let (t2, a3) := mul g g
  let (t3, a4) := mul (p 4) t2
  let (v', a5) := fma (p 3) v t3
  let (mh, a6) := mul m' (p 5)
  let (vh, a7) := mul v' (p 6)
  let (d, a8) := reefSqrt vh
  let (d, a9) := reefStep f [d, p 7] (Val.add false d (p 7))
  let (u, a10) := reefDiv mh d
  let (u, a11) := fma (p 8) w u
  let (w', a12) := fma (p 0) u w
  (w', m', v', a1 ||| a2 ||| a3 ||| a4 ||| a5 ||| a6 ||| a7 ||| a8 ||| a9 ||| a10 ||| a11 ||| a12)

/-- SGDM and ADAMW over whole spans (R216). -/
def reefOptim (k0 k1 : Nat) (r : ReefRec) (sp : Nat → List Nat) : ReefOut :=
  let adam := rOp r == 0x21
  let p (n : Nat) : Val := fp32F.decode (rParam r n)
  let dec (k : Nat) : List Val := (sp k).map (rFmt r k).decode
  let rows := List.zip (dec 0) (List.zip (dec 1) (List.zip (dec 2) (if adam then dec 3 else dec 2)))
  let (outs, fl) := mapFlags (fun i (q : Val × Val × Val × Val) =>
    let (w', m', v', f0) := if adam then adamwStep p q.1 q.2.1 q.2.2.1 q.2.2.2
      else
        let (a, b, c) := sgdmStep (p 0) (p 1) (p 2) q.1 q.2.1 q.2.2.1
        (a, b, .fin false 0 0, c)
    let (a, f1) := reefStore r .fp32 (rFmt r 0) (reefWord k0 k1 r 0 i) w'
    let (b, f2) := reefStore r .fp32 (rFmt r 2) (reefWord k0 k1 r 1 i) m'
    let (c, f3) := if adam then reefStore r .fp32 (rFmt r 3) (reefWord k0 k1 r 2 i) v' else (0, 0)
    ((a, b, c), f0 ||| f1 ||| f2 ||| f3)) 0 rows
  let nan := nanInOf (dec 0 ++ dec 1 ++ dec 2 ++ (if adam then dec 3 else []))
  let w := (0, bytesOf (reefEsz false (rFmt r 0)) (outs.map (·.1)))
  let m := (2, bytesOf (reefEsz false (rFmt r 2)) (outs.map (·.2.1)))
  let v := (3, bytesOf (reefEsz false (rFmt r 3)) (outs.map (·.2.2)))
  ⟨if adam then [w, m, v] else [w, m], 0, fl ||| nan⟩

/-- COMBINE of a full group: `cs` holds each contributor's elements by ascending CINDEX (R218). -/
def reefCombine (k0 k1 : Nat) (r : ReefRec) (target : List Nat) (cs : List (List Nat)) : ReefOut :=
  let f1 := rFmt r 1
  let f0 := rFmt r 0
  let n := rCount r
  let col (i : Nat) : List Nat := cs.map (fun c => c.getD i 0)
  let out (es : List Nat) (fl : Flags) : ReefOut := ⟨[(0, bytesOf (reefEsz (rXs r) f0) es)], 0, fl⟩
  if rXs r then
    let (es, fl) := mapFlags (fun (i : Nat) (_ : Unit) =>
      let start : Nat × Flags := (if rAccum r then target.getD i 0 % 2 ^ 140 else 0, 0)
      let (x, a) := (col i).foldl (xsTake f1) start
      let (o, b) := xsOut f0 x
      (o, a ||| b ||| xsNanIn f1 (col i) ||| (if rAccum r then xsNanIn .raw [target.getD i 0] else 0))) 0 (List.replicate n ())
    out es fl
  else if isInt4 f1 then
    let (es, fl) := mapFlags (fun (i : Nat) (_ : Unit) =>
      let s := ((col i).map (fun e => (f1.decode e).toInt)).sum + (if rAccum r then (f0.decode (target.getD i 0)).toInt else 0)
      let w := sext 32 (wrapInt 32 s)
      if f0 = .int32 then (wrapInt 32 w, (0 : Flags)) else reefStore r .int32 f0 (reefWord k0 k1 r 0 i) (intVal w)) 0 (List.replicate n ())
    out es fl
  else
    let comp := reefComp [f0, f1]
    let f := compF comp
    let (es, fl) := mapFlags (fun (i : Nat) (_ : Unit) =>
      let vs := (if rAccum r then [f0.decode (target.getD i 0)] else []) ++ (col i).map f1.decode
      let (acc, a) := match vs with
        | [] => (Val.fin false 0 0, (0 : Flags))
        | v :: rest => rest.foldl (fun (p : Val × Flags) x =>
            let (s, b) := reefStep f [p.1, x] (Val.add false p.1 x)
            (s, p.2 ||| b)) (v, 0)
      let (o, b) := reefStore r comp f0 (reefWord k0 k1 r 0 i) acc
      (o, a ||| b ||| nanInOf vs)) 0 (List.replicate n ())
    out es fl

/-- DIGEST: the leaf digests of the bytes in order (R221). -/
def reefDigest (bs : List Byte) : ReefOut :=
  ⟨[(0, (chunks 0x100000 (leafCount bs.length) bs).flatMap (fun l => digestBytes (leafDigest l)))], 0, 0⟩

/-- CHECK: the CRC-32C of the bytes (R222). -/
def reefCheck (bs : List Byte) : ReefOut := ⟨[(0, toBytes 4 (crc32c bs))], crc32c bs, 0⟩

/-- FILL: the low bytes of PARAM0 in every element (R208). -/
def reefFill (r : ReefRec) : ReefOut :=
  ⟨[(0, (List.replicate (rCount r) (toBytes (reefEsz false (rFmt r 0)) (rParam r 0))).flatten)], 0, 0⟩

/-- A whole operation other than COMBINE over the bytes of its spans. -/
def reefPerform (k0 k1 : Nat) (r : ReefRec) (bytes : Nat → List Byte) : ReefOut :=
  let sp (k : Nat) : List Nat := elemsOf (reefEsz (rXs r) (rFmt r k)) (rCount r) (bytes k)
  match rOp r with
  | 0x01 => reefFill r
  | 0x10 | 0x11 | 0x12 => reefReduce k0 k1 r (sp 1) (ofBytes ((bytes 0).take (targetEsz r)))
  | 0x18 => reefCheck (bytes 1)
  | 0x20 | 0x21 => reefOptim k0 k1 r sp
  | 0x40 => reefDigest (bytes 1)
  | _ => reefElementwise k0 k1 r sp

/-- The 128-byte reply record (Table 3 of spec/07). -/
def reefReply (r : ReefRec) (o : ReefOut) : BitVec 1024 :=
  BitVec.ofNat 1024 ((o.result % 2 ^ 192) * 2 ^ 128 + rTagid r * 2 ^ 96 + rCount r * 2 ^ 64 + rOp r * 2 ^ 56 + o.flags.toNat * 2 ^ 40)

end Sys2Proof.Machine
end

