-- ==== Sys2Proof/Machine/DeviceState.lean ====
section
/-! DEFINITION. The state of the device outside its cores: lagoons, stacks, channels, regions, the tide, the harbour,
the port, the keeper, debug, reliability and the package (spec/06 to spec/17), as plain data. -/

namespace Sys2Proof.Machine

/-! ## Events (R495) -/

/-- An event record (Table 4 of spec/16). `kind` 0 notice, 1 ended a run, 2 refused, 3 held or reset the device. -/
structure EventRec where
  code   : Nat
  kind   : Nat
  evno   : Nat
  tide   : Nat
  arg    : Nat
  ploc   : Nat
  lagoon : Option Nat
  vcore  : Option Nat
  deriving DecidableEq, Repr

/-! ## Lagoons (R413) -/

/-- Lagoon states, coded in this order from 0 (Table 8 of spec/12). -/
inductive LState where
  | empty | configured | loaded | running | paused | draining | faulted
  deriving DecidableEq, Repr

def LState.code : LState → Nat
  | .empty => 0 | .configured => 1 | .loaded => 2 | .running => 3 | .paused => 4 | .draining => 5 | .faulted => 6

/-- The mailbox command an answer belongs to: its session by handle (number + 64 × serial, so that a session number given
again is another session, R403), sequence number and OP (R406). -/
structure Ref where
  session : Nat
  seq     : Nat
  op      : Nat
  deriving DecidableEq, Repr

/-- A region entry of an image: KIND 0 input, 1 output, 2 both, 3 live window (Table 5 of spec/11). -/
structure Span where
  start : Nat
  len   : Nat
  kind  : Nat
  deriving DecidableEq, Repr

/-- A power plan (Table 7 of spec/11). -/
structure Plan where
  mode    : Nat
  reefmax : List Nat
  allow   : List Nat
  deriving DecidableEq, Repr

/-- A barrier: its members as (virtual core, access sequencer), the episodes completed, and the virtual core of the latest arrival
(R253 to R255). -/
structure BarrierDef where
  num      : Nat
  members  : List (Nat × Bool)
  episodes : Nat
  last     : Nat
  deriving DecidableEq, Repr

/-- A multicast group (R262). -/
structure Group where
  num       : Nat
  sender    : Nat
  receivers : List Nat
  deriving DecidableEq, Repr

/-- A contribution held in a combining store (R266). -/
structure Contribution where
  cindex : Nat
  round  : Nat
  entry  : QEntry
  deriving DecidableEq, Repr

/-- A combining queue: its descriptor, its contributors in ascending order, and its store (R264 to R266): the round
being added, contributions added so far, their sum, and those that wait. -/
structure CombQueue where
  num      : Nat
  word     : BitVec 64
  contribs : List Nat
  round    : Nat
  added    : Nat
  shape    : Nat × Nat
  sum      : List Nat
  flags    : Flags
  store    : List Contribution
  deriving DecidableEq, Repr

/-- An active message, a contribution or a combining result on its way (R256 to R265). `kind` 0 message to a handler,
1 contribution to a combining queue, 2 combining result. `op` names the sending queue entry's operation, `way` its crossing of lanes, 0 for
none (R287). -/
structure Msg where
  kind    : Nat
  src     : Nat
  dst     : Nat
  handler : Nat
  entry   : QEntry
  op      : Nat
  oseq    : SeqId
  multi   : Bool
  way     : Nat
  deriving DecidableEq, Repr

/-- What a program load fixes for a lagoon as a whole (R341 to R345). -/
structure Image where
  gx      : Nat
  gy      : Nat
  fold    : Nat
  rngFree : Bool
  split   : Bool
  nstk    : Nat
  nddr    : Nat
  libver  : Nat
  libdig  : Digest
  imgroot : Digest
  mapdig  : Digest
  regions : List Span
  shoal   : List Span
  plans   : List Plan
  deriving DecidableEq, Repr

/-- One entry of the placement map (R316, R528): physical core 144 × die + 12y + x and its contexts in order. -/
structure Place where
  phys : Nat
  ctxs : List Nat
  deriving DecidableEq, Repr

/-- CONFIGURE's arguments (R419). -/
structure LagoonCfg where
  regions : Nat
  hbm     : Nat
  chans   : Nat
  pmode   : Nat
  steady  : Bool
  deriving DecidableEq, Repr

/-- Values that SETMODE holds until the next program boundary (R41, R271). -/
structure HeldMode where
  pmode  : Nat
  steady : Bool
  dlwin  : Nat
  deriving DecidableEq, Repr

/-- A launch that has been set (R307, R308). -/
structure Launch where
  count   : Nat
  reqlock : Bool
  runseed : Nat
  seeds   : List Nat
  nseed   : Nat
  ref     : Option Ref
  service : Bool
  deriving DecidableEq, Repr

/-- A run from its launch until its record is accepted (R310, R327). -/
structure Run where
  runno   : Nat
  runseed : Nat
  seeds   : List Nat
  nseed   : Nat
  pmode   : Nat
  steady  : Bool
  cycle   : Nat
  taint   : Nat
  ended   : Nat          -- END of Table 8 of spec/10
  event   : Nat
  ref     : Option Ref
  service : Bool
  deriving DecidableEq, Repr

/-- A run record with its reference (R327, R332): `ref` is (BATCHNO, index) once accepted. -/
structure RunRec where
  runno  : Nat
  lagoon : Nat
  bytes  : BitVec 4608
  ended  : Nat
  event  : Nat
  ref    : Option (Nat × Nat)
  deriving DecidableEq, Repr

/-- A replica pairing (R449, R450). -/
structure Pairing where
  devid      : Nat
  feed       : Nat
  fdom       : List Byte
  correlated : Bool
  deriving DecidableEq, Repr

/-- The latest root: kind 1 snapshot, 2 restore (R451, Table 4 of spec/15). -/
structure LatestRoot where
  kind : Nat
  root : Digest
  dcur : Nat
  deriving DecidableEq, Repr

/-- A drain accepted and not finished (R441): its command, queue pair, source and length, the program granules that it has still to read in
slots of their channels (R442) and those read, and once its bytes have been sent, their root. -/
structure Drain where
  ref    : Ref
  qpn    : Nat
  rkey   : Nat
  remote : Nat
  src    : Nat
  len    : Nat
  root   : Option Digest
  todo   : List Nat
  got    : Sparse (List Byte)
  deriving DecidableEq, Repr

/-- A request of the decision service (R426, R428): by mailbox (session, SEQ) or by RoCE (QPN, PSN). -/
structure Request where
  roce     : Bool
  src      : Nat
  num      : Nat
  reqid    : Nat
  row      : List Byte
  waitsign : Bool
  tide     : Nat              -- when its last byte arrived
  sender   : Nat              -- session number or QPN
  deriving DecidableEq, Repr

/-- A closed window's rows, and its run once started and recorded (R426, R429). -/
structure SvcBatch where
  lagoon : Nat
  reqs  : List Request
  runno : Option Nat
  outs  : List (List Byte)
  rref  : Option (Nat × Nat)
  deriving DecidableEq, Repr

/-- The decision service of a lagoon (R425 to R430). -/
structure Service where
  w        : Nat
  b        : Nat
  rowin    : Nat
  rowout   : Nat
  q        : Nat
  waitsign : Bool
  runseed  : Nat
  qpns     : List Nat
  window   : Nat
  current  : List Request
  later    : List (Nat × Request)
  closed   : List SvcBatch
  active   : Option SvcBatch
  stopping : Option Ref
  sealing  : Bool             -- the first waiting batch's rows are written and being hashed
  deriving DecidableEq, Repr

/-- A deadlock snapshot (R273): tide, window, entries not recorded and entries. -/
structure DeadSnap where
  tide    : Nat
  dlwin   : Nat
  dropped : Nat
  entries : List (BitVec 128)
  deriving DecidableEq, Repr

/-- A checkpoint snapshot or restore under way (R435, R447): its area, the area's length and the data cursor; `half` is the
COMMIT code of the half copied, 0 until the snapshot's checks have passed; the tide at which copying began; the root found. -/
structure CkWork where
  ref   : Ref
  area  : Nat
  len   : Nat
  dcur  : Nat
  half  : Nat
  tsnap : Nat
  root  : Digest
  deriving DecidableEq, Repr

/-- The hashing of a lagoon's declared regions under way (R330): the leaves in HBM whose DIGEST records are still to be posted, as
(program address, bytes), and the digests that have come back, by program address. -/
structure Hashing where
  outs   : Bool
  toPost : List (Nat × Nat)
  want   : Nat
  got    : List (Nat × Digest)
  deriving DecidableEq, Repr

/-- One lagoon: what its life outside a run fixes, then what serves runs, checkpoints and the service. `waits` is the tide since
which some agent has waited (R271), `dbgWrite` that a D3 write has touched it since its load (R314). -/
structure Lagoon where
  st        : LState
  sealed    : Bool
  cfg       : LagoonCfg
  held      : Option HeldMode
  dlwin     : Nat
  img       : Option Image
  place     : List Place
  barriers  : List BarrierDef
  groups    : List Group
  combs     : List CombQueue
  msgs      : List Msg
  launch    : List Launch
  run       : Option Run
  inroot    : Digest
  prevrun   : Nat
  late      : Bool
  progress  : Nat
  record    : Option RunRec
  dead      : Option DeadSnap
  pair      : Option Pairing
  root      : Option LatestRoot
  unproven  : Bool
  drains    : List Drain
  snap      : Option CkWork
  restore   : Option CkWork
  svc       : Option Service
  pauseRef  : Option Ref      -- PAUSE, STOP, SEAL, LOAD, CONFIGURE or RELEASE in progress
  stopping  : Bool
  clearing  : Bool
  stopTide  : Nat
  waits     : Option Nat
  dbgWrite  : Bool
  hashing   : Option Hashing
  ledgers   : Sparse (List Byte)   -- ledger records that the harbour keeps of an image no longer in the cores, by virtual core (R299, R483)
  deriving DecidableEq, Repr

def LagoonCfg.blank : LagoonCfg := ⟨0, 0, 0, 0, false⟩

/-- An EMPTY lagoon (R413); DLWIN resets to 1,000,000 (R271). -/
def Lagoon.blank : Lagoon :=
  { st := .empty, sealed := false, cfg := LagoonCfg.blank, held := none, dlwin := 1000000, img := none, place := []
    barriers := [], groups := [], combs := [], msgs := [], launch := [], run := none, inroot := 0, prevrun := 0
    late := false, progress := 0, record := none, dead := none, pair := none, root := none, unproven := false
    drains := [], snap := none, restore := none, svc := none, pauseRef := none, stopping := false, clearing := false
    stopTide := 0, waits := none, dbgWrite := false, hashing := none, ledgers := [] }

/-! ## Stacks and channels -/

/-- A reef record held by a stack (R211): issuer 512 is the harbour. `begun` says that it has started; `reads` and `writes` are the
granules that its reef engines have still to read and to write, each in a slot of its channel (R204, R205), `got` the granules as they
were read, and `out` the outcome once all have been. `way` is the number of its crossing of lanes to the stack, 0 for none, and `back`
that of its completion's, once that has been placed (R287). -/
structure ReefHeld where
  lagoon : Nat
  issuer : Nat
  word   : BitVec 1024
  op     : Nat
  oseq   : SeqId
  out    : Option ReefOut
  reads  : List Nat
  writes : List Nat
  way    : Nat
  back   : Option Nat
  begun  : Bool
  got    : Sparse (List Byte)
  deriving DecidableEq, Repr

/-- A stack (R203 to R237): records in arrival order, open combining groups by number, REEFSTAT, and the shoal's lines
(granule numbers, most recent first) with its hit and miss counts. -/
structure Stack where
  recs     : List ReefHeld
  groups   : Sparse (List ReefHeld)
  reefstat : Flags
  shoal    : List Nat
  hits     : Nat
  misses   : Nat
  clean    : Bool
  worn     : Bool
  failed   : Bool
  deriving DecidableEq, Repr

def Stack.blank : Stack := ⟨[], [], 0, [], 0, 0, false, false, false⟩

/-- A channel wheel (R185, R186): owner words, the next slot to start, and the granules moved by the harbour's landings and snapshots for
which slots have still to pass (R188). -/
structure Wheel where
  owners : Sparse (BitVec 16)
  pos    : Nat
  owed   : Nat
  deriving DecidableEq, Repr

def Wheel.blank : Wheel := ⟨[], 0, 0⟩

/-- A DDR5 channel (R514): fitted bytes (0 unfitted), speed in MT/s, clean flag and worn mark. -/
structure Ddr where
  bytes : Nat
  mts   : Nat
  clean : Bool
  worn  : Bool
  deriving DecidableEq, Repr

def Ddr.blank : Ddr := ⟨0, 0, false, false⟩

/-! ## Regions and physical cores -/

/-- A region (R280 to R286): the fields of RGNSTAT, and what the governor and the rail watch keep. -/
structure Region where
  rate     : Nat
  tj       : Int
  stops    : Nat
  vset     : Nat
  vbase    : Nat
  state    : Nat
  ptrim    : Nat
  lowSince : Option Nat
  warned   : Bool
  lastStop : Option Nat
  target   : Option Nat
  noChange : Bool
  retries  : Nat
  failed   : Bool
  periods  : Nat              -- thousandths of a pacer period since reset
  stages   : Nat              -- the same with the periods of its stops, in which its lanes' stage sections go on (R283, R287)
  deriving DecidableEq, Repr

/-- A region at reset (Table 3 of spec/09). -/
def Region.blank : Region := ⟨0, 0, 0, 0x1E, 0x1E, 4, 0, none, false, none, none, false, 0, false, 0, 0⟩

/-- An item on its way through strait and causeway lanes (R287 to R293): its number, the lanes still to cross, the one that it is in
first, the receiving side's pacer period and stage period, in thousandths, at which its last line was placed there, and its lines. -/
structure Transit where
  id     : Nat
  lanes  : List Nat
  placed : Nat
  staged : Nat
  lines  : Nat
  deriving DecidableEq, Repr

/-- What a lane's two ends have reached: the stage period from which its stage section accepts a line, and the pacer period from which
the receiving side takes one (R287). -/
structure LaneUse where
  accepts : Nat
  takes   : Nat
  deriving DecidableEq, Repr

def LaneUse.blank : LaneUse := ⟨0, 0⟩

/-- The lanes between regions: the items in them, oldest placement first, the number of the latest item, the use of each lane, and for
each ferry link that crosses a strait the entries in it with the numbers of their crossings, oldest first (R235). -/
structure Fabric where
  items : List Transit
  count : Nat
  use   : Sparse LaneUse
  ferry : Sparse (List (Nat × QEntry))
  deriving DecidableEq, Repr

def Fabric.blank : Fabric := ⟨[], 0, [], []⟩

/-- A physical core (R24, R110, R118, R492): enabled for use, out of service, spare cube position, disabled lanes,
tile memory banks replaced, ferry links closed (bit 0 east, bit 1 west), and the lane positions among those disabled that
are faulty. -/
structure Phys where
  enabled : Bool
  oos     : Bool
  spare   : Nat
  lanes   : List Nat
  banks   : List Nat
  closed  : Nat
  dead    : List Nat
  deriving DecidableEq, Repr

def Phys.blank : Phys := ⟨false, false, 16, [64, 65, 66, 67], [], 0, []⟩

/-- Lanes of a strait boundary or a causeway group in one direction that failed (R291, R293). -/
structure Lanes where
  failed : List Nat
  deriving DecidableEq, Repr

/-! ## The tide (R300 to R306) -/

structure Tide where
  count    : Nat
  state    : Nat              -- 0 FREE, 1 LOCKING, 2 LOCKED, 3 HOLDOVER
  source   : Nat
  ppsOn    : Bool
  ppsSeen  : Bool
  ppsFirst : Bool
  disc     : Bool
  domain   : Nat
  lastSync : Option Nat
  good     : Nat
  locked   : Bool             -- LOCKING has been entered since reset
  stepped  : Bool
  set      : Bool
  offset   : Int
  step     : Option Int       -- a step that waits, as the correction to add
  slew     : Int              -- correction still to be made by slewing
  lastSlew : Nat
  ppsOut   : Nat              -- rising edges of the 1PPS output since reset (R305)
  deriving DecidableEq, Repr

/-- The tide at reset (R302): counting from 0, FREE; PTP discipline on in domain 0 (DESIGN CHOICE 6, R377). -/
def Tide.blank : Tide :=
  ⟨0, 0, 0, false, false, false, true, 0, none, 0, false, false, false, 0, none, 0, 0, 0⟩

/-! ## Harbour: sessions (R399 to R407) -/

/-- An accepted command that has not been answered: phase 0 waits for its turn, 1 waits on its fence, 2 runs. `port` is the UDP port to
which it was sent (R394). -/
structure Cmd where
  seq      : Nat
  body     : List Byte
  phase    : Nat
  deadline : Nat
  port     : Nat
  deriving DecidableEq, Repr

/-- A reply in the cache (R407): its number and body. -/
structure Cached where
  seq  : Nat
  body : List Byte
  deriving DecidableEq, Repr

/-- A session; `hd` and `dh` are its host-to-device and device-to-host keys (R401). -/
structure Session where
  id       : Nat
  serial   : Nat
  scope    : Nat
  peer     : Nat
  port     : Nat
  entry    : Nat              -- address entry at which HELLO arrived
  keyid    : Nat
  high     : Nat
  cmds     : List Cmd
  cache    : List Cached
  groups   : Nat
  notices  : Nat
  sent     : Nat
  lastCmd  : Nat
  hd       : List Byte
  dh       : List Byte
  deriving DecidableEq, Repr

/-- A handshake that waits for FINISH (R400), with the PRK of its keys (R401). -/
structure Handshake where
  id     : Nat
  serial : Nat
  scope  : Nat
  peer   : Nat
  port   : Nat
  entry  : Nat
  keyid  : Nat
  th1    : Digest
  dsig   : Nat
  prk    : List Byte
  tide   : Nat
  deriving DecidableEq, Repr

/-! ## Harbour: RoCE (R371 to R376) -/

structure LandReg where
  idx    : Nat
  addr   : Nat
  len    : Nat
  rkey   : Nat
  owner  : Nat                -- 0–7 lagoon, 8 harbour
  write  : Bool
  read   : Bool
  ledger : Nat
  deriving DecidableEq, Repr

/-- An initiator request of a queue pair that waits for its acknowledgement: `drain` names the lagoon whose drain it
carries, `ref` the XFER that it answers. Where `lr` names a landing region it is an RDMA READ: `remote` is then the offset
in the region at which the next response lands, and `bytes` are as many as are still to come. `snd` marks a SEND, whose
R_Key and address are 0. -/
structure Work where
  psn    : Nat
  bytes  : List Byte
  rkey   : Nat
  remote : Nat
  ref    : Option Ref
  drain  : Option Nat
  lr     : Option Nat         -- RDMA READ: the landing region to land in
  snd    : Bool
  reply  : List Byte          -- XFER: the reply as it was formed when the object was copied (R421)
  deriving DecidableEq, Repr

structure QPair where
  qpn     : Nat
  owner   : Nat
  peer    : Nat
  v4      : Bool
  rqpn    : Nat
  mtu     : Nat
  spsn    : Nat
  rpsn    : Nat
  timeout : Nat
  rate    : Nat
  limit   : Nat
  retries : Nat
  rnr     : Nat               -- RNR NAKs since the last acknowledgement
  timer   : Nat               -- the tide at which the ACK timer was last started (R371)
  state   : Nat               -- 0 ready, 1 error
  work    : List Work
  deriving DecidableEq, Repr

structure Sink where
  owner : Nat
  qpn   : Nat
  rkey  : Nat
  base  : Nat
  slot  : Nat
  slots : Nat
  next  : Nat
  used  : Nat
  acked : Nat
  queue : List Nat
  deriving DecidableEq, Repr

/-- A library package held (R165, R529). -/
structure Library where
  triple : Nat
  digest : Digest
  bytes  : List Byte
  flash  : Bool
  deriving DecidableEq, Repr

/-! ## Harbour: run records (R332 to R336) -/

structure Batch where
  no     : Nat
  recs   : List RunRec
  topen  : Nat
  tclose : Nat
  header : BitVec 1536
  ecdsa  : List Byte
  lms    : List Byte
  lost   : Bool
  deriving DecidableEq, Repr

structure Builder where
  openRecs : List RunRec
  openNo   : Nat
  topen    : Nat
  closed   : List Batch
  signed   : List Batch
  batchwin : Nat
  prev     : Digest
  waiting  : List Nat
  stopped  : Bool
  unsigned : List SvcBatch    -- service answers that wait for their batch's signatures (R427)
  flushes  : List Ref         -- FLUSH commands that have started and wait for room (R336, R403)
  deriving DecidableEq, Repr

/-- The builder at reset: BATCHWIN 100,000,000 ticks (R333). -/
def Builder.blank : Builder := ⟨[], 0, 0, [], [], 100000000, 0, [], false, [], []⟩

/-! ## The port (R363 to R388) -/

/-- An address entry: owner 0–7 lagoon, 8 harbour (R366). -/
structure Addr where
  addr  : Nat
  v4    : Bool
  vlan  : Option Nat
  owner : Nat
  deriving DecidableEq, Repr

/-- The settings of NET, QOS, MACSEC and LIGHTHOUSE that survive reset (R418). -/
structure NetCfg where
  mac      : Nat
  local0   : Option Nat       -- VLAN of entry 0
  addrs    : List (Nat × Addr)
  hmpport  : Nat
  lossless : Nat
  traffic  : Nat
  dscp     : Nat
  pfcwd    : Nat
  macsec   : Bool
  replay   : Nat
  cak      : Option (List Byte × List Byte)
  lhcfg    : Nat
  lhetype  : Nat
  lhport   : Nat
  deriving DecidableEq, Repr

/-- Reset values: HMPPORT (R394), priorities (Table 3 of spec/12), PFCWD (R369), LHCFG (Table 9 of spec/12). The DSCP
map and MACsec's state have no reset value in the spec (DESIGN CHOICE 6). -/
def NetCfg.blank : NetCfg :=
  { mac := 0, local0 := none, addrs := [], hmpport := 51620, lossless := 0x18
    traffic := 3 + 4 * 8 + 6 * 64 + 7 * 512 + 6 * 4096, dscp := 0, pfcwd := 200, macsec := false, replay := 0, cak := none
    lhcfg := 0x7FF6000A, lhetype := 0x88B5, lhport := 51621 }

/-- A priority paused by the peer (R369): since when, and whether 0x5106 has been raised in this episode. -/
structure Paused where
  prio   : Nat
  since  : Nat
  raised : Bool
  deriving DecidableEq, Repr

/-- A lighthouse reply that waits to leave (R378, R385): its payload and due tide, the probe's form, the MAC address, address and
port it goes to, the port it leaves from, the probe's VLAN ID, and the address entry that it came to. -/
structure LhReply where
  due     : Nat
  rxtide  : Nat
  payload : BitVec 768
  l2      : Bool
  mac     : Nat
  peer    : Nat
  sport   : Nat
  dport   : Nat
  vlan    : Option Nat
  entry   : Nat
  deriving DecidableEq, Repr

/-- A security association of the receive or the transmit secure channel (R370): its number, the serial that a new key under the same
number changes, and on receipt the next packet number expected. -/
structure Sa where
  an     : Nat
  serial : Nat
  next   : Nat
  deriving DecidableEq, Repr

structure Port where
  cfg       : NetCfg
  link      : Option Nat      -- width in Gb/s while up
  lanes     : Nat
  resolved  : List (Nat × Nat)
  paused    : List Paused
  ctlOpen   : Bool
  sas       : List Sa         -- of the receive channel, newest first
  txSas     : List Sa         -- of the transmit channel, newest first: the one that transmits
  lastProbe : Option Nat
  lhReplies : List LhReply
  lhDrops   : Nat
  dropped   : Nat
  oversize  : Nat             -- frames dropped as too long (R365)
  received  : Sparse Nat      -- frames received on each priority (R368)
  deriving DecidableEq, Repr

def Port.blank : Port := ⟨NetCfg.blank, none, 0, [], [], false, [], [], none, [], 0, 0, 0, []⟩

/-- The sideband port (R389 to R392). `fw` is an update staged and verified (R518). -/
structure Sideband where
  dyn     : Option Nat
  eid     : Option Nat
  bmcHold : Option Nat        -- 3 P3, 4 off
  pending : Option Nat
  offReady : Bool
  deriving DecidableEq, Repr

def Sideband.blank : Sideband := ⟨none, none, none, none, false⟩

/-! ## The keeper and firmware (R454 to R472) -/

/-- A firmware copy in boot flash or SRAM: version, digest, and whether each signature verifies (R460, R530). -/
structure Firmware where
  ver   : Nat
  dig   : Digest
  ecdsa : Bool
  lms   : Bool
  deriving DecidableEq, Repr

/-- The provisioning record (Table 6 of spec/15). -/
structure ProvRec where
  key  : List Byte
  fdom : List Byte
  mac  : Nat
  deriving DecidableEq, Repr

structure TenantKey where
  scope : Nat
  key   : List Byte
  deriving DecidableEq, Repr

structure Keeper where
  life     : Nat              -- 0 BLANK, 1 PROVISIONED, 2 DEPLOYED, 3 RETURNED
  wipe     : Bool
  prov     : Option ProvRec
  tkeys    : List TenantKey
  net      : NetCfg
  counters : Sparse Nat
  leaf     : Nat              -- next leaf of the blocks held
  leafEnd  : Nat              -- first leaf beyond the blocks held
  logDig   : List (Nat × Digest)   -- LOGSEQ and digest of the latest and the previous copy
  spares   : List (Nat × Nat) -- spare records: (kind, physical place)
  lanes    : List (Nat × Nat) -- calibration results: (lane class, place) of each lane that failed (R291, R293)
  grade    : Nat
  stepping : Nat
  serial   : Nat
  lid      : Nat              -- lid option of the ordering code (R6): 0 CP, 1 CK
  mac      : Nat              -- the MAC address assigned to the part (R469)
  helper   : List Byte        -- helper data of the PUF (R455)
  secret   : Option (BitVec 256)   -- the device secret, once rebuilt since power-up
  deriving DecidableEq, Repr

structure Boot where
  running : Option Firmware
  copyA   : Option Firmware
  copyB   : Option Firmware
  staged  : Option Firmware
  fwstat  : Nat
  held    : Bool              -- held in P3 by a failed boot (R455, R460)
  ready   : Bool              -- past start-up step 12
  step4   : Bool              -- past start-up step 4
  waitFw  : Bool              -- the keeper waits for FWLOAD (R461)
  start   : Option StartUp    -- what start-up finds after step 4, while FWLOAD is awaited
  selfReset : Bool            -- the device has reset itself: straps are not sampled again (R511, R512)
  deriving DecidableEq, Repr

def Boot.blank : Boot := ⟨none, none, none, none, 0xFE, false, false, false, false, none, false⟩

/-! ## Debug (R476 to R482) -/

/-- A debug session: scope 0–7 or 0xFF, level, the mailbox session that opened it (none over JTAG), its end. -/
structure Debug where
  scope    : Nat
  level    : Nat
  via      : Option Nat
  deadline : Nat
  tokseq   : Nat
  deriving DecidableEq, Repr

structure Jtag where
  ir       : Nat
  sel      : Nat
  result   : BitVec 128
  tokstat  : Nat
  provstat : Nat
  dr       : List Bool
  trst     : Bool             -- TRST_N is held low: the TAP stays in Test-Logic-Reset (R503)
  deriving DecidableEq, Repr

def Jtag.blank : Jtag := ⟨0xFF, 0, 0, 0, 0, [], false⟩

/-! ## Reliability (R486 to R497) -/

/-- An error entry of the logbook (Table 9 of spec/16). -/
structure ErrEntry where
  ploc     : Nat
  unit     : Nat
  subidx   : Nat
  word     : Nat
  bit      : Nat
  daycnt   : Nat
  daystart : Nat
  firsts   : Nat
  lasts    : Nat
  corr     : Nat
  uncorr   : Nat
  spared   : Bool
  lasting  : Bool
  deriving DecidableEq, Repr

/-- The logbook (Table 7 of spec/16): sections as counts by index. -/
structure Logbook where
  seconds : Nat
  states  : Sparse Nat
  temps   : Sparse Nat
  vsets   : Sparse Nat
  rates   : Sparse Nat
  rails   : Sparse Nat
  links   : Sparse Nat
  spares  : Sparse Nat
  errs    : List ErrEntry
  events  : List EventRec
  deriving DecidableEq, Repr

def Logbook.blank : Logbook := ⟨0, [], [], [], [], [], [], [], [], []⟩

/-- A self-test that is scheduled (R490): the unit, by PLOC, UNIT and SUBIDX, the class of the error that scheduled it, the lagoon it
belongs to, and whether an error that it serves has been classed as lasting already (R491 rules 2 and 3). -/
structure UnitTest where
  ploc   : Nat
  unit   : Nat
  subidx : Nat
  eclass : Nat
  lagoon : Option Nat
  classed : Bool
  deriving DecidableEq, Repr

/-- A substitution to be made: spare kind, where the lasting error lies as event 0x7202 gave it, and the lagoon (R492). -/
structure Subst where
  kind   : Nat
  ploc   : Nat
  unit   : Nat
  subidx : Nat
  word   : Nat
  bit    : Nat
  eclass : Nat
  lagoon : Option Nat
  deriving DecidableEq, Repr

structure Reliab where
  log      : Logbook
  slots    : List (Nat × Logbook)   -- flash slots as (LOGSEQ, copy), newest first
  lastCk   : Nat
  tests    : List UnitTest
  substs   : List Subst
  used     : Sparse Nat             -- spares used, by kind × 2^24 + place
  bad      : List Nat               -- atoms of memory with check bits marked bad, by address / 64
  badCore  : List (Nat × Nat × Nat) -- core words marked bad: physical core, unit, word
  lastRaise : Sparse Nat            -- tide at which a rate-limited event was last raised
  deriving DecidableEq, Repr

def Reliab.blank : Reliab := ⟨Logbook.blank, [], 0, [], [], [], [], [], []⟩

/-! ## Power and package (R502 to R512) -/

/-- A move between power states under way (R483), with the command to answer. -/
structure Move where
  target : Nat
  ref    : Option Ref
  deriving DecidableEq, Repr

/-- A power group's enable and power-good (R509): 0 HB, 1 CW, 2 CE; barred until the next reset (R510). -/
structure PGroup where
  pen    : Bool
  pgood  : Bool
  barred : Bool
  deriving DecidableEq, Repr

structure Power where
  porst     : Bool            -- out of reset: PORST_N is high, and start-up has begun since the last reset
  state     : Nat
  move      : Option Move
  hb        : PGroup
  cw        : PGroup
  ce        : PGroup
  thermtrip : Bool            -- THERMTRIP_N is driven low
  tripTide  : Option Nat
  cause     : Nat             -- a pending entry to P2 or P3 that waits for records: 0 none, 1 trip, 2 BMC P3, 3 BMC off, 4 wipe
  ref       : Option Ref      -- the LIFECYCLE command that the pending entry answers
  deriving DecidableEq, Repr

def PGroup.blank : PGroup := ⟨false, false, false⟩
def Power.blank : Power := ⟨false, 0, none, PGroup.blank, PGroup.blank, PGroup.blank, false, none, 0, none⟩

structure Straps where
  feed     : Nat
  slot     : Nat
  bootSrc  : Nat
  linkMode : Nat
  deriving DecidableEq, Repr

/-- A frame, notice, packet or sideband answer handed to a transmitter (DESIGN CHOICE 14): what it is, to whom, and
its content. `kind`: 1 HMP reply, 2 HMP notice, 3 handshake or certificate frame, 4 lighthouse, 5 RoCE, 6 network,
7 sideband, 8 signed batch, 9 HMP reply sent again with DUPLICATE set, 10 JTAG data register, 11 RoCE congestion notification,
12 PTP. -/
structure Outgoing where
  kind : Nat
  dest : Nat
  num  : Nat
  body : List Byte
  deriving DecidableEq, Repr

/-- How a frame leaves the port (R366 to R370): its priority, the VLAN ID of the address entry that it leaves from, hop limit or TTL,
DF, the association and packet number that protect it, whether its priority is paused when it is handed over, of a lighthouse
reply the MAC address that it goes to and the port or EtherType that it leaves from, the address and the UDP port that it leaves from
where a rule gives them (R378, R394), and whether a UDP checksum is generated for it. -/
structure TxHdr where
  prio : Nat
  vlan : Option Nat
  hop  : Nat
  df   : Bool
  sec  : Option (Nat × Nat)
  held : Bool
  swap : Option (Nat × Nat)
  src  : Option Nat
  port : Option Nat
  sum  : Bool
  deriving DecidableEq, Repr

/-- What was handed to a transmitter, how it leaves, and of a mailbox frame its bytes (R395). -/
structure TxItem extends Outgoing where
  hdr  : TxHdr
  data : List Byte
  deriving DecidableEq, Repr

end Sys2Proof.Machine
end

