-- ==== Sys2Proof/Machine/State.lean ====
section
/-! DEFINITION. The state of the whole device, its reset, and the names of stops. -/

namespace Sys2Proof.Machine

/-- Faults of the model. There are none: every happening the spec describes is a next state (R499), so no meaning
stops here. An empty type claims nothing, so it is safe. -/
inductive Fault where
  deriving DecidableEq, Repr

/-- Refusals of the model. -/
inductive Refusal where
  /-- Raised only by an arm of `exec` whose command has no meaning yet. Safe: nothing can be proved of a run through it. -/
  | notModelled (mnemonic : String)
  deriving DecidableEq, Repr

/-- The state of the device. Memories and arrays are sparse lists with a default entry. -/
structure State where
  /-- Commands that wait, first in first out: the model's own field (DESIGN CHOICE 2). -/
  pending  : List Instr
  /-- The counter that free values are drawn at: the model's own field (DESIGN CHOICE 8). -/
  fresh    : Nat
  /-- Frames handed to a transmitter, newest first: the model's own field (DESIGN CHOICE 14). -/
  tx       : List TxItem
  /-- Virtual core v of lagoon l at 512 l + v. -/
  cores    : Sparse Core
  lagoons  : Sparse Lagoon
  /-- HBM and DDR5 by device physical address (R179): bytes that differ from 0 (DESIGN CHOICE 7). -/
  mem      : List Host.Cell
  hbm      : Sparse Stack
  /-- Channel c of stack s at 32 s + c, DDR5 channel d at 640 + d. -/
  wheels   : Sparse Wheel
  ddr      : Sparse Ddr
  /-- W0 to W8 at 0 to 8, E0 to E8 at 9 to 17. -/
  regions  : Sparse Region
  /-- Physical core die.x.y at 144 die + 12 y + x. -/
  phys     : Sparse Phys
  straits  : Sparse Lanes
  causeway : Sparse Lanes
  ferry    : Sparse (List QEntry)
  fabric   : Fabric
  tide     : Tide
  power    : Power
  straps   : Straps
  sessions : List Session
  shakes   : List Handshake
  lrs      : List LandReg
  qps      : List QPair
  sinks    : List Sink
  libs     : List Library
  builder  : Builder
  runs     : List RunRec
  port     : Port
  side     : Sideband
  keeper   : Keeper
  boot     : Boot
  dbgs     : List Debug
  jtag     : Jtag
  rel      : Reliab
  log      : List EventRec
  evno     : Nat
  degraded : Bool
  stamp    : Nat
  deriving DecidableEq, Repr

/-- The keeper of a part as shipped (R467): BLANK, no tenant data, the next run number 1 and
every other counter 0; grade PVH-256-A, stepping B1 and an
identity of zeros (DESIGN CHOICE 6). -/
def Keeper.shipped : Keeper :=
  { life := 0, wipe := false, prov := none, tkeys := [], net := NetCfg.blank, counters := [(0, 1)], leaf := 0, leafEnd := 0
    logDig := [], spares := [], lanes := [], grade := 1, stepping := 0xB1, serial := 0, lid := 0, mac := 0, helper := [], secret := none }

/-- A firmware copy as shipped, which passes both signatures (DESIGN CHOICE 6). -/
def Firmware.shipped : Firmware := ⟨0x01000000, 0, true, true⟩

/-- The device with PORST_N low on a part as shipped (DESIGN CHOICE 5): every field at the value the spec gives for
reset, or at the value a log entry names. -/
def State.reset : State :=
  { pending := [], fresh := 0, tx := [], cores := [], lagoons := [], mem := [], hbm := [], wheels := [], ddr := []
    regions := [], phys := [], straits := [], causeway := [], ferry := [], fabric := Fabric.blank, tide := Tide.blank, power := Power.blank
    straps := ⟨0, 0, 0, 0⟩, sessions := [], shakes := [], lrs := [], qps := [], sinks := [], libs := []
    builder := Builder.blank, runs := [], port := Port.blank, side := Sideband.blank, keeper := Keeper.shipped
    boot := { Boot.blank with copyA := some Firmware.shipped, copyB := some Firmware.shipped }, dbgs := []
    jtag := Jtag.blank, rel := Reliab.blank, log := [], evno := 0, degraded := false, stamp := 0 }

end Sys2Proof.Machine
end

