-- ==== Sys2Proof/Machine/Keys.lean ====
section
/-! DEFINITION. The keys of the device and of Mehrairus, the certificate chain, what is signed and verified under them, and the
mailbox's frames (R395, R398, R400, R401, R454 to R459, R477, R530). -/

namespace Sys2Proof.Machine

/-! ## The device's keys (R455, R458) -/

/-- The counter-mode KDF of SP 800-108 with HMAC-SHA-384: n bytes, the counter 32 bits wide before the fixed input data (PRESUMED 94). -/
def kdf (key fixed : List Byte) (n : Nat) : List Byte :=
  ((List.range (n / 48 + 1)).flatMap (fun i => hmac384 key (beBytes 4 (i + 1) ++ fixed))).take n

/-- Key material of Table 2 of spec/15 derived from the device secret: 0 DIK-E, 1 the MRAM key. -/
def Keeper.derived (k : Keeper) (which n : Nat) : List Byte := kdf (toBytes 32 (k.secret.getD 0).toNat) (Config.kdfInput which) n

/-- The private key DIK-E. -/
def Keeper.dikE (k : Keeper) : Nat := scalarOf (beNat (k.derived 0 48))

/-- The MRAM key, under which every item of R456 is sealed. -/
def Keeper.mramKey (k : Keeper) : List Byte := k.derived 1 32

/-- The ECDSA signature under DIK-E, with SHA-384 and the nonce of RFC 6979. -/
def Keeper.signE (k : Keeper) (msg : List Byte) : List Byte := padTo 96 (ecdsaSign k.dikE msg)

/-- The HSS/LMS signature under DIK-L with one leaf: 7,960 bytes (R458). -/
def signL (leaf : Nat) (msg : List Byte) : List Byte := padTo 7960 (Config.lmsSign leaf msg)

/-- The certificate chain: four entries, each with its length (R459). -/
def certChain : List Byte := (List.range 4).flatMap (fun i => toBytes 4 (Config.cert i).length ++ Config.cert i)

/-- DEVID: SHA-384 of the device's ECDSA certificate (R459). -/
def devId : Digest := sha384 (Config.cert 0)

/-! ## The handshake's keys (R400, R401) -/

/-- The device's ephemeral public key of the n-th handshake. -/
def dpub (n : Nat) : List Byte := padTo 97 (sec1 (ecMul (scalarOf (Config.ephemeral n)) g384))

/-- Z: the x-coordinate of the ECDH product with the host's key, a free value where that key is not a valid point. -/
def sharedZ (n : Nat) (hpub : List Byte) : List Byte :=
  padTo 48 ((ecdhX (scalarOf (Config.ephemeral n)) hpub).getD (Config.noProduct n hpub))

/-! ## Signature blocks and tokens (R477, R530) -/

/-- Whether the ECDSA and the HSS/LMS signature of a signature block verify over the bytes that it covers, under keys whose digests the
boot ROM holds. Both are taken over the SHA-384 of those bytes; the HSS signature signs the digest's 48 bytes (DEDUCED 95). -/
def blockOk (covered block : List Byte) : Bool × Bool :=
  let n := ofBytes ((block.drop 96).take 4)
  let key := (block.drop (100 + n)).take 97
  let hss := block.drop (197 + n)
  let d := sha384Bytes covered
  let whole := block.length == 257 + n
  (whole && sha384 key == Config.fwkDigest 0 && ecdsaCheck key d (block.take 96),
   whole && sha384 hss == Config.fwkDigest 1 && hssVerify hss d ((block.drop 100).take n))

/-- Where the signature block that ends an object begins: the last place at which its length field fits what follows (DEDUCED 95). -/
def blockStart (bs : List Byte) : Nat :=
  let total := bs.length
  let fits (n : Nat) : Bool := decide (257 + n ≤ total) && ofBytes ((bs.drop (total - 257 - n + 96)).take 4) == n
  match (List.range (total + 1)).find? fits with
  | some n => total - 257 - n
  | none => total

/-- Whether a debug token's two signatures, at bytes 128 and 224, verify over its 128-byte header under DBK-E and DBK-L. -/
def tokenSigs (b : List Byte) : Bool × Bool :=
  (ecdsaVerify (Config.dbkE 0) (b.take 128) ((b.drop 128).take 96), hssVerify (Config.dbkL 0) (b.take 128) (b.drop 224))

/-! ## Frames (R395, R398) -/

/-- The header of a frame as a number (Table 1 of spec/13). -/
def hmpHead (kind session seq : Nat) (dup : Bool) (len iv : Nat) : Nat :=
  iv % 2 ^ 96 * 2 ^ 128 + len % 2 ^ 32 * 2 ^ 96 + seq % 2 ^ 32 * 2 ^ 64 + session % 256 * 2 ^ 48 + b2n dup * 2 ^ 32 + kind % 256 * 2 ^ 24 +
    2 ^ 16 + 0x4D48

/-- The bytes before a frame's CRC: header and body, or under a key header, ciphertext and tag. -/
def hmpBytes (head : Nat) (key : Option (List Byte)) (body : List Byte) : List Byte :=
  let h := toBytes 32 head
  match key with
  | none => h ++ body
  | some k =>
    let iv := (h.drop 16).take 12
    let c := gcmXor k iv body
    h ++ c ++ gcmTag k iv h c

/-- A frame with its CRC. -/
def hmpFrame (head : Nat) (key : Option (List Byte)) (body : List Byte) : List Byte :=
  hmpBytes head key body ++ toBytes 4 (crc32c (hmpBytes head key body))

/-- A clear frame of the device (Table 2 of spec/13). -/
def clearFrame (kind session : Nat) (body : List Byte) : List Byte := hmpFrame (hmpHead kind session 0 false body.length 0) none body

/-- KIND of a session's frame by the kind of the item. -/
def frameCode : Nat → Nat
  | 2 => 0x12
  | 3 => 0x04
  | _ => 0x11

/-- A protected frame of a session, under its device-to-host key: its n-th has n as its IV (R398). -/
def Session.frame (x : Session) (o : Outgoing) : List Byte :=
  hmpFrame (hmpHead (frameCode o.kind) x.id (if o.kind = 3 then 0 else o.num) (o.kind == 9) o.body.length x.sent) (some x.dh) o.body

end Sys2Proof.Machine
end

