-- ==== Sys2Proof/Machine/Ops.lean ====
section
/-! DEFINITION. Operations over the device's state that the families of commands share: arrays, memory and its map,
status words, events, the ends of runs, sessions and debug sessions, and answers to mailbox commands. -/

namespace Sys2Proof.Machine

/-! ## Arrays -/

def State.core (s : State) (c : CoreId) : Core := Sparse.get Core.blank s.cores (512 * c.lagoon + c.v)
def State.setCore (s : State) (c : CoreId) (k : Core) : State :=
  { s with cores := Sparse.set Core.blank s.cores (512 * c.lagoon + c.v) k }
def State.lagoon (s : State) (l : Nat) : Lagoon := Sparse.get Lagoon.blank s.lagoons l
def State.setLagoon (s : State) (l : Nat) (x : Lagoon) : State := { s with lagoons := Sparse.set Lagoon.blank s.lagoons l x }
def State.stack (s : State) (n : Nat) : Stack := Sparse.get Stack.blank s.hbm n
def State.setStack (s : State) (n : Nat) (x : Stack) : State := { s with hbm := Sparse.set Stack.blank s.hbm n x }
def State.wheel (s : State) (n : Nat) : Wheel := Sparse.get Wheel.blank s.wheels n
def State.setWheel (s : State) (n : Nat) (x : Wheel) : State := { s with wheels := Sparse.set Wheel.blank s.wheels n x }
def State.channel (s : State) (n : Nat) : Ddr := Sparse.get Ddr.blank s.ddr n
def State.setChannel (s : State) (n : Nat) (x : Ddr) : State := { s with ddr := Sparse.set Ddr.blank s.ddr n x }
def State.region (s : State) (n : Nat) : Region := Sparse.get Region.blank s.regions n
def State.setRegion (s : State) (n : Nat) (x : Region) : State := { s with regions := Sparse.set Region.blank s.regions n x }
def State.physCore (s : State) (n : Nat) : Phys := Sparse.get Phys.blank s.phys n
def State.setPhys (s : State) (n : Nat) (x : Phys) : State := { s with phys := Sparse.set Phys.blank s.phys n x }

/-- Numbers below n whose bit is set in a mask. -/
def ones (n mask : Nat) : List Nat := (List.range n).filter (fun i => bit mask i)

/-- Virtual cores that a lagoon's image uses. -/
def State.vcores (s : State) (l : Nat) : List Nat := (List.range 512).filter (fun v => (s.core ⟨l, v⟩).img.used)

/-- Apply a change to every core of a lagoon's image. -/
def State.mapCores (s : State) (l : Nat) (f : Core → Core) : State :=
  { s with cores := (s.cores.map (fun p => if p.1 / 512 = l then (p.1, f p.2) else p)).filter (fun p => decide (p.2 ≠ Core.blank)) }

/-! ## Places (R19, R21) -/

/-- The region 0–17 of physical core 144 die + 12 y + x (R19). -/
def physRegion (p : Nat) : Nat := 9 * (p / 144) + 3 * (p % 144 / 12 / 4) + p % 12 / 4

/-- The region that a virtual core lies in. -/
def State.coreRegion (s : State) (c : CoreId) : Nat := physRegion (s.core c).img.phys

/-- Stacks and DDR5 channels that a lagoon owns, ascending. -/
def State.ownStacks (s : State) (l : Nat) : List Nat := ones 20 (s.lagoon l).cfg.hbm
def State.ownChans (s : State) (l : Nat) : List Nat := ones 16 (s.lagoon l).cfg.chans

/-- The lagoon that owns a stack, a DDR5 channel or a region, if one does. -/
def State.stackOwner (s : State) (n : Nat) : Option Nat := (List.range 8).find? (fun l => bit (s.lagoon l).cfg.hbm n)
def State.chanOwner (s : State) (n : Nat) : Option Nat := (List.range 8).find? (fun l => bit (s.lagoon l).cfg.chans n)
def State.regionOwner (s : State) (n : Nat) : Option Nat := (List.range 8).find? (fun l => bit (s.lagoon l).cfg.regions n)

/-! ## Memory (R179 to R184) -/

/-- The base of DDR5 in the map of R179. -/
def ddrBase : Nat := 0x100000000000

/-- The channel wheel of a device address (R180, R181): 0–639 HBM, 640–655 DDR5. -/
def wheelOf (a : Nat) : Nat :=
  if a < ddrBase then 32 * (a / 2 ^ 37) + a % 2 ^ 15 / 2 ^ 10 else 640 + (a - ddrBase) / 2 ^ 38

def State.readByte (s : State) (a : Nat) : Byte := Sparse.get 0 s.mem a
def State.writeByte (s : State) (a : Nat) (b : Byte) : State := { s with mem := Sparse.set 0 s.mem a b }
def State.readBytes (s : State) (a n : Nat) : List Byte := Sparse.getRun 0 s.mem a n
def State.writeBytes (s : State) (a : Nat) (bs : List Byte) : State := { s with mem := Sparse.setRun 0 s.mem a bs }

/-- Write zeros to the addresses from lo up to hi. -/
def State.zeroRange (s : State) (lo hi : Nat) : State :=
  { s with mem := s.mem.filter (fun p => decide (p.1 < lo) || decide (hi ≤ p.1)) }

/-- Translate a program address through a lagoon's map (R182): program stack p is the p-th stack the lagoon owns, and
so for DDR5 channels (DESIGN CHOICE 10). None outside owned, populated memory (R184). -/
def State.translate (s : State) (l a : Nat) : Option Nat :=
  if a < 20 * 2 ^ 37 then ((s.ownStacks l)[a / 2 ^ 37]?).map (fun p => p * 2 ^ 37 + a % 2 ^ 37)
  else if ddrBase ≤ a ∧ a < ddrBase + 2 ^ 42 then
    ((s.ownChans l)[(a - ddrBase) / 2 ^ 38]?).bind (fun ch =>
      if (a - ddrBase) % 2 ^ 38 < (s.channel ch).bytes then some (ddrBase + ch * 2 ^ 38 + (a - ddrBase) % 2 ^ 38) else none)
  else none

/-- Whether a device address lies in memory that is fitted. -/
def State.fitted (s : State) (a : Nat) : Bool :=
  decide (a < 20 * 2 ^ 37) || (decide (ddrBase ≤ a) && decide (a < ddrBase + 2 ^ 42) && decide ((a - ddrBase) % 2 ^ 38 < (s.channel ((a - ddrBase) / 2 ^ 38)).bytes))

/-- Whether every program address from lo to hi lies in populated memory that a lagoon owns (R184). -/
def State.owned (s : State) (l lo hi : Nat) : Bool :=
  if hi < 20 * 2 ^ 37 then decide (hi / 2 ^ 37 < (s.ownStacks l).length)
  else if ddrBase ≤ lo ∧ hi < ddrBase + 2 ^ 42 then
    let q1 := (lo - ddrBase) / 2 ^ 38
    let q2 := (hi - ddrBase) / 2 ^ 38
    (List.range (q2 + 1 - q1)).all (fun i =>
      match (s.ownChans l)[q1 + i]? with
      | none => false
      | some ch =>
        let top := if q1 + i = q2 then (hi - ddrBase) % 2 ^ 38 else 2 ^ 38 - 1
        decide (top < (s.channel ch).bytes))
  else false

/-- The owner 0–7 of a device address, 8 where no lagoon owns it (the harbour, DESIGN CHOICE 10); none unpopulated. -/
def State.addrOwner (s : State) (a : Nat) : Option Nat :=
  if a < 20 * 2 ^ 37 then some ((s.stackOwner (a / 2 ^ 37)).getD 8)
  else if ddrBase ≤ a ∧ a < ddrBase + 2 ^ 42 ∧ (a - ddrBase) % 2 ^ 38 < (s.channel ((a - ddrBase) / 2 ^ 38)).bytes then
    some ((s.chanOwner ((a - ddrBase) / 2 ^ 38)).getD 8)
  else none

/-- Whether n bytes from device address a lie in memory that an owner holds (R373, R419). -/
def State.holds (s : State) (owner a n : Nat) : Bool :=
  let unit (x : Nat) : Nat := if x < ddrBase then x / 2 ^ 37 else x / 2 ^ 38
  n = 0 || ((List.range (unit (a + n - 1) - unit a + 1)).all (fun i =>
    let first := if i = 0 then a else if a < ddrBase then (unit a + i) * 2 ^ 37 else (unit a + i) * 2 ^ 38
    s.addrOwner first == some owner) && s.addrOwner (a + n - 1) == some owner)

/-- Bytes at n program addresses of a lagoon; an address that does not translate reads as 0. -/
def State.readProg (s : State) (l a n : Nat) : List Byte :=
  (List.range n).map (fun i => ((s.translate l (a + i)).map s.readByte).getD 0)

/-- Write bytes at program addresses of a lagoon. -/
def State.writeProg (s : State) (l a : Nat) (bs : List Byte) : State :=
  (List.range bs.length).foldl (fun t i =>
    match t.translate l (a + i) with
    | some d => t.writeByte d (bs.getD i 0)
    | none => t) s

/-- The atoms marked bad from address lo up to hi have been written whole (R488). -/
def State.soundRange (s : State) (lo hi : Nat) : State :=
  { s with rel := { s.rel with bad := s.rel.bad.filter (fun a => !(decide (lo ≤ 64 * a) && decide (64 * a + 64 ≤ hi))) } }

/-- Zero every byte of a stack or of a DDR5 channel, and mark it clean (R474). -/
def State.clearStack (s : State) (n : Nat) : State :=
  let t := (s.zeroRange (n * 2 ^ 37) ((n + 1) * 2 ^ 37)).soundRange (n * 2 ^ 37) ((n + 1) * 2 ^ 37)
  t.setStack n { t.stack n with clean := true, shoal := [] }
def State.clearChan (s : State) (n : Nat) : State :=
  let t := (s.zeroRange (ddrBase + n * 2 ^ 38) (ddrBase + (n + 1) * 2 ^ 38)).soundRange (ddrBase + n * 2 ^ 38) (ddrBase + (n + 1) * 2 ^ 38)
  t.setChannel n { t.channel n with clean := true }

/-- A free value (DESIGN CHOICE 8): the counter it is drawn at, and the state with the counter advanced. -/
def State.draw (s : State) : Nat × State := (s.fresh, { s with fresh := s.fresh + 1 })

/-! ## Status words -/

/-- TIDESTAT (R306). -/
def State.tidestat (s : State) : Nat :=
  let t := s.tide
  let recent := match t.lastSync with | some k => decide (t.count - k ≤ 2000000000) | none => false
  let off := if t.offset > 32767 then 32767 else if t.offset < -32767 then -32767 else t.offset
  t.state * 2 ^ 24 + t.source * 2 ^ 22 + b2n (t.ppsOn && t.ppsSeen) * 2 ^ 21 + b2n recent * 2 ^ 20 +
    b2n t.stepped * 2 ^ 19 + wrapInt 16 off

/-- RGNSTAT of a region (R286). -/
def Region.stat (r : Region) : Nat :=
  r.rate % 65536 * 2 ^ 48 + wrapInt 8 r.tj * 2 ^ 40 + min r.stops 255 * 2 ^ 32 + r.vset * 2 ^ 24 + r.vbase * 2 ^ 16 +
    r.state * 2 ^ 8 + r.ptrim % 256

/-- The highest level of the debug sessions that cover a lagoon (R477). -/
def State.debugLevel (s : State) (l : Nat) : Nat :=
  (s.dbgs.filter (fun d => d.scope = l || d.scope = 0xFF)).foldl (fun a d => max a d.level) 0

/-- The power mode whose limit holds the package: the highest of any configured lagoon, Full where none is (R44). -/
def State.packageMode (s : State) : Nat :=
  let ms := ((List.range 8).filter (fun l => (s.lagoon l).st ≠ .empty)).map (fun l => (s.lagoon l).cfg.pmode)
  match ms with
  | [] => 0
  | m :: rest => rest.foldl min m

/-- Keeper counter n (R457). -/
def State.counter (s : State) (n : Nat) : Nat := Sparse.get 0 s.keeper.counters n
def State.setCounter (s : State) (n v : Nat) : State :=
  { s with keeper := { s.keeper with counters := Sparse.set 0 s.keeper.counters n v } }

/-- HEALTH (Table 7 of spec/12). -/
def State.health (s : State) : Nat :=
  let tj := (List.range 18).any (fun r => decide ((s.region r).tj ≥ 105))
  let low := (List.range 18).any (fun r => (s.region r).state == 2)
  s.evno % 256 * 2 ^ 24 + b2n (!s.boot.ready) * 2 ^ 20 + b2n tj * 2 ^ 19 + b2n low * 2 ^ 18 + b2n s.degraded * 2 ^ 17 +
    b2n (!s.builder.waiting.isEmpty || s.builder.stopped) * 2 ^ 16 + s.keeper.life * 2 ^ 14 +
    s.dbgs.foldl (fun a d => max a d.level) 0 * 2 ^ 12 + s.power.state * 2 ^ 9 + s.packageMode * 2 ^ 7 + s.sessions.length

/-- LSTATE with the lagoons that `show` hides reading 0xF (R380, R382, R405). -/
def State.lstate (s : State) (shown : Nat → Bool) : Nat :=
  (List.range 8).foldl (fun a l => a + (if shown l then (s.lagoon l).st.code else 0xF) * 16 ^ l) 0

/-! ## Sessions' scopes (R399) -/

/-- The owner that a scope stands for: 8 the harbour, 0–7 a lagoon. -/
def scopeOwner (sc : Nat) : Nat := if sc = 0 then 8 else sc % 16

/-- Whether a scope may see a lagoon. -/
def scopeSees (sc l : Nat) : Bool := sc = 0 || sc % 16 = l

/-- The handle of a session: number + 64 × serial. -/
def Session.handle (x : Session) : Nat := x.id + 64 * x.serial

def State.session? (s : State) (id : Nat) : Option Session := s.sessions.find? (fun x => x.id == id)
def State.setSession (s : State) (x : Session) : State :=
  { s with sessions := s.sessions.map (fun y => if y.id = x.id then x else y) }

/-- The VLAN ID of an address entry (R366). -/
def State.entryVlan (s : State) (e : Nat) : Option Nat :=
  if e = 0 then s.port.cfg.local0 else (s.port.cfg.addrs.find? (fun p => p.1 == e)).bind (fun p => p.2.vlan)

/-- The priority of what is sent (Table 3 of spec/12): lighthouse replies leave on LHPRI (R378), and what the table does not name on
priority 0 (DESIGN CHOICE 43). -/
def txPriority (c : NetCfg) (kind : Nat) : Nat :=
  if kind = 4 then bits c.lhcfg 19 3
  else if kind = 5 then bits c.traffic 0 3
  else if [1, 2, 3, 8, 9].contains kind then bits c.traffic 3 3
  else if kind = 12 then bits c.traffic 9 3
  else if kind = 11 then bits c.traffic 12 3
  else 0

/-- The MAC address in use (R366): the one NET wrote, else the provisioned one. -/
def State.macAddr (s : State) : Nat :=
  let given := (s.keeper.prov.map (·.mac)).getD 0
  if s.port.cfg.mac ≠ 0 then s.port.cfg.mac else if given ≠ 0 then given else s.keeper.mac

/-- The link-local address of entry 0, formed from the MAC address by modified EUI-64 (R366). -/
def linkLocal (mac : Nat) : Nat :=
  let m := toBytes 6 mac
  ofBytes ([0xFE, 0x80, 0, 0, 0, 0, 0, 0] ++ [m.getD 0 0 ^^^ 2, m.getD 1 0, m.getD 2 0, 0xFF, 0xFE, m.getD 3 0, m.getD 4 0, m.getD 5 0])

/-- The address of an address entry (R366). -/
def State.entryAddr (s : State) (e : Nat) : Option Nat :=
  if e = 0 then some (linkLocal s.macAddr) else (s.port.cfg.addrs.find? (fun p => p.1 == e)).map (fun p => p.2.addr)

/-- Whether an item leaves through the controlled port while MACsec is on (R370): all traffic of the Ethernet port but PTP and, in
lighthouse mode open, lighthouse replies. -/
def txSecure (c : NetCfg) (kind : Nat) : Bool := !([7, 8, 10, 12].contains kind) && !(kind == 4 && bits c.lhcfg 30 2 == 1)

/-- Whether an item finds the controlled port that it leaves by closed (R370). -/
def State.txClosed (s : State) (x : Outgoing) : Bool := s.port.cfg.macsec && txSecure s.port.cfg x.kind && !s.port.ctlOpen

/-- Whether an item is a UDP datagram: mailbox frames, RoCEv2 packets, PTP over UDP, and what leaves from a UDP port. -/
def txUdp (x : Outgoing) (port : Option Nat) : Bool := port.isSome || [5, 11].contains x.kind || (x.kind == 12 && x.num != 3 && decide (x.dest < 2))

/-- How an item leaves the port, from an address entry and a UDP port (R366 to R370): its packet number counts the items sent under the
newest association of the transmit channel. Hop limit and TTL are 64, IPv4 packets are not to be fragmented, and a UDP checksum is
generated. -/
def State.txHdr (s : State) (e port : Option Nat) (x : Outgoing) : TxHdr :=
  let c := s.port.cfg
  let p := txPriority c x.kind
  let sec := if c.macsec && txSecure c x.kind then
      s.port.txSas.head?.map (fun a => (a.serial, 1 + (s.tx.filter (fun y => (y.hdr.sec.map Prod.fst) == some a.serial)).length))
    else none
  ⟨p, e.bind s.entryVlan, 64, true, sec, s.port.paused.any (fun q => q.prio == p), none, e.bind s.entryAddr, port, txUdp x port⟩

/-- Hand an item to a transmitter, from an address entry and a UDP port where it leaves by the port, and of a mailbox frame its bytes.
Nothing leaves by a controlled port that is closed, now or later (R370, DEDUCED 111). -/
def State.sendData (s : State) (e port : Option Nat) (x : Outgoing) (data : List Byte) : State :=
  { s with tx := if s.txClosed x then s.tx else ⟨x, s.txHdr e port x, data⟩ :: s.tx }

/-- Hand over an item that is no mailbox frame. -/
def State.sendVia (s : State) (e : Option Nat) (x : Outgoing) : State := s.sendData e none x []

/-- Hand an item to a transmitter: those of a queue pair leave from an address of its owner. -/
def State.send (s : State) (x : Outgoing) : State :=
  s.sendVia (if x.kind = 5 ∨ x.kind = 11 then
      (s.qps.find? (fun q => q.qpn == x.dest)).bind (fun q => (s.port.cfg.addrs.find? (fun p => p.2.owner == q.owner && p.2.v4 == q.v4)).map Prod.fst)
    else none) x

/-- A frame of a session leaves from the address it is bound to, and from a UDP port: that to which its command was sent (R394). `x` is
the session with this frame counted. -/
def State.sendFrame (s : State) (x : Session) (port : Nat) (o : Outgoing) : State := s.sendData (some x.entry) (some port) o (x.frame o)

/-! ## Frames that arrive (R365 to R368, R370) -/

/-- Count a frame that the port drops. -/
def State.dropFrame (s : State) : State := { s with port := { s.port with dropped := s.port.dropped + 1 } }

/-- The priority of a frame: its PCP, or untagged that of its DSCP (R368). -/
def framePrio (c : NetCfg) (w : Wire) : Nat := match w.tag with
  | some t => t.2 % 8
  | none => bits c.dscp (3 * (w.dscp % 64)) 3

/-- The VLAN ID of a frame; a tag of VLAN ID 0 carries a priority alone. -/
def frameVlan (w : Wire) : Option Nat := (w.tag.map Prod.fst).filter (· ≠ 0)

/-- Whether a frame may use the port that it came through: with MACsec on, one under an association held and within the replay
window, or through the uncontrolled port where `opn` lets it (R370). -/
def State.secOk (s : State) (w : Wire) (opn : Bool) : Bool :=
  match w.sec with
  | none => !s.port.cfg.macsec || opn
  | some (an, pn) => s.port.cfg.macsec && s.port.ctlOpen &&
      s.port.sas.any (fun a => a.an == an && decide (a.next ≤ pn + s.port.cfg.replay))

/-- A frame that the MAC accepts: counted on its priority, and its packet number noted. -/
def State.tookFrame (s : State) (w : Wire) : State :=
  let n := framePrio s.port.cfg w
  { s with port := { s.port with
    received := Sparse.set 0 s.port.received n (Sparse.get 0 s.port.received n + 1)
    sas := match w.sec with
      | some (an, pn) => s.port.sas.map (fun a => if a.an = an ∧ s.secOk w true then { a with next := max a.next (pn + 1) } else a)
      | none => s.port.sas } }

/-- Whether a frame of an accepted length goes on to what it carries: MACsec (R370), only what Table 2 of spec/12 lists (R367), and
the VLAN ID of the address entry that it came to (R366). -/
def State.passes (s : State) (w : Wire) (opn : Bool) (e : Option Nat) : Bool :=
  s.secOk w opn && w.plain && w.sumOk && e.all (fun i => s.entryVlan i == frameVlan w)

/-- A frame arrives: 64 to 9,216 bytes are accepted, more is dropped as oversize (R365), and what does not pass is dropped and
counted. It is out of the receive buffer with this step (R368, DESIGN CHOICE 98). -/
def State.frameIn (s : State) (w : Wire) (opn : Bool) (e : Option Nat) (k : State → State) : State :=
  if 9216 < w.len then { s with port := { s.port with oversize := s.port.oversize + 1 } }
  else if w.len < 64 then s.dropFrame
  else if s.passes w opn e then k (s.tookFrame w)
  else (s.tookFrame w).dropFrame

/-! ## Events (R424, R495, R499) -/

/-- The 32 bytes of an event record (Table 4 of spec/16). -/
def EventRec.bytes (e : EventRec) : List Byte :=
  toBytes 32 (e.tide * 2 ^ 192 + e.evno * 2 ^ 128 + e.arg % 2 ^ 64 * 2 ^ 64 + e.ploc * 2 ^ 48 + e.vcore.getD 0 * 2 ^ 39 +
    e.lagoon.getD 0 * 2 ^ 36 + b2n e.vcore.isSome * 2 ^ 35 + b2n e.lagoon.isSome * 2 ^ 34 + e.kind * 2 ^ 32 + e.code)

/-- Send a notice to one session if it has enabled the event's group and may see it (R424); it leaves from HMPPORT (DEDUCED 97). -/
def notify (e : EventRec) (s : State) (x : Session) : State :=
  let sees := x.scope = 0 || (match e.lagoon with | some l => scopeSees x.scope l | none => false)
  if bit x.groups (e.code / 4096) && sees then
    let y := { x with notices := x.notices + 1, sent := x.sent + 1 }
    (s.setSession y).sendFrame y s.port.cfg.hmpport ⟨2, x.id, x.notices + 1, e.bytes⟩
  else s

/-- Whether the logbook keeps an event across resets (Table 7 of spec/16). -/
def logKept (e : EventRec) : Bool :=
  e.kind == 1 || e.kind == 3 || [0x7102, 0x7202, 0x7301, 0x7302, 0x7303].contains e.code

/-- Raise an event: number it, log it, and send it to the sessions and, for groups 4, 5 and 7, to the BMC (R390). -/
def State.raise (s : State) (code kind arg ploc : Nat) (lag vc : Option Nat) : State :=
  let e : EventRec := ⟨code, kind, s.evno + 1, s.tide.count, arg, ploc, lag, vc⟩
  let lb := s.rel.log
  let lb1 := if logKept e then { lb with events := (e :: lb.events).take 1024 } else lb
  let t := { s with evno := s.evno + 1, log := (e :: s.log).take 65536, rel := { s.rel with log := lb1 } }
  let u := if [4, 5, 7].contains (code / 4096) && s.side.eid.isSome then t.send ⟨7, s.side.eid.getD 0, code, e.bytes⟩ else t
  u.sessions.foldl (notify e) u

/-- A notice of the device as a whole. -/
def State.notice (s : State) (code arg : Nat) : State := s.raise code 0 arg 0 none none

/-- An event that is raised at most once per second for each key (R387, R396, R429, R487). -/
def State.limitedKind (s : State) (code kind key arg ploc : Nat) (lag vc : Option Nat) : State :=
  let k := code * 2 ^ 96 + key
  let fresh := match s.rel.lastRaise.find? (fun p => p.1 == k) with
    | some p => decide (p.2 + 1000000000 ≤ s.tide.count)
    | none => true
  if fresh then
    ({ s with rel := { s.rel with lastRaise := (k, s.tide.count) :: s.rel.lastRaise.filter (fun p => p.1 != k) } }).raise
      code kind arg ploc lag vc
  else s

/-- A notice that is raised at most once per second for each key. -/
def State.limited (s : State) (code key arg ploc : Nat) (lag vc : Option Nat) : State := s.limitedKind code 0 key arg ploc lag vc

/-- ARG form V: two bytes. -/
def argV (before after : Nat) : Nat := before % 256 * 256 + after % 256
/-- ARG form K: lifecycle, scope and TOKSEQ (Table 5 of spec/16). -/
def State.argK (s : State) (scope tokseq : Nat) : Nat := s.keeper.life * 2 ^ 62 + scope % 256 * 2 ^ 54 + tokseq % 2 ^ 54
/-- ARG form S: SEQ and session. -/
def argS (seq session : Nat) : Nat := seq % 2 ^ 32 * 2 ^ 32 + session % 256
/-- ARG form Q: ledger, landing region and QPN. -/
def argQ (ledger region qpn : Nat) : Nat := ledger % 2 ^ 32 * 2 ^ 32 + region % 256 * 2 ^ 16 + qpn % 65536
/-- ARG form D: the first 8 bytes of a digest. -/
def argD (d : Nat) : Nat := d % 2 ^ 64

/-! ## Stops -/

/-- Discard what a stack has not started: records without an outcome and open groups (R227). -/
def Stack.discard (k : Stack) : Stack := { k with recs := [], groups := [] }

/-- A core stops where it stands. The conversion flags that it holds, of operations that have finished and of those in flight, enter
ARSTAT before its run ends (R195). -/
def Core.stopHere (c : Core) : Core :=
  let fl := (c.ops.filter (fun o => !o.cancelled)).foldl (fun a o => a ||| o.flags) (c.heldFlags.foldl (fun a h => a ||| h.flags) (0 : Flags))
  { c.raise c.beat fl with heldFlags := [], stopped := true }

/-- Stop every core of a lagoon where it stands (R269, R270); at a fault the tiles in its row stop where they are
(R114; DESIGN CHOICE 31). -/
def State.stopCores (s : State) (l : Nat) : State := s.mapCores l Core.stopHere

/-! ## Debug sessions (R478) -/

/-- The agents of a lagoon that a debugger halted resume. -/
def State.resumeHalted (s : State) (l : Nat) : State :=
  s.mapCores l (fun c => { c with ex := { c.ex with halted := false }, ac := { c.ac with halted := false }, pilot := { c.pilot with halted := false } })

/-- End the debug sessions that a test picks, with event 0x6302 for each; the agents that they may have halted resume (R478). -/
def State.endDebug (s : State) (p : Debug → Bool) : State :=
  let gone := s.dbgs.filter p
  let covered (l : Nat) : Bool := gone.any (fun d => decide (2 ≤ d.level) && (d.scope == l || d.scope == 0xFF))
  let t := ((List.range 8).filter covered).foldl State.resumeHalted { s with dbgs := s.dbgs.filter (fun d => !p d) }
  gone.foldl (fun a d => a.raise 0x6302 0 (a.argK d.scope d.tokseq) 0 (if d.scope < 8 then some d.scope else none) none) t

/-! ## Answers (R404 to R407) -/

/-- The body of a reply: Table 5 of spec/13, then the results. -/
def State.replyBody (s : State) (scope op status detail event : Nat) (res : List Byte) : List Byte :=
  let ls := s.lstate (fun l => scopeSees scope l)
  toBytes 32 (s.tide.count * 2 ^ 192 + s.health * 2 ^ 160 + ls * 2 ^ 128 + detail % 2 ^ 32 * 2 ^ 96 + op * 2 ^ 48 +
    event * 2 ^ 32 + res.length * 2 ^ 16 + status) ++ res

/-- Give a command its reply: it is cached while its number lies in the window, and sent; a session that has ended gets nothing
(R403, R407). -/
def State.giveReply (s : State) (r : Ref) (form : Nat → List Byte) : State :=
  match s.sessions.find? (fun x => x.handle == r.session) with
  | none => s
  | some x =>
    match x.cmds.find? (fun c => c.seq == r.seq) with
    | none => s
    | some c =>
      let body := form x.scope
      let x1 := { x with
        cmds := x.cmds.filter (fun c => c.seq != r.seq)
        cache := (⟨r.seq, body⟩ :: x.cache).filter (fun c => x.high < c.seq + 4096)
        sent := x.sent + 1 }
      (s.setSession x1).sendFrame x1 c.port ⟨1, x.id, r.seq, body⟩

/-- Answer a command. -/
def State.answer (s : State) (r : Ref) (status detail event : Nat) (res : List Byte) : State :=
  s.giveReply r (fun scope => s.replyBody scope r.op status detail event res)

/-- Answer a command that may have no mailbox origin. -/
def State.answerOpt (s : State) (r : Option Ref) (status detail event : Nat) (res : List Byte) : State :=
  match r with
  | some r => s.answer r status detail event res
  | none => s

/-! ## Lagoon states (R413) -/

/-- The pending launches of a lagoon are dropped because it leaves the sealed LOADED state; each START is answered
STATE_REJECTED with the state entered (R308, R415). -/
def State.dropLaunches (s : State) (l : Nat) (st : LState) : State :=
  (s.lagoon l).launch.foldl (fun a p => a.answerOpt p.ref 1 st.code 0 []) (s.setLagoon l { s.lagoon l with launch := [] })

/-- Move a lagoon to a state; each change raises 0x5506, and pending launches are dropped (R308, R413). -/
def State.moveLagoon (s : State) (l : Nat) (st : LState) : State :=
  let x := s.lagoon l
  if x.st = st then s
  else
    ((s.setLagoon l { x with st := st, sealed := false }).raise 0x5506 0 (argV x.st.code st.code) 0 (some l) none).dropLaunches l st

/-- A change of a lagoon between unsealed and sealed LOADED, or a LOAD in LOADED: event 0x5506 (R413). -/
def State.stayLagoon (s : State) (l : Nat) : State :=
  s.raise 0x5506 0 (argV (s.lagoon l).st.code (s.lagoon l).st.code) 0 (some l) none

/-- End a session: its cache and its commands go, its debug sessions close, event 0x5502 is raised (R403, R478). -/
def State.endSession (s : State) (id : Nat) : State :=
  match s.session? id with
  | none => s
  | some x =>
    let t := ({ s with sessions := s.sessions.filter (fun y => y.id != id) }).endDebug (fun d => d.via == some id)
    t.raise 0x5502 0 (argS x.high id) 0 (if x.scope = 0 then none else some (x.scope % 16)) none

/-- End every session that a test picks. -/
def State.endSessions (s : State) (p : Session → Bool) : State :=
  (s.sessions.filter p).foldl (fun a x => a.endSession x.id) s

/-! ## The ends of runs (R269, R413, R499) -/

/-- END 0x0001: the lagoon's run ends in FAULTED with its first event (R269, R227, R327, R413). A lagoon without a
run that is RUNNING, PAUSED or DRAINING is not touched. -/
def State.endFaulted (s : State) (l code : Nat) : State :=
  let x := s.lagoon l
  if x.st = .running ∨ x.st = .paused ∨ x.st = .draining then
    let t := (s.stopCores l).setLagoon l { x with
      msgs := [], combs := x.combs.map (fun q => { q with added := 0, sum := [], store := [] })
      run := x.run.map (fun r => if r.ended = 1 then r else { r with ended := 1, event := code })
      record := none, hashing := none, stopping := false, stopTide := if x.st = .draining then x.stopTide else s.tide.count }
    let u := (s.ownStacks l).foldl (fun a n => a.setStack n (a.stack n).discard) t
    { u with builder := { u.builder with waiting := u.builder.waiting.filter (fun k => k != l) } }
  else s

/-- The results of START: RUNNO and the tide of the first beat 0 (R415). -/
def startResults (runno tide : Nat) : List Byte := toBytes 8 runno ++ toBytes 8 tide

/-- Answer a START that still waits: OK with its RUNNO and the tide of the first beat 0, or 0 where the run has ended
before any (R415). -/
def State.answerStart (s : State) (l tide : Nat) : State :=
  let x := s.lagoon l
  match x.run with
  | none => s
  | some r => (s.setLagoon l { x with run := some { r with ref := none } }).answerOpt r.ref 0 0 0 (startResults r.runno tide)

/-- The whole of a lagoon's fault: its run ends, its START, PAUSE or STOP in progress is answered (R415; a PAUSE or
STOP that a fault overtakes is answered STATE_REJECTED, DEDUCED 20), and it becomes FAULTED. -/
def State.faultLagoon (s : State) (l code : Nat) : State :=
  let x := s.lagoon l
  if x.st = .running ∨ x.st = .paused ∨ x.st = .draining then
    let t := ((s.endFaulted l code).moveLagoon l .faulted).answerStart l 0
    (t.setLagoon l { t.lagoon l with pauseRef := none }).answerOpt x.pauseRef 1 6 code []
  else s

/-- Whether a run of a lagoon is in progress. -/
def State.runs? (s : State) (l : Nat) : Bool :=
  let st := (s.lagoon l).st
  st = .running || st = .paused || st = .draining

/-- An event of kind F: it is raised, and the lagoon ends its run in FAULTED (R499). Its KIND is 0b01 where a run ends. -/
def State.fault (s : State) (code arg ploc l : Nat) (vc : Option Nat) : State :=
  let t := s.raise code (b2n (s.runs? l)) arg ploc (some l) vc
  t.faultLagoon l code

/-- PLOC of a physical core (Table 4 of spec/16). -/
def plocCore (p : Nat) : Nat := 0x1000 + p / 144 * 256 + p % 144

/-- ARG of an event of a core: form P for the pilot's, else form B; in split mode a stream event of the access
sequencer carries its bundle address (Table 5 of spec/16). -/
def Core.eventArg (c : Core) (code obj : Nat) (access : Bool) : Nat :=
  if code = 0x1305 ∨ code = 0x1306 then c.pilot.instret % 2 ^ 32 * 2 ^ 32 + c.pilot.pc.toNat
  else (if access && c.img.split && decide (code / 256 = 0x21) then c.ac.addr else c.beat) % 2 ^ 32 * 2 ^ 32 + obj % 2 ^ 32

/-- A core stops on an event of kind F. -/
def State.coreFault (s : State) (c : CoreId) (code obj : Nat) (access : Bool) : State :=
  let k := s.core c
  s.fault code (k.eventArg code obj access) (plocCore k.img.phys) c.lagoon (some c.v)

/-- A lagoon has made progress (R271). -/
def State.progressed (s : State) (l : Nat) : State := s.setLagoon l { s.lagoon l with progress := s.tide.count }

/-- The pacer periods of a region since reset, in thousandths. -/
def State.periods (s : State) (r : Nat) : Nat := (s.region r).periods

/-- The contexts on a virtual core's physical core (R316). -/
def State.contexts (s : State) (c : CoreId) : Nat :=
  match (s.lagoon c.lagoon).place.find? (fun p => p.ctxs.contains c.v) with
  | some p => max 1 p.ctxs.length
  | none => 1

/-- Whether the present pacer period of a virtual core's physical core is its own: of n contexts, context m mod n has period m
(R318). -/
def State.turn (s : State) (c : CoreId) : Bool :=
  s.contexts c == 1 || s.periods (s.coreRegion c) / 1000 % s.contexts c == (s.core c).img.ctx

/-- Whether a core's pacers run: its lagoon is RUNNING or PAUSED or still draining its engines, its region runs (R280,
R283), the period is its own (R318), and no run of it has faulted. -/
def State.paced (s : State) (c : CoreId) : Bool :=
  let st := (s.lagoon c.lagoon).st
  (st = .running || st = .paused || st = .draining) && (s.core c).img.used && (s.region (s.coreRegion c)).state == 0 &&
    s.power.state == 0 && s.turn c

/-- Whether a core has work under way: its lagoon is RUNNING, PAUSED or DRAINING in P0. -/
def State.engaged (s : State) (c : CoreId) : Bool :=
  let st := (s.lagoon c.lagoon).st
  (st = .running || st = .paused || st = .draining) && (s.core c).img.used && s.power.state == 0

/-- Whether a core's stream engine, message port and narrows work: its lagoon does, and its region's pacers run (R278). -/
def State.live (s : State) (c : CoreId) : Bool := s.engaged c && (s.region (s.coreRegion c)).state == 0

/-- Whether a core may issue: it is paced, its lagoon is RUNNING and it has not been stopped. -/
def State.issues (s : State) (c : CoreId) : Bool :=
  s.paced c && (s.lagoon c.lagoon).st = .running && !(s.core c).stopped

/-- Transactions of a core that have not finished. -/
def Core.txnsLeft (k : Core) : Nat := (k.ops.map (fun o => (o.txns.filter (fun t => t.state ≠ 3)).length)).sum

/-- Whether a core's step from `k` to `d` is progress as the deadlock detector sees it: a beat has issued, a pilot instruction has
retired, a stream operation has been accepted or a transaction has finished (R271). -/
def Core.advanced (k d : Core) : Bool :=
  d.beat != k.beat || d.pilot.instret != k.pilot.instret || d.ops.any (fun o => o.kind ≤ 3 && decide (k.nextOp ≤ o.id)) ||
    decide (d.txnsLeft < k.txnsLeft)

/-- A core replaced by what its own step leaves, with the progress that the step is (R271). -/
def State.withCore (s : State) (c : CoreId) (k : Core) : State :=
  let x := s.lagoon c.lagoon
  (s.setCore c k).setLagoon c.lagoon { x with progress := if (s.core c).advanced k then s.tide.count else x.progress }

/-- What a core's step leaves: the new core, nothing while it waits, or the run's end. -/
def State.finish (s : State) (c : CoreId) (access : Bool) : Res Core → State
  | .ok k => s.withCore c k
  | .wait _ _ => s
  | .event e o => s.coreFault c e o access

end Sys2Proof.Machine
end

