-- ==== Sys2Proof/Machine/Errors.lean ====
section
/-! DEFINITION. Errors that a check finds: where they lie, how the logbook counts and classes them, the tests and
substitutions they schedule, and memory words marked bad (R486 to R492, R496). -/

namespace Sys2Proof.Machine

/-- ARG form M (Table 6 of spec/16). -/
def argM (unit subidx word bit eclass : Nat) : Nat :=
  unit % 256 * 2 ^ 56 + subidx % 256 * 2 ^ 48 + word % 2 ^ 32 * 2 ^ 16 + bit % 256 * 2 ^ 8 + eclass % 256

/-- PLOC of a stack, of an HBM channel and of a DDR5 channel (Table 4 of spec/16). -/
def plocStack (n : Nat) : Nat := 0x5000 + n
def plocChan (n ch : Nat) : Nat := 0x6000 + n * 64 + ch * 2
def plocDdr (n : Nat) : Nat := 0x7000 + n * 2

/-- PLOC of a channel wheel. -/
def plocWheel (w : Nat) : Nat := if w < 640 then plocChan (w / 32) (w % 32) else plocDdr (w - 640)

/-- PLOC of the channel of a device address, with the pseudo-channel of HBM or the subchannel of DDR5 (R180, R181). -/
def plocAddr (a : Nat) : Nat := plocWheel (wheelOf a) + bits a 9 1

/-- The lagoon that the unit at a PLOC belongs to, if any. -/
def State.plocLagoon (s : State) (p : Nat) : Option Nat :=
  match bits p 12 4 with
  | 1 => s.regionOwner (physRegion (144 * bits p 8 1 + bits p 0 8))
  | 2 => s.regionOwner (bits p 0 5)
  | 5 => s.stackOwner (bits p 0 5)
  | 6 => s.stackOwner (bits p 6 5)
  | 7 => s.chanOwner (bits p 1 4)
  | _ => none

/-- Whether a lagoon is at a program boundary: no run of it is in progress (R41). -/
def State.atBoundary (s : State) (l : Nat) : Bool :=
  let st := (s.lagoon l).st
  !(st = .running || st = .paused || st = .draining)

/-- The counter of the logbook's links section that a link unit's retry bears (Table 7 of spec/16). -/
def linkCounter (unit ploc subidx : Nat) : Option Nat :=
  if unit = 0x30 then some (4 + 12 * bits ploc 9 1 + bits ploc 5 4)
  else if unit = 0x31 then some (28 + 2 * bits ploc 7 2 + bits ploc 6 1)
  else if unit = 0x32 then some (34 + subidx % 2)
  else if unit = 0x33 then some (36 + bits ploc 0 5)
  else none

/-- The spare kind that replaces the unit of an error at a PLOC and WORD (Table 3 of spec/16). A core unit with no spare of its own is
replaced with its core (DEDUCED 22). -/
def spareKind (unit ploc word : Nat) : Option Nat :=
  if unit = 0x00 then some 2
  else if unit = 0x10 then some 0
  else if unit = 0x11 then some 3
  else if unit < 0x14 then some 1
  else if unit = 0x20 then some (if Config.hbmColumn ploc word then 7 else 6)
  else if unit = 0x21 then some 8
  else if unit = 0x28 then some 9
  else if unit = 0x30 then some 4
  else if unit = 0x31 then some 5
  else none

/-- The error entry of a unit after one more error at powered second `now` (Table 9 of spec/16). -/
def ErrEntry.count (e : ErrEntry) (now word bit : Nat) (uncorr : Bool) : ErrEntry :=
  let days := (now - e.daystart) / 86400
  { e with
    word := word, bit := bit, lasts := now
    daycnt := if days = 0 then min 65535 (e.daycnt + 1) else 1
    daystart := min (2 ^ 32 - 1) (e.daystart + 86400 * days)
    corr := if uncorr then e.corr else min 65535 (e.corr + 1)
    uncorr := if uncorr then min 255 (e.uncorr + 1) else e.uncorr }

/-- Whether an error recurs at the last location of its unit within 24 powered hours (R491 rule 2). -/
def ErrEntry.recurs (e : ErrEntry) (now word bit : Nat) : Bool :=
  e.word == word && (bit == 0xFF || e.bit == 0xFF || e.bit == bit) && decide (now ≤ e.lasts + 86400)

def ErrEntry.isFor (e : ErrEntry) (ploc unit subidx : Nat) : Bool :=
  e.ploc == ploc && e.unit == unit && e.subidx == subidx

/-- The entry with the oldest last error among those not classed lasting. -/
def oldestEntry (l : List ErrEntry) : Option ErrEntry :=
  (l.filter (fun e => !e.lasting)).foldl (fun a e =>
    match a with
    | none => some e
    | some b => if e.lasts < b.lasts then some e else some b) none

/-- Enter a unit's first error; a full table gives up the entry with the oldest last error that is not lasting. -/
def addEntry (l : List ErrEntry) (e : ErrEntry) : List ErrEntry :=
  if l.length < 4096 then l ++ [e]
  else match oldestEntry l with
    | some o => l.filter (fun x => x ≠ o) ++ [e]
    | none => l

def State.setErrs (s : State) (l : List ErrEntry) : State :=
  { s with rel := { s.rel with log := { s.rel.log with errs := l } } }

/-- Add one to a logbook counter of the links section, saturating. -/
def State.countLink (s : State) (n : Nat) : State :=
  let lb := s.rel.log
  let v := min (2 ^ 64 - 1) (Sparse.get 0 lb.links n + 1)
  { s with rel := { s.rel with log := { lb with links := Sparse.set 0 lb.links n v } } }

/-- Whether a scheduled test is that of a unit. -/
def UnitTest.isFor (t : UnitTest) (ploc unit subidx : Nat) : Bool := t.ploc == ploc && t.unit == unit && t.subidx == subidx

/-- Schedule the targeted self-test of a unit, one for several errors before it (R490). `classed`: the error is lasting already. -/
def State.scheduleTest (s : State) (ploc unit subidx eclass : Nat) (classed : Bool) : State :=
  let l := s.rel.tests
  let f (t : UnitTest) : UnitTest := if t.isFor ploc unit subidx then { t with classed := t.classed || classed } else t
  let l1 := if l.any (fun t => t.isFor ploc unit subidx) then l.map f else l ++ [⟨ploc, unit, subidx, eclass, s.plocLagoon ploc, classed⟩]
  { s with rel := { s.rel with tests := l1 } }

/-- Class a unit's error as lasting: event 0x7202, and its substitution waits (R491, R492). -/
def State.classLasting (s : State) (ploc unit subidx word bit eclass : Nat) : State :=
  let t := (s.setErrs (s.rel.log.errs.map (fun e => if e.isFor ploc unit subidx then { e with lasting := true } else e))).raise
    0x7202 0 (argM unit subidx word bit eclass) ploc (s.plocLagoon ploc) none
  match spareKind unit ploc word with
  | none => t
  | some k =>
    if t.rel.substs.any (fun x => x.kind == k && x.ploc == ploc && x.subidx == subidx) then t
    else { t with rel := { t.rel with substs := t.rel.substs ++ [⟨k, ploc, unit, subidx, word, bit, eclass, s.plocLagoon ploc⟩] } }

/-- Count an error in the logbook, class it lasting where R491 does so at once (with the ECLASS of the error), and schedule
its test. -/
def State.countError (s : State) (ploc unit subidx word bit : Nat) (uncorr : Bool) : State :=
  let now := min (2 ^ 32 - 1) s.rel.log.seconds
  let s1 := match if uncorr then none else linkCounter unit ploc subidx with | some n => s.countLink n | none => s
  let old := s1.rel.log.errs.find? (fun e => e.isFor ploc unit subidx)
  let es := match old with
    | some _ => s1.rel.log.errs.map (fun e => if e.isFor ploc unit subidx then e.count now word bit uncorr else e)
    | none => addEntry s1.rel.log.errs
        ⟨ploc, unit, subidx, word, bit, 1, now, now, now, if uncorr then 0 else 1, if uncorr then 1 else 0, false, false⟩
  let eclass := if uncorr then 2 else if 0x30 ≤ unit ∧ unit ≤ 0x34 then 4 else 1
  let lasting := (old.map (fun e => e.recurs now word bit || decide (16 ≤ (e.count now word bit uncorr).daycnt))).getD false
  let s2 := (s1.setErrs es).scheduleTest ploc unit subidx eclass lasting
  if lasting then s2.classLasting ploc unit subidx word bit eclass else s2

/-- A corrected error or a retried link (R487): counted, and a notice at most once per second for the unit. -/
def State.corrected (s : State) (ploc unit subidx word bit eclass : Nat) (lag vc : Option Nat) : State :=
  (s.countError ploc unit subidx word bit false).limited 0x7101 (ploc * 65536 + unit * 256 + subidx)
    (argM unit subidx word bit eclass) ploc lag vc

/-- The first failure of a base-die check on a stack's link (R223): counted, and event 0x2231. -/
def State.baseRetry (s : State) (n granule : Nat) (l : Nat) (vc : Option Nat) : State :=
  (s.countError (plocStack n) 0x33 0 granule 0xFF false).raise 0x2231 0 (argM 0x33 0 granule 0xFF 0x04) (plocStack n) (some l) vc

/-- The second failure of the check: event 0x2231 again, the error being counted as the uncorrectable one that it is (R223). -/
def State.baseFail (s : State) (n granule : Nat) (l : Nat) (vc : Option Nat) : State :=
  s.raise 0x2231 0 (argM 0x33 0 granule 0xFF 0x04) (plocStack n) (some l) vc

/-- An uncorrectable error met by an access of or for a lagoon's run: event 0x7102 ends the run (R488). -/
def State.uncorrectable (s : State) (ploc unit subidx word bit l : Nat) (vc : Option Nat) : State :=
  (s.countError ploc unit subidx word bit true).fault 0x7102 (argM unit subidx word bit 0x02) ploc l vc

/-! ## Words marked bad (R488) -/

/-- The first atom of 64 bytes marked bad among device addresses. -/
def State.badAtom (s : State) (addrs : List Nat) : Option Nat := (addrs.find? (fun a => s.rel.bad.contains (a / 64))).map (· / 64)

/-- The first atom marked bad of which the addresses from lo up to hi take in only a part: writing them needs the rest of it (R488). -/
def State.badPart (s : State) (lo hi : Nat) : Option Nat :=
  s.rel.bad.find? (fun a => decide (64 * a < hi) && decide (lo < 64 * a + 64) && !(decide (lo ≤ 64 * a) && decide (64 * a + 64 ≤ hi)))

/-- The first atom marked bad of which some device addresses take in only a part. -/
def State.badWrite (s : State) (addrs : List Nat) : Option Nat :=
  s.rel.bad.find? (fun a => addrs.any (fun x => x / 64 == a) && !(List.range 64).all (fun i => addrs.contains (64 * a + i)))

/-- Writes of whole atoms clear their marks. -/
def State.clearBad (s : State) (addrs : List Nat) : State :=
  if s.rel.bad.isEmpty then s
  else
    let left := s.rel.bad.filter (fun a => !(List.range 64).all (fun i => addrs.contains (64 * a + i)))
    { s with rel := { s.rel with bad := left } }

/-- The program address of a device address in a lagoon's memory. -/
def State.progAddr (s : State) (l d : Nat) : Option Nat :=
  if d < ddrBase then ((s.ownStacks l).idxOf? (d / 2 ^ 37)).map (fun p => p * 2 ^ 37 + d % 2 ^ 37)
  else ((s.ownChans l).idxOf? ((d - ddrBase) / 2 ^ 38)).map (fun p => ddrBase + p * 2 ^ 38 + (d - ddrBase) % 2 ^ 38)

/-- Clear the bad marks of atoms that a run of program bytes overwrites whole (R488). -/
def State.clearBadProg (s : State) (l lo n : Nat) : State :=
  { s with rel := { s.rel with bad := s.rel.bad.filter (fun a => match s.progAddr l (64 * a) with
      | some p => !(decide (lo ≤ p) && decide (p + 64 ≤ lo + n))
      | none => true) } }

/-- Write bytes at a program address, with their effect on bad marks. -/
def State.putProg (s : State) (l a : Nat) (bs : List Byte) : State := (s.writeProg l a bs).clearBadProg l a bs.length

/-- The unit code of an atom: HBM or DDR5 (Table 6 of spec/16). -/
def atomUnit (a : Nat) : Nat := if 64 * a < ddrBase then 0x20 else 0x28

/-- A run meets an atom marked bad. -/
def State.meetBad (s : State) (a l : Nat) (vc : Option Nat) : State :=
  s.uncorrectable (plocAddr (64 * a)) (atomUnit a) (Config.memoryBank (64 * a) % 256) (64 * a / 1024) 0xFF l vc

/-- Whether a word of a core memory of a virtual core is marked bad. -/
def State.badWord (s : State) (c : CoreId) (unit word : Nat) : Bool := s.rel.badCore.contains ((s.core c).img.phys, unit, word)

/-- A run meets a core memory word marked bad. A tile of the sound is met at its head. -/
def State.meetCore (s : State) (c : CoreId) (unit word : Nat) : State :=
  let w := if unit = 0x12 then 0 else word
  s.uncorrectable (plocCore (s.core c).img.phys) unit (w / 2 ^ 32) (w % 2 ^ 32) 0xFF c.lagoon (some c.v)

end Sys2Proof.Machine
end

