-- ==== Sys2Proof/Machine/Marks.lean ====
section
/-! DEFINITION. Words of core memories marked bad: which of them a step of a core meets, and which it overwrites (R488, R493). -/

namespace Sys2Proof.Machine

/-! ## The word that a mark names -/

/-- Where a line of stream queue memory lies: queue, entry from the head, line of the entry. Entries fill a queue's lines in
turn from its first line. -/
def Core.queueSpot (c : Core) (line : Nat) : Option (Nat × Nat × Nat) :=
  ((List.range 32).find? (fun n =>
    let q := c.queue n
    let base := bits q.cfg.toNat 0 12
    decide (base ≤ line) && decide (line < base + q.depth * q.elines))).bind (fun n =>
      let q := c.queue n
      let at_ := line - bits q.cfg.toNat 0 12
      let j := (at_ / q.elines + q.depth - q.popped % q.depth) % q.depth
      if j < q.entries.length then some (n, j, at_ % q.elines) else none)

/-- A line of stream queue memory: of the entry that occupies it, else what the last one left or a debugger wrote there. -/
def Core.queueLine (c : Core) (line : Nat) : LineData :=
  match (c.queueSpot line).bind (fun p => ((c.queue p.1).entries[p.2.1]?).map (fun e => e.lines.getD p.2.2 0)) with
  | some d => d
  | none => Sparse.get 0 c.qmem line

def Core.setQueueLine (c : Core) (line : Nat) (d : LineData) : Core :=
  match (c.queueSpot line).bind (fun p => ((c.queue p.1).entries[p.2.1]?).map (fun e => (p.1, p.2.1, setAt e.lines p.2.2 d, e))) with
  | some (n, j, ls, e) => c.setQueue n { c.queue n with entries := setAt (c.queue n).entries j { e with lines := ls } }
  | none => { c with qmem := Sparse.set 0 c.qmem line d }

/-- Whether a load leaves a unit's words as they are for every run: core program memory, pilot instruction memory and the descriptor
table (R349). The other core memories are written anew at each START. -/
def keptUnit (unit : Nat) : Bool := unit == 0x03 || unit == 0x05 || unit == 0x13

/-- The bits of a word of a core memory, by UNIT and word (Table 6 of spec/16); 0 for a unit in which the model meets no mark
(DEDUCED 86). -/
def wordBits (unit word : Nat) : Nat :=
  match unit with
  | 0x00 => 1024
  | 0x01 => 2048
  | 0x02 => 1024
  | 0x04 => 64
  | 0x06 => 2048
  | 0x07 => 1024
  | 0x08 => if word < 32 then 2048 else 256
  | 0x12 => 2048
  | 0x13 => 768
  | _ => 0

/-- What names a tile in the sound while it is there: the beat and the cube that drained it. -/
def DrainTile.key (d : DrainTile) : Nat := d.beat * 16 + d.cube % 16

/-- A word of a core memory. For accumulator banks and B registers the word counts 2^32 for each cube; in the sound it is the key of
a tile. -/
def Core.word (c : Core) (unit word : Nat) : Nat :=
  match unit with
  | 0x00 => (c.tileLine word).data.toNat
  | 0x01 => (c.cacheLine word).toNat
  | 0x02 => (c.queueLine word).toNat
  | 0x04 => ofBytes ((List.range 8).map (fun i => Sparse.get 0 c.pilot.dmem (8 * word + i)))
  | 0x06 => (Sparse.get 0 (c.cube (word / 2 ^ 32)).bank (word % 2 ^ 32)).toNat
  | 0x07 => (if word % 2 = 0 then (c.cube (word / 2 ^ 32)).b0 else (c.cube (word / 2 ^ 32)).b1).data.toNat
  | 0x08 => if word < 32 then (c.vreg word).toNat else (c.mreg (word - 32)).toNat
  | 0x12 => ((c.row.sound.find? (fun d => d.key == word)).map (·.data)).getD 0
  | 0x13 => (Sparse.get 0 c.img.descs word).toNat
  | _ => 0

/-- The core with one cube replaced. -/
def Core.setCube (c : Core) (n : Nat) (q : Cube) : Core := { c with row := { c.row with cubes := Sparse.set Cube.blank c.row.cubes n q } }

/-- The core with a word of a core memory replaced. -/
def Core.setWord (c : Core) (unit word v : Nat) : Core :=
  match unit with
  | 0x00 => c.setTileLine word { c.tileLine word with data := BitVec.ofNat 1024 v }
  | 0x01 => c.setCacheLine word (BitVec.ofNat 2048 v)
  | 0x02 => c.setQueueLine word (BitVec.ofNat 1024 v)
  | 0x04 =>
    let d := (List.range 8).foldl (fun m i => Sparse.set 0 m (8 * word + i) (BitVec.ofNat 8 (bits v (8 * i) 8))) c.pilot.dmem
    { c with pilot := { c.pilot with dmem := d } }
  | 0x06 =>
    let q := c.cube (word / 2 ^ 32)
    c.setCube (word / 2 ^ 32) { q with bank := Sparse.set 0 q.bank (word % 2 ^ 32) (BitVec.ofNat 2048 v) }
  | 0x07 =>
    let q := c.cube (word / 2 ^ 32)
    let d : LineData := BitVec.ofNat 1024 v
    c.setCube (word / 2 ^ 32) (if word % 2 = 0 then { q with b0 := { q.b0 with data := d } } else { q with b1 := { q.b1 with data := d } })
  | 0x08 =>
    { c with vec := if word < 32 then { c.vec with regs := Sparse.set 0 c.vec.regs word (BitVec.ofNat 2048 v) }
                    else { c.vec with masks := Sparse.set 0 c.vec.masks (word - 32) (BitVec.ofNat 256 v) } }
  | 0x12 =>
    { c with row := { c.row with sound := c.row.sound.map (fun d => if d.key = word then { d with data := v % 2 ^ (8 * d.bytes) } else d) } }
  | 0x13 => { c with img := { c.img with descs := Sparse.set 0 c.img.descs word (BitVec.ofNat 768 v) } }
  | _ => c

/-! ## What a step meets -/

/-- How a step of a core uses a word. -/
inductive Use where
  | spared | met | overwritten
  deriving DecidableEq, Repr

/-- Every bit of a word flipped. -/
def flipWord (unit word v : Nat) : Nat := v ^^^ (2 ^ wordBits unit word - 1)

/-- Whether a word of a core memory holds something: a line of queue memory may be free. -/
def Core.holdsWord (c : Core) (unit word : Nat) : Bool :=
  let v := flipWord unit word (c.word unit word)
  (c.setWord unit word v).word unit word == v

/-- How a step `f` of a core uses a word, by what it leaves from the word as it stands and from every bit of it flipped (DEDUCED 86):
it meets the word if anything that it leaves beside the word, or a bit of the word that it changes, depends on the word's value; it
overwrites the word if it leaves the same there whatever was there. -/
def Core.use (c : Core) (f : Core → Res Core) (unit word : Nat) : Use :=
  let v := c.word unit word
  match f c, f (c.setWord unit word (flipWord unit word v)) with
  | .ok a, .ok b =>
    let x := a.word unit word
    let y := b.word unit word
    if a.setWord unit word 0 ≠ b.setWord unit word 0 ∨ (x ^^^ y) &&& (x ^^^ v) ≠ 0 then .met
    else if x = y ∧ (c.holdsWord unit word = true ∨ a.holdsWord unit word = true) then .overwritten
    else .spared
  | a, b => if a = b then .spared else .met

/-- The words of the core memories of a virtual core's physical core that are marked bad, as (UNIT, word), those that its fetches
meet apart. -/
def State.marks (s : State) (c : CoreId) : List (Nat × Nat) :=
  (s.rel.badCore.filter (fun m => m.1 == (s.core c).img.phys && decide (0 < wordBits m.2.1 m.2.2))).map Prod.snd

/-- Clear a mark: the whole word has been written (R488). -/
def State.unmark (s : State) (p : Nat) (m : Nat × Nat) : State :=
  { s with rel := { s.rel with badCore := s.rel.badCore.filter (fun x => x != (p, m)) } }

/-- The first word marked bad that a step `f` of a core meets. -/
def State.met (s : State) (c : CoreId) (f : Core → Res Core) : Option (Nat × Nat) :=
  (s.marks c).find? (fun x => (s.core c).use f x.1 x.2 == .met)

/-- Clear the marks of the words that a step `f` of a core, as it stands in `s0`, writes whole. -/
def State.unmarkBy (s s0 : State) (c : CoreId) (f : Core → Res Core) : State :=
  ((s0.marks c).filter (fun x => (s0.core c).use f x.1 x.2 == .overwritten)).foldl (fun (a : State) x => a.unmark (s0.core c).img.phys x) s

/-- A step `f` of a core: the first word marked bad that it meets ends the run (R488). -/
def State.act (s : State) (c : CoreId) (access : Bool) (f : Core → Res Core) : State :=
  match s.met c f with
  | some x => s.meetCore c x.1 x.2
  | none => (s.finish c access (f (s.core c))).unmarkBy s c f

/-- The lines of queue memory that hold the head of a queue. -/
def Core.headLines (c : Core) (n : Nat) : List Nat :=
  let q := c.queue n
  (List.range q.elines).map (fun r => bits q.cfg.toNat 0 12 + q.popped % max 1 q.depth * q.elines + r)

/-- The first word marked bad in the head of a queue. -/
def State.metHead (s : State) (c : CoreId) (n : Nat) : Option (Nat × Nat) :=
  (s.marks c).find? (fun x => x.1 == 2 && ((s.core c).headLines n).contains x.2)

/-! ## Loads, launches and substitutions -/

/-- Clear the marks of the physical cores that a test picks, in the units that a test picks. -/
def State.clearMarks (s : State) (p : Nat → Bool) (u : Nat → Bool) : State :=
  { s with rel := { s.rel with badCore := s.rel.badCore.filter (fun m => !(p m.1 && u m.2.1)) } }

/-- A spare core takes the marks of the words that are copied into it from the core that it replaces (R493). -/
def State.moveMarks (s : State) (p q : Nat) : State :=
  let own := s.rel.badCore.filter (fun m => m.1 == p && keptUnit m.2.1)
  { s with rel := { s.rel with badCore := own.map (fun m => (q, m.2)) ++ s.rel.badCore.filter (fun m => m.1 != p && m.1 != q) } }

end Sys2Proof.Machine
end

