-- ==== Sys2Proof/Machine/Straits.lean ====
section
/-! DEFINITION. Strait and causeway lanes: the way of an item between regions, what a lane holds, when it accepts nothing, and how
items move on (R287 to R293). -/

namespace Sys2Proof.Machine

/-! ## Lanes (R287, R293) -/

/-- A lane: the regions that it leads from and to, and its number. -/
def laneOf (src dst n : Nat) : Nat := (18 * src + dst) * 32 + n
def laneSrc (x : Nat) : Nat := x / 32 / 18
def laneDst (x : Nat) : Nat := x / 32 % 18

/-- Whether a lane belongs to the causeway. -/
def laneCauseway (x : Nat) : Bool := laneSrc x / 9 != laneDst x / 9

/-- Periods of a lane's stage section, of its fixed latency, and entries of its FIFO: the 8 within their synchronisation and those of
the slip that it absorbs (R287 to R289, R293). -/
def laneStage (x : Nat) : Nat := if laneCauseway x then 20 else 8
def laneLatency (x : Nat) : Nat := if laneCauseway x then 28 else 16
def laneFifo (x : Nat) : Nat := if laneCauseway x then 56 else 32

/-! ## Routes (R26, R290, R293) -/

/-- The regions that a path on one die passes, columns first (DESIGN CHOICE 46). -/
def pathOn : Nat → Nat → Nat → List Nat
  | 0, _, _ => []
  | fuel + 1, a, b =>
    if a = b then []
    else
      let n := if a % 3 < b % 3 then a + 1 else if b % 3 < a % 3 then a - 1 else if a < b then a + 3 else a - 3
      n :: pathOn fuel n b

/-- Whether a causeway group has its 32 passing lanes in both directions (R293). -/
def State.groupUp (s : State) (g : Nat) : Bool :=
  (List.range 2).all (fun d => decide ((Sparse.get ⟨[]⟩ s.causeway (2 * g + d)).failed.length ≤ 2))

/-- The causeway group of traffic that leaves a region: that of its row, or the next that is in service (R26, R293). -/
def State.groupFor (s : State) (r : Nat) : Nat :=
  let y := r % 9 / 3
  ([y, (y + 1) % 3, (y + 2) % 3].find? s.groupUp).getD y

/-- The regions that a path from one region to another passes. -/
def State.pathTo (s : State) (a b : Nat) : List Nat :=
  if a / 9 = b / 9 then pathOn 4 a b
  else
    let g := s.groupFor a
    let out := 9 * (a / 9) + 3 * g + (if a < 9 then 2 else 0)
    let inn := 9 * (b / 9) + 3 * g + (if b < 9 then 2 else 0)
    pathOn 4 a out ++ inn :: pathOn 4 inn b

/-- The lanes of a path for traffic of a physical core: one fixed lane of the active ones on every strait (R290; DESIGN CHOICE 46). -/
def State.lanesTo (s : State) (p a b : Nat) : List Nat :=
  let rs := s.pathTo a b
  List.zipWith (fun x y => laneOf x y (if x / 9 = y / 9 then p % 8 else p % 32)) (a :: rs) rs

/-- The lanes between a core and the end that its traffic with a memory takes: the region where the causeway enters the stack's die,
or the harbour link end of the core's own die for DDR5 (R27, R28, R190). The spec gives a stack no place at the edge of its die, and
traffic with a stack of the core's own die crosses no strait here (DESIGN CHOICE 108). -/
def State.lanesToMem (s : State) (p dev : Nat) : List Nat :=
  let a := physRegion p
  if dev < ddrBase then
    if dev / 2 ^ 37 / 10 = a / 9 then [] else s.lanesTo p a (9 * (1 - a / 9) + 3 * s.groupFor a + (if a < 9 then 0 else 2))
  else s.lanesTo p a (if a < 9 then 8 else 15)

/-- The lanes of a transaction's way to its memory (R28, R190). -/
def State.txnLanes (s : State) (c : CoreId) (t : Txn) : List Nat :=
  match t.spots.head?.bind (fun p => s.translate c.lagoon p.2) with
  | some d => s.lanesToMem (s.core c).img.phys d
  | none => []

/-- The lanes of the way back. -/
def lanesBack (xs : List Nat) : List Nat := (xs.map (fun x => laneOf (laneDst x) (laneSrc x) (x % 32))).reverse

/-! ## What a lane holds -/

/-- The lines of an entry, of a message and of a transaction's crossing. -/
def QEntry.size (e : QEntry) : Nat := max 1 e.lines.length
def Msg.lines (m : Msg) : Nat := m.entry.size
def Txn.lines (t : Txn) : Nat := if t.write = (t.state == 0) then (t.spots.length + 127) / 128 else 1

/-- The periods of a region, stops included, by which its lanes' stage sections go on, in thousandths. -/
def State.stages (s : State) (r : Nat) : Nat := (s.region r).stages

/-- Whether the receiving side of a region's lanes takes entries: its pacers are neither stopped nor halted nor off (R283). -/
def State.receives (s : State) (r : Nat) : Bool := (s.region r).state == 0 || (s.region r).state == 3

def State.laneUse (s : State) (x : Nat) : LaneUse := Sparse.get LaneUse.blank s.fabric.use x

/-- The lines of an item that have passed its lane's stage section and so hold FIFO entries (R287). -/
def State.arrivedLines (s : State) (t : Transit) : Nat :=
  match t.lanes with
  | [] => 0
  | x :: _ =>
    let first := t.staged + 1000 * laneStage x + 1000
    if s.stages (laneDst x) + 1000 * t.lines < first then 0 else min t.lines ((s.stages (laneDst x) + 1000 * t.lines - first) / 1000 + 1)

/-- The entries that a lane's FIFO holds, over the traffic of every lagoon (R289, R292). -/
def State.laneLoad (s : State) (x : Nat) : Nat :=
  ((s.fabric.items.filter (fun t => t.lanes.head? == some x)).map s.arrivedLines).sum

/-- Whether the first of some lanes accepts an item of n lines: its stage section takes one line a period, and the FIFO has room for
them (R287, R289). -/
def State.laneOpen (s : State) (xs : List Nat) (n : Nat) : Bool :=
  match xs with
  | [] => true
  | x :: _ => decide (s.laneLoad x + n ≤ laneFifo x) && decide ((s.laneUse x).accepts ≤ s.stages (laneDst x))

/-- Item `id` of n lines enters the first of some lanes, behind what that took last. -/
def State.enter (s : State) (id n : Nat) (xs : List Nat) : State :=
  match xs with
  | [] => s
  | x :: _ =>
    let now := s.stages (laneDst x)
    let start := max now (s.laneUse x).accepts
    let last := start - now + 1000 * (n - 1)
    let t : Transit := ⟨id, xs, s.periods (laneDst x) + last, now + last, n⟩
    { s with fabric := { s.fabric with
        items := s.fabric.items ++ [t], use := Sparse.set LaneUse.blank s.fabric.use x { s.laneUse x with accepts := start + 1000 * n } } }

/-- Place an item of n lines in the first of some lanes: the state and the number of its crossing, 0 where it crosses none. -/
def State.place (s : State) (xs : List Nat) (n : Nat) : State × Nat :=
  if xs.isEmpty then (s, 0)
  else
    let id := s.fabric.count + 1
    (({ s with fabric := { s.fabric with count := id } }).enter id n xs, id)

/-- Whether an item has come to the end of its way. -/
def State.home (s : State) (way : Nat) : Bool := s.fabric.items.all (fun t => t.id != way)

/-- Whether an item has been in its lane for longer than the lane's fixed latency (R288, R297). -/
def State.lateWay (s : State) (way : Nat) : Bool :=
  s.fabric.items.any (fun t => t.id == way && match t.lanes with
    | [] => false
    | x :: _ => decide (t.staged + 1000 * laneLatency x < s.stages (laneDst x)))

/-- Whether the receiving side takes an item: it is available, at the lane's fixed latency after its placement, and the lines before
it have been taken, one a period (R287, R288). -/
def State.takeable (s : State) (t : Transit) : Bool :=
  match t.lanes with
  | [] => true
  | x :: _ => s.receives (laneDst x) && decide (t.placed + 1000 * laneLatency x ≤ s.periods (laneDst x)) &&
    decide ((s.laneUse x).takes + 1000 * (t.lines - 1) ≤ s.periods (laneDst x))

/-- The receiving side takes an item, which enters the next lane of its way or has come to its end. -/
def State.take1 (s : State) (t : Transit) : State :=
  let out := { s with fabric := { s.fabric with items := s.fabric.items.filter (fun u => u.id != t.id) } }
  match t.lanes with
  | [] => out
  | x :: xs =>
    let u := s.laneUse x
    let from_ := max u.takes (t.placed + 1000 * laneLatency x - 1000 * (t.lines - 1))
    ({ out with fabric := { out.fabric with use := Sparse.set LaneUse.blank out.fabric.use x { u with takes := from_ + 1000 * t.lines } } }).enter
      t.id t.lines xs

/-- One item at a tick; `held` are the lanes whose oldest item stays, which those behind it do not pass (R290). -/
def crossOne (a : State × List Nat) (t : Transit) : State × List Nat :=
  match t.lanes with
  | [] => (a.1.take1 t, a.2)
  | x :: xs => if a.2.contains x || !a.1.takeable t || !a.1.laneOpen xs t.lines then (a.1, x :: a.2) else (a.1.take1 t, a.2)

/-- The items in lanes after a tick, in the order of their placement. -/
def State.crossTick (s : State) : State := (s.fabric.items.foldl crossOne (s, [])).1

/-! ## Pacers (R277, R318) -/

/-- Thousandths of a pacer period in one tick: the measured rate in MHz, or before one is measured the nominal rate of the grade. -/
def State.pace (s : State) (r : Nat) : Nat :=
  if (s.region r).rate ≠ 0 then (s.region r).rate else if s.keeper.grade = 1 then 1800 else 1650

/-- The pacers of the regions that run advance by a tick, and the stage sections of the regions that are on. -/
def State.paceTick (s : State) : State :=
  { s with regions := s.regions.map (fun p =>
      if p.2.state = 0 ∨ p.2.state = 3 then (p.1, { p.2 with periods := p.2.periods + s.pace p.1, stages := p.2.stages + s.pace p.1 })
      else if p.2.state < 3 then (p.1, { p.2 with stages := p.2.stages + s.pace p.1 }) else p) }

end Sys2Proof.Machine
end

