-- ==== Sys2Proof/Machine/Control.lean ====
section
/-! DEFINITION. Control operations of bundles, synchronisation operations, empty beats and the end of a virtual core's
run (R139 to R163, R197, R240 to R255). -/

namespace Sys2Proof.Machine

/-! ## What a core's issue knows of its lagoon -/

/-- The class of envelope n of a virtual core, none where it is invalid (R256): 1 reef record, 2 message. -/
def State.envelopeOk (s : State) (c : CoreId) (n : Nat) : Option Nat :=
  let e := (Sparse.get 0 (s.core c).img.envelopes n).toNat
  let x := s.lagoon c.lagoon
  let dest := bits e 52 9
  match x.img, bits e 61 3 with
  | some im, 1 => if dest % 32 < im.gx ∧ dest / 32 < im.gy then some 2 else none
  | some _, 2 => if x.groups.any (fun g => g.num == dest && g.sender == c.v) then some 2 else none
  | some _, 3 => if x.combs.any (fun q => q.num == dest && q.contribs.contains c.v) then some 2 else none
  | some im, 4 => if dest < im.nstk then some 1 else none
  | _, _ => none

def State.ctx (s : State) (c : CoreId) : Ctx := ⟨c.v, s.envelopeOk c, s.owned c.lagoon, s.home⟩

/-- Whether an entry of a core's outbound queue is in it (R149). -/
def State.entered (s : State) (c : CoreId) (e : QEntry) : Bool := (s.core c).inQueue e

/-- A core after a tick of the tide in which its execute sequencer issues no beat: its region's pacers, while they run, go on (R277). -/
def State.stallCore (l : Nat) (s : State) (v : Nat) : State :=
  let c : CoreId := ⟨l, v⟩
  let k := s.core c
  if (s.region (s.coreRegion c)).state = 0 ∧ (!s.issues c || k.execHeld (s.ctx c)) then
    s.setCore c { k with stall := k.stall + s.pace (s.coreRegion c) }
  else s

/-- The same for every core of the lagoons that are RUNNING or PAUSED. -/
def State.stallTick (s : State) : State :=
  (List.range 8).foldl (fun (a : State) l =>
    if (a.lagoon l).st = .running ∨ (a.lagoon l).st = .paused then (a.vcores l).foldl (State.stallCore l) a else a) s

/-! ## The end of a virtual core's run (R141, R169, R195, R413) -/

/-- Whether an A tile has still to act in a cube of its mask: at the end of a trace it is held behind a drain (R141). -/
def Core.heldTiles (c : Core) : Bool :=
  c.row.tiles.any (fun t => (List.range 16).any (fun n => rcwMask t.rcw n && decide ((c.cube n).pos ≤ t.beat + n)))

/-- How many of some entries hold n elements. -/
def entriesFor : List QEntry → Nat → Nat
  | [], _ => 0
  | e :: es, n => if n = 0 then 0 else entriesFor es (n - e.count) + 1

/-- Entries at the head of outbound queue n (16 to 31) that its far end has still to take: those of the PUTs and QMATCHes
accepted on a stream queue (R171, R527), and everything a message or ferry queue holds. They still leave the queue and are no residue
(DEDUCED 23). -/
def Core.claimed (c : Core) (n : Nat) : Nat :=
  let q := c.queue n
  if q.farEnd ≠ 1 then q.entries.length
  else (c.ops.filter (fun o => 16 + o.first == n && ((o.kind == 2 && dDkind o.word == 0) || o.kind == 5))).foldl (fun k o =>
    k + if o.kind = 5 then 1 else entriesFor (q.entries.drop k) (o.total - o.outScales.length)) 0

/-- What queue n keeps at the end of the core's run: an inbound queue nothing, an outbound one what is still to be taken. -/
def Core.keeps (c : Core) (n : Nat) : List QEntry := if n < 16 then [] else (c.queue n).entries.take (c.claimed n)

/-- Whether a core's run leaves residue behind (R169). -/
def Core.residue (c : Core) : Bool :=
  !c.ex.choices.isEmpty || !c.ac.choices.isEmpty || !c.vec.summ.isEmpty ||
    (List.range 32).any (fun n => decide ((c.keeps n).length < (c.queue n).entries.length)) || !c.row.sound.isEmpty ||
    (List.range 16).any (fun n => (c.cube n).drain.isSome) || c.heldTiles

/-- The core without its residue, every flag still held entered in ARSTAT (R195), and at rest. -/
def Core.endRun (c : Core) : Core :=
  let fl := c.heldFlags.foldl (fun a h => a ||| h.flags) (0 : Flags)
  let c1 := { c.raise c.beat fl with
    heldFlags := [], ex := { c.ex with choices := [] }, ac := { c.ac with choices := [] }, vec := { c.vec with summ := [] }
    row := { c.row with sound := [], tiles := [], order := [],
                        cubes := (c.row.cubes.map (fun p => (p.1, { p.2 with drain := none }))).filter (fun p => decide (p.2 ≠ Cube.blank)) } }
  { (List.range 32).foldl (fun (a : Core) n => a.setQueue n { a.queue n with entries := c.keeps n, resv := 0 }) c1 with stopped := true }

/-- Whether a virtual core's run has ended: its trace has ended and its pilot has finished (R141). -/
def Core.runEnded (c : Core) : Bool := c.traceEnd && c.pilot.finished

/-- When the last virtual core's run has ended the lagoon moves to DRAINING (R413). -/
def State.drainIfEnded (s : State) (l : Nat) : State :=
  if (s.lagoon l).st = .running ∧ (s.vcores l).all (fun v => (s.core ⟨l, v⟩).runEnded) then
    let t := s.setLagoon l { s.lagoon l with stopTide := s.tide.count }
    (t.moveLagoon l .draining).answerStart l 0
  else s

/-- After a step that may have ended a core's run: its residue is discarded with a notice, and the lagoon's run may
have ended. -/
def State.coreEnd (s : State) (c : CoreId) : State :=
  let k := s.core c
  if k.runEnded ∧ !k.stopped then
    let t := s.setCore c k.endRun
    let u := if k.residue then
        t.raise 0x1307 0 (k.eventArg 0x1307 0 false) (plocCore k.img.phys) (some c.lagoon) (some c.v) else t
    u.drainIfEnded c.lagoon
  else s

/-! ## Issue -/

/-- Record the tide of a beat in the ledger, which runs to the last beat (R294, R295); the first core to issue beat 0 has its START answered (R415). -/
def State.beatIssued (s : State) (c : CoreId) (before : Nat) : State :=
  let k := s.core c
  if k.beat = before then s
  else
    let lg := { k.ledger with
      tend := s.tide.count, tstart := if before = 0 then s.tide.count else k.ledger.tstart, causes := k.ledger.since }
    let t := s.setCore c { k with ledger := lg }
    if before = 0 then t.answerStart c.lagoon s.tide.count else t

/-- A sequencer's step at the bundle it stands at. -/
def State.seqIssue (s : State) (c : CoreId) (q : SeqId) : State :=
  let b := (s.core c).bundle q
  let a := ((s.core c).seq q).addr
  if s.issues c then
    match (List.range b.size).find? (fun i => s.badWord c 3 (a + i)) with
    | some i => s.meetCore c 3 (a + i)
    | none => (s.act c (q == .access) (fun k => k.seqStep (s.ctx c) q)).beatIssued c (s.core c).beat
  else s

/-- A control row: the sequencer's step, where its bundle carries the control operation named. -/
def State.control (s : State) (c : CoreId) (q : SeqId) (p : Bundle → Bool) : State :=
  if p ((s.core c).bundle q) then s.seqIssue c q else s

/-- Whether a bundle carries a control operation. -/
def isCop (k : Cop) (b : Bundle) : Bool := Cop.ofCode b.cop == k

/-- Whether a bundle is a BWAIT of a KIND (Table 3 of spec/08). -/
def isBwait (kind : Nat) (b : Bundle) : Bool := Cop.ofCode b.cop == .bwait && bits b.carg 30 2 == kind

/-! ## The rows of Table 2 of spec/05 and of spec/08 -/

/-- NOP (R145): issues its slots and does nothing else. -/
def execNop (c : CoreId) (q : SeqId) (s : State) : Host.Outcome State Fault Refusal := .next (s.control c q (isCop .nop))
/-- REPEAT (R152). -/
def execRepeatBundle (c : CoreId) (q : SeqId) (s : State) : Host.Outcome State Fault Refusal := .next (s.control c q (isCop .repeat))
/-- LOOP (R152). -/
def execLoop (c : CoreId) (q : SeqId) (s : State) : Host.Outcome State Fault Refusal := .next (s.control c q (isCop .loop))
/-- CALL (R153). -/
def execCall (c : CoreId) (q : SeqId) (s : State) : Host.Outcome State Fault Refusal := .next (s.control c q (isCop .call))
/-- RET (R153). -/
def execRet (c : CoreId) (q : SeqId) (s : State) : Host.Outcome State Fault Refusal := .next (s.control c q (isCop .ret))
/-- SELECT (R162). -/
def execSelect (c : CoreId) (q : SeqId) (s : State) : Host.Outcome State Fault Refusal := .next (s.control c q (isCop .select))
/-- SETX (R147). -/
def execSetx (c : CoreId) (q : SeqId) (s : State) : Host.Outcome State Fault Refusal := .next (s.control c q (isCop .setx))
/-- TAKE (R162). -/
def execTake (c : CoreId) (q : SeqId) (s : State) : Host.Outcome State Fault Refusal := .next (s.control c q (isCop .take))
/-- BSET (R241). -/
def execBset (c : CoreId) (q : SeqId) (s : State) : Host.Outcome State Fault Refusal := .next (s.control c q (isCop .bset))
/-- BCLR (R241). -/
def execBclr (c : CoreId) (q : SeqId) (s : State) : Host.Outcome State Fault Refusal := .next (s.control c q (isCop .bclr))
/-- BWAIT until set (R243). -/
def execBwaitSet (c : CoreId) (q : SeqId) (s : State) : Host.Outcome State Fault Refusal := .next (s.control c q (isBwait 0))
/-- BWAIT until clear (R243). -/
def execBwaitClear (c : CoreId) (q : SeqId) (s : State) : Host.Outcome State Fault Refusal := .next (s.control c q (isBwait 1))
/-- BWAIT on a tally (R246). -/
def execBwaitTally (c : CoreId) (q : SeqId) (s : State) : Host.Outcome State Fault Refusal := .next (s.control c q (isBwait 2))
/-- FENCE (R248 to R251). -/
def execFence (c : CoreId) (q : SeqId) (s : State) : Host.Outcome State Fault Refusal := .next (s.control c q (isCop .fence))
/-- The barrier of a bundle knows its latest arrival: a member that has arrived with the step from `s` (R254, R255). -/
def State.noteArrival (t s : State) (c : CoreId) (q : SeqId) : State :=
  if ((t.core c).seq q).arrived && !((s.core c).seq q).arrived then
    let b := bits ((s.core c).bundle q).carg 0 6
    let x := t.lagoon c.lagoon
    t.setLagoon c.lagoon { x with barriers := x.barriers.map (fun d => if d.num = b then { d with last := c.v } else d) }
  else t

/-- BARRIER (R253, R254): the fence, the arrival, and the issue once released. -/
def execBarrier (c : CoreId) (q : SeqId) (s : State) : Host.Outcome State Fault Refusal :=
  .next ((s.control c q (isCop .barrier)).noteArrival s c q)
/-- CANCEL (R197, R198). -/
def execCancel (c : CoreId) (q : SeqId) (s : State) : Host.Outcome State Fault Refusal := .next (s.control c q (isCop .cancel))
/-- QMARK (R158, R527). -/
def execQmark (c : CoreId) (q : SeqId) (s : State) : Host.Outcome State Fault Refusal := .next (s.control c q (isCop .qmark))
/-- QMATCH (R158, R527). -/
def execQmatch (c : CoreId) (q : SeqId) (s : State) : Host.Outcome State Fault Refusal := .next (s.control c q (isCop .qmatch))
/-- END (R141). -/
def execEndStream (c : CoreId) (q : SeqId) (s : State) : Host.Outcome State Fault Refusal := .next (s.control c q (isCop .finish))

/-- An empty beat, or the end of the trace and with it perhaps of the core's and the lagoon's run. -/
def State.emptyBeat (s : State) (c : CoreId) : State :=
  if s.issues c then ((s.act c false (fun k => .ok k.emptyBeat)).beatIssued c (s.core c).beat).coreEnd c
  else s

/-- EMPTY_BEAT (R141). -/
def execEmptyBeat (c : CoreId) (s : State) : Host.Outcome State Fault Refusal := .next (s.emptyBeat c)

/-! ## Completions -/

/-- FENCE_COMPLETE (R250): posted fence n of a core completes once all it covers has finished and its buoy is clear. -/
def execFenceComplete (c : CoreId) (n : Nat) (s : State) : Host.Outcome State Fault Refusal :=
  .next (match (s.core c).fences.find? (fun f => f.id == n) with
    | none => s
    | some f => if s.paced c && (s.core c).fenceReady f then s.finish c false (.ok ((s.core c).fenceComplete f)) else s)

/-- Whether a member has arrived at a barrier's present episode: it stands at a BARRIER of that number (R254). -/
def State.arrived (s : State) (l b : Nat) (m : Nat × Bool) : Bool :=
  let k := s.core ⟨l, m.1⟩
  let i : SeqId := if m.2 && k.img.split then .access else .execute
  (k.seq i).arrived && !(k.seq i).released && Cop.ofCode (k.bundle i).cop == .barrier && bits (k.bundle i).carg 0 6 == b

/-- Release one member by a signal from the core of the latest arrival, over the lanes between the two (R255). -/
def State.releaseMember (l last : Nat) (s : State) (m : Nat × Bool) : State :=
  let (t, way) := s.place (s.lanesTo (s.core ⟨l, last⟩).img.phys (s.coreRegion ⟨l, last⟩) (s.coreRegion ⟨l, m.1⟩)) 1
  let k := t.core ⟨l, m.1⟩
  let i : SeqId := if m.2 && k.img.split then .access else .execute
  t.setCore ⟨l, m.1⟩ (k.setSeq i { k.seq i with released := true, way := way })

/-- BARRIER_RELEASE (R254): every member has arrived at the episode, so every member is released. -/
def execBarrierRelease (l b : Nat) (s : State) : Host.Outcome State Fault Refusal :=
  let x := s.lagoon l
  .next (match x.barriers.find? (fun d => d.num == b) with
    | none => s
    | some d =>
      if x.st = .running ∧ d.members.all (s.arrived l b) then
        let bs := x.barriers.map (fun e => if e.num = b then { e with episodes := e.episodes + 1 } else e)
        let t := s.setLagoon l { x with barriers := bs }
        d.members.foldl (State.releaseMember l d.last) t
      else s)

end Sys2Proof.Machine
end

