-- ==== Sys2Proof/Machine/Messages.lean ====
section
/-! DEFINITION. Active messages, multicast and combining queues (R256 to R270), with the sending of reef records (R211,
R263, R267). -/

namespace Sys2Proof.Machine

/-! ## Handlers (Table 7 of spec/08) -/

def hAction (h : Nat) : Nat := bits h 61 3
def hSrc (h : Nat) : Nat := bits h 52 9
def hIq (h : Nat) : Nat := bits h 48 4
def hSetb (h : Nat) : Bool := bit h 47
def hBuoy (h : Nat) : Nat := bits h 41 6
def hTinc (h : Nat) : Bool := bit h 40
def hTally (h : Nat) : Nat := bits h 36 4
def hLines (h : Nat) : Nat := bits h 31 5 + 1
def hWin (h : Nat) : Nat := bits h 15 16
def hBase (h : Nat) : Nat := bits h 0 15

def Core.handler (k : Core) (n : Nat) : Nat := (Sparse.get 0 k.img.handlers n).toNat

/-- The object of a handler's events: its queue, its buoy or its tally (ARG form B). -/
def hObject (h : Nat) : Nat := if hAction h = 1 then hIq h else if hAction h = 4 then hBuoy h else hTally h

/-- Messages in flight to a handler of a virtual core. -/
def Lagoon.inFlight (x : Lagoon) (d n : Nat) : Nat :=
  (x.msgs.filter (fun m => m.kind = 0 ∧ m.dst = d ∧ m.handler = n)).length

/-- Whether a message in flight to a virtual core will set a buoy. -/
def Lagoon.willSet (x : Lagoon) (k : Core) (d b : Nat) : Bool :=
  x.msgs.any (fun m => m.kind == 0 && m.entry.mark.isNone && m.dst == d && hSetb (k.handler m.handler) && hBuoy (k.handler m.handler) == b)

/-- Whether a destination has room for a message under a handler (R259); a marker needs a free entry of the IQ alone (R158). An
entry of ACTION 0b000 needs none, since the arrival raises 0x3102. -/
def State.hasRoom (s : State) (l d n : Nat) (mark : Bool) : Bool :=
  let k := s.core ⟨l, d⟩
  let x := s.lagoon l
  let h := k.handler n
  let room := match hAction h with
    | 1 => decide (0 < (k.queue (hIq h)).room)
    | 2 | 3 => let t := k.tally (hTally h); decide ((t.mt - t.tb).toNat + x.inFlight d n < hWin h)
    | _ => true
  hAction h = 0 || (room && (mark || !(hSetb h || hAction h = 4) || (!(k.buoy (hBuoy h)).set && !x.willSet k d (hBuoy h))))

/-- Reserve the inbound queue entry of a message to a QUEUE handler (R259). -/
def State.reserveRoom (s : State) (l d n : Nat) : State :=
  let k := s.core ⟨l, d⟩
  let h := k.handler n
  if hAction h = 1 then s.setCore ⟨l, d⟩ (k.setQueue (hIq h) { k.queue (hIq h) with resv := (k.queue (hIq h)).resv + 1 }) else s

/-! ## Ends of covered operations (R249) -/

/-- A covered reef record, message or contribution of a core has finished. -/
def State.opDone (s : State) (c : CoreId) (op : Nat) : State :=
  let k := s.core c
  s.setCore c { k with outst := k.outst.filter (fun o => o.id ≠ op) }

/-! ## Sending (R259, R262 to R267) -/

/-- Records a stack holds towards the 256 of R211, and those of open groups towards the 8,192 of R220. -/
def Stack.held (k : Stack) : Nat := k.recs.length
def Stack.grouped (k : Stack) : Nat := (k.groups.map (fun g => g.2.length)).sum

/-- The lanes from a core to a core of its lagoon, and to a stack of its lagoon. -/
def State.lanesCore (s : State) (c : CoreId) (d : Nat) : List Nat :=
  s.lanesTo (s.core c).img.phys (s.coreRegion c) (s.coreRegion ⟨c.lagoon, d⟩)
def State.lanesStack (s : State) (c : CoreId) (st : Nat) : List Nat := s.lanesToMem (s.core c).img.phys (st * 2 ^ 37)

/-- Post a reef record to a physical stack (R211, R212, R263): room in the stack, room for its reply, and a lane that accepts it. The
record's path fails its base-die check `fails` times, each raising event 0x2231 (R223). -/
def State.postReef (s : State) (c : CoreId) (n : Nat) (word : BitVec 1024) (op : Nat) (sq : SeqId) (fails : Nat) : Option State :=
  let k := s.core c
  let st := s.stack n
  let riq := rRiq word
  let q := k.queue riq
  let wants := rReply word && q.farEnd == 2
  if 256 ≤ st.held ∨ (rOp word = 0x30 ∧ 8192 ≤ st.grouped + (st.recs.filter (fun r => rOp r.word = 0x30)).length) ∨
      (wants = true ∧ q.room = 0) ∨ s.laneOpen (s.lanesStack c n) 1 = false then none
  else
    let s1 := if wants then s.setCore c (k.setQueue riq { q with resv := q.resv + 1 }) else s
    let s2 := if fails = 0 then s1 else s1.baseRetry n 0 c.lagoon (some c.v)
    some (if 2 ≤ fails then (s2.baseFail n 0 c.lagoon (some c.v)).uncorrectable (plocStack n) 0x33 0 0 0xFF c.lagoon (some c.v)
      else
        let (s3, way) := s2.place (s.lanesStack c n) 1
        s3.setStack n { s3.stack n with recs := (s3.stack n).recs ++ [⟨c.lagoon, c.v, word, op, sq, none, [], [], way, none, false, []⟩] })

/-- Remove the head of an outbound queue. -/
def State.popHead (s : State) (c : CoreId) (i : Nat) : State :=
  let k := s.core c
  s.setCore c (k.setQueue i { k.queue i with entries := (k.queue i).entries.tail, popped := (k.queue i).popped + 1 })

/-- Add messages to those in flight. -/
def State.launchMsgs (s : State) (l : Nat) (ms : List Msg) : State := s.setLagoon l { s.lagoon l with msgs := (s.lagoon l).msgs ++ ms }

/-- Rounds a contributor is ahead: its contributions added in the present round, held or in flight (R266). -/
def State.contributed (s : State) (l : Nat) (q : CombQueue) (src cindex : Nat) : Nat :=
  b2n (decide (cindex < q.added)) + (q.store.filter (fun c => c.cindex = cindex)).length +
    ((s.lagoon l).msgs.filter (fun m => m.kind = 1 ∧ m.dst = q.num ∧ m.src = src)).length

/-- A contributor's CINDEX: its rank among the queue's contributors (R264). -/
def CombQueue.cindex (q : CombQueue) (src : Nat) : Nat := (q.contribs.filter (fun v => v < src)).length

def CombQueue.tkind (q : CombQueue) : Bool := bit q.word.toNat 63
def CombQueue.mode (q : CombQueue) : Nat := bits q.word.toNat 60 3
def CombQueue.tcore (q : CombQueue) : Nat := bits q.word.toNat 51 9
def CombQueue.handler (q : CombQueue) : Nat := bits q.word.toNat 43 8
def CombQueue.group (q : CombQueue) : Nat := bits q.word.toNat 35 8
def CombQueue.ncontrib (q : CombQueue) : Nat := bits q.word.toNat 25 10

/-- The first 128 bytes of an entry. -/
def QEntry.first (e : QEntry) : BitVec 1024 := e.lines.headD 0

/-- Where an entry of a message queue goes, as numbers: virtual cores, combining queues from 1024, program stacks from 2048. -/
def State.targets (s : State) (c : CoreId) (e : QEntry) : List Nat :=
  let w := (Sparse.get 0 (s.core c).img.envelopes (e.env % 256)).toNat
  let dest := bits w 52 9
  match bits w 61 3 with
  | 1 => [dest]
  | 2 => (((s.lagoon c.lagoon).groups.find? (fun g => g.num == dest)).map (·.receivers)).getD []
  | 3 =>
    match (s.lagoon c.lagoon).combs.find? (fun p => p.num == dest) with
    | some p => if p.tkind then [2048 + p.tcore % 32] else [1024 + dest]
    | none => []
  | _ => [2048 + dest % 32]

/-- Whether an entry that the core pushed before entry e, into another of its message queues, has still to go to a target of e:
what goes to one target goes in the order pushed (R224, R252, R260, R262). -/
def State.overtakes (s : State) (c : CoreId) (n : Nat) (e : QEntry) : Bool :=
  let k := s.core c
  let ts := s.targets c e
  (List.range 16).any (fun m => m != n && (k.queue (16 + m)).farEnd == 2 &&
    (k.queue (16 + m)).entries.any (fun f => decide (f.op < e.op) && !f.sent && (s.targets c f).any ts.contains))

/-- Place copies of one message in the lanes of their ways, one behind the other, and send them (R262, R287). -/
def State.flyMsgs (s : State) (l : Nat) (ms : List (Msg × List Nat)) : State :=
  ms.foldl (fun a p =>
    let (b, way) := a.place p.2 p.1.lines
    b.launchMsgs l [{ p.1 with way := way }]) s

/-- The lanes of the ways to the targets of an entry. -/
def State.entryLanes (s : State) (c : CoreId) (e : QEntry) : List (List Nat) :=
  (s.targets c e).map (fun t =>
    if t < 1024 then s.lanesCore c t
    else if t < 2048 then s.lanesCore c ((((s.lagoon c.lagoon).combs.find? (fun q => q.num == t - 1024)).map (·.tcore)).getD 0)
    else s.lanesStack c ((s.ownStacks c.lagoon).getD (t - 2048) 0))

/-- MESSAGE_SEND: send the head of message OQ n, where its destination has room (R259) and the first lane of its way accepts it
(R289); none while it waits. -/
def State.sendHead (s : State) (c : CoreId) (n fails : Nat) : Option State :=
  let k := s.core c
  let i := 16 + n % 16
  let q := k.queue i
  match q.entries with
  | [] => none
  | e :: _ =>
    let w := (Sparse.get 0 k.img.envelopes (e.env % 256)).toNat
    let dest := bits w 52 9
    let h := bits w 44 8
    let x := s.lagoon c.lagoon
    let sq : SeqId := ((k.outst.find? (fun o => o.id == e.op)).map (·.seq)).getD .execute
    let held (cls : Nat) : Bool := k.fenceHolds sq cls e.op
    if q.farEnd ≠ 2 ∨ e.sent ∨ !s.entered c e ∨ s.overtakes c (n % 16) e then none
    else match bits w 61 3 with
    | 1 =>
      if held 2 || !s.hasRoom c.lagoon dest h e.mark.isSome || !s.laneOpen (s.lanesCore c dest) e.size then none
      else some (((s.reserveRoom c.lagoon dest h).popHead c i).flyMsgs c.lagoon
        [(⟨0, c.v, dest, h, e, e.op, sq, false, 0⟩, s.lanesCore c dest)])
    | 2 =>
      match x.groups.find? (fun g => g.num == dest) with
      | none => none
      | some g =>
        if held 2 || !g.receivers.all (fun d => s.hasRoom c.lagoon d h e.mark.isSome && s.laneOpen (s.lanesCore c d) e.size) then none
        else
          let s1 := g.receivers.foldl (fun a d => a.reserveRoom c.lagoon d h) s
          let k1 := s1.core c
          let q1 := k1.queue i
          let s2 := s1.setCore c (k1.setQueue i { q1 with entries := { e with sent := true } :: q1.entries.tail })
          some (s2.flyMsgs c.lagoon (g.receivers.map (fun d => (⟨0, c.v, d, h, e, e.op, sq, true, 0⟩, s.lanesCore c d))))
    | 3 =>
      match x.combs.find? (fun p => p.num == dest) with
      | none => none
      | some p =>
        if p.tkind then
          if held 2 then none
          else match (s.ownStacks c.lagoon)[p.tcore % 32]? with
            | none => none
            | some st => (s.postReef c st (stampCombine e.first p.group p.ncontrib (p.cindex c.v)) e.op sq fails).map (fun u => u.popHead c i)
        else if held 2 || decide (2 ≤ s.contributed c.lagoon p c.v (p.cindex c.v)) || !s.laneOpen (s.lanesCore c p.tcore) e.size then none
        else some ((s.popHead c i).flyMsgs c.lagoon [(⟨1, c.v, dest, 0, e, e.op, sq, false, 0⟩, s.lanesCore c p.tcore)])
    | 4 =>
      if held 1 then none
      else match (s.ownStacks c.lagoon)[dest % 32]? with
        | none => none
        | some st => (s.postReef c st e.first e.op sq fails).map (fun u => u.popHead c i)
    | _ => none

/-- Whether a core's message port sends: it may issue, or its run has ended and what it pushed is still to go. -/
def State.sends (s : State) (c : CoreId) : Bool :=
  s.issues c || (s.paced c && (s.core c).runEnded && (s.lagoon c.lagoon).st != .paused)

/-- MESSAGE_SEND (R259, R262, R263, R267): the message port of a core sends the head of message OQ n. -/
def execMessageSend (c : CoreId) (n fails : Nat) (s : State) : Host.Outcome State Fault Refusal :=
  .next (if s.sends c then
      match s.sendHead c n fails, s.metHead c (16 + n % 16) with
      | some _, some x => s.meetCore c x.1 x.2
      | some t, none => t
      | none, _ => s
    else s)

/-! ## Delivery (R257, R258, R262, R268) -/

/-- The core after a message's payload has taken effect under a handler, then the tally and the buoy (R258, R252); a marker enters
the queue alone (R158). -/
def Core.takeMessage (k : Core) (n : Nat) (e : QEntry) : Core :=
  let h := k.handler n
  let m := Sparse.get 0 k.delivered n
  let L := hLines h
  let at0 := hBase h + (m % max 1 (hWin h)) * (if hAction h = 3 then L / 2 else L)
  let k1 : Core := match hAction h with
    | 1 =>
      let q := k.queue (hIq h)
      k.setQueue (hIq h) { q with entries := q.entries ++ [{ e with env := 0, op := 0, sent := false, due := 0 }], resv := q.resv - 1, pushed := q.pushed + 1 }
    | 2 => (List.range L).foldl (fun (a : Core) i =>
        a.setTileLine (at0 + i) ⟨e.lines.getD i 0, e.tag, e.sides.getD i 0⟩) k
    | 3 => (List.range (L / 2)).foldl (fun (a : Core) i =>
        a.setCacheLine (at0 + i) (twoLines (e.lines.getD (2 * i) 0) (e.lines.getD (2 * i + 1) 0))) k
    | _ => k
  let k2 := { k1 with delivered := Sparse.set 0 k1.delivered n (m + 1) }
  let t := k2.tally (hTally h)
  let k3 := if e.mark.isSome then k2 else if hTinc h then k2.putTally (hTally h) { t with mt := t.mt + 1 } else k2
  if hSetb h && e.mark.isNone then k3.setBuoy (hBuoy h) else k3

/-- Give back the inbound queue entry reserved for a message that is not delivered. -/
def Core.giveBack (k : Core) (n : Nat) : Core :=
  let h := k.handler n
  if hAction h = 1 then k.setQueue (hIq h) { k.queue (hIq h) with resv := (k.queue (hIq h)).resv - 1 } else k

/-- A message arrives at a core from a source under a handler: checked, discarded or taken (R257, R268). LINES is not compared
for a marker (R158). -/
def State.arrive (s : State) (c : CoreId) (src n : Nat) (e : QEntry) : State :=
  let k := s.core c
  let h := k.handler n
  if k.traceEnd then
    (s.setCore c (k.giveBack n)).raise 0x3104 0 (k.eventArg 0x3104 (hObject h) false) (plocCore k.img.phys) (some c.lagoon) (some c.v)
  else if hAction h = 0 ∨ hSrc h ≠ src ∨ (if e.mark.isSome then hAction h ≠ 1 else hLines h ≠ e.lines.length) then s.coreFault c 0x3102 n false
  else (s.setCore c (k.takeMessage n e)).unmarkBy s c (fun k => .ok (k.takeMessage n e))

/-- The sending core's side of a message that has taken effect or been discarded: it has finished, and a multicast entry
leaves its queue with the last copy (R249, R262). -/
def State.msgDone (s : State) (l : Nat) (m : Msg) : State :=
  let c : CoreId := ⟨l, m.src⟩
  if m.multi then
    if (s.lagoon l).msgs.any (fun x => x.multi && x.src == m.src && x.op == m.op) then s
    else
      let i := (List.range 16).find? (fun j =>
        ((s.core c).queue (16 + j)).entries.head?.any (fun e => e.sent && e.op == m.op))
      (match i with | some j => s.popHead c (16 + j) | none => s).opDone c m.op
  else s.opDone c m.op

/-! ## Combining queues (R264 to R266) -/

/-- The tags a mode accepts (R265). -/
def combTagOk (mode : Nat) (tag : Nat) : Bool := if mode = 0 then [0x0, 0x1, 0xA].contains tag else tag == 0xF

/-- The elements of a contribution: its tag's elements, or its XS24 records (R265). -/
def combElems (e : QEntry) : List Nat :=
  let f := Fmt.ofTag e.tag.toNat
  let all := joinBits 1024 (e.lines.map (·.toNat))
  if f = .raw then (splitBits 192 (e.count / 24) all).map (· % 2 ^ 140) else splitBits f.width e.count all

/-- Whether a contribution has the wrong shape for its round. -/
def CombQueue.misshapen (q : CombQueue) (e : QEntry) : Bool :=
  !combTagOk q.mode e.tag.toNat || (e.tag.toNat == 0xF && e.count % 24 != 0) || e.mark.isSome ||
    (decide (0 < q.added) && q.shape != (e.tag.toNat, e.count))

/-- Add one contribution's elements to the sum, in the format of its tag (R265, R66, R74). The running sum of the round is an input of
each addition, so that a NaN in it sets NAN_IN, and XS24 records set no flag (DESIGN CHOICE 102). -/
def combAdd (tag : Nat) (acc xs : List Nat) : List Nat × Flags :=
  let rs := List.zipWith (fun a b =>
    match Fmt.ofTag tag with
    | .int32 => ((a + b) % 2 ^ 32, (0 : Flags))
    | .raw => (xsAdd a b, 0)
    | f =>
      let g := if f = .fp64 then fp64F else fp32F
      let x := g.decode a
      let y := g.decode b
      let (v, fl) := reefStep g [x, y] (Val.add false x y)
      ((g.round .rne 0 false v).1, fl ||| flagIf (x.isNan || y.isNan) fNanIn)) acc xs
  (rs.map Prod.fst, rs.foldl (fun a r => a ||| r.2) 0)

/-- Add the contributions held that are next in CINDEX order (R266), at most `fuel`; a shape that differs is reported. -/
def CombQueue.absorb : Nat → CombQueue → CombQueue × Bool
  | 0, q => (q, false)
  | fuel + 1, q =>
    match q.store.find? (fun c => c.cindex == q.added && c.round == q.round) with
    | none => (q, false)
    | some c =>
      if q.ncontrib ≤ q.added then (q, false)
      else if q.misshapen c.entry then (q, true)
      else
        let es := combElems c.entry
        let (sum, fl) := if q.added = 0 then (es, (0 : Flags)) else combAdd c.entry.tag.toNat q.sum es
        CombQueue.absorb fuel { q with
          added := q.added + 1, shape := (c.entry.tag.toNat, c.entry.count), sum := sum, flags := q.flags ||| fl
          store := q.store.filter (fun d => d ≠ c) }

/-- What names a contribution in the combining stores of its core while it waits there: the queue, its contributor and the round. -/
def CombQueue.key (q : CombQueue) (d : Contribution) : Nat := (q.num * 512 + d.cindex) * 2 ^ 32 + d.round

/-- The keys of the lines that the combining store of a core holds, in the order of `State.storeLinesOf`. -/
def State.storeKeys (s : State) (c : CoreId) : List Nat :=
  ((s.lagoon c.lagoon).combs.filter (fun q => !q.tkind && q.tcore == c.v)).flatMap (fun q =>
    q.store.flatMap (fun d => d.entry.lines.map (fun _ => q.key d)))

/-- The first contribution that has left the store of a queue, as `q1` stands after it, whose lines there were marked bad (R488). -/
def State.metStore (s : State) (c : CoreId) (q q1 : CombQueue) : Option Nat :=
  ((q.store.filter (fun d => !q1.store.contains d)).map q.key).find? (fun k => s.badWord c 0x09 k)

/-- The result entry of a whole round (R265). In the modes that keep the tag it is as long as a contribution, 256 bytes as every
push into a queue of the message port is (R148); in the others it has the lines its elements need (DEDUCED 41). -/
def CombQueue.result (q : CombQueue) : QEntry :=
  let tag := if q.mode = 2 then 0x1 else if q.mode = 3 then 0xA else q.shape.1
  let f := Fmt.ofTag tag
  let outs := if q.mode = 2 ∨ q.mode = 3 then q.sum.map (xsOut f) else q.sum.map (fun x => (x, (0 : Flags)))
  let all := joinBits (if tag = 0xF then 192 else f.width) (outs.map Prod.fst)
  let lines := if q.mode = 2 ∨ q.mode = 3 then max 1 ((q.sum.length + 31) / 32) else 2
  { lines := (List.range lines).map (fun i => BitVec.ofNat 1024 (all / 2 ^ (1024 * i))), sides := List.replicate lines 0
    tag := BitVec.ofNat 4 tag, count := if tag = 0xF then q.shape.2 else q.sum.length, mark := none
    flags := outs.foldl (fun a o => a ||| o.2) q.flags, env := 0, op := 0, sent := false, due := 0 }

/-- Replace a combining queue of a lagoon. -/
def State.setComb (s : State) (l : Nat) (q : CombQueue) : State :=
  let x := s.lagoon l
  s.setLagoon l { x with combs := x.combs.map (fun p => if p.num = q.num then q else p) }

/-- Add what can be added; where the round is whole and its target has room, deliver the result and go on to the next
round (R265, R266). -/
def State.combine : Nat → State → Nat → CombQueue → State
  | 0, s, l, q => s.setComb l q
  | fuel + 1, s, l, q =>
    let (q1, bad) := q.absorb (q.store.length + 1)
    let c : CoreId := ⟨l, q.tcore⟩
    let k := s.core c
    match if q.tkind then none else s.metStore c q q1 with
    | some m => (s.setComb l q).meetCore c 0x09 ((s.setComb l q).storeKeys c |>.idxOf m)
    | none =>
    if bad then
      (s.setComb l { q1 with added := 0, sum := [], flags := 0, store := [] }).fault 0x3103 (k.eventArg 0x3103 q.num false)
        (plocCore k.img.phys) l (some c.v)
    else if q1.ncontrib ≤ q1.added ∧ s.hasRoom l q.tcore q.handler false then
      let e := q1.result
      let s1 := ((s.reserveRoom l q.tcore q.handler).arrive c q.tcore q.handler e)
      State.combine fuel s1 l { q1 with round := q1.round + 1, added := 0, sum := [], flags := 0 }
    else s.setComb l q1

/-- COMBINING_CONTRIBUTION (R265, R266, R268): the oldest contribution in flight from a core to queue n is read into the
store, added in CINDEX order, and the round's result delivered when whole. -/
def execCombiningContribution (l n src : Nat) (s : State) : Host.Outcome State Fault Refusal :=
  .next (
    let x := s.lagoon l
    match x.msgs.find? (fun m => m.kind == 1 && m.dst == n && m.src == src), x.combs.find? (fun q => q.num == n) with
    | some m, some q =>
      let c : CoreId := ⟨l, q.tcore⟩
      let k := s.core c
      if !s.live c || !s.home m.way then s
      else
        let s1 := ((s.setLagoon l { x with msgs := x.msgs.erase m }).msgDone l m).progressed l
        if k.traceEnd then
          s1.raise 0x3104 0 (k.eventArg 0x3104 n false) (plocCore k.img.phys) (some l) (some q.tcore)
        else
          let i := q.cindex src
          let r := q.round + b2n (decide (i < q.added)) + (q.store.filter (fun d => d.cindex = i)).length
          State.combine 3 s1 l { q with store := q.store ++ [⟨i, r, m.entry⟩] }
    | _, _ => s)

/-- MESSAGE_DELIVERY (R257, R258, R260): the oldest message in flight from src to dst arrives, once it has come through its lanes (R288). A source of 512 + n is
combining queue n, whose whole round waited for room. -/
def execMessageDelivery (l dst src : Nat) (s : State) : Host.Outcome State Fault Refusal :=
  .next (
    let x := s.lagoon l
    let c : CoreId := ⟨l, dst⟩
    if !s.live c then s
    else if 512 ≤ src then
      match x.combs.find? (fun q => q.num == src - 512) with
      | none => s
      | some q =>
        if q.tcore = dst ∧ !q.tkind ∧ q.ncontrib ≤ q.added ∧ 0 < q.ncontrib ∧ s.hasRoom l dst q.handler false then
          (State.combine 3 s l q).progressed l
        else s
    else match x.msgs.find? (fun m => m.kind == 0 && m.dst == dst && m.src == src) with
    | none => s
    | some m =>
      if !s.home m.way then s
      else
        let s1 := (s.setLagoon l { x with msgs := x.msgs.erase m }).arrive c src m.handler m.entry
        (s1.msgDone l m).progressed l)

end Sys2Proof.Machine
end

