-- ==== Sys2Proof/Machine/ReefRows.lean ====
section
/-! DEFINITION. Reef operations on a stack: the records it holds, their checks, their effects and their completion (R203
to R227). -/

namespace Sys2Proof.Machine

/-- The key words of a lagoon's run (R128, R214, R321). -/
def State.runKey (s : State) (l : Nat) : Nat × Nat :=
  let k := ((s.lagoon l).run.map (·.runseed)).getD 0
  (bits k 0 32, bits k 32 32)

/-- The device address of n bytes from a program address, if all lie in one physical stack (R210). -/
def State.reefSpan (s : State) (l st a n : Nat) : Option Nat :=
  if n = 0 then some 0
  else match s.translate l a with
    | some d => if d < ddrBase ∧ d / 2 ^ 37 = st ∧ a % 2 ^ 37 + n ≤ 2 ^ 37 then some d else none
    | none => none

/-- Whether a record is the harbour's (R211): its DIGEST of a leaf reads one span and gives the digest in the internal reply that R212
names, so it writes nothing to memory (DESIGN CHOICE 44). -/
def ReefHeld.harbour (r : ReefHeld) : Bool := decide (512 ≤ r.issuer)

/-- The spans of a record. -/
def ReefHeld.spans (r : ReefHeld) : List (Nat × Nat) := (reefSpans r.word).filter (fun p => !(r.harbour && p.1 == 0))

/-- The event that refuses a record, if any: 0x2201 by R209 and R212, 0x2202 by R210. -/
def State.reefRefusal (s : State) (st : Nat) (r : ReefHeld) : Option Nat :=
  let badReply := rReply r.word && !r.harbour && ((s.core ⟨r.lagoon, r.issuer⟩).queue (rRiq r.word)).farEnd != 2
  if !r.harbour && (reefInvalid r.word || badReply) then some 0x2201
  else if r.spans.all (fun p => (s.reefSpan r.lagoon st (rAddr r.word p.1) p.2).isSome) then none
  else some 0x2202

/-- The virtual core of a record's events; the harbour's has none. -/
def ReefHeld.core (r : ReefHeld) : Option Nat := if r.harbour then none else some r.issuer

/-- ARG form R and the virtual core of a record's events (Table 5 of spec/16). -/
def State.reefFault (s : State) (st code : Nat) (r : ReefHeld) : State :=
  s.fault code (rTagid r.word * 2 ^ 32 + r.issuer) (plocStack st) r.lagoon r.core

/-- The device addresses that a record's spans cover. -/
def State.spanAddrs (s : State) (st : Nat) (r : ReefHeld) : List (Nat × Nat) :=
  r.spans.map (fun p => ((s.reefSpan r.lagoon st (rAddr r.word p.1) p.2).getD 0, p.2))

/-- The granules of n bytes from a device address. -/
def granulesOf (d n : Nat) : List Nat := if n = 0 then [] else (List.range ((d + n - 1) / 1024 + 1 - d / 1024)).map (d / 1024 + ·)

/-- Whether an operation reads a span (Table 2 of spec/07). -/
def reefReads (w : BitVec 1024) (k : Nat) : Bool :=
  k != 0 || rOp w == 0x20 || rOp w == 0x21 || (rAccum w && (rOp w == 0x10 || rOp w == 0x30))

/-- The granules that a record's reef engines read. -/
def State.readGranules (s : State) (st : Nat) (r : ReefHeld) : List Nat :=
  (r.spans.filter (fun p => reefReads r.word p.1)).flatMap (fun p =>
    granulesOf ((s.reefSpan r.lagoon st (rAddr r.word p.1) p.2).getD 0) p.2)

/-- The bytes of span k of a record, from the granules as they were read; none of a span that the operation does not read. -/
def State.spanBytes (s : State) (st : Nat) (r : ReefHeld) (k : Nat) : List Byte :=
  match r.spans.find? (fun p => p.1 == k && reefReads r.word k) with
  | some p =>
    let d := (s.reefSpan r.lagoon st (rAddr r.word k) p.2).getD 0
    (((granulesOf d p.2).flatMap (fun g => Sparse.get [] r.got g)).drop (d % 1024)).take p.2
  | none => []

/-- Whether a byte of a granule lies in a span that a record reads. -/
def State.readsByte (s : State) (st : Nat) (r : ReefHeld) (a : Nat) : Bool :=
  r.spans.any (fun p => reefReads r.word p.1 &&
    (let d := (s.reefSpan r.lagoon st (rAddr r.word p.1) p.2).getD 0; decide (d ≤ a) && decide (a < d + p.2)))

/-- The first atom marked bad that reading a granule for a record meets: hashing reads what a FAULTED or a LOADED lagoon holds as it
stands (R488, R327). -/
def State.readBad (s : State) (st : Nat) (r : ReefHeld) (g : Nat) : Option Nat :=
  if r.harbour ∧ (s.lagoon r.lagoon).st ≠ .draining then none
  else s.rel.bad.find? (fun a => decide (64 * a / 1024 = g) && (List.range 64).any (fun i => s.readsByte st r (64 * a + i)))

/-- The granules that the outcome of a record writes. -/
def State.writeGranules (s : State) (st : Nat) (r : ReefHeld) (o : ReefOut) : List Nat :=
  (o.writes.flatMap (fun w =>
    match s.reefSpan r.lagoon st (rAddr r.word w.1) w.2.length with
    | some d => granulesOf d w.2.length
    | none => [])).eraseDups

/-- Bytes of one element of what an operation writes to a span: those of a digest or a check value are written one by one. -/
def writeEsz (w : BitVec 1024) (k : Nat) : Nat :=
  if rOp w = 0x18 ∨ rOp w = 0x40 then 1
  else if rOp w = 0x11 ∨ rOp w = 0x12 then reefEsz false (rFmt w 1) else reefEsz (rXs w) (rFmt w k)

/-- Write what an outcome writes into one granule: every element that begins there, whole (R227). -/
def State.writeGranule (s : State) (st : Nat) (r : ReefHeld) (o : ReefOut) (g : Nat) : State :=
  o.writes.foldl (fun a w =>
    match s.reefSpan r.lagoon st (rAddr r.word w.1) w.2.length with
    | some d =>
      let e := writeEsz r.word w.1
      let first := (1024 * g - d + e - 1) / e
      let last := (1024 * (g + 1) - d + e - 1) / e
      let bs := (w.2.drop (first * e)).take ((last - first) * e)
      if bs.isEmpty then a else (a.writeBytes (d + first * e) bs).clearBad ((List.range bs.length).map (d + first * e + ·))
    | none => a) s

/-- The first atom marked bad of which a granule's write writes only a part (R488). -/
def State.writeBad (s : State) (st : Nat) (r : ReefHeld) (o : ReefOut) (g : Nat) : Option Nat :=
  o.writes.findSome? (fun w =>
    match s.reefSpan r.lagoon st (rAddr r.word w.1) w.2.length with
    | some d => s.badPart (max d (1024 * g)) (min (d + w.2.length) (1024 * g + 1024))
    | none => none)

/-- Whether two records are the same one. -/
def ReefHeld.is (x r : ReefHeld) : Bool := x.issuer == r.issuer && x.op == r.op && x.lagoon == r.lagoon

/-- Replace a stack's record by number of its operation and issuer. -/
def Stack.setRec (k : Stack) (r : ReefHeld) : Stack := { k with recs := k.recs.map (fun x => if x.is r then r else x) }

/-- Whether reef engines work for an issuer in the present power state (R206). -/
def State.reefPower (s : State) (iss : Nat) : Bool := s.power.state == 0 || (s.power.state == 1 && decide (512 ≤ iss))

/-- Whether every granule of a record has been read and written. -/
def ReefHeld.done (r : ReefHeld) : Bool := r.out.isSome && r.writes.isEmpty

/-- Whether two records belong to one combining group. -/
def ReefHeld.groups (x r : ReefHeld) : Bool := rOp x.word == 0x30 && rOp r.word == 0x30 && rGroup x.word == rGroup r.word

/-- Whether a record has been performed: its granules have been moved, and those of its whole group (R218). -/
def State.performed (s : State) (st : Nat) (r : ReefHeld) : Bool :=
  r.done && (s.stack st).recs.all (fun x => !(x.groups r && x.begun) || x.done)

/-- Whether a byte of one record's spans is a byte of another's. -/
def State.reefMeets (s : State) (st : Nat) (a b : ReefHeld) : Bool :=
  (s.spanAddrs st a).any (fun p => (s.spanAddrs st b).any (fun q =>
    decide (p.1 < q.1 + q.2) && decide (q.1 < p.1 + p.2) && p.2 != 0 && q.2 != 0))

/-- Whether a record must wait for an earlier one of its issuer that is held in an open group and meets its bytes (R224). -/
def State.heldBack (s : State) (st : Nat) (r : ReefHeld) : Bool :=
  (s.stack st).groups.any (fun g => g.2.any (fun x => x.issuer == r.issuer && decide (x.op < r.op) && !x.groups r && s.reefMeets st x r))

/-- An issuer's first record on a stack that has not started, where its operation is the row's: it has come through its lanes, those
before it have been performed (R224), and no snapshot of its lagoon runs (R435). -/
def State.reefNext (s : State) (st iss : Nat) (p : Nat → Bool) : Option ReefHeld :=
  let mine := (s.stack st).recs.filter (fun r => r.issuer == iss)
  match mine.find? (fun r => !r.begun) with
  | some r =>
    if p (rOp r.word) && s.home r.way && mine.all (fun x => !x.begun || s.performed st x) && !s.heldBack st r && s.reefPower iss &&
      (s.lagoon r.lagoon).snap.isNone then some r else none
  | none => none

/-- A record whose granules have all been read: its outcome, and the granules that this writes. -/
def State.reefCompute (s : State) (st : Nat) (r : ReefHeld) : ReefHeld :=
  let key := s.runKey r.lagoon
  let o := reefPerform key.1 key.2 r.word (s.spanBytes st r)
  { r with out := some o, got := [], writes := if r.harbour then [] else s.writeGranules st r o }

/-- Start a record that is not a COMBINE: the granules that it reads wait for the reef slots of their channels. -/
def State.reefRow (s : State) (st iss : Nat) (p : Nat → Bool) : State :=
  match s.reefNext st iss p with
  | none => s
  | some r =>
    match s.reefRefusal st r with
    | some e => s.reefFault st e r
    | none =>
      let r1 := { r with begun := true, reads := s.readGranules st r }
      s.setStack st ((s.stack st).setRec (if r1.reads.isEmpty then s.reefCompute st r1 else r1))

/-- The group's records in CINDEX order. -/
def groupOrder (g : List ReefHeld) (n : Nat) : List ReefHeld :=
  (List.range n).filterMap (fun k => g.find? (fun r => rCindex r.word == k))

/-- A group whose granules have all been read computes its target; its records wait for their completions (R218). Its opening record,
the first of them, carries the writes and the draws' SID, STEP and POS. -/
def State.groupCompute (s : State) (st : Nat) (opening : ReefHeld) : State :=
  let w := opening.word
  let k := s.stack st
  let g := k.recs.filter (fun x => x.groups opening && x.begun && x.out.isNone)
  if g.any (fun x => !x.reads.isEmpty) then s
  else
    let els (r : ReefHeld) (j esz : Nat) : List Nat := elemsOf esz (rCount w) (s.spanBytes st r j)
    let key := s.runKey opening.lagoon
    let o := reefCombine key.1 key.2 w (els opening 0 (targetEsz w)) ((groupOrder g (rNcontrib w)).map (fun r => els r 1 (reefEsz (rXs w) (rFmt w 1))))
    s.setStack st { k with recs := k.recs.map (fun x =>
      if !(g.any (·.is x)) then x
      else if x.is opening then { x with out := some o, got := [], writes := s.writeGranules st x o }
      else { x with out := some { o with writes := [] }, got := [] }) }

/-! ## Reef slots (R204 to R206, R356) -/

/-- How many reef engines of a stack may compute at once: REEFMAX of the plan for the lagoon's mode; none of a stack that the image
does not use (R206, R356). -/
def State.reefMax (s : State) (l st : Nat) : Nat :=
  let x := s.lagoon l
  match x.img, (s.ownStacks l).idxOf? st with
  | some im, some p =>
    if im.nstk ≤ p then 0
    else match im.plans.find? (fun q => q.mode == x.cfg.pmode) with
      | some q => q.reefmax.getD p 0
      | none => 32
  | _, _ => 32

/-- Whether a started record has a granule to move on a channel wheel. -/
def ReefHeld.has (r : ReefHeld) (w : Nat) : Bool := (r.reads ++ r.writes).any (fun g => wheelOf (1024 * g) == w)

/-- The first record of a lagoon that a channel's reef engine works for: it has a granule on the channel, and fewer than REEFMAX
engines of the stack with a lower number compute (R356). -/
def State.reefWork (s : State) (l w : Nat) : Option ReefHeld :=
  let rs := (s.stack (w / 32)).recs.filter (fun r => r.lagoon == l && r.begun && s.reefPower r.issuer)
  let before := (List.range (w % 32)).filter (fun i => rs.any (fun r => r.has (w / 32 * 32 + i)))
  if before.length < s.reefMax l (w / 32) then rs.find? (fun r => r.has w) else none

/-- A reef engine moves one granule in a slot of its channel (R204): it reads, and once the whole operation has been read it writes.
Its access is over with the slot, so it keeps one transaction in flight, within the 16 of R193. -/
def State.reefSlot (s : State) (w : Nat) (r : ReefHeld) : State :=
  let st := w / 32
  let on (g : Nat) : Bool := wheelOf (1024 * g) == w
  match r.reads.find? on with
  | some g =>
    match s.readBad st r g with
    | some a => s.meetBad a r.lagoon r.core
    | none =>
      let r1 := { r with reads := r.reads.erase g, got := Sparse.set [] r.got g (s.readBytes (1024 * g) 1024) }
      let k := s.stack st
      if !r1.reads.isEmpty then s.setStack st (k.setRec r1)
      else if rOp r.word = 0x30 then
        (s.setStack st (k.setRec r1)).groupCompute st ((k.recs.find? (fun x => x.groups r && x.begun)).getD r)
      else s.setStack st (k.setRec (s.reefCompute st r1))
  | none =>
    match r.writes.find? on, r.out with
    | some g, some o =>
      match s.writeBad st r o g with
      | some a => s.meetBad a r.lagoon r.core
      | none =>
        let t := s.writeGranule st r o g
        t.setStack st ((t.stack st).setRec { r with writes := r.writes.erase g })
    | _, _ => s

/-- The operations of Table 2 of spec/07. -/
def reefOps : List Nat := [0x01, 0x02, 0x03, 0x04, 0x05, 0x06, 0x10, 0x11, 0x12, 0x18, 0x20, 0x21, 0x30, 0x40]

/-! ## Rows -/

/-- FILL (R208): a stack performs an issuer's next record. -/
def execReefFill (st iss : Nat) (s : State) : Host.Outcome State Fault Refusal := .next (s.reefRow st iss (· == 0x01))
/-- REEF_CVT (R208): a stack performs an issuer's next record. -/
def execReefCvt (st iss : Nat) (s : State) : Host.Outcome State Fault Refusal := .next (s.reefRow st iss (· == 0x02))
/-- REEF_ADD (R208): a stack performs an issuer's next record. It also takes a record whose OP is not in the table, which R209 refuses. -/
def execReefAdd (st iss : Nat) (s : State) : Host.Outcome State Fault Refusal := .next (s.reefRow st iss (fun o => o == 0x03 || !reefOps.contains o))
/-- REEF_MUL (R208): a stack performs an issuer's next record. -/
def execReefMul (st iss : Nat) (s : State) : Host.Outcome State Fault Refusal := .next (s.reefRow st iss (· == 0x04))
/-- SCALE (R208): a stack performs an issuer's next record. -/
def execReefScale (st iss : Nat) (s : State) : Host.Outcome State Fault Refusal := .next (s.reefRow st iss (· == 0x05))
/-- AXPBY (R208): a stack performs an issuer's next record. -/
def execReefAxpby (st iss : Nat) (s : State) : Host.Outcome State Fault Refusal := .next (s.reefRow st iss (· == 0x06))
/-- REDUCE_SUM (R215): a stack performs an issuer's next record. -/
def execReduceSum (st iss : Nat) (s : State) : Host.Outcome State Fault Refusal := .next (s.reefRow st iss (· == 0x10))
/-- REDUCE_MAX (R215): a stack performs an issuer's next record. -/
def execReduceMax (st iss : Nat) (s : State) : Host.Outcome State Fault Refusal := .next (s.reefRow st iss (· == 0x11))
/-- REDUCE_MIN (R215): a stack performs an issuer's next record. -/
def execReduceMin (st iss : Nat) (s : State) : Host.Outcome State Fault Refusal := .next (s.reefRow st iss (· == 0x12))
/-- CHECK (R222): a stack performs an issuer's next record. -/
def execReefCheck (st iss : Nat) (s : State) : Host.Outcome State Fault Refusal := .next (s.reefRow st iss (· == 0x18))
/-- SGDM (R216): a stack performs an issuer's next record. -/
def execSgdm (st iss : Nat) (s : State) : Host.Outcome State Fault Refusal := .next (s.reefRow st iss (· == 0x20))
/-- ADAMW (R216): a stack performs an issuer's next record. -/
def execAdamw (st iss : Nat) (s : State) : Host.Outcome State Fault Refusal := .next (s.reefRow st iss (· == 0x21))
/-- DIGEST (R221): a stack performs an issuer's next record. -/
def execDigest (st iss : Nat) (s : State) : Host.Outcome State Fault Refusal := .next (s.reefRow st iss (· == 0x40))

/-! ## COMBINE (R217 to R220) -/

/-- Count a round of the combining queue that targets a group of a stack (R264, R275). -/
def State.countRound (s : State) (l st group : Nat) : State :=
  let x := s.lagoon l
  s.setLagoon l { x with combs := x.combs.map (fun q =>
    if q.tkind && (s.ownStacks l)[q.tcore % 32]? == some st && q.group == group then { q with round := q.round + 1 } else q) }

/-- Start a full group: its records wait for the reef slots of the granules that they read, its opening record for the target's too
(R218). The store's rounding takes SID, STEP and POS of the opening record, which the records of a group may give differently (R217;
DESIGN CHOICE 105). -/
def State.combineGroup (s : State) (st : Nat) (opening : ReefHeld) (g : List ReefHeld) : State :=
  let w := opening.word
  let k := s.stack st
  let n := rCount w * reefEsz (rXs w) (rFmt w 1)
  let begun (r : ReefHeld) : ReefHeld :=
    if r.is opening then { r with begun := true, reads := s.readGranules st r }
    else { r with begun := true, reads := granulesOf ((s.reefSpan r.lagoon st (rAddr r.word 1) n).getD 0) n }
  ((s.setStack st { k with groups := Sparse.set [] k.groups (rGroup w) [], recs := k.recs ++ g.map begun }).countRound opening.lagoon st
    (rGroup w)).groupCompute st (begun opening)

/-- Perform a group that is full, unless an earlier record of one of its issuers has still to take effect on its bytes (R224) or the
group's last round has still to be written. -/
def State.tryGroup (s : State) (st n : Nat) : State :=
  let g := Sparse.get [] (s.stack st).groups n
  match g with
  | [] => s
  | opening :: _ =>
    if g.length < rNcontrib opening.word ∨ g.any (s.heldBack st) = true ∨
        (s.stack st).recs.any (fun x => x.groups opening && x.begun && !s.performed st x) = true then s
    else s.combineGroup st opening g

/-- COMBINE (R217, R218): a record joins its group; the record that fills it has the group computed. A full group that waited is
computed with the next COMBINE of one of its issuers. An NCONTRIB above 512 is taken as it stands: Table 1 of spec/07 gives 1 to 512
and no rule refuses another (DESIGN CHOICE 107). -/
def execCombine (st iss : Nat) (s : State) : Host.Outcome State Fault Refusal :=
  .next (match s.reefNext st iss (· == 0x30) with
    | none => ((s.stack st).groups.filter (fun p => p.2.any (fun r => r.issuer == iss))).foldl (fun a p => a.tryGroup st p.1) s
    | some r =>
      let k := s.stack st
      let g := Sparse.get [] k.groups (rGroup r.word)
      let opening := g.headD r
      match s.reefRefusal st r with
      | some e => s.reefFault st e r
      | none =>
        if groupKey r.word ≠ groupKey opening.word then s.reefFault st 0x2203 r
        else if rNcontrib r.word ≤ rCindex r.word || g.any (fun x => rCindex x.word == rCindex r.word) then s.reefFault st 0x2204 r
        else
          (s.setStack st { k with recs := k.recs.erase r, groups := Sparse.set [] k.groups (rGroup r.word) (g ++ [r]) }).tryGroup st (rGroup r.word))

/-! ## Completion (R212, R225) -/

/-- The queue entry of a reply: the record in its first line, tag 0xF, 128 elements (R212, DEDUCED 24). -/
def replyEntry (lines : Nat) (w : BitVec 1024) : QEntry :=
  ⟨w :: List.replicate (lines - 1) 0, List.replicate lines 0, 0xF, 128, none, 0, 0, 0, false, 0⟩

/-- Whether a record may complete: it has been performed, and so has every earlier record of its issuer (R224). -/
def State.mayComplete (s : State) (st : Nat) (r : ReefHeld) : Bool :=
  s.performed st r && (r.harbour || ((s.stack st).recs ++ (s.stack st).groups.flatMap Prod.snd).all (fun x => x.issuer != r.issuer || decide (r.op ≤ x.op)))

/-- The lanes of a completion's way to its issuer; the harbour's own records cross none. -/
def State.doneLanes (s : State) (st : Nat) (r : ReefHeld) : List Nat :=
  if r.harbour then [] else lanesBack (s.lanesStack ⟨r.lagoon, r.issuer⟩ st)

/-- Whether a record's completion has come to its issuer. -/
def State.doneHome (s : State) (st : Nat) (r : ReefHeld) : Bool := (s.doneLanes st r).isEmpty || r.back.any s.home

/-- Place the completion of a record in the first lane of its way where that accepts it (R289). -/
def State.sendDone (st : Nat) (s : State) (r : ReefHeld) : State :=
  let xs := s.doneLanes st r
  if r.back.isNone && !xs.isEmpty && s.mayComplete st r && s.laneOpen xs 1 then
    let (u, way) := s.place xs 1
    u.setStack st ((u.stack st).setRec { r with back := some way })
  else s

/-- The word of the harbour's DIGEST of the n bytes from program address a: SPAN 1, and a reply (R221, R212). -/
def leafRecord (a n : Nat) : BitVec 1024 := BitVec.ofNat 1024 (a * 2 ^ 832 + n * 2 ^ 224 + 0x40 * 2 ^ 56 + 2 ^ 33)

/-- The number by which the hashing knows a leaf. -/
def leafKey (a n : Nat) : Nat := a * 2 ^ 21 + n

/-- Post the DIGEST record of one leaf where its stack holds fewer than 256 records (R211). -/
def State.postLeaf (s : State) (l : Nat) (p : Nat × Nat) : State :=
  let x := s.lagoon l
  match s.translate l p.1, x.hashing with
  | some d, some h =>
    let st := d / 2 ^ 37
    if 256 ≤ (s.stack st).held then s
    else
      (s.setStack st { s.stack st with recs := (s.stack st).recs ++ [⟨l, 512, leafRecord p.1 p.2, leafKey p.1 p.2, .execute, none, [], [], 0, none, false, []⟩] }).setLagoon
        l { x with hashing := some { h with toPost := h.toPost.erase p } }
  | _, _ => s

/-- Post what can be posted of a lagoon's leaves, in order (R330). -/
def State.postLeaves (s : State) (l : Nat) : State :=
  (((s.lagoon l).hashing.map (·.toPost)).getD []).foldl (fun a p => a.postLeaf l p) s

/-- The harbour's internal reply of a leaf's DIGEST reaches the hashing that asked for it, which posts what now finds room
(R211, R212, R330). -/
def State.harbourReply (s : State) (r : ReefHeld) (o : ReefOut) : State :=
  let x := s.lagoon r.lagoon
  let d : Digest := BitVec.ofNat 384 (ofBytes ((o.writes.headD (0, [])).2))
  (s.setLagoon r.lagoon { x with hashing := x.hashing.map (fun h => { h with
    got := h.got ++ [(leafKey (rAddr r.word 1) (rCount r.word), d)] }) }).postLeaves r.lagoon

/-- A record leaves its stack: its reply enters the entry reserved for it, or its flags enter REEFSTAT, and it has finished for its
core's fences (R249). -/
def State.reefFinish (s : State) (st : Nat) (r : ReefHeld) : State :=
  let o := r.out.getD ⟨[], 0, 0⟩
  let k := s.stack st
  let fl := if rReply r.word then k.reefstat else k.reefstat ||| o.flags
  let s1 := s.setStack st { k with recs := k.recs.erase r, reefstat := fl }
  if r.harbour then s1.harbourReply r o
  else
    let c : CoreId := ⟨r.lagoon, r.issuer⟩
    let q := (s1.core c).queue (rRiq r.word)
    let s2 := if rReply r.word && !(s1.core c).runEnded then
        s1.setCore c ((s1.core c).setQueue (rRiq r.word)
          { q with entries := q.entries ++ [replyEntry q.elines (reefReply r.word o)], resv := q.resv - 1, pushed := q.pushed + 1 })
      else s1
    (s2.opDone c r.op).progressed r.lagoon

/-- REEF_OP_COMPLETE (R212, R223, R225): the first performed record of an issuer leaves the stack, once its completion has come through
its lanes. Where the check of its reply record
fails once on the way to the core it is sent again; at two failures the error is uncorrectable. -/
def execReefOpComplete (st : Nat) (d : ReefDone) (s : State) : Host.Outcome State Fault Refusal :=
  .next (match (s.stack st).recs.find? (fun r => r.issuer == d.iss && s.mayComplete st r && s.doneHome st r) with
    | none => s
    | some r =>
      if d.fails = 0 ∨ !rReply r.word ∨ r.harbour then s.reefFinish st r
      else if d.fails = 1 then (s.baseRetry st 0 r.lagoon r.core).reefFinish st r
      else ((s.baseRetry st 0 r.lagoon r.core).baseFail st 0 r.lagoon r.core).uncorrectable (plocStack st) 0x33 0 0 0xFF r.lagoon r.core)

end Sys2Proof.Machine
end

