-- ==== Sys2Proof/Machine/StreamRows.lean ====
section
/-! DEFINITION. The stream engine's rows: acceptance, release, service through the shoal, responses, markers and the
end of a CANCEL (R170 to R199, R223, R228 to R232, R527). -/

namespace Sys2Proof.Machine

/-- STREAM_ISSUE (R150, R171, R184): the stream engine accepts a STREAM syllable. -/
def execStreamIssue (c : CoreId) (q : SeqId) (w : BitVec 64) (s : State) : Host.Outcome State Fault Refusal :=
  .next (if s.issues c && !((s.core c).seq q).halted && !(s.core c).ex.halted then
      s.act c (q == .access) (fun k => k.acceptStream q (s.owned c.lagoon) w)
    else s)

/-! ## Release (R192) -/

/-- The channel wheel of a transaction. -/
def State.txnWheel (s : State) (l : Nat) (t : Txn) : Option Nat :=
  (t.spots.head?.bind (fun p => s.translate l p.2)).map wheelOf

/-- A core's released and unserved transactions on a channel. -/
def State.leading (s : State) (c : CoreId) (w : Option Nat) : Nat :=
  ((s.core c).ops.map (fun o => (o.txns.filter (fun t => t.state = 1 ∧ s.txnWheel c.lagoon t = w)).length)).sum

/-- Rules 1 and 2 of R192, and what holds an operation back: a fence (R250), a CANCEL (R199) or a full lane (R289). -/
def State.mayRelease (s : State) (c : CoreId) (o : StreamOp) (t : Txn) : Bool :=
  let k := s.core c
  let w := s.txnWheel c.lagoon t
  let own := (w.map (Sparse.get 0 k.img.wslots)).getD 0
  decide (k.inFlight < k.txMax) && decide (s.leading c w < k.nLead * max 1 own) && !k.fenceHolds o.seq 0 o.id && !k.cancelBlocks o &&
    s.laneOpen (s.txnLanes c t) t.lines

/-- A stream operation's event after its acceptance, with the beat or the bundle address of the bundle that issued it (R202). -/
def State.streamFault (s : State) (c : CoreId) (code obj : Nat) (o : StreamOp) : State :=
  s.fault code (o.beat % 2 ^ 32 * 2 ^ 32 + obj % 2 ^ 32) (plocCore (s.core c).img.phys) c.lagoon (some c.v)

/-- TRANSACTION_RELEASE (R172, R192): the next transaction of an operation, in element order. -/
def execTransactionRelease (c : CoreId) (op : Nat) (s : State) : Host.Outcome State Fault Refusal :=
  .next (match (s.core c).op? op with
    | none => s
    | some o =>
      match o.nextTxn with
      | none => s
      | some t =>
        if s.live c && s.mayRelease c o t then
          match s.met c (fun k => (k.landDue.prepare o t).bind (fun r => .ok (r.1.setOp r.2.1))), (s.core c).landDue.prepare o t with
          | some x, _ => s.meetCore c x.1 x.2
          | none, .ok (k, o1, none) => s.setCore c (k.setOp o1)
          | none, .ok (k, o1, some t1) =>
            let (u, way) := s.place (s.txnLanes c t) t.lines
            { u.setCore c (k.markReleased o1 { t1 with way := way } s.stamp) with stamp := s.stamp + 1 }
          | none, .wait _ _ => s
          | none, .event e obj => s.streamFault c e obj o
        else s)

/-! ## Slots (R185 to R189) and the shoal (R228 to R232) -/

/-- The oldest waiting transaction of a lagoon on a channel among the cores a test picks, of those that have come through their lanes
(R187, R188, R288). -/
def State.oldest (s : State) (l w : Nat) (p : Nat → Bool) : Option (Nat × StreamOp × Txn) :=
  let ws := ((s.vcores l).filter (fun v => p v && s.engaged ⟨l, v⟩)).flatMap (fun v =>
    (s.core ⟨l, v⟩).ops.flatMap (fun o =>
      (o.txns.filter (fun t => t.state = 1 ∧ s.txnWheel l t = some w ∧ s.home t.way = true)).map (fun t => (v, o, t))))
  ws.foldl (fun a x => match a with
    | none => some x
    | some y => if x.2.2.stamp < y.2.2.stamp then some x else some y) none

/-- Place the response of a served transaction in the first lane of its way back where that accepts it; else it waits beside the channel
(R289). -/
def State.sendResponse (s : State) (c : CoreId) (o : StreamOp) (t : Txn) : State :=
  let xs := lanesBack (s.txnLanes c t)
  let (u, way) := if s.laneOpen xs t.lines then s.place xs t.lines else (s, 0)
  u.setCore c ((u.core c).setOp { o with txns := o.txns.map (fun x =>
    if x.id = t.id then { t with way := way, back := !s.laneOpen xs t.lines } else x) })

/-- Place what responses of a core wait for their lanes. -/
def State.sendWaiting (s : State) (c : CoreId) : State :=
  ((s.core c).ops.flatMap (fun o => (o.txns.filter (·.back)).map (fun t => (o.id, t)))).foldl (fun a p =>
    match (a.core c).op? p.1 with
    | some o => a.sendResponse c o p.2
    | none => a) s

/-- Serve a transaction: a read takes its bytes, a write puts them in memory. A write keeps the bytes before and after
it, for a base-die check that fails twice. A read of an atom marked bad ends the run (R488). -/
def State.serve (s : State) (c : CoreId) (o : StreamOp) (t : Txn) : State :=
  let addrs := t.spots.filterMap (fun p => s.translate c.lagoon p.2)
  let now := addrs.map s.readByte
  let put (u : State) (bs : List Byte) : State := u.sendResponse c o { t with state := 2, data := bs }
  if t.write then
    match s.badWrite addrs with
    | some a => s.meetBad a c.lagoon (some c.v)
    | none =>
      let u := (List.range addrs.length).foldl (fun (a : State) i => a.writeByte (addrs.getD i 0) (t.data.getD i 0)) s
      put (u.clearBad addrs) (now ++ t.data)
  else
    match s.badAtom addrs with
    | some a => s.meetBad a c.lagoon (some c.v)
    | none => put s now

/-- Whether a transaction may hit the shoal: a read by a core of a granule of HBM inside a shoal window of its lagoon,
in normal timing mode (R228, R232). -/
def State.shoaled (s : State) (l w : Nat) (t : Txn) : Bool :=
  let x := s.lagoon l
  let a := (t.spots.head?.map Prod.snd).getD 0
  !t.write && decide (w < 640) && !x.cfg.steady &&
    ((x.img.map (·.shoal)).getD []).any (fun p => decide (p.start ≤ a) && decide (a < p.start + p.len))

/-- The granule of HBM that a transaction touches. -/
def State.granule (s : State) (l : Nat) (t : Txn) : Nat :=
  ((t.spots.head?.bind (fun p => s.translate l p.2)).getD 0) / 1024

/-- Fill a line: the least recently used line of a full set of 16 ways leaves. A channel has 128 such sets, 2,048 lines; which of them
a granule belongs to is not given (R228, DESIGN CHOICE 12). -/
def Stack.fill (k : Stack) (g : Nat) : Stack :=
  let same (h : Nat) : Bool := wheelOf (1024 * h) == wheelOf (1024 * g) && Config.shoalSet h % 128 == Config.shoalSet g % 128
  let kept := if (k.shoal.filter same).length < 16 then k.shoal
    else match (k.shoal.filter same).getLast? with
      | some old => k.shoal.filter (fun h => h != old)
      | none => k.shoal
  { k with shoal := g :: kept, misses := k.misses + 1 }

/-- Move a line that is hit to the front. -/
def Stack.hit (k : Stack) (g : Nat) : Stack := { k with shoal := g :: k.shoal.filter (fun h => h != g), hits := k.hits + 1 }

/-- Serve a core's transaction through the shoal; the result says whether DRAM was left idle by a hit (R229). `bad`: the
line's protection finds an error it cannot correct (R231). -/
def State.serveShoal (s : State) (c : CoreId) (o : StreamOp) (t : Txn) (w : Nat) (bad : Bool) : State × Bool :=
  let g := s.granule c.lagoon t
  let n := w / 32
  if s.shoaled c.lagoon w t then
    if (s.stack n).shoal.contains g then
      if bad then
        let u := s.setStack n { s.stack n with shoal := (s.stack n).shoal.filter (fun h => h != g) }
        (((u.countError (plocChan n (w % 32)) 0x22 0 g 0xFF true).raise 0x2211 0 (argM 0x22 0 g 0xFF 0x02)
          (plocChan n (w % 32)) (some c.lagoon) (some c.v)).serve c o t, false)
      else ((s.setStack n ((s.stack n).hit g)).serve c o t, true)
    else ((s.setStack n ((s.stack n).fill g)).serve c o t, false)
  else (s.serve c o t, false)

/-! ## Responses (R171, R194, R196, R223) -/

/-- Undo a served write whose check has failed twice: it writes nothing to its destination (R196). -/
def State.unwrite (s : State) (l : Nat) (t : Txn) : State :=
  let n := t.spots.length
  (List.range n).foldl (fun (a : State) i =>
    match a.translate l ((t.spots.getD i (0, 0)).2) with
    | some d => if a.readByte d = t.data.getD (n + i) 0 then a.writeByte d (t.data.getD i 0) else a
    | none => a) s

/-- A response arrives: the destination is written and the operation finishes when this is its last (R171). -/
def State.respond (s : State) (c : CoreId) (o : StreamOp) (t : Txn) : State :=
  s.act c true (fun k => .ok (k.setOp { o with txns := o.txns.map (fun x => if x.id = t.id then { x with state := 3 } else x) }).settleOps)

/-- A read whose check has failed once waits for its owner's next slot on the channel (R223). -/
def State.readAgain (s : State) (c : CoreId) (o : StreamOp) (t : Txn) : State :=
  s.setCore c ((s.core c).setOp { o with txns := o.txns.map (fun x =>
    if x.id = t.id then { x with state := 1, data := [], way := 0, back := false, retried := true } else x) })

/-- TRANSACTION_RESPONSE: `fails` counts the failures of its base-die check now. At the first, a write is sent again at once and a read
waits for its owner's next slot; at the second the error is uncorrectable. Each raises event 0x2231 (R223, R196). Failures on DDR5 are
those of the harbour link. -/
def execTransactionResponse (c : CoreId) (op txn fails : Nat) (s : State) : Host.Outcome State Fault Refusal :=
  .next (match (s.core c).op? op with
    | none => s
    | some o =>
      match o.txns.find? (fun t => t.id == txn && (t.state == 2 || t.state == 4)) with
      | none => s
      | some t =>
        let w := (s.txnWheel c.lagoon t).getD 0
        let g := s.granule c.lagoon t
        let n := w / 32
        let side := bits (s.core c).img.phys 0 9 / 144
        let retry (u : State) : State :=
          if w < 640 then u.baseRetry n g c.lagoon (some c.v)
          else u.corrected 0x8000 0x32 side g 0xFF 0x04 (some c.lagoon) (some c.v)
        if !s.live c || t.back || !s.home t.way then s
        else if fails = 0 then s.respond c o t
        else if fails = 1 ∧ !t.retried then
          if t.write ∨ t.state = 4 then (retry s).respond c o t else (retry s).readAgain c o t
        else
          let s1 := if t.write then s.unwrite c.lagoon t else s
          let u := if t.retried then s1 else retry s1
          if w < 640 then (u.baseFail n g c.lagoon (some c.v)).uncorrectable (plocStack n) 0x33 0 g 0xFF c.lagoon (some c.v)
          else u.uncorrectable 0x8000 0x32 side g 0xFF c.lagoon (some c.v))

/-! ## Markers (R527) and CANCEL (R198, R199) -/

/-- STREAM_QMARK: the first waiting marker of inbound queue n enters. -/
def execStreamQmark (c : CoreId) (n : Nat) (s : State) : Host.Outcome State Fault Refusal :=
  .next (if s.live c && decide (((s.core c).streamQmark n).ops.length < (s.core c).ops.length) then
      s.finish c true (.ok ((s.core c).streamQmark n))
    else s)

/-- STREAM_QMATCH: the first waiting match on outbound queue n checks its head. -/
def execStreamQmatch (c : CoreId) (n : Nat) (s : State) : Host.Outcome State Fault Refusal :=
  .next (if s.live c && ((s.core c).queue (16 + n)).entries.head?.all (s.entered c) then
      s.finish c true ((s.core c).streamQmatch n)
    else s)

/-- CANCEL_DISCARD_DONE (R199): cancels whose operations have all finished are done. -/
def execCancelDiscardDone (c : CoreId) (s : State) : Host.Outcome State Fault Refusal :=
  .next (if s.live c then s.setCore c (s.core c).cancelDone else s)

end Sys2Proof.Machine
end

