-- ==== Sys2Proof/Machine/Deadlock.lean ====
section
/-! DEFINITION. The deadlock detector: who waits, for whom, and the snapshot (R271 to R274, Tables 9 to 11 of spec/08). -/

namespace Sys2Proof.Machine

/-- A holder: its core, its agent coded as AGENT, what is still missing, and whether it has ended its run (R274). -/
structure Holder where
  core  : Nat
  agent : Nat
  count : Nat
  done  : Bool
  deriving DecidableEq, Repr

/-- A waiting agent: core or program stack, agent, WAIT code, object, holder, beat and place (Table 10). -/
structure Waiter where
  vcore  : Nat
  agent  : Nat
  wait   : Nat
  object : Nat
  holder : Holder
  beat   : Nat
  place  : Nat
  deriving DecidableEq, Repr

def Waiter.word (w : Waiter) : BitVec 128 :=
  BitVec.ofNat 128 (w.vcore % 512 * 2 ^ 119 + w.agent % 8 * 2 ^ 116 + w.wait % 32 * 2 ^ 111 + w.object % 1024 * 2 ^ 101 +
    w.holder.core % 512 * 2 ^ 92 + w.holder.agent % 8 * 2 ^ 89 + min w.holder.count 511 * 2 ^ 80 + b2n w.holder.done * 2 ^ 79 +
    w.beat % 2 ^ 32 * 2 ^ 32 + w.place % 2 ^ 32)

/-- Whether an agent of a core has ended its run. -/
def State.agentDone (s : State) (l v agent : Nat) : Bool :=
  let k := s.core ⟨l, v⟩
  if agent = 0 then k.traceEnd else if agent = 1 then k.ac.ended else if agent = 2 then k.pilot.finished else k.runEnded

def State.holder (s : State) (l v agent count : Nat) : Holder := ⟨v, agent, count, s.agentDone l v agent⟩

/-- The agent that a SETTER or CLEARER code of BUOYCFG names (Table 1 of spec/08), as AGENT and core; in unified mode the access
sequencer's code names the execute sequencer. -/
def State.buoyAgent (s : State) (l v code src count : Nat) : Holder :=
  if code = 4 then s.holder l src 0 count
  else s.holder l v (if code = 2 ∧ !(s.core ⟨l, v⟩).img.split then 0 else code - 1) count

/-- The agent at a queue's far end: its producer for an IQ, its consumer for an OQ (R156, R260). -/
def State.farHolder (s : State) (l v n : Nat) : Holder :=
  let k := s.core ⟨l, v⟩
  let q := k.queue n
  if q.farEnd = 1 then s.holder l v 5 0
  else if n < 16 then
    match (List.range 256).find? (fun j => hAction (k.handler j) == 1 && hIq (k.handler j) == n) with
    | some j => s.holder l (hSrc (k.handler j)) 3 0
    | none => s.holder l v 3 0
  else s.holder l v 3 0

/-- Members of a barrier that have not arrived (R254). -/
def State.missing (s : State) (l b : Nat) : List (Nat × Bool) :=
  match (s.lagoon l).barriers.find? (fun d => d.num == b) with
  | some d => d.members.filter (fun m => !s.arrived l b m)
  | none => []

/-- The lowest of a barrier's members, by virtual core and then by agent (R274): 2 v for an execute sequencer, 2 v + 1 for an access
sequencer. -/
def lowestMember (ms : List (Nat × Bool)) : Option Nat := (ms.map (fun m => 2 * m.1 + b2n m.2)).min?

/-- The agent that holds the oldest operation a sequencer's fence covers (R274): for a record the stack, or the message port while
it is still in its queue. -/
def State.fenceHolder (s : State) (l v : Nat) (i : SeqId) : Holder :=
  let k := s.core ⟨l, v⟩
  let f := k.fences.find? (fun f => (k.seq i).fence == some f.id)
  match f.bind (fun f => k.outst.find? f.covers) with
  | some o =>
    if o.cls = 0 then s.holder l v 5 0
    else if o.cls = 2 then s.holder l v 3 0
    else
      let st := (List.range (s.ownStacks l).length).find? (fun p =>
        let n := (s.ownStacks l).getD p 0
        (s.stack n).recs.any (fun r => r.issuer == v && r.op == o.id) ||
          (s.stack n).groups.any (fun g => g.2.any (fun r => r.issuer == v && r.op == o.id)))
      match st with
      | some p => ⟨p, 4, 0, false⟩
      | none => s.holder l v 3 0
  | none => s.holder l v 5 0

/-- The holder of what an agent of core v waits for (R274). `i` is the sequencer that waits. -/
def State.holderOf (s : State) (l v : Nat) (i : SeqId) (w : WaitKind) (obj : Nat) : Holder :=
  let k := s.core ⟨l, v⟩
  match w with
  | .buoySet => let g := (k.buoy obj).cfg.toNat; s.buoyAgent l v (bits g 8 3) (bits g 16 9) 0
  | .buoyClear => let g := (k.buoy obj).cfg.toNat; s.buoyAgent l v (bits g 0 3) (bits g 16 9) 0
  | .tally =>
    let t := k.tally obj
    let need := tallyCount (k.seq i) (k.bundle i).carg - (t.mt - t.tb).toNat
    match (List.range 256).find? (fun j => hTinc (k.handler j) && hTally (k.handler j) == obj) with
    | some j => s.holder l (hSrc (k.handler j)) 0 need
    | none => s.holder l v 0 need
  | .queueEmpty | .rowFeed => if obj < 16 then s.farHolder l v obj else s.holder l v 0 0
  | .queueFull => if obj < 16 then s.holder l v 0 0 else s.farHolder l v obj
  | .choice => s.holder l v 2 0
  | .choiceSpace => s.holder l v obj 0
  | .fence => s.fenceHolder l v i
  | .barrier =>
    match lowestMember (s.missing l obj) with
    | some n => s.holder l (n / 2) (n % 2) (s.missing l obj).length
    | none => s.holder l v 0 0
  | _ => s.holder l v 0 0

/-- The wait of a sequencer that the detector counts, if it waits. -/
def State.seqWait (s : State) (l v : Nat) (i : SeqId) : Option (WaitKind × Nat) :=
  let c : CoreId := ⟨l, v⟩
  let k := s.core c
  if k.mayIssue i && !((k.seq i).halted) then
    ((k.landDue).bundleWaits (s.ctx c) i (k.bundle i)).find? (fun w => w.1.code != 0)
  else none

def State.seqWaiter (s : State) (l v : Nat) (i : SeqId) : List Waiter :=
  let k := s.core ⟨l, v⟩
  match s.seqWait l v i with
  | some (w, o) => [⟨v, if i = .access then 1 else 0, w.code, o, s.holderOf l v i w o, k.beat, (k.seq i).addr⟩]
  | none => []

/-- The wait of a pilot. -/
def State.pilotWait (s : State) (l v : Nat) : Option (WaitKind × Nat) :=
  let c : CoreId := ⟨l, v⟩
  let k := s.core c
  if k.pilotMay then
    match k.pilotFetch with
    | .ok (some w, len) =>
      match k.pilotRun (s.ctx c) false w len with
      | .wait a o => if a.code = 0 then none else some (a, o)
      | _ => none
    | _ => none
  else none

def State.pilotWaiter (s : State) (l v : Nat) : List Waiter :=
  let k := s.core ⟨l, v⟩
  match s.pilotWait l v with
  | some (w, o) => [⟨v, 2, w.code, o, s.holderOf l v .execute w o, k.beat, k.pilot.pc.toNat⟩]
  | none => []

/-- What a message under handler n of virtual core d finds no room in, as the holder whose action frees it: the consumer of the queue or
of the tally, or the clearer of the buoy that is still set (R259, R274). -/
def State.roomHolder (s : State) (l d n : Nat) (mark : Bool) : Option Holder :=
  let k := s.core ⟨l, d⟩
  let h := k.handler n
  if s.hasRoom l d n mark then none
  else if hAction h = 1 ∧ (k.queue (hIq h)).room = 0 then some (s.holder l d 0 0)
  else if (hAction h = 2 ∨ hAction h = 3) ∧ s.hasRoom l d n true = false then
    some (s.holder l d (if (k.tally (hTally h)).consumer = .access then 1 else 0) 0)
  else some (s.buoyAgent l d (bits (k.buoy (hBuoy h)).cfg.toNat 0 3) 0 0)

/-- What a reef record for program stack p finds no room in: the stack, or the queue of its own core that its reply enters (R211, R212). -/
def State.stackHolder (s : State) (c : CoreId) (p : Nat) (word : BitVec 1024) : Option Holder :=
  let st := s.stack ((s.ownStacks c.lagoon).getD p 0)
  let q := (s.core c).queue (rRiq word)
  if 256 ≤ st.held ∨ (rOp word = 0x30 ∧ 8192 ≤ st.grouped + (st.recs.filter (fun r => rOp r.word = 0x30)).length) then some ⟨p, 4, 0, false⟩
  else if rReply word = true ∧ q.farEnd = 2 ∧ q.room = 0 then some (s.holder c.lagoon c.v 0 0)
  else none

/-- The holder of a message OQ's head entry that waits for room at its destination (R274, CREDIT); none where it finds room, or where
something else holds it: a fence (R250), or an earlier entry for the same target. -/
def State.creditHolder (s : State) (c : CoreId) (n : Nat) : Option Holder :=
  let k := s.core c
  let x := s.lagoon c.lagoon
  let q := k.queue (16 + n)
  match q.entries with
  | [] => none
  | e :: _ =>
    let w := (Sparse.get 0 k.img.envelopes (e.env % 256)).toNat
    let dest := bits w 52 9
    let h := bits w 44 8
    let sq : SeqId := ((k.outst.find? (fun o => o.id == e.op)).map (·.seq)).getD .execute
    if q.farEnd ≠ 2 ∨ e.sent ∨ !s.entered c e ∨ s.overtakes c n e ∨ k.fenceHolds sq (if bits w 61 3 = 4 then 1 else 2) e.op then none
    else match bits w 61 3 with
    | 1 => s.roomHolder c.lagoon dest h e.mark.isSome
    | 2 => (x.groups.find? (fun g => g.num == dest)).bind (fun g => g.receivers.findSome? (fun d => s.roomHolder c.lagoon d h e.mark.isSome))
    | 3 => (x.combs.find? (fun p => p.num == dest)).bind (fun p =>
        if p.tkind then s.stackHolder c (p.tcore % 32) (stampCombine e.first p.group p.ncontrib (p.cindex c.v))
        else if 2 ≤ s.contributed c.lagoon p c.v (p.cindex c.v) then some (s.holder c.lagoon p.tcore 3 0) else none)
    | 4 => s.stackHolder c (dest % 32) e.first
    | _ => none

/-- The message port's head entries that find no room, as waiters, the lowest OQ first. -/
def State.portHeads (s : State) (l v : Nat) : List Waiter :=
  let k := s.core ⟨l, v⟩
  (List.range 16).filterMap (fun n => (s.creditHolder ⟨l, v⟩ n).map (fun h => Waiter.mk v 3 0x0D (16 + n) h k.beat 0))

/-- The waits of a core's combining queues: a whole round that finds no room (WAIT 0x0D), then a round begun (WAIT 0x0C). -/
def State.portCombs (s : State) (l v : Nat) : List Waiter :=
  let k := s.core ⟨l, v⟩
  let combs := (s.lagoon l).combs.filter (fun (q : CombQueue) => !q.tkind && q.tcore == v && (decide (0 < q.added) || !q.store.isEmpty))
  (combs.filter (fun q => q.ncontrib ≤ q.added)).map (fun (q : CombQueue) =>
      Waiter.mk v 3 0x0D q.num ((s.roomHolder l v q.handler false).getD (s.holder l v 0 0)) k.beat 0) ++
    (combs.filter (fun q => q.added < q.ncontrib)).map (fun (q : CombQueue) =>
      let miss := q.contribs.filter (fun u => !(decide (q.cindex u < q.added) || q.store.any (fun d => d.cindex == q.cindex u)))
      Waiter.mk v 3 0x0C q.num (s.holder l (miss.headD 0) 0 miss.length) k.beat 0)

/-- The message port's wait: the lowest OQ whose head entry finds no room, else the lowest combining queue that waits. One entry stands
for the agent (R273; DESIGN CHOICE 42). Strait back-pressure is no wait (R271). -/
def State.portWaiters (s : State) (l v : Nat) : List Waiter := (s.portHeads l v ++ s.portCombs l v).take 1

/-- The wait of one stream operation: a PUT or a QMATCH at an empty queue, a FETCH or a QMARK that finds no entry free. -/
def Core.opWait (c : Core) (o : StreamOp) : Option (WaitKind × Nat) :=
  let unit := decide (dDkind o.word = 0)
  if (o.kind = 5 ∨ (o.kind = 2 ∧ unit ∧ o.outScales.length < o.total)) ∧ (c.queue (16 + o.first)).entries.isEmpty then
    some (.queueEmpty, 16 + o.first)
  else if ((o.kind = 4 ∧ o.reserved = 0) ∨ (o.kind = 1 ∧ unit ∧ !o.cancelled ∧ o.reserved < c.nUnits o)) ∧ (c.queue o.first).room = 0 then
    some (.queueFull, o.first)
  else none

/-- The waits of a core's stream engine: its operations that wait for a queue, oldest first, then the fences whose buoy is still set. A
queue that an operation fills waits for its consumer, the core's row or vector engine, and one that it empties for its producer. -/
def State.streamWaits (s : State) (l v : Nat) : List Waiter :=
  let k := s.core ⟨l, v⟩
  let qs := (k.ops.filterMap k.opWait).map (fun w => Waiter.mk v 5 w.1.code w.2 (s.holder l v 0 0) k.beat 0)
  let fs := (k.fences.filterMap (fun f => if k.fenceMet f then f.buoy else none)).map (fun b =>
    Waiter.mk v 5 0x02 b (s.holderOf l v .execute .buoyClear b) k.beat 0)
  qs ++ fs

/-- The stream engine's wait: one entry stands for the agent (R273; DESIGN CHOICE 42). -/
def State.streamWaiters (s : State) (l v : Nat) : List Waiter := (s.streamWaits l v).take 1

/-- Waiting combining groups of the lagoon's stacks, in ascending stack and group (R273). Its missing contributor is named by the
combining queue that targets the group; where its records were posted directly and no queue does, virtual core 0 is (DESIGN CHOICE 64). -/
def State.groupWaiters (s : State) (l : Nat) : List Waiter :=
  (List.range (s.ownStacks l).length).flatMap (fun p =>
    (s.stack ((s.ownStacks l).getD p 0)).groups.map (fun g =>
      let w := ((g.2.head?).map (·.word)).getD 0
      let miss := (List.range (rNcontrib w)).filter (fun j => !g.2.any (fun r => rCindex r.word == j))
      let q := (s.lagoon l).combs.find? (fun q => q.tkind && q.tcore % 32 == p && q.group == g.1)
      let core := (q.bind (fun q => q.contribs[miss.headD 0]?)).getD 0
      ⟨p, 4, 0x0C, g.1, s.holder l core 0 miss.length, 0, rTagid w⟩))

/-- Every waiter of a lagoon, in the order of R273. -/
def State.waiters (s : State) (l : Nat) : List Waiter :=
  (s.vcores l).flatMap (fun v =>
    s.seqWaiter l v .execute ++ s.seqWaiter l v .access ++ s.pilotWaiter l v ++ s.portWaiters l v ++ s.streamWaiters l v) ++
    s.groupWaiters l

/-- Whether a transaction, message or record is in flight (R271). -/
def State.inFlight (s : State) (l : Nat) : Bool :=
  !(s.lagoon l).msgs.isEmpty || (s.vcores l).any (fun v => decide (0 < (s.core ⟨l, v⟩).inFlight)) ||
    (s.ownStacks l).any (fun n => !(s.stack n).recs.isEmpty)

/-- DEADLOCK (R271): after DLWIN ticks without progress, with some agent waiting all the while and nothing in flight, the detector stops
the lagoon, takes the snapshot, raises 0x3105 and ends the run. -/
def execDeadlock (l : Nat) (s : State) : Host.Outcome State Fault Refusal :=
  .next (
    let x := s.lagoon l
    let ws := s.waiters l
    if x.st = .running ∧ x.progress + x.dlwin ≤ s.tide.count ∧ x.waits.any (fun t => decide (t + x.dlwin ≤ s.tide.count)) ∧
        !ws.isEmpty ∧ !s.inFlight l then
      let snap : DeadSnap := ⟨s.tide.count, x.dlwin, ws.length - 8192, (ws.take 8192).map Waiter.word⟩
      (s.setLagoon l { x with dead := some snap }).fault 0x3105 0 0 l none
    else s)

end Sys2Proof.Machine
end

