-- ==== Sys2Proof/Machine/Ferry.lean ====
section
/-! DEFINITION. The ferry chain (R233 to R236). -/

namespace Sys2Proof.Machine

/-- The virtual core that a physical core carries, its lowest context, if any. -/
def State.virtOn (s : State) (p : Nat) : Option CoreId :=
  (List.range 8).findSome? (fun l => ((s.vcores l).find? (fun v => (s.core ⟨l, v⟩).img.phys == p)).map (fun v => ⟨l, v⟩))

def fDir (k : Core) : Nat := bits k.csr.ferrycfg.toNat 30 2
def fFwd (k : Core) : Bool := bit k.csr.ferrycfg.toNat 29
def fLocal (k : Core) : Bool := bit k.csr.ferrycfg.toNat 28
def fLiq (k : Core) : Nat := bits k.csr.ferrycfg.toNat 24 4
def fSoq (k : Core) : Nat := 16 + bits k.csr.ferrycfg.toNat 20 4

/-- The neighbour that physical core p receives from in a direction, 0 eastward, 1 westward (R233). -/
def upstream (p dir : Nat) : Option Nat :=
  if dir = 0 then (if p % 12 = 0 then none else some (p - 1)) else (if p % 12 = 11 then none else some (p + 1))

/-- Entries that wait in a physical core's stage to leave in a direction. -/
def State.stage (s : State) (p dir : Nat) : List QEntry := Sparse.get [] s.ferry (2 * p + dir)
def State.setStage (s : State) (p dir : Nat) (l : List QEntry) : State := { s with ferry := Sparse.set [] s.ferry (2 * p + dir) l }

/-- The next entry that a neighbour sends in a direction, with the state after it has left: entries passing through go
before those of its own outbound queue. -/
def State.ferryNext (s : State) (n dir : Nat) : Option (QEntry × State) :=
  match s.stage n dir with
  | e :: rest => some (e, s.setStage n dir rest)
  | [] =>
    match s.virtOn n with
    | none => none
    | some c =>
      let k := s.core c
      let q := k.queue (fSoq k)
      match q.entries with
      | [] => none
      | e :: rest =>
        if fDir k = dir + 1 ∧ q.farEnd = 3 ∧ s.entered c e = true then
          some ({ e with due := 0 }, s.setCore c (k.setQueue (fSoq k) { q with entries := rest, popped := q.popped + 1 }))
        else none

/-- Whether a physical core takes an entry that arrives in a direction behind n others: a core in service by its FERRYCFG and its room,
any other passes it through its stage (R235). A stage holds one entry (DEDUCED 25). -/
def State.ferryTakes (s : State) (p dir n : Nat) : Bool :=
  let out := (s.stage p dir).isEmpty && n == 0
  match s.virtOn p with
  | none => out
  | some c =>
    let k := s.core c
    if (s.physCore p).oos then out
    else fDir k == dir + 1 && (fFwd k || fLocal k) && (!fFwd k || out) && (!fLocal k || decide (n < (k.queue (fLiq k)).room))

/-- A core receives an entry (R235). -/
def State.ferryPut (s : State) (p dir : Nat) (e : QEntry) : State :=
  match s.virtOn p with
  | none => s.setStage p dir (s.stage p dir ++ [e])
  | some c =>
    let k := s.core c
    if (s.physCore p).oos then s.setStage p dir (s.stage p dir ++ [e])
    else
      let s1 := if fLocal k then
          let q := k.queue (fLiq k)
          s.setCore c (k.setQueue (fLiq k) { q with entries := q.entries ++ [e], pushed := q.pushed + 1 })
        else s
      if fFwd k then s1.setStage p dir (s1.stage p dir ++ [e]) else s1

/-- Whether the link into p in a direction is open: neither closed after a fault nor between lagoons (R233, R236). -/
def State.ferryOpen (s : State) (n p dir : Nat) : Bool :=
  !bit (s.physCore n).closed dir && (s.regionOwner (physRegion n)).isSome &&
    s.regionOwner (physRegion n) == s.regionOwner (physRegion p)

/-- The strait lane of the link from n into p; none within a region (R233, DESIGN CHOICE 46). -/
def ferryLane (n p : Nat) : List Nat := if physRegion n = physRegion p then [] else [laneOf (physRegion n) (physRegion p) (n % 8)]

/-- The entries in the strait of the link into p in a direction, with the numbers of their crossings. -/
def State.crossing (s : State) (p dir : Nat) : List (Nat × QEntry) := Sparse.get [] s.fabric.ferry (2 * p + dir)
def State.setCrossing (s : State) (p dir : Nat) (l : List (Nat × QEntry)) : State :=
  { s with fabric := { s.fabric with ferry := Sparse.set [] s.fabric.ferry (2 * p + dir) l } }

/-- Place what a neighbour sends next over a link that crosses a strait, where its lane accepts it and the receiver has room for it
behind those on their way (R235, R287, R289). -/
def State.placeFerry (s : State) (x : Nat × Nat) : State :=
  match upstream x.1 x.2 with
  | none => s
  | some n =>
    let xs := ferryLane n x.1
    let on := s.crossing x.1 x.2
    if xs.isEmpty || !s.ferryOpen n x.1 x.2 || !s.ferryTakes x.1 x.2 on.length then s
    else match s.ferryNext n x.2 with
      | none => s
      | some (e, t) =>
        if t.laneOpen xs e.size then
          let (u, way) := t.place xs e.size
          u.setCrossing x.1 x.2 (on ++ [(way, e)])
        else s

/-- The links that cross straits, as receiver and direction (R233). -/
def ferryStraits : List (Nat × Nat) := (List.range 24).flatMap (fun y => [(12 * y + 4, 0), (12 * y + 8, 0), (12 * y + 3, 1), (12 * y + 7, 1)])

/-- What the next transfer over a link brings, with the state after it has left: across a strait the oldest entry there, once it has
come through. -/
def State.ferryHead (s : State) (n p dir : Nat) : Option (QEntry × State) :=
  if (ferryLane n p).isEmpty then s.ferryNext n dir
  else match s.crossing p dir with
    | (way, e) :: rest => if s.home way then some (e, s.setCrossing p dir rest) else none
    | [] => none

/-- The transfer into p that is ready, eastward before westward: its lagoon, sender, direction, entry and the state
after the entry has left. -/
def State.ferryReady (s : State) (p : Nat) : Option (Nat × Nat × Nat × QEntry × State) :=
  [0, 1].findSome? (fun dir =>
    match upstream p dir with
    | none => none
    | some n =>
      if s.ferryOpen n p dir && s.ferryTakes p dir 0 then
        (s.ferryHead n p dir).map (fun r => ((s.regionOwner (physRegion p)).getD 0, n, dir, r.1, r.2))
      else none)

/-- FERRY_LINE_RECEIVED (R235, R236): physical core p receives an entry over its ferry link. One failure is retried; a
second closes the link, raises 0x2221 and ends the run. -/
def execFerryLineReceived (p fails : Nat) (s : State) : Host.Outcome State Fault Refusal :=
  .next (match s.ferryReady p with
    | none => s
    | some (l, n, dir, e, s1) =>
      if 288 ≤ p ∨ (s.lagoon l).st ≠ .running ∨ s.power.state ≠ 0 then s
      else if fails = 0 then (s1.ferryPut p dir e).progressed l
      else if fails = 1 then
        ((s1.corrected (plocCore p) 0x34 dir 0 0xFF 0x04 (some l) none).ferryPut p dir e).progressed l
      else
        let s2 := s1.setPhys n { s1.physCore n with closed := (s1.physCore n).closed ||| 2 ^ dir }
        (s2.countError (plocCore p) 0x34 dir 0 0xFF true).fault 0x2221 (argM 0x34 dir 0 0xFF 0x02) (plocCore p) l none)

end Sys2Proof.Machine
end

