-- ==== Sys2Proof/Machine/Timing.lean ====
section
/-! DEFINITION. Regions, the governor, the stall ledger's tick and the tide (R277 to R306, R508). -/

namespace Sys2Proof.Machine

/-- PLOC of a region. -/
def plocRegion (r : Nat) : Nat := 0x2000 + r

/-! ## Setpoints (R282 to R284) -/

/-- Whether the governor may stop a region now: it runs, no region of its die is in a change of setpoint, none stopped it within
1 ms, and its regulator answers (R283, R508). -/
def State.mayStop (s : State) (r : Nat) : Bool :=
  let x := s.region r
  x.state == 0 && !x.noChange &&
    !(List.range 9).any (fun i => (s.region (r / 9 * 9 + i)).state == 1 || (s.region (r / 9 * 9 + i)).target.isSome) &&
    (match x.lastStop with | some t => decide (t + 1000000 ≤ s.tide.count) | none => true)

/-- Stop a region for a change of setpoint (R283). -/
def State.beginStop (s : State) (r target : Nat) : State :=
  let x := s.region r
  if x.vset ≠ target && s.mayStop r then
    s.setRegion r { x with state := 1, target := some target, lastStop := some s.tide.count, retries := 0
                           stops := min 255 (x.stops + 1) }
  else s

/-- Add to the logbook's rail entry of a region (Table 7 of spec/16). -/
def State.setRail (s : State) (r v : Nat) : State :=
  { s with rel := { s.rel with log := { s.rel.log with rails := Sparse.set 0 s.rel.log.rails r v } } }
def State.rail (s : State) (r : Nat) : Nat := Sparse.get 0 s.rel.log.rails r

/-- The values that SETMODE holds take effect at a program boundary (R41, R271, R419). -/
def State.applyHeld (s : State) (l : Nat) : State :=
  let x := s.lagoon l
  match x.held with
  | some h =>
    if s.atBoundary l then
      s.setLagoon l { x with held := none, dlwin := h.dlwin, cfg := { x.cfg with pmode := h.pmode, steady := h.steady } }
    else s
  | none => s

/-- Raise a region's ageing setpoint by 5 mV, at most to 0.780 V (R282). -/
def State.ageing (s : State) (r : Nat) : State :=
  let x := s.region r
  if x.vbase < 0x24 ∧ s.mayStop r = true then
    let v := s.rail r
    let s1 := s.setRail r (v - v % 65536 + min 65535 (v % 65536 + 1))
    (s1.setRegion r { x with vbase := x.vbase + 1 }).beginStop r (x.vset + 1)
  else s

/-- PROGRAM_BOUNDARY (R41, R282): held values take effect; the regions of `raise` that the lagoon owns age. -/
def execProgramBoundary (l raise : Nat) (s : State) : Host.Outcome State Fault Refusal :=
  .next (if l < 8 ∧ s.atBoundary l = true ∧ (s.lagoon l).st ≠ .empty then
      ((ones 18 raise).filter (fun r => s.regionOwner r == some l)).foldl State.ageing (s.applyHeld l)
    else s)

/-- The setpoint that the governor seeks at a temperature: 10 mV lower from 100 °C, 10 mV back at 95 °C or less. -/
def governed (x : Region) : Nat :=
  if x.tj ≥ 100 then max 0x14 (x.vset - 2)
  else if x.tj ≤ 95 ∧ x.vset < x.vbase then min x.vbase (x.vset + 2)
  else x.vset

/-- THERMAL_GOVERNOR_TICK (R284): 1 ms has passed; `rate` is the region's measured mean pacer rate in MHz (R286). -/
def execThermalGovernorTick (r rate : Nat) (s : State) : Host.Outcome State Fault Refusal :=
  .next (if r < 18 ∧ (s.region r).state < 3 then
      let s1 := s.setRegion r { s.region r with rate := rate % 65536 }
      s1.beginStop r (governed (s1.region r))
    else s)

/-- REGION_RESUME (R283): the delay monitor confirms the new rail and the pacers resume; event 0x4201. -/
def execRegionResume (r : Nat) (s : State) : Host.Outcome State Fault Refusal :=
  let x := s.region r
  .next (match x.target with
    | some v =>
      if x.state = 1 then
        (s.setRegion r { x with state := 0, vset := v, target := none, retries := 0 }).raise 0x4201 0 (argV x.vset v)
          (plocRegion r) (s.regionOwner r) none
      else s
    | none => s)

/-- AVSBUS_STATUS_TIMEOUT (R508): no valid status after a voltage write. The third failure resumes the region at its old
setpoint, which then changes no more until reset. -/
def execAvsbusStatusTimeout (r : Nat) (s : State) : Host.Outcome State Fault Refusal :=
  let x := s.region r
  .next (if x.state = 1 ∧ x.target.isSome then
      if x.retries < 2 then s.setRegion r { x with retries := x.retries + 1 }
      else (s.setRegion r { x with state := 0, target := none, retries := 0, noChange := true }).raise 0x4201 0
        (argV x.vset x.vset) (plocRegion r) (s.regionOwner r) none
    else s)

/-! ## Temperature (R284, R285) -/

/-- A region whose die is off; one that is out of service stays so. -/
def Region.off (x : Region) : Region := { x with state := if x.state = 3 then 3 else 4, rate := 0, target := none, lowSince := none }

/-- Turn off both compute dies: every region is off. -/
def State.diesOff (s : State) : State :=
  let t := (List.range 18).foldl (fun (a : State) r => a.setRegion r (a.region r).off) s
  { t with power := { t.power with cw := { t.power.cw with pen := false, pgood := false }
                                   ce := { t.power.ce with pen := false, pgood := false } } }

/-- The thermal trip (R284, R285 steps 1 and 2): the dies go off, every RUNNING or PAUSED lagoon ends its run with EVENT
0x4205, and the entry to P2 waits for their records. -/
def State.thermalTrip (s : State) (r : Nat) : State :=
  let x := s.region r
  let s1 := s.raise 0x4205 3 (argV 0 (wrapInt 8 x.tj)) (plocRegion r) none none
  let s2 := { s1 with power := { s1.power with thermtrip := true, tripTide := some s1.tide.count, cause := 1 } }
  let s3 := (List.range 8).foldl (fun (a : State) l =>
    if (a.lagoon l).st = .running ∨ (a.lagoon l).st = .paused then a.faultLagoon l 0x4205 else a) s2
  s3.diesOff

/-- TEMPERATURE_SAMPLE (R284): a region's hottest sensor reads tj. -/
def execTemperatureSample (r : Nat) (tj : Int) (s : State) : Host.Outcome State Fault Refusal :=
  .next (if 18 ≤ r ∨ s.power.porst = false then s
    else
      let x := s.region r
      let hot := decide (tj ≥ 105)
      let s1 := s.setRegion r { x with tj := tj, warned := hot }
      let s2 := if hot && !x.warned then s1.raise 0x4204 0 (argV 0 (wrapInt 8 tj)) (plocRegion r) (s.regionOwner r) none else s1
      if tj ≥ 115 ∧ x.state ≠ 4 then s2.thermalTrip r else s2)

/-! ## Rails (R280) -/

/-- RAIL_LOW (R280): the rail at the die falls to `mv`, below 620 mV, and every pacer of the region halts. -/
def execRailLow (r mv : Nat) (s : State) : Host.Outcome State Fault Refusal :=
  let x := s.region r
  .next (if r < 18 ∧ mv < 620 ∧ x.state < 2 then
      let v := s.rail r
      let low := if bits v 16 16 = 0 then mv else min mv (bits v 16 16)
      let s1 := s.setRail r (min (2 ^ 32 - 1) (v / 2 ^ 32 + 1) * 2 ^ 32 + low * 65536 + v % 65536)
      (s1.setRegion r { x with state := 2, lowSince := some s.tide.count, failed := false }).raise 0x4202 0 0 (plocRegion r)
        (s.regionOwner r) none
    else s)

/-- RAIL_RECOVER (R280): the rail has been at or above 0.640 V for 1 µs, and the pacers resume. -/
def execRailRecover (r : Nat) (s : State) : Host.Outcome State Fault Refusal :=
  let x := s.region r
  .next (if x.state = 2 then s.setRegion r { x with state := if x.target.isSome then 1 else 0, lowSince := none } else s)

/-- RAIL_FAIL (R280): the halt has lasted more than 1 ms; event 0x4203, and the owner's run ends in FAULTED. -/
def execRailFail (r : Nat) (s : State) : Host.Outcome State Fault Refusal :=
  let x := s.region r
  .next (match x.lowSince with
    | some t =>
      if x.state = 2 ∧ x.failed = false ∧ t + 1000000 < s.tide.count then
        let s1 := s.setRegion r { x with failed := true }
        match s.regionOwner r with
        | some l => s1.fault 0x4203 0 (plocRegion r) l none
        | none => s1.raise 0x4203 0 0 (plocRegion r) none none
      else s
    | none => s)

/-! ## The stall ledger (R294 to R297) -/

/-- The execute cause of a wait (Table 4 of spec/09); a BARRIER's own fence counts under BARRIER_WAIT. -/
def stallCause (b : Bundle) : WaitKind → Nat
  | .streamAccept => 0x08 | .rowFeed => 0x09 | .soundFull => 0x0A | .soundEmpty => 0x0B | .queueEmpty => 0x0C
  | .queueFull => 0x0D | .choice => 0x0E | .buoySet => 0x0F | .buoyClear => 0x0F | .tally => 0x10
  | .fence => if Cop.ofCode b.cop = .barrier then 0x12 else 0x11
  | .barrier => 0x12 | .guard => 0x05
  | _ => 0

/-- Whether a transaction of a core's operations that a test picks is late in a lane. -/
def State.lateTxn (s : State) (k : Core) (p : StreamOp → Bool) : Bool :=
  k.ops.any (fun o => p o && o.txns.any (fun t => s.lateWay t.way))

/-- Whether a message on its way to a core, under a handler that a test picks, or a contribution to a combining queue of the core that
delivers under one, is late in a lane. -/
def State.lateMsg (s : State) (c : CoreId) (p : Nat → Bool) : Bool :=
  let x := s.lagoon c.lagoon
  let k := s.core c
  x.msgs.any (fun m => s.lateWay m.way &&
    (if m.kind = 1 then x.combs.any (fun q => q.num == m.dst && q.tcore == c.v && !q.tkind && p (k.handler q.handler))
     else m.dst == c.v && p (k.handler m.handler)))

/-- Whether a reef record of a core that a test picks, or its completion, is late in a lane. -/
def State.lateReef (s : State) (c : CoreId) (p : ReefHeld → Bool) : Bool :=
  (s.ownStacks c.lagoon).any (fun n =>
    (s.stack n).recs.any (fun r => r.issuer == c.v && p r && (s.lateWay r.way || r.back.any s.lateWay)))

/-- Whether an entry on its way to a core over a ferry link is late in a strait. -/
def State.lateFerry (s : State) (c : CoreId) : Bool :=
  [0, 1].any (fun dir => (s.crossing (s.core c).img.phys dir).any (fun x => s.lateWay x.1))

/-- Whether what a sequencer's own fence covers is late in a lane: a transaction, a reef operation, or a message of its core. -/
def State.lateFence (s : State) (c : CoreId) (f : Fence) : Bool :=
  let k := s.core c
  s.lateTxn k (fun o => f.covers ⟨o.id, o.seq, 0⟩) || s.lateReef c (fun r => f.covers ⟨r.op, r.oseq, 1⟩) ||
    (s.lagoon c.lagoon).msgs.any (fun m => m.src == c.v && s.lateWay m.way && f.covers ⟨m.op, m.oseq, 2⟩)

/-- Whether the item that will end a wait has been in a lane beyond the lane's fixed latency (R297). What ends a VEC_FEED is a result
of the core's own vector engine, which is in no lane. -/
def State.waitsLate (s : State) (c : CoreId) (w : WaitKind) (obj : Nat) : Bool :=
  let k := s.core c
  match w with
  | .rowFeed | .queueEmpty =>
    s.lateTxn k (fun o => o.kind == 1 && dDkind o.word == 0 && o.first == obj) || s.lateMsg c (fun h => hAction h == 1 && hIq h == obj) ||
      s.lateReef c (fun r => rReply r.word && rRiq r.word == obj) || (fLocal k && fLiq k == obj && s.lateFerry c)
  | .buoySet =>
    s.lateMsg c (fun h => (hSetb h || hAction h == 4) && hBuoy h == obj) || k.fences.any (fun f => f.buoy == some obj && s.lateFence c f)
  | .tally => s.lateMsg c (fun h => hTinc h && hTally h == obj)
  | .fence => k.fences.any (fun f => k.ex.fence == some f.id && s.lateFence c f)
  | .barrier => s.lateWay k.ex.way
  | _ => false

/-- Whether what would free the space that a wait asks for waits itself to be placed in a full lane: the head entry of a message or
ferry queue, or the next transaction of a PUT from a queue or of an operation that fills the stream engine (R297). A drained tile crosses
no lane. -/
def State.waitsHeld (s : State) (c : CoreId) (w : WaitKind) (obj : Nat) : Bool :=
  let k := s.core c
  let stuck (o : StreamOp) : Bool := match o.nextTxn with
    | some t => !s.laneOpen (s.txnLanes c t) t.lines
    | none => false
  match w with
  | .queueFull =>
    match (k.queue obj).farEnd, (k.queue obj).entries.head? with
    | 1, _ => k.ops.any (fun o => o.kind == 2 && dDkind o.word == 0 && 16 + o.first == obj && stuck o)
    | 3, some e =>
      let p := k.img.phys
      !s.laneOpen (ferryLane p (if fDir k = 1 then p + 1 else p - 1)) e.size
    | _, some e => (s.entryLanes c e).any (fun xs => !s.laneOpen xs e.size)
    | _, none => false
  | .streamAccept => k.ops.any stuck
  | _ => false

/-- The cause of a wait, with the strait causes in the place of others (R296, R297). -/
def State.waitCause (s : State) (c : CoreId) (b : Bundle) (w : WaitKind × Nat) : Nat :=
  let k := stallCause b w.1
  if [0x08, 0x0D].contains k && s.waitsHeld c w.1 w.2 then 0x06
  else if 0x09 ≤ k && k ≤ 0x12 && s.waitsLate c w.1 w.2 then 0x07
  else k

/-- The lowest cause that holds for a core's execute sequencer at a tick, 0 for beat time (R295). -/
def State.execCause (s : State) (c : CoreId) : Nat :=
  let k := s.core c
  let rs := (s.region (s.coreRegion c)).state
  if rs = 1 ∨ rs = 2 then 0x01
  else if (s.lagoon c.lagoon).st = .paused then 0x02
  else if k.ex.halted then 0x03
  else if s.turn c = false then 0x04
  else if k.ex.ended then 0
  else
    let b := k.bundle .execute
    let d := k.landDue
    if d.guardLu < (d.copBefore .execute b).bundleCharge (s.ctx c) .execute b.slots then 0x05
    else
      let cs := ((d.bundleWaits (s.ctx c) .execute b).map (s.waitCause c b)).filter (· ≠ 0)
      match cs with
      | [] => 0
      | x :: rest => rest.foldl min x

/-- The cause of a pilot's wait (R296), 0 where it does not wait. -/
def State.pilotCause (s : State) (c : CoreId) : Nat :=
  let k := s.core c
  if k.pilotMay then
    match k.pilotFetch with
    | .ok (some w, len) =>
      match k.pilotRun (s.ctx c) false w len with
      | .wait .summary _ => 0x20
      | .wait .choiceSpace _ => 0x21
      | .wait .pilotSync _ => 0x22
      | .wait .buoySet _ => 0x23
      | .wait .buoyClear _ => 0x23
      | _ => 0
    | _ => 0
  else 0

/-- Charge n ticks to a cause; a new run of ticks is an episode (R298). -/
def Ledger.charge (g : Ledger) (n cause last : Nat) : Ledger :=
  if cause = 0 then g
  else
    let x := Sparse.get ⟨0, 0⟩ g.since cause
    let e := if cause = last then x.episodes else min (2 ^ 32 - 1) (x.episodes + 1)
    { g with since := Sparse.set ⟨0, 0⟩ g.since cause ⟨x.ticks + n, e⟩ }

/-- n ticks of a core's ledger, from the issue of beat 0 on: those after the last beat never enter its totals (R294). -/
def State.chargeCore (l n : Nat) (s : State) (v : Nat) : State :=
  let c : CoreId := ⟨l, v⟩
  let k := s.core c
  if k.beat = 0 ∨ k.traceEnd then s
  else
    let x := s.execCause c
    let p := s.pilotCause c
    let g := (k.ledger.charge n x k.ledger.lastX).charge n p k.ledger.lastP
    s.setCore c { k with ledger := { g with lastX := x, lastP := p } }

/-- n ticks of the ledgers of every lagoon that is RUNNING or PAUSED. -/
def State.chargeAll (s : State) (n : Nat) : State :=
  if n = 0 then s
  else (List.range 8).foldl (fun (a : State) l =>
    if (a.lagoon l).st = .running ∨ (a.lagoon l).st = .paused then (a.vcores l).foldl (State.chargeCore l n) a else a) s

/-! ## The deadlock detector's watch (R271) -/

/-- Note since which tide some agent of a RUNNING lagoon has been in a wait that the detector counts. -/
def State.watch (s : State) (l : Nat) : State :=
  let x := s.lagoon l
  let w := if x.st = .running ∧ !(s.waiters l).isEmpty then some (x.waits.getD s.tide.count) else none
  if x.waits = w then s else s.setLagoon l { x with waits := w }

/-! ## The tide (R300 to R306) -/

/-- The tide after a tick: 1, or 0 or 2 once in 10,000 ticks while a correction is left (R304). -/
def Tide.tick (t : Tide) : Tide :=
  if t.slew ≠ 0 ∧ t.lastSlew + 10000 ≤ t.count then
    if 0 < t.slew then { t with count := t.count + 2, slew := t.slew - 1, lastSlew := t.count + 2 }
    else { t with slew := t.slew + 1, lastSlew := t.count }
  else { t with count := t.count + 1 }

/-- The 1PPS output rises where the count passes a multiple of 10^9, within the ±2 ns of R305, once the tide has been stepped or set; it
is low until then (R503). -/
def Tide.pulse (t : Tide) (before : Nat) : Tide :=
  if (t.stepped ∨ t.set) ∧ before / 1000000000 < t.count / 1000000000 then { t with ppsOut := t.ppsOut + 1 } else t

/-- What waits to be placed in a lane is placed where that accepts it (R289): responses, completions of reef records, and ferry entries. -/
def State.sendTick (s : State) : State :=
  let s1 := s.cores.foldl (fun (a : State) p => a.sendWaiting ⟨p.1 / 512, p.1 % 512⟩) s
  let s2 := s1.hbm.foldl (fun (a : State) p => p.2.recs.foldl (State.sendDone p.1) a) s1
  ferryStraits.foldl State.placeFerry s2

/-- TIDE_TICK (R300, R304, R295): each ledger's tick is classed by the state at its start; the tide advances, and with it the pacers
that run, what is in the lanes, and the detector's watch. -/
def execTideTick (s : State) : Host.Outcome State Fault Refusal :=
  .next (if s.power.porst then
      let n := s.tide.tick.count
      let t := (s.chargeAll (n - s.tide.count)).stallTick.paceTick.crossTick.sendTick
      let u : State := { t with tide := { t.tide.tick.pulse t.tide.count with count := n % 2 ^ 64 } }
      (List.range 8).foldl State.watch u
    else s)

/-- Whether no lagoon is RUNNING and no launch is pending (R304). -/
def State.tideFree (s : State) : Bool :=
  (List.range 8).all (fun l => (s.lagoon l).st ≠ .running && (s.lagoon l).launch = [])

/-- A tide event, with TIDESTAT before and after (ARG form T). -/
def State.tideEvent (s : State) (before code : Nat) : State := s.notice code (before * 2 ^ 32 + s.tidestat)

/-- Step the tide forwards by d (R304): the moment of the latest synchronisation message moves with it, and so does the offset; the ticks
passed over fall to the ledgers of PAUSED lagoons as others do (R295). -/
def State.stepTide (s0 : State) (d : Nat) : State :=
  let s := s0.chargeAll d
  let t := s.tide
  let n := (t.count + d) % 2 ^ 64
  let u : Tide := { t with
    count := n, stepped := true, step := none, slew := 0, lastSlew := n, lastSync := t.lastSync.map (· + d)
    offset := if t.lastSync.isSome then t.offset + d else t.offset }
  ({ s with tide := if n % 1000000000 = 0 then { u with ppsOut := u.ppsOut + 1 } else u }).tideEvent s.tidestat 0x4302

/-- Move the tide to a state; event 0x4301 where it changes (R303). -/
def State.tideState (s : State) (st : Nat) : State :=
  if s.tide.state = st then s else ({ s with tide := { s.tide with state := st } }).tideEvent s.tidestat 0x4301

/-- The tide after a synchronisation message of its domain that shows PTP time `time` (R303, R304, DESIGN CHOICE 9). -/
def State.synchronise (s : State) (time : Nat) : State :=
  let t := s.tide
  let off : Int := (t.count : Int) - time
  let interval := match t.lastSync with | some k => decide (t.count ≤ k + 2000000000) | none => false
  let good := if off ≤ 25 ∧ -25 ≤ off then (if interval then t.good + 1 else t.good) else 0
  let s1 := { s with tide := { t with lastSync := some t.count, offset := off, slew := -off, good := good } }
  if t.state = 0 then
    let s2 := ({ s1 with tide := { s1.tide with locked := true, good := 0 } }).tideState 1
    if t.locked ∨ 0 ≤ off then s2
    else if s.tideFree then s2.stepTide (time - t.count)
    else { s2 with tide := { s2.tide with step := some (-off), slew := 0 } }
  else
    let s2 := if t.step.isSome then { s1 with tide := { s1.tide with step := if off < 0 then some (-off) else none, slew := if off < 0 then 0 else -off } } else s1
    if (t.state = 1 ∨ t.state = 3) ∧ 16 ≤ good then s2.tideState 2 else s2

/-- The delay request (1) or peer-delay request (2) that follows a synchronisation message, by the same transport and timestamped on
transmission; over IPv6 it leaves from entry 0 (R366, R377). -/
def State.askDelay (s : State) (p : PtpMsg) (domain : Nat) : State :=
  s.sendVia (if p.transport = 0 then some 0 else none) ⟨12, p.transport, if p.e2e then 1 else 2, toBytes 1 domain ++ toBytes 8 s.tide.count⟩

/-- PTP_SYNC (R303, R304, R377): a synchronisation message of a one-step or two-step master arrives over one of the three transports,
with the frame checks of R365 to R367; PTP uses the uncontrolled port (R370). The device then asks for the path delay. -/
def execPtpSync (p : PtpMsg) (domain : Nat) (s : State) : Host.Outcome State Fault Refusal :=
  .next (if s.tide.disc = false ∨ domain ≠ s.tide.domain ∨ 3 ≤ p.transport ∨ s.power.porst = false ∨ s.port.link.isNone then s
    else s.frameIn p.wire true none (fun t => (t.synchronise p.time).askDelay p domain))

/-- HOLDOVER_TIMEOUT (R303): no synchronisation message for 2 s while LOCKED. -/
def execHoldoverTimeout (s : State) : Host.Outcome State Fault Refusal :=
  .next (match s.tide.lastSync with
    | some k =>
      if s.tide.state = 2 ∧ k + 2000000000 ≤ s.tide.count then
        ({ s with tide := { s.tide with good := 0 } }).tideState 3
      else s
    | none => s)

/-- DEFERRED_TIDE_STEP (R304): a step that waited is made once no lagoon is RUNNING and no launch is pending. -/
def execDeferredTideStep (s : State) : Host.Outcome State Fault Refusal :=
  .next (match s.tide.step with
    | some d => if s.tideFree then s.stepTide d.toNat else s
    | none => s)

/-- The multiple of 10^9 nearest to a count: the count of a pulse (R305, DEDUCED 26). -/
def pulseCount (n : Nat) : Nat := (n + 500000000) / 1000000000 * 1000000000

/-- PPS_EDGE (R305): a rising edge of the 1PPS input, which is present from its first edge on (DESIGN CHOICE 109). -/
def execPpsEdge (s : State) : Host.Outcome State Fault Refusal :=
  .next (
    let t := s.tide
    if t.ppsOn = false ∨ s.power.porst = false then s
    else
      let n := pulseCount t.count
      let s1 := { s with tide := { t with ppsSeen := true, ppsFirst := false } }
      if t.ppsFirst ∧ t.count < n ∧ s.tideFree = true then s1.stepTide (n - t.count)
      else { s1 with tide := { s1.tide with slew := (n : Int) - t.count } })

end Sys2Proof.Machine
end

