-- ==== Sys2Proof/Machine/Records.lean ====
section
/-! DEFINITION. Launches, the power guard, run records and the run-record builder (R307, R308, R310 to R336, R349, R352
to R357). -/

namespace Sys2Proof.Machine

/-! ## The load-time state of a core (R349) -/

/-- The core as its load left it: everything that a run may change is back at its load-time value (R348, R349), with the
key of the run in VRKEY0 and VRKEY1 (R128, R324). -/
def Core.atLoad (k : Core) (seed : Nat) : Core :=
  { Core.blank with
    img := k.img
    ex := { Seq.blank with addr := k.img.entryX }
    ac := { Seq.blank with addr := k.img.entryA }
    queues := (k.queues.map (fun p => (p.1, { Queue.blank with cfg := p.2.cfg }))).filter (fun p => decide (p.2 ≠ Queue.blank))
    buoys := (k.buoys.map (fun p => (p.1, { Buoy.blank with cfg := p.2.cfg }))).filter (fun p => decide (p.2 ≠ Buoy.blank))
    tallies := (k.tallies.map (fun p => (p.1, { Tally.blank with consumer := p.2.consumer }))).filter (fun p => decide (p.2 ≠ Tally.blank))
    csr := { k.csr with
      dp := k.img.profiles, vrkey0 := BitVec.ofNat 32 (bits seed 0 32), vrkey1 := BitVec.ofNat 32 (bits seed 32 32), vrstep := 0, vrbase := 0 }
    pilot := { Pilot.blank with
      pc := k.img.entryP, imem := k.pilot.imem, dmem := k.img.data0, snap := ⟨0, k.img.profiles, 0, 0⟩
      x := Sparse.set 0 [] 2 (BitVec.ofNat 32 (0x100000 + 0x40000 / k.img.fold)) } }

/-! ## The power guard (R354) -/

/-- A virtual core's place in ascending 32y + x order, and its number of the grid's cores. -/
def gridIndex (gx v : Nat) : Nat := v / 32 * gx + v % 32

/-- The bucket of a virtual core at the start of a window: floor(ALLOW / n) of the plan for the mode in force (R354). -/
def State.allowance (s : State) (c : CoreId) : Nat :=
  let x := s.lagoon c.lagoon
  match x.img with
  | none => 0
  | some im =>
    match im.plans.find? (fun p => p.mode == x.cfg.pmode) with
    | some p => p.allow.getD (gridIndex im.gx c.v) 0 / s.contexts c
    | none => 0

/-- Set a virtual core's bucket to its allowance × r / 256. -/
def State.fillBucket (l r : Nat) (s : State) (v : Nat) : State :=
  s.setCore ⟨l, v⟩ { s.core ⟨l, v⟩ with guardLu := s.allowance ⟨l, v⟩ * r / 256 }

/-- GUARD_WINDOW (R354): a new window of a region starts, its pacers running; each context's bucket is set anew. -/
def execGuardWindow (r : Nat) (s : State) : Host.Outcome State Fault Refusal :=
  .next (match s.regionOwner r with
    | none => s
    | some l =>
      if (s.region r).state = 0 ∧ s.power.state = 0 then
        ((s.vcores l).filter (fun v => s.coreRegion ⟨l, v⟩ == r)).foldl (State.fillBucket l 256) s
      else s)

/-! ## Launch (R307, R308, R349) -/

/-- TAINT flags that hold at a launch (Table 9 of spec/10). -/
def State.launchTaint (s : State) (l : Nat) : Nat :=
  let x := s.lagoon l
  let d := s.debugLevel l
  b2n (decide (2 ≤ d)) + 2 * b2n (decide (3 ≤ d)) + 4 * b2n x.dbgWrite + 8 * b2n x.late +
    32 * b2n x.unproven + 64 * b2n (s.keeper.stepping == 0xA0)

/-- Add TAINT flags to a lagoon's run, and to its record where it waits for the builder. -/
def State.taint (s : State) (l flag : Nat) : State :=
  let x := s.lagoon l
  s.setLagoon l { x with
    run := x.run.map (fun r => { r with taint := r.taint ||| flag })
    record := x.record.map (fun r => { r with bytes := r.bytes ||| BitVec.ofNat 4608 (flag * 2 ^ 64) }) }

/-- Every core of the lagoon returns to its load-time state, and what stacks, barriers and combining queues keep of a
run is cleared (R349). -/
def State.reinitialise (s0 : State) (l seed : Nat) : State :=
  let own (p : Nat) : Bool := s0.regionOwner (physRegion (p / 2)) == some l
  let s : State := { s0 with
    ferry := s0.ferry.filter (fun p => !own p.1), fabric := { s0.fabric with ferry := s0.fabric.ferry.filter (fun p => !own p.1) } }
  let x := s.lagoon l
  let s1 := (s.clearMarks (fun p => x.place.any (fun q => q.phys == p)) (fun u => !keptUnit u)).mapCores l (fun k => k.atLoad seed)
  let s2 := s1.setLagoon l { x with
    barriers := x.barriers.map (fun b => { b with episodes := 0 })
    combs := x.combs.map (fun q => { q with round := 0, added := 0, shape := (0, 0), sum := [], flags := 0, store := [] })
    msgs := [] }
  (s.ownStacks l).foldl (fun a n => a.setStack n { (a.stack n).discard with reefstat := 0 }) s2

/-- Set the buckets of a launch: r periods are left in each region's window, a free value (R354, DESIGN CHOICE 8). -/
def State.firstBuckets (s : State) (l : Nat) : State :=
  let (n, s1) := s.draw
  (s1.vcores l).foldl (fun a v => State.fillBucket l (1 + Config.windowLeft (18 * n + s.coreRegion ⟨l, v⟩) % 256) a v) s1

/-- Start a launched run: its number is drawn, the lagoon is RUNNING, and each core issues beat 0 if it can. -/
def State.beginRun (s : State) (l : Nat) (p : Launch) : State :=
  let n := s.counter 0
  let s1 := (s.setCounter 0 (n + 1)).reinitialise l p.runseed
  let x := s1.lagoon l
  let r : Run := ⟨n, p.runseed, p.seeds, p.nseed, x.cfg.pmode, x.cfg.steady, s.counter 6, s.launchTaint l, 0, 0, p.ref, p.service⟩
  let s2 := (s1.setLagoon l { x with launch := x.launch.erase p, run := some r, late := false, progress := s.tide.count, stopping := false, dead := x.dead }).moveLagoon l .running
  let s3 := s2.firstBuckets l
  (s3.vcores l).foldl (fun a v => a.seqIssue ⟨l, v⟩ .execute) s3

/-- Whether the lagoon's image carries a plan for the power mode in force (R357). -/
def State.planFor (s : State) (l : Nat) : Bool :=
  let x := s.lagoon l
  (x.img.map (fun im => im.plans.any (fun p => p.mode == x.cfg.pmode))).getD false

/-- The pending launch whose count comes first; of equal counts the one set first. -/
def Lagoon.nextLaunch (x : Lagoon) : Option Launch :=
  x.launch.find? (fun p => x.launch.all (fun q => p.count ≤ q.count))

/-- LAUNCH (R307, R308): the tide has reached the count of a lagoon's first launch. Where SETMODE has meanwhile put a mode in force for
which the image carries no plan, the launch is refused as START is (R43, R357). -/
def execLaunch (l : Nat) (s : State) : Host.Outcome State Fault Refusal :=
  let x := s.lagoon l
  .next (match x.nextLaunch with
    | none => s
    | some p =>
      if x.st = .loaded ∧ x.sealed = true ∧ p.count ≤ s.tide.count ∧ s.power.state = 0 ∧ s.power.move.isNone ∧ s.power.cause = 0 then
        if s.planFor l = false then
          ((s.setLagoon l { x with launch := x.launch.erase p }).raise 0x1402 2 (argV 0 x.cfg.pmode) 0 (some l) none).answerOpt p.ref 0x0C x.cfg.pmode 0x1402 []
        else if p.reqlock ∧ s.tide.state ≠ 2 then
          ((s.setLagoon l { x with launch := x.launch.erase p }).raise 0x4303 2 (s.tidestat * 2 ^ 32 + s.tidestat) 0 (some l) none).answerOpt
            p.ref 0x0B s.tidestat 0x4303 []
        else s.beginRun l p
      else s)

/-! ## Roots (R328, R329) -/

/-- The leaves of 1 MiB of a region, as program address and length (R328). -/
def Span.leaves (r : Span) : List (Nat × Nat) :=
  (List.range ((r.len + 2 ^ 20 - 1) / 2 ^ 20)).map (fun i => (r.start + i * 2 ^ 20, min (2 ^ 20) (r.len - i * 2 ^ 20)))

/-- The digest of a leaf: that of its DIGEST record where the stack hashed it, else the harbour's own (R330). -/
def State.leafOf (s : State) (l : Nat) (got : List (Nat × Digest)) (p : Nat × Nat) : Digest :=
  match got.find? (fun g => g.1 == leafKey p.1 p.2) with
  | some g => g.2
  | none => leafDigest (s.readProg l p.1 p.2)

/-- The root over declared regions of a lagoon (R329), with the leaf digests that its stacks have given. -/
def State.regionRoot (s : State) (l : Nat) (got : List (Nat × Digest)) (rs : List Span) : Digest :=
  sha384 (3 :: toBytes 8 rs.length ++ rs.flatMap (fun r =>
    toBytes 8 r.start ++ toBytes 8 r.len ++ digestBytes (hashTree 64 (r.leaves.map (s.leafOf l got)))))

/-- Input regions (KIND input or both) and output regions (KIND output or both), in header order. -/
def Image.inputs (im : Image) : List Span := im.regions.filter (fun r => r.kind = 0 ∨ r.kind = 2)
def Image.outputs (im : Image) : List Span := im.regions.filter (fun r => r.kind = 1 ∨ r.kind = 2)
def Image.live (im : Image) : List Span := im.regions.filter (fun r => r.kind = 3)

/-- The leaf digests that a lagoon's hashing of its outputs, or of its inputs, has collected. -/
def Lagoon.digests (x : Lagoon) (outs : Bool) : List (Nat × Digest) :=
  ((x.hashing.filter (fun h => h.outs == outs)).map (·.got)).getD []

/-- OUTROOT and INROOT of a lagoon's loaded image. -/
def State.outRoot (s : State) (l : Nat) : Digest :=
  s.regionRoot l ((s.lagoon l).digests true) (((s.lagoon l).img.map Image.outputs).getD [])
def State.inRoot (s : State) (l : Nat) : Digest :=
  s.regionRoot l ((s.lagoon l).digests false) (((s.lagoon l).img.map Image.inputs).getD [])

/-- Begin the hashing of regions: the DIGEST records of their leaves in HBM are posted as their stacks find room (R330, R211). -/
def State.beginHash (s : State) (l : Nat) (outs : Bool) (rs : List Span) : State :=
  let ps := ((rs.flatMap Span.leaves).filter (fun p => (s.translate l p.1).any (fun d => decide (d < ddrBase)))).eraseDups
  (s.setLagoon l { s.lagoon l with hashing := some ⟨outs, ps, ps.length, []⟩ }).postLeaves l

/-- Whether every leaf digest that a hashing of outputs, or of inputs, asked for has come. -/
def Lagoon.hashed (x : Lagoon) (outs : Bool) : Bool :=
  x.hashing.any (fun h => h.outs == outs && h.got.length == h.want)

/-! ## The run record (R327, Table 8 of spec/10) -/

/-- FOLD: the number of contexts on one core that the image declares, FOLDMAX, which every placement shares (R312, DEDUCED 88). -/
def foldCode (n : Nat) : Nat := if n = 4 then 2 else if n = 2 then 1 else 0

/-- Totals of the ledgers of a lagoon's virtual cores (R331). -/
def State.causeTotal (s : State) (l cause : Nat) : Nat :=
  ((s.vcores l).map (fun v => (Sparse.get ⟨0, 0⟩ (s.core ⟨l, v⟩).ledger.causes cause).ticks)).sum

/-- The record of a lagoon's run, from its state and the root of its outputs. -/
def State.recordWord (s : State) (l : Nat) (r : Run) (outroot : Digest) : BitVec 4608 :=
  let x := s.lagoon l
  let im := x.img
  let ls := (s.vcores l).map (fun v => s.core ⟨l, v⟩)
  let started := ls.filter (fun k => 0 < k.beat)
  let tstart := match started.map (fun k => k.ledger.tstart) with | [] => 0 | t :: ts => ts.foldl min t
  let tend := (started.map (fun k => k.ledger.tend)).foldl max 0
  let fw := s.boot.running
  BitVec.ofNat 4608 (
    x.prevrun % 2 ^ 64 * 2 ^ 4544 + ((im.map (·.mapdig.toNat)).getD 0) * 2 ^ 4160 + outroot.toNat * 2 ^ 3776 +
    x.inroot.toNat * 2 ^ 3392 + ((im.map (·.imgroot.toNat)).getD 0) * 2 ^ 3008 + ((im.map (·.libdig.toNat)).getD 0) * 2 ^ 2624 +
    ((fw.map (·.dig.toNat)).getD 0) * 2 ^ 2240 +
    ((List.range 18).map (fun k => s.causeTotal l (k + 1) % 2 ^ 64 * 2 ^ (1088 + 64 * k))).sum +
    (ls.map (·.beat)).foldl max 0 % 2 ^ 64 * 2 ^ 1024 + r.cycle % 2 ^ 64 * 2 ^ 960 + ((im.map (·.libver)).getD 0) % 2 ^ 32 * 2 ^ 928 +
    ((fw.map (·.ver)).getD 0) % 2 ^ 32 * 2 ^ 896 +
    ((List.range 8).map (fun k => r.seeds.getD k 0 % 2 ^ 64 * 2 ^ (384 + 64 * k))).sum +
    r.runseed % 2 ^ 64 * 2 ^ 320 + tend % 2 ^ 64 * 2 ^ 256 + tstart % 2 ^ 64 * 2 ^ 192 + r.runno % 2 ^ 64 * 2 ^ 128 +
    r.event % 2 ^ 16 * 2 ^ 112 + r.ended % 2 ^ 16 * 2 ^ 96 + r.taint % 2 ^ 32 * 2 ^ 64 + r.nseed % 16 * 2 ^ 56 +
    s.keeper.grade % 256 * 2 ^ 48 + s.keeper.stepping % 256 * 2 ^ 40 + r.pmode % 4 * 2 ^ 38 + b2n r.steady * 2 ^ 37 +
    b2n ((im.map (·.split)).getD false) * 2 ^ 36 + b2n ((im.map (·.rngFree)).getD false) * 2 ^ 35 +
    foldCode ((im.map (·.fold)).getD 1) * 2 ^ 33 + (((im.map (·.gx)).getD 1) - 1) % 32 * 2 ^ 28 +
    (((im.map (·.gy)).getD 1) - 1) % 16 * 2 ^ 24 + l % 8 * 2 ^ 16 + 1)

/-- Whether the builder can take a record (R332, R335, R336). -/
def Builder.room (b : Builder) : Bool := b.openRecs.length < 65536 && !b.closed.any (·.lost)

/-- Every record that finds no room waits, and raises 0x6403 once for its wait (R336, R339). -/
def State.backlogged (s : State) : State :=
  if s.builder.room then s
  else (List.range 8).foldl (fun (a : State) l =>
    match (a.lagoon l).record with
    | some r =>
      if a.builder.waiting.contains l then a
      else ({ a with builder := { a.builder with waiting := a.builder.waiting ++ [l] } }).raise 0x6403 0 r.runno 0 (some l) none
    | none => a) s

/-- Build the record of a lagoon's ended run (R327). CORRELATED_REPLICA is set while a correlated pairing is in force (R450). -/
def State.buildRecord (s : State) (l : Nat) (r0 : Run) : State :=
  let x := s.lagoon l
  let r : Run := { r0 with taint := r0.taint ||| (if (x.pair.map (·.correlated)).getD false then 16 else 0) }
  (s.setLagoon l { x with
    record := some ⟨r.runno, l, s.recordWord l r (s.outRoot l), r.ended, r.event, none⟩, hashing := none }).backlogged

/-- Whether an engine of a core whose run has ended can still do what its program asked for: a PUT or a MOVE can release
its next transaction, a marker can be matched, a posted fence completed or a message sent. -/
def State.canGoOn (s : State) (c : CoreId) : Bool :=
  let k := s.core c
  k.ops.any (fun o =>
    match o.kind, o.nextTxn with
    | 2, some t => s.mayRelease c o t && (match k.prepare o t with | .wait _ _ => false | _ => true)
    | 3, some t => s.mayRelease c o t && (match k.prepare o t with | .wait _ _ => false | _ => true)
    | 5, _ => (match k.streamQmatch o.first with | .wait _ _ => false | _ => true)
    | _, _ => false) ||
    k.fences.any k.fenceReady || (s.sends c && (List.range 16).any (fun n => (s.sendHead c n 0).isSome))

/-- Whether a run's transactions, messages and reef records have all taken effect, so that its outputs can be hashed. The
engines of a run that has been stopped (END 2) begin nothing more. -/
def State.outputsReady (s : State) (l : Nat) : Bool :=
  let stopped := ((s.lagoon l).run.map (fun r => r.ended == 2)).getD false
  (s.lagoon l).msgs.isEmpty && (s.ownStacks l).all (fun n => (s.stack n).recs.all (·.harbour)) &&
    (s.vcores l).all (fun v => (s.core ⟨l, v⟩).ops.all (fun o => o.txns.all (fun t => t.state == 0 || t.state == 3)) &&
      (stopped || !s.canGoOn ⟨l, v⟩))

/-- The first atom marked bad that a lagoon's output regions meet (R488). -/
def State.outputBad (s : State) (l : Nat) : Option Nat :=
  let ps := (((s.lagoon l).img.map Image.outputs).getD []).flatMap Span.leaves
  s.rel.bad.find? (fun a => ps.any (fun p =>
    (s.translate l p.1).any (fun d => decide (64 * a < d + p.2) && decide (d < 64 * a + 64))))

/-- Build a lagoon's record once its outputs have been hashed. -/
def State.recordHashed (s : State) (l : Nat) (r : Run) : State := if (s.lagoon l).hashed true then s.buildRecord l r else s

/-- OUTPUT_HASH_DONE (R327, R330, R336): the outputs of a run that has ended are hashed, their leaves in HBM by the stacks, and its
record is built once the last digest has come. Where the builder is full the record waits, with event 0x6403. An output atom marked
bad ends a DRAINING lagoon's run in FAULTED first (R488). -/
def execOutputHashDone (l : Nat) (s : State) : Host.Outcome State Fault Refusal :=
  .next (
    let x := s.lagoon l
    match x.run with
    | none => s
    | some r =>
      if x.record.isSome ∨ !(x.st = .faulted ∨ (x.st = .draining ∧ s.outputsReady l)) then s
      else if (x.hashing.map (·.outs)) = some true then s.recordHashed l r
      else match x.st, s.outputBad l with
        | .draining, some a => s.meetBad a l none
        | _, _ => (s.beginHash l true ((x.img.map Image.outputs).getD [])).recordHashed l r)

/-! ## The builder (R332, R333) -/

/-- The leaf of a record in its batch's tree (R332). -/
def RunRec.leaf (r : RunRec) : Digest := sha384 (4 :: toBytes 576 r.bytes.toNat)

/-- Close the open batch: its number stays, its tide of closing is now (R333). -/
def State.closeBatch (s : State) : State :=
  let b := s.builder
  if b.openRecs.isEmpty ∨ 4 ≤ b.closed.length then s
  else
    let c : Batch := ⟨b.openNo, b.openRecs, b.topen, s.tide.count, 0, [], [], false⟩
    { s with builder := { b with openRecs := [], closed := b.closed ++ [c] } }

/-- Accept a lagoon's waiting record into the open batch, which opens with the next BATCHNO if none is (R332). -/
def State.acceptRecord (s : State) (l : Nat) (r : RunRec) : State :=
  let b := s.builder
  let s1 := if b.openRecs.isEmpty then s.setCounter 1 (s.counter 1 + 1) else s
  let b1 := if b.openRecs.isEmpty then { b with openNo := s1.counter 1, topen := s.tide.count } else b
  let r1 := { r with ref := some (b1.openNo, b1.openRecs.length) }
  let b2 := { b1 with openRecs := b1.openRecs ++ [r1], waiting := b1.waiting.filter (fun k => k != l) }
  let mine := (s1.runs.filter (fun q => q.lagoon = l)).length
  let old := if 1024 ≤ mine then (s1.runs.filter (fun q => q.lagoon = l)).getLast? else none
  let kept : List RunRec := s1.runs.filter (fun q => decide (some q ≠ old))
  let s2 : State := { s1 with builder := b2, runs := r1 :: kept }
  let s3 : State := s2.setLagoon l { s2.lagoon l with run := none, record := none, prevrun := r.runno }
  let y : Lagoon := s3.lagoon l
  let s4 : State := if y.st = .draining then s3.moveLagoon l .loaded else s3
  (if 65536 ≤ b2.openRecs.length then s4.closeBatch else s4).backlogged

/-- Whether an earlier run's record must be accepted before a lagoon's (R336): runs end in order of tide, then lagoon. -/
def State.behind (s : State) (l : Nat) : Bool :=
  let t := (s.lagoon l).stopTide
  (List.range 8).any (fun k =>
    let y := s.lagoon k
    k != l && y.run.isSome && y.st != .running && y.st != .paused && (decide (y.stopTide < t) || (y.stopTide == t && decide (k < l))))

/-- BATCH_WINDOW_EXPIRY (R333): BATCHWIN ticks have passed since the open batch's first record. -/
def execBatchWindowExpiry (s : State) : Host.Outcome State Fault Refusal :=
  .next (if s.builder.topen + s.builder.batchwin ≤ s.tide.count then s.closeBatch else s)

/-- The header of a batch (Table 10 of spec/10). -/
def State.batchHeader (s : State) (b : Batch) : BitVec 1536 :=
  let root := if b.lost then 0 else (hashTree b.recs.length (b.recs.map RunRec.leaf)).toNat
  BitVec.ofNat 1536 (s.builder.prev.toNat * 2 ^ 1088 + root * 2 ^ 704 + devId.toNat * 2 ^ 320 + b.tclose % 2 ^ 64 * 2 ^ 256 +
    b.topen % 2 ^ 64 * 2 ^ 192 + ((b.recs.head?.map (·.runno)).getD 0) % 2 ^ 64 * 2 ^ 128 + b.no % 2 ^ 64 * 2 ^ 64 +
    b.recs.length % 2 ^ 32 * 2 ^ 32 + b2n b.lost * 2 ^ 16 + 1)

/-- Reserve LMS leaves so that one can be used (R463, R464): a block when none is held, the next when 512 remain. -/
def State.reserveLeaves (s : State) : State :=
  let k := s.keeper
  if k.leaf = k.leafEnd ∧ s.counter 3 < 2 ^ 40 then
    let n := s.counter 3
    let s1 := s.setCounter 3 (n + 1024)
    { s1 with keeper := { s1.keeper with leaf := n, leafEnd := n + 1024 } }
  else s

/-- Reserve the next block when 512 leaves of the blocks held remain (R464). -/
def State.reserveNext (s : State) : State :=
  let k := s.keeper
  if k.leafEnd = k.leaf + 512 ∧ s.counter 3 < 2 ^ 40 then
    let s1 := s.setCounter 3 (s.counter 3 + 1024)
    { s1 with keeper := { s1.keeper with leafEnd := k.leafEnd + 1024 } }
  else s

/-- LMS_LOW when the leaves that remain become fewer than 2^32 (R465). -/
def State.leafLow (s : State) (before : Nat) : State :=
  let low (n : Nat) : Bool := decide (2 ^ 40 < n + 2 ^ 32)
  if low s.keeper.leaf && !low before then s.notice 0x6501 (s.argK 0 0) else s

/-- LMS_LOW, and LMS_EXHAUSTED when counter 3 has reached 2^40 (R465). -/
def State.leafEvents (s : State) (before : Nat) : State :=
  let s1 := s.leafLow before
  if 2 ^ 40 ≤ s1.counter 3 ∧ s1.builder.stopped = false then
    ({ s1 with builder := { s1.builder with stopped := true } }).notice 0x6502 (s1.argK 0 0)
  else s1

/-- The bytes of a batch as object 0x07 and sinks give it: all records, or one lagoon's with their indices (R421). -/
def Batch.bytes (b : Batch) (lag : Option Nat) : List Byte :=
  let recs := match lag with
    | none => b.recs.flatMap (fun r => toBytes 576 r.bytes.toNat)
    | some l => ((List.range b.recs.length).filterMap (fun i =>
        match b.recs[i]? with
        | some r => if r.lagoon = l then some (toBytes 4 i ++ toBytes 576 r.bytes.toNat) else none
        | none => none)).flatten
  toBytes 192 b.header.toNat ++ toBytes 4 b.ecdsa.length ++ b.ecdsa ++ toBytes 4 b.lms.length ++ b.lms ++ recs

/-- Sign the oldest closed batch (R333, R335, R463): its header enters the PREV chain and it joins the signed batches, of
which 16 stay, and those that a harbour sink has not yet received. -/
def State.signBatch (s : State) (b : Batch) : State :=
  let before := s.keeper.leaf
  let s1 := s.reserveLeaves
  let leaf := s1.keeper.leaf
  let h := s1.batchHeader b
  let hb := toBytes 192 h.toNat
  let b1 : Batch := { b with header := h, ecdsa := s1.keeper.signE hb, lms := signL leaf hb }
  let kept := (b1 :: s1.builder.signed).take 16 ++
    ((b1 :: s1.builder.signed).drop 16).filter (fun c => s1.sinks.any (fun k => k.owner == 8 && k.queue.contains c.no))
  let s2 := { s1 with
    keeper := { s1.keeper with leaf := leaf + 1 }
    builder := { s1.builder with closed := s1.builder.closed.tail, signed := kept, prev := sha384 hb } }
  let s3 := ((s2.setCounter 2 b.no).reserveNext).leafEvents before
  let s4 := if b.lost then s3.notice 0x6402 b.no else s3.notice 0x6401 b.no
  s4.send ⟨8, 0, b.no, b1.bytes none⟩

end Sys2Proof.Machine
end

