-- ==== Sys2Proof/Machine/LoadFile.lean ====
section
/-! DEFINITION. The program image: its header, section table and sections, and the list sections (R340 to R345, R526),
and library packages (R529). -/

namespace Sys2Proof.Machine

/-! ## The file (R340 to R343) -/

/-- A section of a file (Table 2 of spec/11), with its index in the table. -/
structure Section where
  idx   : Nat
  typ   : Nat
  all   : Bool
  vcore : Nat
  off   : Nat
  len   : Nat
  rsvd  : Nat
  deriving DecidableEq, Repr

/-- A file as read: its bytes, its 128-byte header as a number, and its sections. -/
structure Hpi where
  bytes : List Byte
  hdr   : Nat
  secs  : List Section
  deriving DecidableEq, Repr

/-- n bytes of a byte string from an offset, as far as it reaches. -/
def slice (bs : List Byte) (off n : Nat) : List Byte := (bs.drop off).take n

/-- The little-endian number of n bytes of a byte string at an offset. -/
def numAt (bs : List Byte) (off n : Nat) : Nat := ofBytes (slice bs off n)

/-- Entry i of the section table at `tab`. -/
def sectionAt (bs : List Byte) (tab i : Nat) : Section :=
  let w := numAt bs (tab + 32 * i) 32
  { idx := i, typ := bits w 0 16, all := bit w 22, vcore := bits w 23 9, off := bits w 128 64, len := bits w 192 64
    rsvd := bits w 16 6 + bits w 32 96 }

def Hpi.imglen (f : Hpi) : Nat := bits f.hdr 576 64
def Hpi.sectoff (f : Hpi) : Nat := bits f.hdr 544 32
def Hpi.nsect (f : Hpi) : Nat := bits f.hdr 528 16
def Hpi.libver (f : Hpi) : Nat := bits f.hdr 480 32
def Hpi.libdig (f : Hpi) : Digest := BitVec.ofNat 384 (bits f.hdr 640 384)
def Hpi.pentry (f : Hpi) : Nat := bits f.hdr 416 32
def Hpi.nstk (f : Hpi) : Nat := bits f.hdr 392 8
def Hpi.nddr (f : Hpi) : Nat := bits f.hdr 384 8
def Hpi.pmodes (f : Hpi) : Nat := bits f.hdr 25 3
def Hpi.fwsigned (f : Hpi) : Bool := bit f.hdr 24
def Hpi.rngFree (f : Hpi) : Bool := bit f.hdr 23
def Hpi.foldCode (f : Hpi) : Nat := bits f.hdr 21 2
def Hpi.fold (f : Hpi) : Nat := 2 ^ f.foldCode
def Hpi.smu (f : Hpi) : Bool := bit f.hdr 20
def Hpi.sms (f : Hpi) : Bool := bit f.hdr 19
def Hpi.gx (f : Hpi) : Nat := bits f.hdr 14 5 + 1
def Hpi.gy (f : Hpi) : Nat := bits f.hdr 10 4 + 1

/-- The virtual cores of the grid, ascending 32y + x (R20). -/
def Hpi.vcores (f : Hpi) : List Nat := (List.range 512).filter (fun v => v % 32 < f.gx && v / 32 < f.gy)

/-- Read a file from its bytes. -/
def Hpi.parse (bs : List Byte) : Hpi :=
  let h := numAt bs 0 128
  let f : Hpi := ⟨bs, h, []⟩
  { f with secs := (List.range f.nsect).map (sectionAt bs f.sectoff) }

/-- The bytes of a section. -/
def Hpi.content (f : Hpi) (s : Section) : List Byte := slice f.bytes s.off s.len

/-- Sections of a type, in table order. -/
def Hpi.ofType (f : Hpi) (t : Nat) : List Section := f.secs.filter (fun s => s.typ == t)

/-- The section of core scope that a virtual core takes (R343). -/
def Hpi.coreSec (f : Hpi) (t v : Nat) : Option Section :=
  match (f.ofType t).find? (fun s => !s.all && s.vcore == v) with
  | some s => some s
  | none => (f.ofType t).find? (fun s => s.all)

/-- Its bytes, none where the virtual core has no such section. -/
def Hpi.coreBytes (f : Hpi) (t v : Nat) : List Byte := ((f.coreSec t v).map f.content).getD []

/-- The bytes of an image-scope section. -/
def Hpi.imageBytes (f : Hpi) (t : Nat) : List Byte := (((f.ofType t).head?).map f.content).getD []

/-- Types of core scope and of image scope (Table 3 of spec/11). -/
def coreTypes : List Nat := [0x01, 0x02, 0x03, 0x04, 0x05, 0x06, 0x07, 0x08, 0x09, 0x0A, 0x0B]
def imageTypes : List Nat := [0x10, 0x11, 0x12, 0x13, 0x14, 0x15, 0x16, 0x17, 0x20]

/-! ## Words of a section -/

/-- n little-endian words of w bytes from the start of a byte string. -/
def wordsOf (w : Nat) : Nat → List Byte → List Nat
  | 0, _ => []
  | n + 1, bs => ofBytes (bs.take w) :: wordsOf w n (bs.drop w)

/-- The syllables of a code section. -/
def syllables (bs : List Byte) : List Nat := wordsOf 8 (bs.length / 8) bs

/-- One QCFG, BUOYCFG, envelope, handler, descriptor or CORECFG word of a virtual core; 0 where no section supplies it. -/
def Hpi.qcfg (f : Hpi) (v n : Nat) : Nat := numAt (f.coreBytes 0x08 v) (4 * n) 4
def Hpi.buoycfg (f : Hpi) (v n : Nat) : Nat := numAt (f.coreBytes 0x09 v) (4 * n) 4
def Hpi.consumers (f : Hpi) (v : Nat) : Nat := numAt (f.coreBytes 0x09 v) 256 4
def Hpi.envelope (f : Hpi) (v n : Nat) : Nat := numAt (f.coreBytes 0x0A v) (8 * n) 8
def Hpi.handler (f : Hpi) (v n : Nat) : Nat := numAt (f.coreBytes 0x0A v) (2048 + 8 * n) 8
def Hpi.desc (f : Hpi) (v n : Nat) : BitVec 768 := BitVec.ofNat 768 (numAt (f.coreBytes 0x07 v) (96 * n) 96)
def Hpi.ndesc (f : Hpi) (v : Nat) : Nat := (f.coreBytes 0x07 v).length / 96
def Hpi.corecfg (f : Hpi) (v : Nat) : Nat := numAt (f.coreBytes 0x0B v) 0 32

/-! ## List sections (R526) -/

/-- The call words of a CALLS section, its variant lists and their count words. -/
structure Calls where
  calls    : List Nat
  variants : List (List Nat)
  counts   : List Nat
  deriving DecidableEq, Repr

def Calls.none : Calls := ⟨[], [], []⟩

/-- n variant lists with their count words, and the bytes after them; none where they overrun. -/
def variantLists : Nat → List Byte → Option (List (Nat × List Nat) × List Byte)
  | 0, bs => some ([], bs)
  | n + 1, bs =>
    let w := numAt bs 0 4
    let k := w % 256
    if bs.length < 4 + 4 * k then none
    else (variantLists n (bs.drop (4 + 4 * k))).map (fun r => ((w, wordsOf 4 k (bs.drop 4)) :: r.1, r.2))

/-- Read a CALLS section; none where its entries overrun or leave bytes. -/
def parseCalls (bs : List Byte) : Option Calls :=
  let h := numAt bs 0 4
  let nc := h % 65536
  if bs.length < 4 + 4 * nc then none
  else match variantLists (h / 65536) (bs.drop (4 + 4 * nc)) with
    | some (vs, []) => some ⟨wordsOf 4 nc (bs.drop 4), vs.map Prod.snd, vs.map Prod.fst⟩
    | _ => none

/-- The entries of a BARRIERS section as (number, member count, members with padding); `fuel` bounds the entries. -/
def parseBarriers : Nat → List Byte → Option (List (Nat × Nat × List Nat))
  | _, [] => some []
  | 0, _ => none
  | fuel + 1, bs =>
    let h := numAt bs 0 4
    let n := h / 65536
    let halves := 2 * ((n + 1) / 2)
    let size := 4 + 2 * halves
    if bs.length < size then none
    else (parseBarriers fuel (bs.drop size)).map (fun r => (h % 65536, n, wordsOf 2 halves (bs.drop 4)) :: r)

/-- The entries of an MCAST section as (number, receiver count, sender and receivers with padding). -/
def parseMcast : Nat → List Byte → Option (List (Nat × Nat × List Nat))
  | _, [] => some []
  | 0, _ => none
  | fuel + 1, bs =>
    let h := numAt bs 0 4
    let n := h / 65536
    let halves := 2 * ((n + 2) / 2)
    let size := 4 + 2 * halves
    if bs.length < size then none
    else (parseMcast fuel (bs.drop size)).map (fun r => (h % 65536, n, wordsOf 2 halves (bs.drop 4)) :: r)

/-- The entries of a COMBQ section as (head word, descriptor, contributors with padding). -/
def parseCombq : Nat → List Byte → Option (List (Nat × Nat × List Nat))
  | _, [] => some []
  | 0, _ => none
  | fuel + 1, bs =>
    let h := numAt bs 0 4
    let d := numAt bs 4 8
    let n := bits d 25 10
    let halves := 2 * ((n + 1) / 2)
    let size := 12 + 2 * halves
    if bs.length < size then none
    else (parseCombq fuel (bs.drop size)).map (fun r => (h, d, wordsOf 2 halves (bs.drop 12)) :: r)

def Hpi.calls (f : Hpi) (v : Nat) : Calls := (parseCalls (f.coreBytes 0x04 v)).getD Calls.none
def Hpi.barrierWords (f : Hpi) : List (Nat × Nat × List Nat) := (parseBarriers (f.imageBytes 0x10).length (f.imageBytes 0x10)).getD []
def Hpi.mcastWords (f : Hpi) : List (Nat × Nat × List Nat) := (parseMcast (f.imageBytes 0x11).length (f.imageBytes 0x11)).getD []
def Hpi.combWords (f : Hpi) : List (Nat × Nat × List Nat) := (parseCombq (f.imageBytes 0x12).length (f.imageBytes 0x12)).getD []

/-- The members of a barrier: (virtual core, access sequencer). -/
def Hpi.barrierOf (f : Hpi) (num : Nat) : Option (List (Nat × Bool)) :=
  (f.barrierWords.find? (fun e => e.1 == num)).map (fun e => (e.2.2.take e.2.1).map (fun w => (bits w 0 9, bit w 9)))

/-! ## Windows and plans (R345, R353) -/

/-- A span entry of SHOAL or REGIONS (Table 5 of spec/11). -/
def spanAt (bs : List Byte) (i : Nat) : Span :=
  let w := numAt bs (32 * i) 32
  ⟨bits w 128 64, bits w 192 64, bits w 0 2⟩
def Hpi.spans (f : Hpi) (t : Nat) : List Span :=
  let bs := f.imageBytes t
  (List.range (bs.length / 32)).map (spanAt bs)

/-- PRELOAD spans: the program address and the bytes. -/
def Hpi.preloads (f : Hpi) : List (Nat × List Byte) :=
  (f.ofType 0x17).map (fun s => (numAt (f.content s) 0 8, (f.content s).drop 8))

/-- A PLAN section. -/
def planOf (bs : List Byte) : Plan :=
  let h := numAt bs 0 64
  { mode := bits h 0 2, reefmax := (List.range 20).map (fun p => bits h (352 + 8 * p) 8)
    allow := wordsOf 4 (bits h 16 16) (bs.drop 64) }
def Hpi.plans (f : Hpi) : List Plan := (f.ofType 0x16).map (fun s => planOf (f.content s))

/-! ## Library packages (R529) -/

/-- The parts of a package that a load uses. -/
structure Pack where
  cores  : List Nat          -- core block syllables
  pilot  : List Byte
  caddr  : List Nat          -- CADDR by routine
  calls  : Calls
  deriving DecidableEq, Repr

def Pack.none : Pack := ⟨[], [], [], Calls.none⟩

/-- Read a package. -/
def packOf (bs : List Byte) : Pack :=
  let h := numAt bs 0 64
  let nrout := bits h 64 16
  { cores := wordsOf 8 (bits h 80 16) (bs.drop (bits h 224 32)), pilot := slice bs (bits h 256 32) (bits h 96 32)
    caddr := (List.range nrout).map (fun r => bits (numAt bs (bits h 128 32 + 16 * r) 16) 0 14)
    calls := (parseCalls (slice bs (bits h 192 32) (bits h 160 32))).getD Calls.none }

/-- The triple in a package's header, and whether its layout holds (R529). -/
def packTriple (bs : List Byte) : Nat := bits (numAt bs 0 64) 32 32
def packOk (bs : List Byte) : Bool :=
  let h := numAt bs 0 64
  64 ≤ bs.length && bits h 0 32 == 0x31424C48 && bits h 320 192 == 0 &&
    ([bits h 128 32, bits h 192 32, bits h 224 32, bits h 256 32, bits h 288 32].all (fun o => o % 64 == 0 && o ≤ bs.length))

/-- The base of the core block and of the pilot block (R529). -/
def Pack.coreBase (p : Pack) : Nat := 16384 - p.cores.length
def Pack.pilotBase (p : Pack) : Nat := 0x20000 - p.pilot.length

/-- Window sizes below the library, each a multiple of 64 bytes (R317): syllables and pilot bytes. -/
def Pack.coreWin (p : Pack) (fold : Nat) : Nat := p.coreBase / fold / 8 * 8
def Pack.pilotWin (p : Pack) (fold : Nat) : Nat := p.pilotBase / fold / 64 * 64

end Sys2Proof.Machine
end

