-- ==== Sys2Proof/Machine/LoadCode.lean ====
section
/-! DEFINITION. Encoding rules of what a program image fixes: syllables, bundles, descriptors, words of tables (R143 to
R150, R173, R175, R186, R197, R243, R248, R253, R256, R257). -/

namespace Sys2Proof.Machine

/-! ## Slots -/

/-- A MATRIX syllable (Table 3 of spec/05, Table 2 of spec/03): reserved bits, an eligible format, no offset with an inbound
queue, and where no register is added, an aligned slot. -/
def matrixOk (x : Nat) : Bool :=
  bits x 32 4 == 0 && bits x 8 2 == 0 && (!bit x 59 || bits x 36 15 == 0) &&
    (match (Fmt.ofTag (bits x 60 4)).acc? (bit x 11) with
      | some k => bits x 51 4 != 0 || bits x 0 8 % k.slots == 0
      | none => false)

/-- A BPATH syllable (Tables 4 of spec/05 and 3 of spec/03). -/
def bpathOk (x : Nat) : Bool :=
  bits x 48 8 == 0 && bits x 31 7 == 0 && bits x 8 8 == 0 &&
    (bits x 46 2 != 3 || (match akind? (bits x 38 3) with
      | some (k, _) => bits x 56 4 != 0 || bits x 0 8 % k.slots == 0
      | none => false))

/-- Formats that a compute opcode's class accepts (Table 3 of spec/04, R134). -/
def vecFmtOk (o : VOp) : Bool :=
  let f := o.fmt
  let fl := f == .fp64 || f == .fp32 || f == .bf16 || f == .fp16
  if o.vop = 0x30 then f != .e8m0 && f != .raw && o.aux < 14
  else if 0x38 ≤ o.vop ∧ o.vop ≤ 0x41 then fl
  else if 0x08 ≤ o.vop ∧ o.vop ≤ 0x15 then f == .int32 || f == .int16 || f == .int8
  else if o.vop = 0x58 then o.aux < 2 || (o.aux < 4 && f.isArith && f != .fp64)
  else if o.vop = 0x28 ∨ (0x50 ≤ o.vop ∧ o.vop ≤ 0x54) then true
  else f.isArith

/-- Registers that a CVT's source and target take, scale registers included (R525). -/
def cvtGroup (f : Fmt) (n : Nat) : Nat := n / f.count + b2n f.isMx

/-- A CVT's groups end by V31, and share no register unless they are the same registers (R525). -/
def cvtOk (o : VOp) : Bool :=
  let src := Fmt.ofTag o.aux
  let n := max src.count o.fmt.count
  let s := cvtGroup src n
  let t := cvtGroup o.fmt n
  o.va + s ≤ 32 && o.vd + t ≤ 32 && ((o.va == o.vd && s == t) || o.va + s ≤ o.vd || o.vd + t ≤ o.va)

/-- Compute opcodes (Table 6 of spec/05). -/
def vecOpcode (n : Nat) : Bool :=
  (1 ≤ n && n ≤ 6) || (8 ≤ n && n ≤ 10) || (0x10 ≤ n && n ≤ 0x15) || n == 0x18 || n == 0x19 || (0x20 ≤ n && n ≤ 0x24) ||
    n == 0x28 || n == 0x30 || (0x38 ≤ n && n ≤ 0x41) || (0x48 ≤ n && n ≤ 0x4A) || (0x50 ≤ n && n ≤ 0x54) || n == 0x58

/-- A VEC syllable. -/
def vecOk (x : Nat) : Bool :=
  let o := VOp.ofSyl (BitVec.ofNat 64 x)
  vecOpcode o.vop && vecFmtOk o && o.rm < 5 && (o.vop != 0x30 || cvtOk o)

/-- Registers a move writes from VD on (R129, R148). -/
def moveRegs (o : VOp) : Nat :=
  if o.vop = 0x84 then (if o.fmt = .fp64 then 2 else 1)
  else if o.vop = 0x85 then (if o.fmt = .raw then 6 else if o.fmt.width * 64 ≤ 2048 then 1 else 2)
  else 1

/-- A VMOVE syllable; SPOP.W takes the tags of Table 6 of spec/04 (R138). -/
def moveOk (x : Nat) : Bool :=
  let o := VOp.ofSyl (BitVec.ofNat 64 x)
  0x80 ≤ o.vop && o.vop ≤ 0x87 && o.rm < 5 && o.vd + moveRegs o ≤ 32 &&
    (o.vop != 0x84 || [0x0, 0x1, 0x2, 0x3, 0x4, 0x5, 0xA, 0xB, 0xC].contains o.fmt.tag)

/-! ## Stream syllables and descriptors (R150, R173, R175) -/

/-- A descriptor (R173, R175, R178): the QCFG words give the far end of the queue it names. -/
def descOk (qcfg : Nat → Nat) (d : BitVec 768) : Bool :=
  if d = 0 then true
  else
    let k := dKind d
    let sf := dBits d 760 4
    let df := dBits d 756 4
    let nd := dNdim d
    let mx := (Fmt.ofTag sf).isMx || (Fmt.ofTag df).isMx
    let q := if k = 1 then dDest d % 16 else 16 + dDest d % 16
    k != 0 && nd != 0 && nd != 7 && (List.range 6).all (fun i =>
        if i < nd then dCount d i != 0 else dCount d i == 0 && dStride d i == 0) &&
      (if k = 3 then dDkind d == 3 else dDkind d != 3) && dBits d 753 3 < 4 &&
      (!(sf == 14 || sf == 15 || df == 14 || df == 15) || sf == df) && !(mx && dDkind d == 2) &&
      !(k == 3 && (Fmt.ofTag sf).isMx && (Fmt.ofTag df).isMx) && (!dPsk d || (k == 1 && dDkind d == 1)) && (dDkind d != 0 || bits (qcfg q) 29 3 == 1) &&
      dBits d 672 76 == 0 && ((dMemFmt d).width != 4 || dStride d 0 == 1)

/-- A STREAM syllable, given its descriptor. -/
def streamOk (desc : Nat → BitVec 768) (x : Nat) : Bool :=
  let d := desc (bits x 48 8)
  bits x 56 8 == 1 && bits x 32 8 == 0 && dKind d != 0 && ((dMemFmt d).width != 4 || bits x 0 32 % 2 == 0)

/-! ## Control operations (Table 2 of spec/05) -/

/-- Streams a control operation may stand in: bundle kinds 1 execute, 2 access, 3 unified. -/
def copKindOk (cop kind : Nat) : Bool := cop ≤ 0x0C || (cop == 0x0D && kind != 1) || cop == 0x10 || cop == 0x11 || cop == 0x1F

/-- The reserved bits and fixed values of a CARG. `nc`, `nv`: sizes of the call and variant tables of its code; `qcfg` its queues,
since a QMARK names an envelope only on an OQ of the message port. -/
def cargOk (qcfg : Nat → Nat) (cop x nc nv : Nat) : Bool :=
  if cop = 0x00 ∨ cop = 0x04 ∨ cop = 0x07 ∨ cop = 0x1F then x == 0
  else if cop = 0x01 then x < 65536
  else if cop = 0x02 then bits x 16 13 != 0 && bits x 16 13 < 8192
  else if cop = 0x03 then x < nc
  else if cop = 0x05 then x < nv
  else if cop = 0x06 then bits x 28 4 != 0 && bits x 16 11 == 0
  else if cop = 0x08 ∨ cop = 0x09 then x < 64
  else if cop = 0x0A then
    bits x 24 2 == 0 && bits x 16 4 == 0 && bits x 30 2 != 3 &&
      (bits x 30 2 == 2 || (bits x 26 4 == 0 && bits x 20 4 == 0 && bits x 6 10 == 0))
  else if cop = 0x0B then bits x 16 16 == 0 && bits x 3 5 == 0 && bits x 0 3 != 0
  else if cop = 0x0C then bits x 11 21 == 0 && bits x 6 2 == 0
  else if cop = 0x0D then bits x 14 2 == 0 && bits x 0 8 == 0 && bits x 16 16 != 0
  else if cop = 0x10 then
    bits x 21 11 == 0 && ((bit x 20 && bits (qcfg (16 + bits x 16 4)) 29 3 == 2) || bits x 8 8 == 0)
  else if cop = 0x11 then bits x 21 11 == 0 && bits x 8 8 == 0
  else false

/-! ## Bundles -/

/-- The bundles of a run of syllables in address order, none where the last one runs past the end (R143). -/
def bundlesOf : Nat → List Nat → Option (List Bundle)
  | _, [] => some []
  | 0, _ => none
  | fuel + 1, w :: ws =>
    let prog : Sparse (BitVec 64) := Sparse.setRun 0 [] 0 ((w :: ws.take 6).map (BitVec.ofNat 64))
    let b := bundleAt prog 0
    if ws.length + 1 < b.size then none else (bundlesOf fuel (ws.drop (b.size - 1))).map (fun r => b :: r)

/-- What the checks of a bundle need of its virtual core and its code. -/
structure CodeEnv where
  kind : Nat
  qcfg : Nat → Nat
  desc : Nat → BitVec 768
  nc   : Nat
  nv   : Nat

def slotsIf (p : Nat → Bool) (w : Option (BitVec 64)) : Bool := (w.map (fun x => p x.toNat)).getD true

/-- A bundle (R144, R145): its kind, the slots and control operation that kind allows, and every syllable. -/
def Bundle.ok (e : CodeEnv) (b : Bundle) : Bool :=
  let exec := b.m.isSome || b.b.isSome || b.v.isSome || b.vm.isSome
  let strm := b.s0.isSome || b.s1.isSome
  b.kind == e.kind && !(e.kind == 1 && strm) && !(e.kind == 2 && exec) && copKindOk b.cop b.kind && b.inc % 2 == 0 &&
    cargOk e.qcfg b.cop b.carg e.nc e.nv && slotsIf matrixOk b.m && slotsIf bpathOk b.b && slotsIf vecOk b.v && slotsIf moveOk b.vm &&
    slotsIf (streamOk e.desc) b.s0 && slotsIf (streamOk e.desc) b.s1

/-- Per-context limits that a bundle's fixed fields must keep (Table 3 of spec/10): tile lines, cache lines and slots. -/
def Bundle.fits (fold : Nat) (b : Bundle) : Bool :=
  let tiles := 32768 / fold
  let caches := 4096 / fold
  let slots := 256 / fold
  slotsIf (fun x => (bit x 59 || bits x 36 15 < tiles) && bits x 0 8 < slots) b.m &&
    slotsIf (fun x => bits x 16 15 < tiles && bits x 0 8 < slots) b.b &&
    slotsIf (fun x =>
      let op := bits x 56 8
      if op = 0x80 ∨ op = 0x81 then bits x 0 16 < caches
      else if op = 0x82 ∨ op = 0x83 then bits x 0 16 < tiles else true) b.vm &&
    slotsIf (fun x => bits x 48 8 < 256 / fold) b.s0 && slotsIf (fun x => bits x 48 8 < 256 / fold) b.s1

/-! ## Queues a bundle uses (R155, R156) -/

/-- Lines per entry of a QCFG word. -/
def qLines (w : Nat) : Nat := bits w 25 4 + 1

/-- The consumers' entry sizes: 1 line for the A feed, 2 for QPOP, EXPAND.Q, QPUSH and COMPRESS.Q; and CANCEL's queues, whose
producer is the stream engine (R197). -/
def Bundle.queuesOk (qcfg : Nat → Nat) (b : Bundle) : Bool :=
  slotsIf (fun x => !bit x 59 || (bits (qcfg (bits x 55 4)) 29 3 != 0 && qLines (qcfg (bits x 55 4)) == 1)) b.m &&
    slotsIf (fun x =>
      let op := bits x 56 8
      let n := bits x 16 4
      if op = 0x53 then bits (qcfg n) 29 3 != 0 && qLines (qcfg n) == 2
      else if op = 0x52 ∨ op = 0x54 then bits (qcfg (16 + n)) 29 3 != 0 && qLines (qcfg (16 + n)) == 2 else true) b.v &&
    slotsIf (fun x =>
      let op := bits x 56 8
      let n := bits x 16 4
      if op = 0x86 then bits (qcfg n) 29 3 != 0 && qLines (qcfg n) == 2
      else if op = 0x87 then bits (qcfg (16 + n)) 29 3 != 0 && qLines (qcfg (16 + n)) == 2 else true) b.vm &&
    (b.cop != 0x0D || ((List.range 16).all (fun n => !bit b.carg (16 + n) || bits (qcfg n) 29 3 == 1)))

/-! ## Synchronisation a bundle names (R241, R246, R248, R253) -/

/-- What the synchronisation checks need: BUOYCFG words, the tally consumers, the barriers' members, and whether OQ n may take a
push under envelope k, given as its tag and whether it is a whole entry, or a marker, for a virtual core. -/
structure SyncEnv where
  v        : Nat
  access   : Bool          -- the bundle belongs to the access sequencer
  unified  : Bool
  buoy     : Nat → Nat
  consumer : Nat
  barrier  : Nat → Option (List (Nat × Bool))
  push     : Nat → Nat → Nat → Bool → Bool
  marker   : Nat → Bool
  qcfg     : Nat → Nat

/-- Whether an agent code of a BUOYCFG word names the bundle's sequencer (R241, R244). -/
def SyncEnv.agent (e : SyncEnv) (code : Nat) : Bool :=
  if e.unified then code == 1 || code == 2 else code == (if e.access then 2 else 1)

/-- A bundle's control operation is allowed to its sequencer, and its fixed envelopes are valid. -/
def Bundle.syncOk (e : SyncEnv) (b : Bundle) : Bool :=
  let x := b.carg
  let setter (n : Nat) : Bool := e.agent (bits (e.buoy n) 8 3)
  let clearer (n : Nat) : Bool := e.agent (bits (e.buoy n) 0 3)
  let cop := (
    if b.cop = 0x08 then setter (bits x 0 6)
    else if b.cop = 0x09 then clearer (bits x 0 6)
    else if b.cop = 0x0A then
      (if bits x 30 2 = 0 then clearer (bits x 0 6) else if bits x 30 2 = 1 then setter (bits x 0 6)
       else bit e.consumer (bits x 26 4) == (e.access && !e.unified) || e.unified)
    else if b.cop = 0x0B then !bit x 14 || setter (bits x 8 6)
    else if b.cop = 0x0C then
      ((e.barrier (bits x 0 6)).map (fun ms => ms.any (fun m => m.1 == e.v && (e.unified || m.2 == e.access)))).getD false
    else if b.cop = 0x0D then clearer (bits x 8 6)
    else if b.cop = 0x10 ∧ bit x 20 ∧ bits (e.qcfg (16 + bits x 16 4)) 29 3 = 2 then e.marker (bits x 8 8)
    else true)
  let push (w : Option (BitVec 64)) : Bool := slotsIf (fun y =>
    let op := bits y 56 8
    !((op == 0x52 || op == 0x54 || op == 0x87) && bits (e.qcfg (16 + bits y 16 4)) 29 3 == 2 && bits y 20 4 == 0) ||
      e.push (bits y 16 4) (bits y 0 8) (bits y 52 4) (op == 0x87)) w
  cop && push b.v && push b.vm

end Sys2Proof.Machine
end

