-- ==== Sys2Proof/Machine/LoadPaths.lean ====
section
/-! DEFINITION. The loader's checks of every path through a stream (R94, R98, R100, R115, R121, R135, R138, R149, R152 to R154,
R202, R244): a walk issues the bundles of a stream one a beat, with every variant at a SELECT and every count that the pilot may
give a loop, and notes the reasons of Table 6 of spec/11 for which the image is refused. Values fixed at load are those that no
choice of the pilot gives: every index register but X15 after a SELECT or TAKE (DEDUCED 49). -/

namespace Sys2Proof.Machine

/-! ## The virtual core that a walk runs on -/

/-- The streams that an image carries: the section types of their code (Table 3 of spec/11). -/
def Hpi.streams (f : Hpi) : List Nat := (if f.smu then [1] else []) ++ (if f.sms then [2, 3] else [])

/-- The code sections a virtual core runs, with their types. -/
def Hpi.codeTypes (split : Bool) : List Nat := if split then [2, 3] else [1]

/-- A virtual core's code as syllables: the sections it runs, one after the other (R143, Table 3 of spec/11). -/
def Hpi.code (f : Hpi) (split : Bool) (v : Nat) : List Nat := (Hpi.codeTypes split).flatMap (fun t => syllables (f.coreBytes t v))

/-- The bundles of one code section of a virtual core. -/
def Hpi.bundles (f : Hpi) (t v : Nat) : Option (List Bundle) :=
  let ws := syllables (f.coreBytes t v)
  bundlesOf (ws.length + 1) ws

/-- A list as the entries of a sparse array from index 0. -/
def sparseOf {α : Type} [DecidableEq α] (d : α) (l : List α) : Sparse α := Sparse.setRun d [] 0 l

/-- A call word as a bundle address (R529): a resident routine's, or the image's own. -/
def resolveCall (p : Pack) (w : Nat) : Nat := if bit w 31 then p.coreBase + p.caddr.getD (w % 65536) 0 else w % 16384

/-- A call word of the library's own tables, relative to the core block's base. -/
def libCall (p : Pack) (w : Nat) : Nat := if bit w 31 then p.coreBase + p.caddr.getD (w % 65536) 0 else p.coreBase + w % 16384

/-- FERRYCFG: 0 but for images that carry the firmware signature; DIR 0b11 and reserved bits are never written (R234). -/
def Hpi.ferryWord (f : Hpi) (v : Nat) : BitVec 32 :=
  let w := Config.ferryCfg v f.bytes
  if !f.fwsigned || bits w.toNat 30 2 == 3 then 0 else w &&& 0xFFF00000

/-- What the load fixes for one virtual core on physical core `phys` as context `ctx`. -/
def Hpi.coreImage (f : Hpi) (p : Pack) (split : Bool) (v phys ctx : Nat) (wslots : Sparse Nat) : CoreImage :=
  let c := f.calls v
  { used := true, split := split, fold := f.fold
    prog := Sparse.setRun 0 (sparseOf 0 ((f.code split v).map (BitVec.ofNat 64))) p.coreBase (p.cores.map (BitVec.ofNat 64))
    libBase := p.coreBase, progBase := 0, execBase := 0, accBase := (syllables (f.coreBytes 2 v)).length
    calls := sparseOf 0 (c.calls.map (resolveCall p)), variants := sparseOf [] (c.variants.map (fun l => l.map (resolveCall p)))
    libCalls := sparseOf 0 (p.calls.calls.map (libCall p)), libVars := sparseOf [] (p.calls.variants.map (fun l => l.map (libCall p)))
    descs := sparseOf 0 ((List.range (f.ndesc v)).map (f.desc v))
    envelopes := sparseOf 0 ((List.range 256).map (fun n => BitVec.ofNat 64 (f.envelope v n)))
    handlers := sparseOf 0 ((List.range 256).map (fun n => BitVec.ofNat 64 (f.handler v n)))
    entryX := 0, entryA := if split then (syllables (f.coreBytes 2 v)).length else 0
    entryP := BitVec.ofNat 32 f.pentry, pilotWin := p.pilotWin f.fold, pilotLib := p.pilotBase
    data0 := sparseOf 0 (f.coreBytes 6 v), phys := phys, ctx := ctx, rngFree := f.rngFree, wslots := wslots
    profiles := (List.range 4).map (fun n => BitVec.ofNat 32 (bits (f.corecfg v) (32 + 32 * n) 32)) }

/-- What a walk needs of its virtual core: the core with its code, tables and profiles, which sequencer walks, the section type
of its stream, and which program addresses the lagoon owns. -/
structure PathEnv where
  core  : Core
  seq   : SeqId
  typ   : Nat
  owned : Nat → Nat → Bool

/-- The virtual core that the walk of a stream of section type t runs on. -/
def Hpi.pathEnv (f : Hpi) (p : Pack) (owned : Nat → Nat → Bool) (t v : Nat) : PathEnv :=
  let im := f.coreImage p (t != 1) v 0 0 []
  { core := { Core.blank with
      img := im
      csr := { Csrs.blank with dp := im.profiles, rowcfg := BitVec.ofNat 32 (bits (f.corecfg v) 0 1) }
      buoys := sparseOf Buoy.blank ((List.range 64).map (fun n => { Buoy.blank with cfg := BitVec.ofNat 32 (f.buoycfg v n) })) }
    seq := if t = 3 then .access else .execute, typ := t, owned := owned }

/-- The kind of the bundles of the walked stream: 1 execute, 2 access, 3 unified. -/
def PathEnv.kind (e : PathEnv) : Nat := if e.typ = 1 then 3 else e.typ - 1

/-- A point of a path. `given`: X15 holds what the pilot gave. `loose`: a tile was made held in a slot that the pilot gave.
`profs`: the pilot may have rewritten the drain profiles. The four counts are the beats for which the A feed, the B path and the
compute and move paths are still busy; `reads` the B path's reads to come, as beats from now and bank; `sound` the tags and bytes
of the tiles drained and not popped, tag 16 where the pilot gave it; `behind` the summaries since the pilot last caught up;
`buoys` the states of the buoys of R244: 0 clear, 1 set, 2 set when a posted fence completes. -/
structure Walk where
  q      : Seq
  given  : Bool
  loose  : Bool
  profs  : Bool
  held   : Sparse Future
  aBusy  : Nat
  bBusy  : Nat
  cBusy  : Nat
  mBusy  : Nat
  reads  : List (Nat × Nat)
  sound  : List (Nat × Nat)
  behind : Nat
  buoys  : Sparse Nat
  deriving DecidableEq, Repr

def Walk.start (a : Nat) : Walk := ⟨{ Seq.blank with addr := a }, false, false, false, [], 0, 0, 0, 0, [], [], 0, []⟩

/-- Whether an index register's value is fixed at load. -/
def Walk.known (w : Walk) (n : Nat) : Bool := n % 16 != 15 || !w.given

/-! ## Control flow (R152 to R154) -/

/-- The iterations left of a loop whose count the pilot gives; it may end after any of them. -/
def anyCount : Nat := 2 ^ 17

/-- Loops under way with each count that the pilot gives taken as used up (0) or not. -/
def openCounts : List LoopFrame → List (List LoopFrame)
  | [] => [[]]
  | f :: r => (openCounts r).flatMap (fun t =>
      if f.left = anyCount then [{ f with left := 0 } :: t, { f with left := anyCount + 1 } :: t] else [f :: t])

/-- The same counts closed again. -/
def closeCounts (l : List LoopFrame) : List LoopFrame :=
  l.map (fun f => if f.left = 0 ∨ f.left = anyCount + 1 then { f with left := anyCount } else f)

/-- Whether X15 holds what the pilot gave after a bundle. -/
def Walk.givenAfter (w : Walk) (b : Bundle) : Bool :=
  match Cop.ofCode b.cop with
  | .select | .take => true
  | .setx => w.given && (bit b.carg 27 || bits b.carg 28 4 != 15)
  | _ => w.given

/-- Where a sequencer may stand after a bundle: one place for each variant of a SELECT and each count that the pilot may give. -/
def Walk.nexts (e : PathEnv) (w : Walk) (b : Bundle) : List Seq :=
  let go (q : Seq) : Seq := ((e.core.setSeq e.seq q).flow e.seq b).seq e.seq
  let qs : List Seq := (openCounts w.q.loops).map (fun l => { w.q with loops := l })
  let rs : List Seq := match Cop.ofCode b.cop with
    | .finish => []
    | .select =>
      qs.flatMap (fun q => (List.range ((Sparse.get [] (e.core.variantTable w.q.addr) (bits b.carg 0 16)).length)).map (fun v =>
        go { q with choices := [BitVec.ofNat 32 v] }))
    | .take => qs.map (fun q => go { q with choices := [0xFFFF] })
    | .loop =>
      if bit b.carg 15 ∧ w.given then
        qs.flatMap (fun q =>
          let inside := go (q.setX 15 1)
          [go (q.setX 15 0), { inside with loops := match inside.loops with | f :: r => { f with left := anyCount } :: r | [] => [] }])
      else qs.map go
    | _ => qs.map go
  let given := w.givenAfter b
  (rs.map (fun q => { (if given then q.setX 15 0 else q) with loops := closeCounts q.loops, choices := [] })).eraseDups

/-- Whether a bundle breaks the rules of loops and calls here: a counter that an enclosing loop holds, a body that leaves the body
around it, a ninth return address, RET with none, or a library call while a loop holds LC4 to LC7. -/
def Walk.control (e : PathEnv) (w : Walk) (b : Bundle) : Bool :=
  let q := w.q
  let libCalled (l : List Nat) : Bool := !e.core.inLib q.addr && l.any e.core.inLib && q.loops.any (fun f => 4 ≤ f.ctr)
  match Cop.ofCode b.cop with
  | .loop =>
    let stop := skipBundles e.core.img.prog (bits b.carg 16 13) (q.addr + b.size)
    q.loops.any (fun f => f.ctr == bits b.carg 29 3 || (f.depth == q.stack.length && decide (f.stop < stop)))
  | .call => decide (8 ≤ q.stack.length) || libCalled [Sparse.get 0 (e.core.callTable q.addr) (bits b.carg 0 16)]
  | .select => decide (8 ≤ q.stack.length) || libCalled (Sparse.get [] (e.core.variantTable q.addr) (bits b.carg 0 16))
  | .ret => q.stack.isEmpty
  | _ => false

/-! ## Paths and banks (R94, R98, R100, R149) -/

/-- The B-path operation of a bundle with its effective fields, if it has one. -/
def Walk.bop (e : PathEnv) (w : Walk) (b : Bundle) : Option (BitVec 48) :=
  match b.b with
  | some x =>
    let o : BitVec 48 := BitVec.ofNat 48 (effBpath e.core w.q x).toNat
    if bopKind o = 0 then none else some o
  | none => none

/-- Tile memory reads of a bundle's A feed, B path and vector load at indices fixed at load: beats from now, and bank. The operand
cache's ports are never asked for more than they serve: one move issues in a beat (R121). -/
def Walk.bankReads (e : PathEnv) (w : Walk) (b : Bundle) : List (Nat × Nat) :=
  let c := e.core
  (match b.m with
    | some x => if bit x.toNat 59 || !w.known (bits x.toNat 55 4) then [] else [(0, bits (effMatrix c w.q x).toNat 36 15 % 64)]
    | none => []) ++
  (match w.bop e b, b.b with
    | some o, some x =>
      if w.known (bits x.toNat 60 4) then (List.range (bopMembers o)).map (fun m => (bopReadBeat c.skew 0 o m, bopIndex c.skew o m % 64)) else []
    | _, _ => []) ++
  (match b.vm with
    | some x =>
      let l := bits (effVec w.q x).toNat 0 16
      if bits x.toNat 56 8 = 0x82 ∧ w.known (bits x.toNat 20 4) then [(0, l % 64), (0, (l + 1) % 64)] else []
    | none => [])

/-- Vectors that a move takes from the head of the sound, which are the beats it occupies its path (R129, R149). -/
def Walk.moveBeats (w : Walk) (o : VOp) : Nat :=
  if o.vop = 0x84 then (if o.fmt = .fp64 then 2 else 1)
  else if o.vop = 0x85 then
    match w.sound with
    | (_, n) :: _ => max 1 ((n + 255) / 256)
    | [] => max 1 (o.fmt.width / 32)
  else 1

/-- Whether a bundle meets a busy path, or one of its reads another read of the same bank in the same beat. -/
def Walk.conflict (e : PathEnv) (w : Walk) (b : Bundle) : Bool :=
  let rs := w.reads ++ w.bankReads e b
  (b.m.isSome && w.aBusy != 0) || ((w.bop e b).isSome && w.bBusy != 0) || (b.v.isSome && w.cBusy != 0) ||
    (b.vm.isSome && w.mBusy != 0) || rs.eraseDups.length != rs.length

/-! ## Events that fields fixed at load would raise (R115, R138, R202) -/

/-- Whether an A tile would raise 0x1104 or 0x1105. -/
def Walk.matrixFault (e : PathEnv) (w : Walk) (x : BitVec 64) : Bool :=
  let y := (effMatrix e.core w.q x).toNat
  let rcw := BitVec.ofNat 32 y
  let fmt := Fmt.ofTag (bits y 60 4)
  match fmt.acc? (rcwExact rcw) with
  | none => false
  | some k =>
    let p := e.core.csr.dp.getD (rcwProf rcw) 0
    (w.known (bits y 51 4) && (rcwSlot rcw % k.slots != 0 ||
      (!rcwInit rcw && !w.loose && (maskedCubes rcw).any (fun n =>
        (Sparse.get Future.blank w.held n).held.all (fun h => !h.covers (rcwSlot rcw)))))) ||
      (rcwDrain rcw && !w.profs && !drainAllowed k fmt.isInt (profOfmt p) (profMode p))

/-- Whether an ACCLOAD would raise 0x1104. -/
def Walk.loadFault (e : PathEnv) (w : Walk) (b : Bundle) : Bool :=
  match w.bop e b, b.b with
  | some o, some x => bopKind o == 3 && w.known (bits x.toNat 56 4) &&
      (match akind? (bopAkind o) with | some (k, _) => bopSlot o % k.slots != 0 | none => true)
  | _, _ => false

/-- Whether a sound pop would raise 0x1201. -/
def Walk.popFault (w : Walk) (x : BitVec 64) : Bool :=
  let o := VOp.ofSyl x
  (o.vop == 0x84 || o.vop == 0x85) && (match w.sound with | (t, _) :: _ => t != 16 && t != o.fmt.tag | [] => false)

/-- Whether a stream operation would raise 0x2101 or 0x2102. -/
def Walk.streamFault (e : PathEnv) (w : Walk) (x : BitVec 64) : Bool :=
  w.known (bits x.toNat 44 4) && w.known (bits x.toNat 40 4) &&
    (((e.core.setSeq e.seq w.q).streamOp e.seq x).refusal e.owned).isSome

def Walk.fault (e : PathEnv) (w : Walk) (b : Bundle) : Bool :=
  (b.m.map (w.matrixFault e)).getD false || w.loadFault e b || (b.vm.map w.popFault).getD false ||
    (b.s0.map (w.streamFault e)).getD false || (b.s1.map (w.streamFault e)).getD false

/-! ## Buoys of the unified stream (R244) and summaries (R135) -/

/-- Agents of a buoy: who sets it and who clears it. -/
def PathEnv.setter (e : PathEnv) (n : Nat) : Nat := bits (e.core.buoy n).cfg.toNat 8 3
def PathEnv.clearer (e : PathEnv) (n : Nat) : Nat := bits (e.core.buoy n).cfg.toNat 0 3

/-- Whether both agents of a buoy denote the execute sequencer. -/
def PathEnv.ownBuoy (e : PathEnv) (n : Nat) : Bool :=
  e.typ == 1 && (e.setter n == 1 || e.setter n == 2) && (e.clearer n == 1 || e.clearer n == 2)

/-- The buoy a bundle's control operation works on, the state it waits for and the state it leaves. -/
def buoyUse (b : Bundle) : Option (Nat × Nat × Nat) :=
  let x := b.carg
  match Cop.ofCode b.cop with
  | .bset => some (bits x 0 6, 0, 1)
  | .bclr => some (bits x 0 6, 1, 0)
  | .bwait => match bits x 30 2 with
    | 0 => some (bits x 0 6, 1, 1)
    | 1 => some (bits x 0 6, 0, 0)
    | _ => none
  | .cancel => some (bits x 8 6, 1, 0)
  | .fence => if bit x 14 then some (bits x 8 6, 0, if bit x 15 then 1 else 2) else none
  | _ => none

/-- Whether the pilot has caught up where a bundle issues: it takes a choice, or waits for the pilot at a buoy. The pilot is
taken to have read every summary by then (DESIGN CHOICE 50). -/
def Walk.caughtUp (e : PathEnv) (b : Bundle) : Bool :=
  match Cop.ofCode b.cop, buoyUse b with
  | .select, _ => true
  | .take, _ => true
  | _, some (n, want, _) => if want = 1 then e.setter n == 3 else e.clearer n == 3
  | _, _ => false

def Bundle.summs (b : Bundle) : Nat := (b.v.map (fun x => if bits x.toNat 56 8 = 0x58 then 1 else 0)).getD 0

/-! ## A walk's step -/

/-- The reasons of Table 6 of spec/11 for which a bundle is refused at a point of a path. -/
def Walk.reasons (e : PathEnv) (w : Walk) (b : Bundle) : List Nat :=
  let exec := e.seq == .execute
  (if w.fault e b then [0x08] else []) ++ (if w.control e b then [0x09] else []) ++ (if exec && w.conflict e b then [0x0A] else []) ++
    (match buoyUse b with
      | some (n, want, _) => if e.ownBuoy n && Sparse.get 0 w.buoys n != want then [0x0C] else []
      | none => []) ++
    (if exec && 16 < (if Walk.caughtUp e b then 0 else w.behind) + b.summs then [0x0D] else [])

/-- The tiles that a bundle makes held or drains. -/
def Walk.tilesAfter (e : PathEnv) (w : Walk) (b : Bundle) : Walk :=
  let w1 : Walk := match b.m with
    | none => w
    | some x =>
      let y := (effMatrix e.core w.q x).toNat
      let rcw := BitVec.ofNat 32 y
      match (Fmt.ofTag (bits y 60 4)).acc? (rcwExact rcw) with
      | none => w
      | some k =>
        let p := e.core.csr.dp.getD (rcwProf rcw) 0
        let cs := maskedCubes rcw
        let tile := if w.profs then (16, 0) else (profOfmt p, 8 * drainWidth k (profOfmt p))
        { w with
          held := if w.known (bits y 51 4) then
              cs.foldl (fun m n => Sparse.set Future.blank m n (futureAfter (Sparse.get Future.blank m n) k rcw)) w.held else w.held
          loose := w.loose || (rcwInit rcw && !w.known (bits y 51 4))
          sound := if rcwDrain rcw then w.sound ++ cs.map (fun _ => tile) else w.sound
          aBusy := if rcwExact rcw then 2 else 1 }
  let w2 : Walk := match w.bop e b, b.b with
    | some o, some x =>
      let w3 : Walk := { w1 with bBusy := bopLines o }
      (match bopKind o, akind? (bopAkind o) with
        | 3, some (k, _) =>
          if w.known (bits x.toNat 56 4) then
            let fu := Sparse.get Future.blank w3.held (bopCube o)
            { w3 with held := Sparse.set Future.blank w3.held (bopCube o) { fu with held := holdTile fu.held ⟨bopSlot o, k⟩ } }
          else { w3 with loose := true }
        | _, _ => w3)
    | _, _ => w1
  match b.vm with
  | none => w2
  | some x =>
    let o := VOp.ofSyl x
    { w2 with mBusy := w.moveBeats o, sound := if o.vop = 0x84 ∨ o.vop = 0x85 then w.sound.tail ++ w2.sound.drop w.sound.length else w2.sound }

/-- The point after a bundle, before the sequencer moves on: one beat has passed. -/
def Walk.after (e : PathEnv) (w : Walk) (b : Bundle) : Walk :=
  let w1 := w.tilesAfter e b
  let took := Cop.ofCode b.cop = .select ∨ Cop.ofCode b.cop = .take
  { w1 with
    given := w.givenAfter b, profs := w.profs || decide took
    aBusy := w1.aBusy - 1, bBusy := w1.bBusy - 1, mBusy := w1.mBusy - 1
    cBusy := (match b.v with | some x => vecBeats (VOp.ofSyl x) | none => w1.cBusy) - 1
    reads := ((w.reads ++ w.bankReads e b).filter (fun r => r.1 != 0)).map (fun r => (r.1 - 1, r.2))
    behind := (if Walk.caughtUp e b then 0 else w.behind) + b.summs
    buoys := match buoyUse b with
      | some (n, _, leaves) => if e.ownBuoy n then Sparse.set 0 w.buoys n leaves else w.buoys
      | none => w.buoys }

/-- A bundle issues: the reasons for which it is refused, and the points that may follow. A path ends at END, outside the stream's
code, and where its loops or calls break their rules. -/
def Walk.step (e : PathEnv) (w : Walk) : List Nat × List Walk :=
  let b := bundleAt e.core.img.prog w.q.addr
  if b.kind ≠ e.kind then ([], [])
  else
    let rs := w.reasons e b
    (rs, if rs.contains 0x09 then [] else let w1 := w.after e b; (w.nexts e b).map (fun q => { w1 with q := q }))

/-- Walk every path from some points on. `seen` holds the points at which paths part; `acc` the reasons found. `fuel` bounds the
beats walked and is beyond the length of any path. -/
def walkPaths (e : PathEnv) : Nat → List Walk → List Walk → List Nat → List Nat
  | 0, _, _, acc => acc
  | _ + 1, [], _, acc => acc
  | n + 1, w :: todo, seen, acc =>
    let r := w.step e
    let acc1 := acc ++ r.1.filter (fun k => !acc.contains k)
    match r.2 with
    | [w1] => walkPaths e n (w1 :: todo) seen acc1
    | ws => if seen.contains w then walkPaths e n todo seen acc1 else walkPaths e n (ws ++ todo) (w :: seen) acc1

/-- The reasons for which a stream of a virtual core is refused on some path. -/
def Hpi.pathReasons (f : Hpi) (p : Pack) (owned : Nat → Nat → Bool) (t v : Nat) : List Nat :=
  let e := f.pathEnv p owned t v
  walkPaths e (2 ^ 62) [Walk.start (if t = 3 then e.core.img.entryA else 0)] [] []

/-! ## The pilot's buoys (R241) -/

/-- The buoys of the HQ.BUOY instructions of a pilot's code, with their operations: instruction memory is only fetched from, so
every instruction lies end to end from its start (Table 11 of spec/05). -/
def pilotBuoys : Nat → List Byte → List (Nat × Nat)
  | 0, _ => []
  | n + 1, bs =>
    let w := ofBytes (bs.take 4)
    if bs.length < 2 then []
    else if w % 4 ≠ 3 then pilotBuoys n (bs.drop 2)
    else if iOp w = 0x0B ∧ iF3 w = 3 then (bits w 20 6, bits w 26 2) :: pilotBuoys n (bs.drop 4)
    else pilotBuoys n (bs.drop 4)

end Sys2Proof.Machine
end

