-- ==== Sys2Proof/Machine/LoadCheck.lean ====
section
/-! DEFINITION. The loader's checks, in ascending reason order (R346, Table 6 of spec/11). -/

namespace Sys2Proof.Machine

/-- Where a check fails: the section index, 0x1FFF for none, and the virtual core, 0x1FF for none. -/
abbrev Loc := Nat × Nat
def noLoc : Loc := (0x1FFF, 0x1FF)

/-- A condition that must hold, at a place. -/
def need (b : Bool) (l : Loc) : Option Loc := if b then none else some l

/-- The first of several failures. -/
def firstOf (l : List (Option Loc)) : Option Loc := l.findSome? id

/-- The place of a virtual core's section of a type. -/
def Hpi.at (f : Hpi) (t v : Nat) : Loc := (((f.coreSec t v).map (·.idx)).getD 0x1FFF, v)
def Hpi.atImage (f : Hpi) (t : Nat) : Loc := ((((f.ofType t).head?).map (·.idx)).getD 0x1FFF, 0x1FF)

/-- A condition on every virtual core. -/
def Hpi.eachCore (f : Hpi) (p : Nat → Option Loc) : Option Loc := f.vcores.findSome? p

/-- Whether the image runs in split mode on a lagoon of n regions (R49, R350). -/
def Hpi.split (f : Hpi) (n : Nat) : Bool := !(n == 1 && f.smu)

/-! ## 0x01 FILE_FORMAT (R340 to R344, R526) -/

/-- The types every virtual core must find. -/
def Hpi.required (f : Hpi) : List Nat := (if f.smu then [1] else []) ++ (if f.sms then [2, 3] else []) ++ [5, 8, 9, 0x0B]

/-- The length that a type's content must have. -/
def Hpi.lengthOk (f : Hpi) (s : Section) : Bool :=
  if s.typ ≤ 3 then s.len % 8 == 0
  else if s.typ = 7 then s.len % 96 == 0 && s.len ≤ 96 * 256
  else if s.typ = 8 then s.len == 128
  else if s.typ = 9 then s.len == 260
  else if s.typ = 0x0A then s.len == 4096
  else if s.typ = 0x0B then s.len == 32 && bits (numAt f.bytes s.off 32) 160 96 == 0 && bits (numAt f.bytes s.off 32) 20 12 == 0 &&
    bits (numAt f.bytes s.off 32) 1 7 == 0
  else if s.typ = 0x13 then s.len == 512 * (32 * f.nstk + f.nddr)
  else if s.typ = 0x14 then s.len % 32 == 0 && s.len ≤ 256
  else if s.typ = 0x15 then s.len % 32 == 0
  else if s.typ = 0x16 then 64 ≤ s.len
  else if s.typ = 0x17 then 8 ≤ s.len
  else if s.typ = 0x04 then (parseCalls (f.content s)).isSome
  else if s.typ = 0x10 then (parseBarriers (f.content s).length (f.content s)).isSome
  else if s.typ = 0x11 then (parseMcast (f.content s).length (f.content s)).isSome
  else if s.typ = 0x12 then (parseCombq (f.content s).length (f.content s)).isSome
  else true

/-- One entry of the section table. -/
def Hpi.sectionOk (f : Hpi) (s : Section) : Bool :=
  let note := s.typ == 0x30
  s.rsvd == 0 && s.off % 64 == 0 && 128 ≤ s.off && s.off + s.len ≤ f.imglen &&
    (coreTypes.contains s.typ || imageTypes.contains s.typ || note) && (!imageTypes.contains s.typ || s.all) && f.lengthOk s &&
    (s.off + s.len ≤ f.sectoff || f.sectoff + 32 * f.nsect ≤ s.off || s.len == 0) &&
    f.secs.all (fun t => t.idx == s.idx || s.off + s.len ≤ t.off || t.off + t.len ≤ s.off || s.len == 0 || t.len == 0) &&
    (note || s.typ == 0x16 || s.typ == 0x17 ||
      !f.secs.any (fun t => t.typ == s.typ && t.idx < s.idx && (imageTypes.contains s.typ || (t.all == s.all && (s.all || t.vcore == s.vcore))))) &&
    (s.typ != 0x20 || f.secs.all (fun t => t.off ≤ s.off || t.idx == s.idx))

/-- Bytes outside the header, the table and the sections are 0 (R340). -/
def Hpi.paddingOk (f : Hpi) : Bool :=
  (List.range (f.imglen - 128)).all (fun i =>
    let a := 128 + i
    f.bytes.getD a 0 == 0 || (f.sectoff ≤ a && a < f.sectoff + 32 * f.nsect) || f.secs.any (fun s => s.off ≤ a && a < s.off + s.len))

def Hpi.check01 (f : Hpi) : Option Loc :=
  let h := f.hdr
  firstOf [
    need (128 ≤ f.bytes.length && bits h 32 32 == 0x31495048 && bits h 0 8 == 1 && f.imglen == f.bytes.length &&
      bits h 512 16 == 0 && bits h 64 320 == 0 && bits h 28 4 == 0 && bits h 8 2 == 0 && 1 ≤ f.nsect && f.nsect ≤ 4096 &&
      f.sectoff % 64 == 0 && 128 ≤ f.sectoff && f.sectoff + 32 * f.nsect ≤ f.imglen) noLoc,
    f.secs.findSome? (fun s => need (f.sectionOk s) (s.idx, if coreTypes.contains s.typ && !s.all then s.vcore else 0x1FF)),
    need (!(f.ofType 0x13).isEmpty && (!f.fwsigned || !(f.ofType 0x20).isEmpty)) noLoc,
    f.eachCore (fun v => f.required.findSome? (fun t => need (f.coreSec t v).isSome (0x1FFF, v))),
    need f.paddingOk noLoc]

/-! ## 0x02 to 0x07 -/

/-- The package that the image names, if it is held with its digest (R166). -/
def State.package? (s : State) (f : Hpi) : Option Library := s.libs.find? (fun p => p.triple == f.libver && p.digest == f.libdig)

def State.packFor (s : State) (f : Hpi) : Pack := ((s.package? f).map (fun p => packOf p.bytes)).getD Pack.none

/-- Whether both signatures of the FWSIG section verify over every byte before it (R343, R530). -/
def Hpi.signed (f : Hpi) : Bool :=
  match (f.ofType 0x20).head? with
  | none => false
  | some x => let b := blockOk (f.bytes.take x.off) (f.content x); b.1 && b.2

def Hpi.ferries (f : Hpi) : Option Loc :=
  f.eachCore (fun v => need ((List.range 32).all (fun n => bits (f.qcfg v n) 29 3 != 3)) (f.at 8 v))

/-- Physical cores that a lagoon can use, in the order of R316. -/
def State.coreList (s : State) (l : Nat) : List Nat :=
  let rs := (s.lagoon l).cfg.regions
  (List.range 18).flatMap (fun r =>
    if bit rs r then
      (List.range 16).filterMap (fun i =>
        let p := 144 * (r / 9) + 12 * (4 * (r % 9 / 3) + i / 4) + 4 * (r % 3) + i % 4
        if (s.physCore p).enabled && !(s.physCore p).oos then some p else none)
    else [])

def Hpi.check04 (f : Hpi) (p : Nat) : Option Loc :=
  need (f.foldCode != 3 && (f.gx ≤ 16 || 2 ≤ f.fold) && f.gx * f.gy ≤ f.fold * p) noLoc

def spansMeet (a b n m : Nat) : Bool := a < b + m && b < a + n

def State.check05 (s : State) (f : Hpi) (l : Nat) : Option Loc :=
  let own (a n : Nat) : Bool := n != 0 && a + n ≤ 2 ^ 64 && s.owned l a (a + n - 1)
  let regs := f.spans 0x15
  let shs := f.spans 0x14
  let pre := f.preloads
  firstOf [
    need (f.nstk ≤ (s.ownStacks l).length && f.nddr ≤ (s.ownChans l).length) noLoc,
    need ((List.range regs.length).all (fun i =>
      let r := regs.getD i ⟨0, 0, 0⟩
      own r.start r.len && bits (numAt (f.imageBytes 0x15) (32 * i) 32) 2 126 == 0 &&
        (if r.kind = 3 then r.start % 1024 == 0 && r.len % 1024 == 0 else r.start % 2 ^ 20 == 0) &&
        (List.range regs.length).all (fun j => j == i || !spansMeet r.start (regs.getD j ⟨0, 0, 0⟩).start r.len (regs.getD j ⟨0, 0, 0⟩).len) &&
        pre.all (fun p => !spansMeet r.start p.1 r.len p.2.length))) (f.atImage 0x15),
    need ((List.range shs.length).all (fun i =>
      let r := shs.getD i ⟨0, 0, 0⟩
      own r.start r.len && bits (numAt (f.imageBytes 0x14) (32 * i) 32) 0 128 == 0 && r.start % 1024 == 0 && r.len % 1024 == 0 &&
        (List.range shs.length).all (fun j => j == i || !spansMeet r.start (shs.getD j ⟨0, 0, 0⟩).start r.len (shs.getD j ⟨0, 0, 0⟩).len)))
      (f.atImage 0x14),
    (f.ofType 0x17).findSome? (fun c =>
      let a := numAt (f.content c) 0 8
      need (c.len == 8 || own a (c.len - 8)) (c.idx, 0x1FF))]

/-- Regions of a lagoon. -/
def State.regionCount (s : State) (l : Nat) : Nat := (ones 18 (s.lagoon l).cfg.regions).length

def Hpi.check06 (f : Hpi) (n : Nat) : Option Loc := need (if n = 1 then f.smu || f.sms else f.sms) noLoc

/-- Lines of the combining store that queues with a target core give it (R266). -/
def Hpi.storeLines (f : Hpi) (v : Nat) : Nat :=
  ((f.combWords.filter (fun q => !bit q.2.1 63 && bits q.2.1 51 9 == v)).map (fun q => bits q.2.1 0 10)).sum

def Hpi.check07 (f : Hpi) (split : Bool) (p : Pack) : Option Loc :=
  let fo := f.fold
  f.eachCore (fun v => firstOf [
    need (1 ≤ bits (f.corecfg v) 8 8 && bits (f.corecfg v) 8 8 ≤ 192 / fo) (f.at 0x0B v),
    need ((List.range 32).all (fun n =>
      let q := f.qcfg v n
      bits q 29 3 == 0 || bits q 0 12 + bits q 12 13 * qLines q ≤ 4096 / fo)) (f.at 8 v),
    need (f.ndesc v ≤ 256 / fo && (List.range (f.ndesc v)).all (fun n =>
      let d := f.desc v n
      (dDkind d != 1 || dDest d < 32768 / fo) && (dDkind d != 2 || dDest d < 4096 / fo))) (f.at 7 v),
    need ((List.range 256).all (fun n =>
      let h := f.handler v n
      (bits h 61 3 != 2 || bits h 0 15 < 32768 / fo) && (bits h 61 3 != 3 || bits h 0 15 < 4096 / fo))) (f.at 0x0A v),
    need (f.storeLines v ≤ 512 / fo) (f.atImage 0x12),
    need ((f.code split v).length ≤ p.coreWin fo) (f.at (if split then 2 else 1) v),
    need ((f.coreBytes 5 v).length ≤ p.pilotWin fo && (f.pentry < p.pilotWin fo || (p.pilotBase ≤ f.pentry && f.pentry < 0x20000)))
      (f.at 5 v),
    need ((f.coreBytes 6 v).length ≤ 0x40000 / fo) (f.at 6 v),
    f.streams.findSome? (fun t => need ((((f.bundles t v).getD []).all (Bundle.fits fo))) (f.at t v))])

/-! ## 0x08 ENCODING -/

/-- A call word names a resident routine that exists, or a bundle address. -/
def callWordOk (p : Pack) (w : Nat) : Bool := !bit w 31 || w % 65536 < p.caddr.length

/-- The reserved bits of a call word (R526). -/
def callWordForm (w : Nat) : Bool := if bit w 31 then bits w 16 15 == 0 else w < 16384

/-- A drain profile that the image loads (R103, R104): reserved bits and the rounding mode. -/
def profileOk (w : Nat) : Bool := bits w 12 20 == 0 && bits w 0 4 == 0 && bits w 4 3 < 4 && bits w 8 4 ≤ 15

/-- A slot owner word as the image writes it (R186): a class, and for a core a virtual core of the grid. -/
def ownerOk (f : Hpi) (w : Nat) : Bool :=
  bits w 13 3 ≤ 4 && bits w 9 1 == 0 && (bits w 13 3 != 1 || f.vcores.contains (bits w 0 9))

/-- The owner words of wheel i of the image: none in a slot reserved for refresh, and no reef engine on a DDR5 channel (R185, R186,
R189). -/
def Hpi.wheelOk (f : Hpi) (i : Nat) (ws : List Nat) : Bool :=
  let hbm := decide (i < 32 * f.nstk)
  (List.range 256).all (fun n =>
    let w := ws.getD n 0
    ownerOk f w && (n % (if hbm then 32 else 16) != 0 || bits w 13 3 == 0) && (hbm || bits w 13 3 != 2))

/-- What a handler's own fields must keep (R258): a window, a tally and an even line count, or a buoy. -/
def handlerForm (w : Nat) : Bool :=
  match bits w 61 3 with
  | 2 => bits w 15 16 != 0 && bit w 40
  | 3 => bits w 15 16 != 0 && bit w 40 && bits w 31 5 % 2 == 1
  | 4 => bit w 47
  | n => n < 4

def Hpi.ownerWords (f : Hpi) : List Nat := wordsOf 2 (256 * (32 * f.nstk + f.nddr)) (f.imageBytes 0x13)

/-- What the execute slots of a bundle push: the outbound queue, the tag, and the envelope where no index register is added to it. -/
def Bundle.pushes (b : Bundle) : List (Nat × Nat × Option Nat) :=
  [b.v, b.vm].filterMap (fun w => w.bind (fun y =>
    let x := y.toNat
    if [0x52, 0x54, 0x87].contains (bits x 56 8) then
      some (bits x 16 4, bits x 52 4, if bits x 20 4 = 0 then some (bits x 0 8) else none)
    else none))

/-- The code sections that run together: one set for each stream mode that the image carries. -/
def Hpi.modes (f : Hpi) : List (List Nat) := (if f.smu then [[1]] else []) ++ (if f.sms then [[2, 3]] else [])

/-- The bundles of a virtual core in a stream mode. -/
def Hpi.bundlesIn (f : Hpi) (ts : List Nat) (v : Nat) : List Bundle := ts.flatMap (fun t => (f.bundles t v).getD [])

/-- SFMT of the PUTs that read an outbound queue. -/
def Hpi.putTags (f : Hpi) (ts : List Nat) (v q : Nat) : List Nat :=
  (f.bundlesIn ts v).flatMap (fun b => [b.s0, b.s1].filterMap (fun w => w.bind (fun x =>
    let d := f.desc v (bits x.toNat 48 8)
    if dKind d = 2 ∧ dDkind d = 0 ∧ dDest d % 16 = q then some (dBits d 760 4) else none)))

/-- No outbound queue holds only tags that none of the PUTs reading it takes, which would raise 0x2103 (R202, DEDUCED 49). -/
def Hpi.putOk (f : Hpi) (v : Nat) : Bool :=
  f.modes.all (fun ts => (List.range 16).all (fun q =>
    let ps := ((f.bundlesIn ts v).flatMap Bundle.pushes).filterMap (fun p => if p.1 = q then some p.2.1 else none)
    let rs := f.putTags ts v q
    ps.isEmpty || rs.isEmpty || rs.contains 15 || ps.any rs.contains))

def Hpi.check08 (f : Hpi) (p : Pack) : Option Loc :=
  firstOf [
    f.eachCore (fun v =>
      let c := f.calls v
      firstOf [
        [1, 2, 3].findSome? (fun t =>
          let e : CodeEnv := ⟨if t = 1 then 3 else t - 1, f.qcfg v, f.desc v, c.calls.length, c.variants.length⟩
          match f.bundles t v with
          | some bs => need (bs.all (Bundle.ok e)) (f.at t v)
          | none => some (f.at t v)),
        need (f.putOk v) (f.at 7 v),
        need (c.calls.all (callWordOk p) && c.variants.all (fun l => l.all (callWordOk p))) (f.at 4 v),
        need ((List.range (f.ndesc v)).all (fun n => descOk (f.qcfg v) (f.desc v n))) (f.at 7 v),
        need ((List.range 256).all (fun n => bits (f.envelope v n) 61 3 ≤ 4 && bits (f.envelope v n) 0 44 == 0 &&
          handlerForm (f.handler v n))) (f.at 0x0A v),
        need ((List.range 4).all (fun n => profileOk (bits (f.corecfg v) (32 + 32 * n) 32)) && bits (f.corecfg v) 16 2 == 0) (f.at 0x0B v)]),
    need ((List.range (32 * f.nstk + f.nddr)).all (fun i => f.wheelOk i (f.ownerWords.drop (256 * i)))) (f.atImage 0x13)]

/-! ## 0x0B QUEUES -/

/-- The QCFG words of a virtual core (R155): far ends, depths, no overlap. -/
def queuesLaid (q : Nat → Nat) : Bool :=
  let used := (List.range 32).filter (fun n => bits (q n) 29 3 != 0)
  (List.range 32).all (fun n => bits (q n) 29 3 ≤ 3 &&
    (if bits (q n) 29 3 = 0 then bits (q n) 12 13 == 0 else 1 ≤ bits (q n) 12 13 && bits (q n) 12 13 ≤ 4096 &&
      bits (q n) 0 12 + bits (q n) 12 13 * qLines (q n) ≤ 4096)) &&
    used.all (fun a => used.all (fun b => a == b ||
      !spansMeet (bits (q a) 0 12) (bits (q b) 0 12) (bits (q a) 12 13 * qLines (q a)) (bits (q b) 12 13 * qLines (q b))))

/-- The combining queue whose results handler h of a virtual core takes (R265). -/
def Hpi.combInto (f : Hpi) (v h : Nat) : Option Nat :=
  (f.combWords.find? (fun q => !bit q.2.1 63 && bits q.2.1 51 9 == v && bits q.2.1 43 8 == h)).map (·.1)

/-- Who puts messages into an inbound queue of a virtual core: virtual cores, and 512 + n for combining queue n (R260). -/
def Hpi.feeders (f : Hpi) (v n : Nat) : List Nat :=
  (List.range 256).filterMap (fun h =>
    let w := f.handler v h
    if bits w 61 3 = 1 ∧ bits w 48 4 = n then some (((f.combInto v h).map (512 + ·)).getD (bits w 52 9)) else none)

def Hpi.check0B (f : Hpi) : Option Loc :=
  f.eachCore (fun v => firstOf [
    need (queuesLaid (f.qcfg v)) (f.at 8 v),
    need ((List.range 16).all (fun n => match f.feeders v n with
      | [] => true
      | s :: rest => bits (f.qcfg v n) 29 3 == 2 && rest.all (· == s))) (f.at 0x0A v),
    f.streams.findSome? (fun t => need (((f.bundles t v).getD []).all (Bundle.queuesOk (f.qcfg v))) (f.at t v))])

/-! ## 0x0C SYNC -/

/-- No element twice. -/
def distinct (l : List Nat) : Bool := l.eraseDups.length == l.length

/-- The BUOYCFG words of a virtual core (R240, R241, R244). -/
def buoyCfgOk (w : Nat) : Bool :=
  let st := bits w 8 3
  let cl := bits w 0 3
  bits w 25 7 == 0 && bits w 11 5 == 0 && bits w 3 5 == 0 && st ≤ 4 && cl ≤ 3 && (st == 4 || bits w 16 9 == 0) &&
    (if st = 0 then cl == 0 else st != cl)

/-- A handler of a virtual core (R257, R258): its buoy, its sender, and for TILE and CACHE a tally of its own. -/
def Hpi.handlerOk (f : Hpi) (v n : Nat) : Bool :=
  let w := f.handler v n
  bits w 61 3 == 0 ||
    ((!bit w 47 || (bits (f.buoycfg v (bits w 41 6)) 8 3 == 4 && bits (f.buoycfg v (bits w 41 6)) 16 9 == bits w 52 9)) &&
      ((bits w 61 3 != 2 && bits w 61 3 != 3) || (List.range 256).all (fun m =>
        let o := f.handler v m
        m == n || bits o 61 3 == 0 || !bit o 40 || bits o 36 4 != bits w 36 4)) && f.vcores.contains (bits w 52 9))

/-- The virtual cores that a message of envelope word w reaches from a virtual core; none where it may not send it (R256, R262). -/
def Hpi.receivers (f : Hpi) (v w : Nat) : List Nat :=
  let d := bits w 52 9
  match bits w 61 3 with
  | 1 => if f.vcores.contains d then [d] else []
  | 2 => ((f.mcastWords.find? (fun g => g.1 == d && g.2.2.head? == some v)).map (fun g => (g.2.2.take (g.2.1 + 1)).tail)).getD []
  | _ => []

/-- Whether receiver r takes an entry of some lines from virtual core v under handler h (R257). -/
def Hpi.takesFrom (f : Hpi) (v h lines r : Nat) : Bool :=
  let w := f.handler r h
  bits w 61 3 != 0 && bits w 52 9 == v && bits w 31 5 + 1 == lines

/-- Whether a combining queue takes a contribution of a tag from a virtual core; a whole entry of 256 bytes holds no whole number
of XS24 records (R265). -/
def Hpi.takesPart (f : Hpi) (v d t : Nat) (whole : Bool) : Bool :=
  f.combWords.any (fun q => q.1 == d && (q.2.2.take (bits q.2.1 25 10)).contains v &&
    (bit q.2.1 63 || (if bits q.2.1 60 3 = 0 then t == 0x0 || t == 0x1 || t == 0xA else t == 0xF && !whole)))

/-- Whether a virtual core may push an entry of tag t into OQ q under envelope k (R256, R257, R276). -/
def Hpi.pushOk (f : Hpi) (v q k t : Nat) (whole : Bool) : Bool :=
  let w := f.envelope v k
  let rs := f.receivers v w
  match bits w 61 3 with
  | 1 | 2 => !rs.isEmpty && rs.all (f.takesFrom v (bits w 44 8) (qLines (f.qcfg v (16 + q))))
  | 3 => f.takesPart v (bits w 52 9) t whole
  | 4 => bits w 52 9 < f.nstk
  | _ => false

/-- Whether a virtual core may send markers under envelope k (R158): every receiver's handler puts them into a queue. -/
def Hpi.markerOk (f : Hpi) (v k : Nat) : Bool :=
  let w := f.envelope v k
  let rs := f.receivers v w
  !rs.isEmpty && rs.all (fun r => bits (f.handler r (bits w 44 8)) 61 3 == 1 && bits (f.handler r (bits w 44 8)) 52 9 == v)

/-- A combining queue (R264 to R266). A contribution is an entry of an execute-side push, which is 2 lines long (R148, R155); the
result's handler takes the lines that the result has (R257, DEDUCED 41). -/
def Hpi.combOk (f : Hpi) (e : Nat × Nat × List Nat) : Bool :=
  let d := e.2.1
  let n := bits d 25 10
  let cs := e.2.2.take n
  let t := bits d 51 9
  let h := f.handler t (bits d 43 8)
  e.1 < 64 && bits d 60 3 ≤ 3 && bits d 10 15 == 0 && 1 ≤ n && cs.length == n && distinct cs && cs.all f.vcores.contains &&
    (e.2.2.drop n).all (· == 0) &&
    (if bit d 63 then n ≤ 512 && bits d 51 5 < f.nstk
     else n ≤ 64 && f.vcores.contains t && bits h 61 3 == 1 && bits h 52 9 == t && (2 * n + 1) * 2 ≤ bits d 0 10 &&
       bits h 31 5 == (if bits d 60 3 = 2 ∨ bits d 60 3 = 3 then 0 else 1) &&
       (List.range 256).all (fun k =>
         let w := f.envelope t k
         let here := (bits w 61 3 == 1 && bits w 52 9 == t) ||
           (bits w 61 3 == 2 && f.mcastWords.any (fun g => g.1 == bits w 52 9 && ((g.2.2.take (g.2.1 + 1)).tail).contains t))
         !(here && bits w 44 8 == bits d 43 8)) &&
       f.combWords.all (fun o => o.1 == e.1 || bit o.2.1 63 || !(bits o.2.1 51 9 == t && bits o.2.1 43 8 == bits d 43 8)))

/-- The tags that a virtual core contributes to a combining queue, where no index register chooses an envelope. -/
def Hpi.partTags (f : Hpi) (ts : List Nat) (d v : Nat) : List Nat :=
  let ps := ((f.bundlesIn ts v).flatMap Bundle.pushes).filter (fun p => bits (f.qcfg v (16 + p.1)) 29 3 == 2)
  if ps.any (fun p => p.2.2.isNone) then []
  else ps.filterMap (fun p => p.2.2.bind (fun k =>
    let w := f.envelope v k
    if bits w 61 3 = 3 ∧ bits w 52 9 = d then some p.2.1 else none))

/-- No two contributors of a queue with a target core have fixed tags without one in common, which would raise 0x3103 (R265, R276,
DEDUCED 49). -/
def Hpi.partsOk (f : Hpi) (e : Nat × Nat × List Nat) : Bool :=
  bit e.2.1 63 || f.modes.all (fun ts =>
    let gs := ((e.2.2.take (bits e.2.1 25 10)).map (f.partTags ts e.1)).filter (fun g => !g.isEmpty)
    gs.all (fun a => gs.all (fun b => a.any b.contains)))

/-- The counts and reserved bits of a CALLS section (R526). -/
def Calls.formOk (c : Calls) : Bool :=
  c.calls.length ≤ 1024 && c.variants.length ≤ 256 && c.counts.all (fun w => 1 ≤ w && w ≤ 64) && c.calls.all callWordForm &&
    c.variants.all (fun l => l.all callWordForm)

def Hpi.listsOk (f : Hpi) : Option Loc :=
  firstOf [
    f.eachCore (fun v => need ((f.calls v).formOk) (f.at 4 v)),
    need (distinct (f.barrierWords.map (·.1)) && f.barrierWords.all (fun e =>
      e.1 < 64 && 1 ≤ e.2.1 && e.2.1 ≤ 512 && distinct (e.2.2.take e.2.1) && (e.2.2.drop e.2.1).all (· == 0) &&
        (e.2.2.take e.2.1).all (fun w => bits w 10 6 == 0 && f.vcores.contains (bits w 0 9)))) (f.atImage 0x10),
    need (distinct (f.mcastWords.map (·.1)) && f.mcastWords.all (fun e =>
      e.1 < 64 && 1 ≤ e.2.1 && e.2.1 ≤ 512 && (e.2.2.take (e.2.1 + 1)).all f.vcores.contains && distinct ((e.2.2.take (e.2.1 + 1)).tail) &&
        (e.2.2.drop (e.2.1 + 1)).all (· == 0))) (f.atImage 0x11),
    need (distinct (f.combWords.map (·.1)) && f.combWords.all f.combOk) (f.atImage 0x12)]

/-- An HQ.BUOY of the pilot names a buoy that it may set or clear (Table 2 of spec/08). -/
def Hpi.pilotBuoyOk (f : Hpi) (v : Nat) (p : Nat × Nat) : Bool :=
  let w := f.buoycfg v p.1
  if p.2 = 0 ∨ p.2 = 3 then bits w 8 3 == 3 else bits w 0 3 == 3

def Hpi.check0C (f : Hpi) (paths : Option Loc) : Option Loc :=
  firstOf [
    f.listsOk,
    f.eachCore (fun v => firstOf [
      need ((List.range 64).all (fun n => buoyCfgOk (f.buoycfg v n)) && f.consumers v < 65536) (f.at 9 v),
      need ((List.range 256).all (f.handlerOk v)) (f.at 0x0A v),
      need ((pilotBuoys (f.coreBytes 5 v).length (f.coreBytes 5 v)).all (f.pilotBuoyOk v)) (f.at 5 v),
      f.streams.findSome? (fun t =>
        let e : SyncEnv := ⟨v, t == 3, t == 1, f.buoycfg v, f.consumers v, f.barrierOf, f.pushOk v, f.markerOk v, f.qcfg v⟩
        need (((f.bundles t v).getD []).all (Bundle.syncOk e)) (f.at t v))]),
    need (f.combWords.all f.partsOk) (f.atImage 0x12),
    paths]

/-! ## 0x0E to 0x11 -/

/-- Traffic slots of HBM channel i that the image's words give its reef engine. -/
def Hpi.reefSlots (f : Hpi) (i : Nat) : Nat :=
  ((List.range 256).filter (fun n => n % 32 != 0 && bits (f.ownerWords.getD (256 * i + n) 0) 13 3 == 2)).length

def Hpi.check0E (f : Hpi) : Option Loc := need ((List.range (32 * f.nstk)).all (fun i => 8 ≤ f.reefSlots i)) (f.atImage 0x13)

/-- The map of R316 of a grid onto p cores: contexts by place in the list. -/
def dealCores (vs : List Nat) (p : Nat) : List (List Nat) :=
  let v := vs.length
  let f := if v ≤ p then 1 else if v ≤ 2 * p then 2 else 4
  let h := if f = 1 then v else if f = 2 then v - p else (v + 1) / 2 - p
  (List.range p).map (fun i =>
    if f = 1 then (vs.drop i).take 1
    else if i < h then (vs.drop (f * i)).take f
    else (vs.drop (f * h + f / 2 * (i - h))).take (f / 2))

/-- Region budgets and ceilings of REEFMAX by mode (Table 9 of spec/11). -/
def regionBudget (mode : Nat) : Nat := if mode = 0 then 344064 else if mode = 1 then 309648 else 189232
def reefCeiling (mode : Nat) : Nat := if mode = 0 then 32 else if mode = 1 then 28 else 17

/-- Load units that a plan gives one region (R355). -/
def Plan.regionLoad (p : Plan) (f : Hpi) (place : List Place) (r : Nat) : Nat :=
  ((place.filter (fun q => physRegion q.phys = r)).map (fun q =>
    (q.ctxs.map (fun v => p.allow.getD (gridIndex f.gx v) 0 / q.ctxs.length)).sum)).sum

/-- The placement map of an image on a lagoon (R316, R528). -/
def State.placement (s : State) (f : Hpi) (l : Nat) : List Place :=
  let ps := s.coreList l
  List.zipWith (fun p c => (⟨p, c⟩ : Place)) ps (dealCores f.vcores ps.length)

def Hpi.planOk (f : Hpi) (place : List Place) (c : Section) : Bool :=
  let bs := f.content c
  let h := numAt bs 0 64
  let p := planOf bs
  p.mode != 3 && bit f.pmodes p.mode && bits h 2 14 == 0 && bits h 32 320 == 0 && bits h 16 16 == f.gx * f.gy &&
    bs.length == 64 + 4 * (f.gx * f.gy) && p.allow.all (fun a => a < 2 ^ 24 && f.fold * 260 ≤ a) &&
    (List.range 18).all (fun r => p.regionLoad f place r ≤ regionBudget p.mode) &&
    (List.range 20).all (fun q =>
      let m := p.reefmax.getD q 0
      if q < f.nstk then 1 ≤ m && m ≤ reefCeiling p.mode else m == 0)

def Hpi.check0F (f : Hpi) (place : List Place) : Option Loc :=
  firstOf [
    need (f.pmodes != 0 && distinct (f.plans.map (·.mode)) && (List.range 3).all (fun m => !bit f.pmodes m || f.plans.any (fun p => p.mode == m))) noLoc,
    (f.ofType 0x16).findSome? (fun c => need (f.planOk place c) (c.idx, 0x1FF))]

/-- The execute-side slots of the unified and of the execute stream agree bundle by bundle (R159). -/
def Hpi.check11 (f : Hpi) : Option Loc :=
  if f.smu && f.sms then
    f.eachCore (fun v =>
      let key (b : Bundle) := (b.m, b.b, b.v, b.vm)
      need ((((f.bundles 1 v).getD []).map key) == (((f.bundles 2 v).getD []).map key)) (f.at 2 v))
  else none

/-- The reasons for which walks of the image's streams refuse it, each with the place of the stream. -/
def Hpi.walks (f : Hpi) (p : Pack) (owned : Nat → Nat → Bool) : List (Nat × Loc) :=
  f.vcores.flatMap (fun v => f.streams.flatMap (fun t => (f.pathReasons p owned t v).map (fun r => (r, f.at t v))))

/-- The place of the first of some findings that has a reason. -/
def found (ws : List (Nat × Loc)) (reason : Nat) : Option Loc := (ws.find? (fun w => w.1 == reason)).map Prod.snd

/-- The first check of Table 6 that fails from 0x08 on: its reason and place (R346). -/
def State.codeCheck (s : State) (l : Nat) (f : Hpi) : Option (Nat × Loc) :=
  let p := s.packFor f
  let pick (r : Nat) (o : Option Loc) : Option (Nat × Loc) := o.map (fun x => (r, x))
  match pick 8 (f.check08 p) with
  | some r => some r
  | none =>
    let ws := f.walks p (s.owned l)
    ([
      pick 8 (found ws 8),
      pick 9 (found ws 9),
      pick 0x0A (found ws 0x0A),
      pick 0x0B f.check0B,
      pick 0x0C (f.check0C (found ws 0x0C)),
      pick 0x0D (found ws 0x0D),
      pick 0x0E f.check0E,
      pick 0x0F (f.check0F (s.placement f l)),
      pick 0x10 (need (bits f.hdr 408 8 == 0x10 && bits f.hdr 400 8 == 0x1C) noLoc),
      pick 0x11 f.check11] : List (Option (Nat × Loc))).findSome? id

/-- The first check of Table 6 that fails: its reason and place (R346). -/
def State.loadCheck (s : State) (l : Nat) (f : Hpi) : Option (Nat × Loc) :=
  let n := s.regionCount l
  let pick (r : Nat) (o : Option Loc) : Option (Nat × Loc) := o.map (fun x => (r, x))
  match pick 1 f.check01 with
  | some r => some r
  | none =>
    match ([
      pick 2 (need (s.package? f).isSome noLoc),
      pick 3 (if f.fwsigned then need f.signed noLoc else f.ferries),
      pick 4 (f.check04 (s.coreList l).length),
      pick 5 (s.check05 f l),
      pick 6 (f.check06 n),
      pick 7 (f.check07 (f.split n) (s.packFor f))] : List (Option (Nat × Loc))).findSome? id with
    | some r => some r
    | none => s.codeCheck l f

/-- DETAIL of IMAGE_REFUSED, which is also ARG form I of event 0x1401. -/
def refusalDetail (r : Nat × Loc) : Nat := r.1 % 256 + r.2.1 % 8192 * 2 ^ 8 + r.2.2 % 512 * 2 ^ 21

end Sys2Proof.Machine
end

