-- ==== Sys2Proof/Machine/Loader.lean ====
section
/-! DEFINITION. What an accepted program load writes (R315, R316, R348, R528). -/

namespace Sys2Proof.Machine

/-! ## Cores -/

/-- ROWCFG and VCFG of a physical core (R112, R118). -/
def rowcfgWord (k : Phys) (skew : Bool) : BitVec 32 := BitVec.ofNat 32 (k.spare * 256 + b2n skew)
def vcfgWord (k : Phys) : BitVec 32 :=
  BitVec.ofNat 32 (k.lanes.getD 3 0 * 2 ^ 21 + k.lanes.getD 2 0 * 2 ^ 14 + k.lanes.getD 1 0 * 2 ^ 7 + k.lanes.getD 0 0)

/-- The CSRs a load writes (R344, R348), but for the drain profiles. -/
def Hpi.csrs (f : Hpi) (v : Nat) (k : Phys) : Csrs :=
  let w := f.corecfg v
  { dp := Csrs.blank.dp, rowcfg := rowcfgWord k (bit w 0)
    vcfg := vcfgWord k, vrkey0 := 0, vrkey1 := 0, vrstep := 0, vrbase := 0, libver := BitVec.ofNat 32 f.libver
    narcfg := BitVec.ofNat 32 (bits w 8 12), ferrycfg := f.ferryWord v }

/-- A core right after a load: everything at its load-time value (R348). -/
def Hpi.loadedCore (f : Hpi) (p : Pack) (split : Bool) (v ctx phys : Nat) (k : Phys) (wslots : Sparse Nat) : Core :=
  let im := f.coreImage p split v phys ctx wslots
  { Core.blank with
    img := im
    ex := { Seq.blank with addr := im.entryX }
    ac := { Seq.blank with addr := im.entryA }
    queues := sparseOf Queue.blank ((List.range 32).map (fun n => { Queue.blank with cfg := BitVec.ofNat 32 (f.qcfg v n) }))
    buoys := sparseOf Buoy.blank ((List.range 64).map (fun n => { Buoy.blank with cfg := BitVec.ofNat 32 (f.buoycfg v n) }))
    tallies := sparseOf Tally.blank ((List.range 16).map (fun n =>
      { Tally.blank with consumer := if bit (f.consumers v) n then SeqId.access else SeqId.execute }))
    csr := { f.csrs v k with dp := im.profiles }
    pilot := { Pilot.blank with
      pc := im.entryP, dmem := im.data0, snap := ⟨0, im.profiles, 0, 0⟩
      imem := Sparse.setRun 0 (sparseOf 0 (f.coreBytes 5 v)) p.pilotBase p.pilot
      x := Sparse.set 0 [] 2 (BitVec.ofNat 32 (0x100000 + 0x40000 / f.fold)) } }

/-! ## Lagoon -/

/-- Barriers, multicast groups and combining queues of an image (R253, R262, R264). -/
def Hpi.barriers (f : Hpi) : List BarrierDef :=
  f.barrierWords.map (fun e => ⟨e.1, (e.2.2.take e.2.1).map (fun w => (bits w 0 9, bit w 9)), 0, 0⟩)
def Hpi.groups (f : Hpi) : List Group :=
  f.mcastWords.map (fun e => ⟨e.1, e.2.2.headD 0, ((e.2.2.take (e.2.1 + 1)).tail)⟩)
def Hpi.combs (f : Hpi) : List CombQueue :=
  f.combWords.map (fun e =>
    { num := e.1, word := BitVec.ofNat 64 e.2.1, contribs := (e.2.2.take (bits e.2.1 25 10)).mergeSort, round := 0, added := 0
      shape := (0, 0), sum := [], flags := 0, store := [] })

/-- The 8-byte entry of a place (Table 2a of spec/10). -/
def Place.word (q : Place) : Nat :=
  let ctx (i : Nat) : Nat := match q.ctxs[i]? with | some v => 512 + v | none => 0
  q.phys % 144 + q.phys / 144 * 256 + q.ctxs.length * 2 ^ 9 + ctx 0 * 2 ^ 12 + ctx 1 * 2 ^ 22 + ctx 2 * 2 ^ 32 + ctx 3 * 2 ^ 42

/-- The bytes of a placement map, and MAPDIG (R528). -/
def mapBytes (m : List Place) : List Byte := m.flatMap (fun q => toBytes 8 q.word)

/-- What a load fixes for the lagoon as a whole. -/
def Hpi.image (f : Hpi) (split : Bool) (m : List Place) : Image :=
  { gx := f.gx, gy := f.gy, fold := f.fold, rngFree := f.rngFree
    split := split, nstk := f.nstk, nddr := f.nddr, libver := f.libver, libdig := f.libdig, imgroot := merkleRoot f.bytes
    mapdig := sha384 (mapBytes m), regions := f.spans 0x15, shoal := f.spans 0x14, plans := f.plans }

/-! ## Wheels (R186, R190) -/

/-- The physical wheel of the image's i-th list of 256 owner words: program stacks' channels, then DDR5 channels. -/
def State.wheelAt (s : State) (l : Nat) (f : Hpi) (i : Nat) : Nat :=
  if i < 32 * f.nstk then 32 * ((s.ownStacks l).getD (i / 32) 0) + i % 32
  else 640 + (s.ownChans l).getD (i - 32 * f.nstk) 0

/-- An owner word with its virtual core as the physical core that carries it. -/
def ownerWord (l : Nat) (m : List Place) (w : Nat) : BitVec 16 :=
  let cls := bits w 13 3
  let p := ((m.find? (fun q => q.ctxs.contains (bits w 0 9))).map (·.phys)).getD 0
  BitVec.ofNat 16 (if cls = 0 then 0 else if cls = 1 then cls * 2 ^ 13 + l * 2 ^ 10 + p / 144 * 2 ^ 9 + p % 144 else cls * 2 ^ 13 + l * 2 ^ 10)

/-- The owner words of a channel that the image has no plan for: in a stack beyond NSTK the reef engine has the 8 slots that R204 gives
it at least, those numbered 1 to 8 (DESIGN CHOICE 93); a DDR5 channel has none. -/
def spareWheel (l w : Nat) : Sparse (BitVec 16) :=
  if w < 640 then (List.range 8).foldl (fun a n => Sparse.set 0 a (n + 1) (BitVec.ofNat 16 (2 * 2 ^ 13 + l * 2 ^ 10))) [] else []

/-- Write every wheel of a lagoon's stacks and channels. -/
def State.writeWheels (s : State) (l : Nat) (f : Hpi) (m : List Place) : State :=
  let ws := (s.ownStacks l).flatMap (fun n => (List.range 32).map (fun c => 32 * n + c)) ++ (s.ownChans l).map (640 + ·)
  let s1 := ws.foldl (fun (a : State) w => a.setWheel w { a.wheel w with owners := spareWheel l w }) s
  (List.range (32 * f.nstk + f.nddr)).foldl (fun (a : State) i =>
    let w := s.wheelAt l f i
    let ow := (List.range 256).map (fun n => ownerWord l m (f.ownerWords.getD (256 * i + n) 0))
    a.setWheel w { a.wheel w with owners := sparseOf 0 ow }) s1

/-- Slots that the plan gives a virtual core, by wheel. -/
def State.planSlots (s : State) (l : Nat) (f : Hpi) (v : Nat) : Sparse Nat :=
  (List.range (32 * f.nstk + f.nddr)).foldl (fun a i =>
    let n := ((List.range 256).filter (fun k =>
      let w := f.ownerWords.getD (256 * i + k) 0
      bits w 13 3 == 1 && bits w 0 9 == v && !decide ((if i < 32 * f.nstk then k % 32 else k % 16) = 0))).length
    Sparse.set 0 a (s.wheelAt l f i) n) []

/-! ## The load -/

/-- Write one physical core's contexts. -/
def State.writePlace (l : Nat) (f : Hpi) (p : Pack) (split : Bool) (s : State) (q : Place) : State :=
  (List.range q.ctxs.length).foldl (fun (a : State) i =>
    let v := q.ctxs.getD i 0
    a.setCore ⟨l, v⟩ (f.loadedCore p split v i q.phys (s.physCore q.phys) (s.planSlots l f v))) s

/-- Write a lagoon from a file that every check passed (R348), up to the change of its state. -/
def State.writeImage (s : State) (l : Nat) (f : Hpi) : State :=
  let split := f.split (s.regionCount l)
  let p := s.packFor f
  let m := s.placement f l
  let s1 : State := { s.clearMarks (fun p => m.any (fun q => q.phys == p)) (fun _ => true) with
    cores := s.cores.filter (fun c => c.1 / 512 != l) }
  let s2 := m.foldl (State.writePlace l f p split) s1
  let x := s2.lagoon l
  let s3 := s2.setLagoon l { x with
    img := some (f.image split m), place := m, barriers := f.barriers, groups := f.groups, combs := f.combs, msgs := [], ledgers := [] }
  let s4 := (s3.ownStacks l).foldl (fun (a : State) n => a.setStack n { (a.stack n).discard with reefstat := 0 }) (s3.writeWheels l f m)
  f.preloads.foldl (fun (a : State) q => a.putProg l q.1 q.2) s4

/-- Cause codes of Table 4 of spec/09, ascending. -/
def causeCodes : List Nat := (List.range 18).map (· + 1) ++ [0x20, 0x21, 0x22, 0x23]

/-- A ledger record (Tables 5 and 6 of spec/09). -/
def Core.ledgerBytes (k : Core) (v : Nat) : List Byte :=
  toBytes 32 (k.ledger.tstart % 2 ^ 64 * 2 ^ 192 + k.ledger.tend % 2 ^ 64 * 2 ^ 128 + k.beat % 2 ^ 64 * 2 ^ 64 + k.img.phys / 144 * 2 ^ 40 +
      k.img.phys % 144 * 2 ^ 32 + v % 512 * 2 ^ 16 + 22) ++
    causeCodes.flatMap (fun n =>
      let c := Sparse.get ⟨0, 0⟩ k.ledger.causes n
      toBytes 16 (c.ticks % 2 ^ 64 * 2 ^ 64 + c.episodes % 2 ^ 32 * 2 ^ 32 + n))

/-- The ledger records of a lagoon's image as the harbour keeps them once its cores hold it no more (R299, R483;
DEDUCED 112). -/
def State.keptLedgers (s : State) (l : Nat) : Sparse (List Byte) :=
  (s.vcores l).foldl (fun m v => Sparse.set [] m v ((s.core ⟨l, v⟩).ledgerBytes v)) []

/-- Drop what a load left in a lagoon's cores, wheels and tables (R413: UNLOAD, entry to P2 or P3). -/
def State.clearImage (s : State) (l : Nat) : State :=
  let x := { s.lagoon l with ledgers := s.keptLedgers l }
  let s1 : State := { s with cores := s.cores.filter (fun c => c.1 / 512 != l) }
  let s2 := s1.setLagoon l { x with img := none, place := [], barriers := [], groups := [], combs := [], msgs := [], hashing := none }
  let ws := (s2.ownStacks l).flatMap (fun n => (List.range 32).map (fun c => 32 * n + c)) ++ (s2.ownChans l).map (640 + ·)
  let s3 := ws.foldl (fun (a : State) w => a.setWheel w { a.wheel w with owners := [] }) s2
  (s3.ownStacks l).foldl (fun (a : State) n => a.setStack n { (a.stack n).discard with reefstat := 0 }) s3

end Sys2Proof.Machine
end

