-- ==== Sys2Proof/Machine/Objects.lean ====
section
/-! DEFINITION. The objects of READ and XFER, and the logbook's layout (R298, R273, R421, R495 to R498). -/

namespace Sys2Proof.Machine

/-! ## The logbook (Tables 7 to 9 of spec/16) -/

/-- n counts of w bytes each of a sparse section. -/
def countBytes (w n : Nat) (m : Sparse Nat) : List Byte := (List.range n).flatMap (fun i => toBytes w (Sparse.get 0 m i))

/-- An error entry in use. -/
def ErrEntry.bytes (e : ErrEntry) : List Byte :=
  toBytes 32 (e.word % 2 ^ 32 * 2 ^ 224 + e.bit % 256 * 2 ^ 216 + e.daycnt % 65536 * 2 ^ 200 + e.daystart % 2 ^ 32 * 2 ^ 168 +
    e.firsts % 2 ^ 32 * 2 ^ 96 + e.lasts % 2 ^ 32 * 2 ^ 64 + e.ploc % 65536 * 2 ^ 48 + e.unit % 256 * 2 ^ 40 + e.subidx % 256 * 2 ^ 32 +
    e.corr % 65536 * 2 ^ 16 + e.uncorr % 256 * 2 ^ 8 + b2n e.spared * 4 + b2n e.lasting * 2 + 1)

/-- The 174,592 bytes of the live logbook, with a commit's number and tide (R496, R498). -/
def State.logbookBytes (s : State) (logseq tcommit : Nat) : List Byte :=
  let b := s.rel.log
  toBytes 64 (logseq % 2 ^ 64 * 2 ^ 320 + tcommit % 2 ^ 64 * 2 ^ 256 + b.seconds % 2 ^ 64 * 2 ^ 192 + s.counter 6 % 2 ^ 64 * 2 ^ 128 +
      0x2AA00 * 2 ^ 96 + b.errs.length % 65536 * 2 ^ 80 + b.events.length % 65536 * 2 ^ 64 + s.keeper.stepping % 256 * 2 ^ 40 +
      s.keeper.grade % 256 * 2 ^ 32 + 0x424C * 2 ^ 16 + 1) ++
    countBytes 8 16 b.states ++ countBytes 4 1280 b.temps ++ countBytes 4 576 b.vsets ++ countBytes 4 576 b.rates ++
    padTo 192 (countBytes 8 18 b.rails) ++ countBytes 8 64 b.links ++ countBytes 8 16 b.spares ++
    padTo 131072 (b.errs.flatMap ErrEntry.bytes) ++ padTo 32768 ((b.events.take 1024).reverse.flatMap EventRec.bytes)

/-! ## Ledger records and snapshots -/

/-- A deadlock snapshot (Table 9 of spec/08). -/
def DeadSnap.bytes (d : DeadSnap) (l : Nat) : List Byte :=
  toBytes 32 (d.tide % 2 ^ 64 * 2 ^ 192 + d.entries.length % 2 ^ 32 * 2 ^ 160 + d.dropped % 2 ^ 32 * 2 ^ 128 + d.dlwin % 2 ^ 64 * 2 ^ 64 + l % 8) ++
    d.entries.flatMap (fun e => toBytes 16 e.toNat)

/-- CONFIGURE's arguments with the sealed bit (Table 9 of spec/13). -/
def Lagoon.cfgBytes (x : Lagoon) : List Byte :=
  toBytes 16 (b2n x.sealed * 2 ^ 83 + b2n x.cfg.steady * 2 ^ 82 + x.cfg.pmode % 4 * 2 ^ 80 + x.cfg.chans % 65536 * 2 ^ 64 +
    x.cfg.hbm % 2 ^ 20 * 2 ^ 32 + x.cfg.regions % 2 ^ 18)

/-! ## Objects (Table 9 of spec/13) -/

/-- What reading an object gives: its bytes, or a status with its detail. -/
inductive Obj where
  | bytes (b : List Byte)
  | no (status detail : Nat)
  deriving DecidableEq, Repr

/-- The events from a number on that a scope may see; a number older than those kept is not found (R495). -/
def State.eventLog (s : State) (scope first : Nat) : Obj :=
  let old := (s.log.getLast?.map (·.evno)).getD 1
  if first < old then .no 0x0F 0
  else .bytes ((s.log.filter (fun e => first ≤ e.evno &&
    (scope == 0 || (e.lagoon.map (scopeSees scope)).getD false))).reverse.flatMap EventRec.bytes)

/-- An object as it stands now, for a session's scope. `lag` is the LAGOON field. Offsets of DETAIL: 17 LAGOON, 32 object,
40 index. -/
def State.object (s : State) (scope lag obj idx : Nat) : Obj :=
  let all := scope == 0
  let sees (l : Nat) : Bool := scopeSees scope l
  if (obj = 4 ∨ obj = 5) ∧ 7 < lag then .no 6 17
  else if (obj = 4 ∨ obj = 5) ∧ sees lag = false then .no 7 0
  else if obj ≠ 4 ∧ obj ≠ 5 ∧ lag ≠ 0xFF then .no 6 17
  else match obj with
  | 0x01 => .bytes (toBytes 4 s.health)
  | 0x02 => .bytes (toBytes 4 s.tidestat)
  | 0x03 =>
    if 18 ≤ idx ∨ !(all || (s.regionOwner idx).any sees) then .no 6 40 else .bytes (toBytes 8 (s.region idx).stat)
  | 0x04 =>
    if 512 ≤ idx then .no 6 40
    else if (s.core ⟨lag, idx⟩).img.used then .bytes ((s.core ⟨lag, idx⟩).ledgerBytes idx)
    else match Sparse.get [] (s.lagoon lag).ledgers idx with
      | [] => .no 0x0F 0
      | b => .bytes b
  | 0x05 => match (s.lagoon lag).dead with | some d => .bytes (d.bytes lag) | none => .no 0x0F 0
  | 0x06 => match s.runs.find? (fun r => r.runno == idx && sees r.lagoon) with
    | some r => .bytes (toBytes 576 r.bytes.toNat)
    | none => .no 0x0F 0
  | 0x07 => match (s.builder.signed.take 16).find? (fun b => b.no == idx) with
    | some b => .bytes (b.bytes (if all then none else some (scope % 16)))
    | none => .no 0x0F 0
  | 0x08 => match s.lrs.find? (fun r => r.idx == idx) with
    | some r => if all || r.owner == scopeOwner scope then .bytes (toBytes 8 r.ledger) else .no 6 40
    | none => if 256 ≤ idx then .no 6 40 else .no 0x0F 0
  | 0x09 => s.eventLog scope idx
  | 0x0A => if all then .bytes (s.logbookBytes (s.counter 5) s.tide.count) else .no 7 0
  | 0x0B => if 8 ≤ idx ∨ sees idx = false then .no 6 40 else .bytes (s.lagoon idx).cfgBytes
  | 0x0C => .bytes (s.libs.flatMap (fun p => toBytes 4 p.triple ++ digestBytes p.digest))
  | 0x0D =>
    if 8 ≤ idx ∨ sees idx = false then .no 6 40
    else if (s.lagoon idx).img.isSome then .bytes (mapBytes (s.lagoon idx).place) else .no 0x0F 0
  | 0x0E => match s.qps.find? (fun q => q.qpn == idx) with
    | some q =>
      if all || q.owner == scopeOwner scope then .bytes (toBytes 16 (Config.qpLayout q.state q.spsn q.rpsn q.retries).toNat) else .no 6 40
    | none => .no 0x0F 0
  | _ => .no 6 32

/-- The bytes of a part of an object; none are left beyond its end. -/
def objectPart (b : List Byte) (off n : Nat) : List Byte := (b.drop off).take n

end Sys2Proof.Machine
end

