-- ==== Sys2Proof/Machine/Roce.lean ====
section
/-! DEFINITION. RoCEv2: queue pairs, landing regions and ledgers, drains on the wire (R371 to R376, R311, R441, R443). -/

namespace Sys2Proof.Machine

/-! ## The port -/

/-- Whether the port's traffic reaches the harbour: past mailbox readiness, not held or off-ready, and with MACsec on
through an open controlled port (R370, R392, R460). -/
def State.portUp (s : State) : Bool :=
  s.power.porst && s.boot.ready && !s.boot.held && !s.side.offReady && (!s.port.cfg.macsec || s.port.ctlOpen)

/-- The owner that an address entry is bound to: 8 the harbour (R366). -/
def State.entryOwner (s : State) (e : Nat) : Option Nat :=
  if e = 0 then some 8 else (s.port.cfg.addrs.find? (fun p => p.1 == e)).map (fun p => p.2.owner)

/-- Whether the device holds an address. -/
def State.holdsAddr (s : State) (a : Nat) (v4 : Bool) : Bool :=
  (a == linkLocal s.macAddr && !v4) || s.port.cfg.addrs.any (fun p => p.2.addr == a && p.2.v4 == v4)

/-! ## Queue pairs -/

def State.qp? (s : State) (n : Nat) : Option QPair := s.qps.find? (fun q => q.qpn == n)
def State.setQp (s : State) (q : QPair) : State := { s with qps := s.qps.map (fun x => if x.qpn = q.qpn then q else x) }
def State.lr? (s : State) (n : Nat) : Option LandReg := s.lrs.find? (fun r => r.idx == n)
def State.setLr (s : State) (r : LandReg) : State := { s with lrs := s.lrs.map (fun x => if x.idx = r.idx then r else x) }

/-- The path MTU in bytes. -/
def QPair.mtuBytes (q : QPair) : Nat := 1024 * 2 ^ q.mtu

/-- Packets that n bytes take. -/
def QPair.packets (q : QPair) (n : Nat) : Nat := max 1 ((n + q.mtuBytes - 1) / q.mtuBytes)

/-- PSN distance from a to b, modulo 2^24. -/
def psnDist (a b : Nat) : Nat := (b + 2 ^ 24 - a % 2 ^ 24) % 2 ^ 24

/-- Send the packets of one request. -/
def State.sendWork (s : State) (qpn : Nat) (w : Work) : State :=
  s.send ⟨5, qpn, w.psn, if w.snd then w.bytes else toBytes 4 w.rkey ++ toBytes 8 w.remote ++ w.bytes⟩

/-- Queue a request, which starts the ACK timer where none is under way (R371). -/
def State.postWork (s : State) (q : QPair) (w : Work) : State :=
  (s.setQp { q with
    spsn := (q.spsn + q.packets w.bytes.length) % 2 ^ 24, work := q.work ++ [w], timer := if q.work = [] then s.tide.count else q.timer }).sendWork q.qpn w

/-- Post an RDMA WRITE on a queue pair that is not in error (R371). -/
def State.postWrite (s : State) (q : QPair) (rkey remote : Nat) (bytes : List Byte) (ref : Option Ref) (drain : Option Nat)
    (reply : List Byte) : State :=
  s.postWork q ⟨q.spsn, bytes, rkey, remote, ref, drain, none, false, reply⟩

/-- Post a SEND on a queue pair that is not in error (R371, R431). -/
def State.postSend (s : State) (q : QPair) (bytes : List Byte) : State :=
  s.postWork q ⟨q.spsn, bytes, 0, 0, none, none, none, true, []⟩

/-! ## Drains (R441, R443) -/

/-- The first atom marked bad among n bytes from a program address of a lagoon. -/
def State.badIn (s : State) (l lo n : Nat) : Option Nat :=
  s.rel.bad.find? (fun a => match s.progAddr l (64 * a) with
    | some p => decide (lo < p + 64) && decide (p < lo + n)
    | none => false)

/-- Answer a drain whose queue pair is in error or gone (R443). -/
def State.drainFailed (s : State) (l : Nat) (d : Drain) : State :=
  (s.raise 0x8112 0 (argQ 0 0 d.qpn) 0 (some l) none).answer d.ref 0x15 d.qpn 0x8112 []

/-- The bytes of the first of a lagoon's drains have all been read: they are sent as one RDMA WRITE (R441). -/
def State.sendDrain (s : State) (l : Nat) : State :=
  match (s.lagoon l).drains with
  | [] => s
  | d :: rest =>
    match s.qp? d.qpn with
    | some q =>
      let bs := (((granulesOf d.src d.len).flatMap (fun g => Sparse.get [] d.got g)).drop (d.src % 1024)).take d.len
      (s.setLagoon l { s.lagoon l with drains := { d with root := some (merkleRoot bs), got := [] } :: rest }).postWrite q d.rkey d.remote bs none (some l) []
    | none => s

/-- Start the first of a lagoon's drains, if it has not been started and DDR5 can be read: its granules wait for slots of their channels
(R442). A word that cannot be corrected ends the lagoon's run (R488). -/
def State.startDrains (l : Nat) : List Drain → State → State
  | [], s => s.setLagoon l { s.lagoon l with drains := [] }
  | d :: rest, s =>
    if d.root.isSome ∨ d.todo ≠ [] ∨ s.power.state = 3 then s.setLagoon l { s.lagoon l with drains := d :: rest }
    else match s.qp? d.qpn with
      | some q =>
        if q.state = 0 then
          let t := s.setLagoon l { s.lagoon l with drains := { d with todo := granulesOf d.src d.len } :: rest }
          if d.len = 0 then t.sendDrain l else t
        else State.startDrains l rest (s.drainFailed l d)
      | none => State.startDrains l rest (s.drainFailed l d)

def State.startDrain (s : State) (l : Nat) : State := State.startDrains l (s.lagoon l).drains s

/-- End a lagoon's first drain, whose queue pair failed (R443). -/
def State.failDrain (s : State) (l : Nat) : State :=
  match (s.lagoon l).drains with
  | d :: rest => State.startDrains l rest (s.drainFailed l d)
  | [] => s

/-- What the failure of a queue pair's request brings about, with the event that it came with, if any. -/
def failWork (qpn event : Nat) (s : State) (w : Work) : State :=
  match w.drain with
  | some l => s.failDrain l
  | none => s.answerOpt w.ref 0x15 qpn event []

/-- A queue pair enters the error state (R372): event 0x5302, and its requests fail. -/
def State.failQp (s : State) (q : QPair) : State :=
  let lag := if q.owner < 8 then some q.owner else none
  let t := (s.setQp { q with state := 1, work := [] }).raise 0x5302 0 (argQ 0 0xFF q.qpn) 0 lag none
  q.work.foldl (failWork q.qpn 0x5302) t

/-! ## Landing (R373 to R375, R311) -/

/-- Whether n bytes from a device address meet one of a lagoon's declared regions. -/
def State.meetsRegion (s : State) (l d n : Nat) (rs : List Span) : Bool :=
  (List.range n).any (fun i => match s.progAddr l (d + i) with
    | some a => rs.any (fun r => r.start ≤ a && a < r.start + r.len)
    | none => false)

/-- Whether every one of n bytes lies in one of the regions. -/
def State.insideRegions (s : State) (l d n : Nat) (rs : List Span) : Bool :=
  (List.range n).all (fun i => match s.progAddr l (d + i) with
    | some a => rs.any (fun r => r.start ≤ a && a < r.start + r.len)
    | none => false)

/-- Whether a lagoon is within the landing window of a run: from the start of sealing until its record is accepted (R311). -/
def State.landingWindow (s : State) (l : Nat) : Bool :=
  let x := s.lagoon l
  (x.st == .loaded && (x.sealed || (x.pauseRef.map (fun r => r.op == 0x0105)).getD false)) || x.run.isSome

/-- A landing outside input regions and live windows within the window: event 0x5401, and LATE_LANDING (R311). -/
def State.lateLanding (s : State) (l d n : Nat) : State :=
  let x := s.lagoon l
  let im := x.img
  if s.landingWindow l && !s.insideRegions l d n (((im.map Image.inputs).getD []) ++ ((im.map Image.live).getD [])) then
    match x.run with
    | some r => (s.taint l 8).raise 0x5401 0 r.runno 0 (some l) none
    | none => (s.setLagoon l { x with late := true }).raise 0x5401 0 0 0 (some l) none
  else s

/-- Whether a region's memory accepts requests in the present power state (R376). -/
def State.lrAwake (s : State) (r : LandReg) : Bool :=
  if r.addr < ddrBase then s.power.state ≤ 1 else s.power.state ≤ 2

/-- The stacks and channels that n bytes from a device address meet are clean no longer (R474). -/
def State.soil (s : State) (a n : Nat) : State :=
  [a, a + n - 1].foldl (fun (t : State) d =>
    if d < ddrBase then t.setStack (d / 2 ^ 37) { t.stack (d / 2 ^ 37) with clean := false }
    else t.setChannel ((d - ddrBase) / 2 ^ 38) { t.channel ((d - ddrBase) / 2 ^ 38) with clean := false }) s

/-- The lagoons that own memory which n bytes from a device address meet. -/
def State.ownersOf (s : State) (a n : Nat) : List Nat :=
  ([s.addrOwner a, s.addrOwner (a + n - 1)].filterMap id).eraseDups.filter (fun l => decide (l < 8))

/-- The harbour moves n bytes at a device address: the slots for their granules have still to pass (R188, DESIGN CHOICE 11). -/
def State.harbourMoves (s : State) (d n : Nat) : State :=
  (granulesOf d n).foldl (fun a g => let w := wheelOf (1024 * g); a.setWheel w { a.wheel w with owed := (a.wheel w).owed + 1 }) s

/-- The same at a program address of a lagoon. -/
def State.harbourMovesAt (s : State) (l a n : Nat) : State :=
  (granulesOf a n).foldl (fun t g => match t.translate l (1024 * g) with | some d => t.harbourMoves d 1024 | none => t) s

/-- Bytes land in a region (R374): written, counted in its ledger, and judged by R311 for the lagoon whose memory they are. -/
def State.land (s : State) (r : LandReg) (a : Nat) (bs : List Byte) : State :=
  let t := ((s.writeBytes a bs).clearBad ((List.range bs.length).map (a + ·))).setLr { r with ledger := r.ledger + bs.length }
  if bs = [] then t
  else (t.ownersOf a bs.length).foldl (fun u l => u.lateLanding l a bs.length) ((t.soil a bs.length).harbourMoves a bs.length)

/-- The landing region that a request may use, none where it is refused (R373, R376). A byte that the region's owner no longer holds, since a
lagoon has received the memory, lies in no region of it (R373, R183; DEDUCED 87). -/
def State.lrFor (s : State) (q : QPair) (p : Packet) (write : Bool) : Option LandReg :=
  match s.lrs.find? (fun r => r.rkey == p.rkey && r.owner == q.owner) with
  | none => none
  | some r =>
    let inputs (l : Nat) : List Span := (((s.lagoon l).img).map Image.inputs).getD []
    if r.addr ≤ p.addr && p.addr + p.len ≤ r.addr + r.len && s.holds r.owner p.addr p.len && (if write then r.write else r.read) && s.lrAwake r &&
      !(write && (List.range 8).any (fun l => s.landingWindow l && s.meetsRegion l p.addr p.len (inputs l))) then some r else none

/-- Refuse a request: NAK remote access error and event 0x5301; nothing is written or read (R373). -/
def State.refuseRoce (s : State) (q : QPair) (p : Packet) : State :=
  let r := s.lrs.find? (fun r => r.rkey == p.rkey)
  (s.raise 0x5301 2 (argQ ((r.map (·.ledger)).getD 0) ((r.map (·.idx)).getD 0xFF) q.qpn) 0
    (if q.owner < 8 then some q.owner else none) none).send ⟨5, q.qpn, p.psn, [0xE2]⟩

/-- A packet for a queue pair: the pair, if it is not in error and the packet came to UDP port 4791 at an address of its owner
(R371, R372). -/
def State.packetQp (s : State) (p : Packet) : Option QPair :=
  if s.portUp then
    match s.qp? p.qpn with
    | some q =>
      if q.state = 0 ∧ p.dport = 4791 ∧ p.entry ≠ 0 ∧ s.entryOwner p.entry = some q.owner ∧ p.src = q.peer ∧ p.wire.v4 = q.v4 then some q
      else none
    | none => none
  else none

/-- A congestion notification for a packet marked CE, whatever becomes of the packet (R371). -/
def State.notifyCe (s : State) (q : QPair) (p : Packet) : State := if p.ce then s.send ⟨11, q.qpn, 0, [0x81]⟩ else s

/-- Acknowledge a request packet's PSN (R371). -/
def State.ackPacket (s : State) (q : QPair) (p : Packet) : State := s.send ⟨5, q.qpn, p.psn, [0x11]⟩

/-- A packet of a queue pair that its frame brings in, else it is dropped and counted. -/
def State.roceIn (s : State) (p : Packet) (k : State → QPair → State) : State :=
  s.frameIn p.wire false (some p.entry) (fun t => match t.packetQp p with
    | some q => k t q
    | none => t.dropFrame)

/-- A request packet of a queue pair in PSN order (R371, go-back-N): `f` performs the one expected, `again` answers a PSN already
taken, and a later one is turned back. What Table 4 of spec/12 does not list is answered with NAK invalid request. -/
def State.inOrder (s0 : State) (q : QPair) (p : Packet) (f again : State → QPair → State) : State :=
  let s := s0.notifyCe q p
  if p.rc = false then s.send ⟨5, q.qpn, p.psn, [0xE1]⟩
  else if p.psn % 2 ^ 24 = q.rpsn then f s q
  else if psnDist p.psn q.rpsn ≤ 2 ^ 23 then again s q
  else s.send ⟨5, q.qpn, q.rpsn, [0xE0]⟩

/-- ROCE_WRITE (R371 to R376): an RDMA WRITE packet. -/
def execRoceWrite (p : Packet) (s : State) : Host.Outcome State Fault Refusal :=
  .next (s.roceIn p (fun s q => s.inOrder q p (fun t q =>
      if p.bytes.length ≠ p.len ∨ q.mtuBytes < p.len then t.dropFrame
      else match t.lrFor q p true with
        | none => t.refuseRoce q p
        | some r => ((t.setQp { q with rpsn := (q.rpsn + 1) % 2 ^ 24 }).land r p.addr p.bytes).ackPacket q p)
    (fun t q => t.ackPacket q p)))

/-- The bytes of a READ request go out, or it is refused (R373). -/
def State.serveRead (s : State) (q : QPair) (p : Packet) : State :=
  match s.lrFor q p false with
  | none => s.refuseRoce q p
  | some _ => s.send ⟨5, q.qpn, p.psn, s.readBytes p.addr p.len⟩

/-- ROCE_READ (R371, R373): an RDMA READ request, served from a landing region, and again where it is repeated; a READ takes one PSN
per response. -/
def execRoceRead (p : Packet) (s : State) : Host.Outcome State Fault Refusal :=
  .next (s.roceIn p (fun s q => s.inOrder q p (fun t q =>
      if (t.lrFor q p false).isSome then (t.setQp { q with rpsn := (q.rpsn + q.packets p.len) % 2 ^ 24 }).serveRead q p
      else t.refuseRoce q p)
    (fun t q => t.serveRead q p)))

/-- ROCE_READ_RESPONSE (R374): a response to the oldest request of a queue pair, an RDMA READ, lands in its region. -/
def execRoceReadResponse (p : Packet) (s : State) : Host.Outcome State Fault Refusal :=
  .next (s.roceIn p (fun s q =>
      match q.work with
      | w :: rest =>
        match w.lr.bind s.lr? with
        | none => s.dropFrame
        | some r =>
          if p.psn % 2 ^ 24 ≠ w.psn ∨ p.bytes.length > w.bytes.length ∨ s.lrAwake r = false then s.dropFrame
          else
            let left := w.bytes.drop p.bytes.length
            let w1 := { w with psn := (w.psn + 1) % 2 ^ 24, remote := w.remote + p.bytes.length, bytes := left }
            let t := s.setQp { q with retries := 0, timer := s.tide.count, work := if left.isEmpty then rest else w1 :: rest }
            t.land r (r.addr + w.remote) p.bytes
      | [] => s.dropFrame))

/-- The completion of a request: an XFER is given the reply formed as its object was copied (R421, DEDUCED 89); a drain is answered by
CK_DRAIN_DONE. -/
def completeWork (s : State) (w : Work) : State :=
  match w.ref with
  | some r => s.giveReply r (fun _ => w.reply)
  | none => s

/-- Send what a queue pair has not had acknowledged again; its ACK timer starts anew. -/
def State.resend (s : State) (q : QPair) : State :=
  q.work.foldl (fun a w => a.sendWork q.qpn w) (s.setQp { q with timer := s.tide.count })

/-- ROCE_ACK (R371, R372): every request whose last PSN lies at or before the one acknowledged, or before the one that a NAK names, has
completed. What an RNR NAK or a NAK for a PSN out of order turns back is sent again, at most 7 times; another NAK puts the queue pair
in error. -/
def execRoceAck (p : Packet) (s : State) : Host.Outcome State Fault Refusal :=
  .next (s.roceIn p (fun s q =>
      let upto := if p.syn = 0 then p.psn else p.psn + 2 ^ 24 - 1
      let acked (w : Work) : Bool := w.lr.isNone && decide (psnDist (w.psn + q.packets w.bytes.length - 1) upto < 2 ^ 23)
      let done := q.work.takeWhile acked
      let q1 := { q with
        work := q.work.dropWhile acked, retries := if done.isEmpty then q.retries else 0, rnr := if done.isEmpty then q.rnr else 0
        timer := if done.isEmpty then q.timer else s.tide.count }
      let t := done.foldl completeWork (s.setQp q1)
      if p.syn = 0 then t
      else if p.syn = 1 then (if 7 ≤ q1.rnr then t.failQp q1 else t.resend { q1 with rnr := q1.rnr + 1 })
      else if p.syn = 2 then (if 7 ≤ q1.retries then t.failQp q1 else t.resend { q1 with retries := q1.retries + 1 })
      else t.failQp q1))

/-- ROCE_ACK_TIMEOUT (R371, R372): the queue pair's ACK timeout has passed without an acknowledgement, and the requests not acknowledged
are sent again, at most 7 times. -/
def execRoceAckTimeout (qpn : Nat) (s : State) : Host.Outcome State Fault Refusal :=
  .next (match s.qp? qpn with
    | none => s
    | some q =>
      if q.state ≠ 0 ∨ q.work = [] ∨ s.power.porst = false ∨ s.tide.count < q.timer + q.timeout * 1000 then s
      else if 7 ≤ q.retries then s.failQp q
      else s.resend { q with retries := q.retries + 1 })

/-- CNP_RECEIVED (R371): a congestion notification packet for a queue pair lowers its send rate, to a free value below the present one. -/
def execCnpReceived (p : Packet) (s : State) : Host.Outcome State Fault Refusal :=
  .next (s.roceIn p (fun s q =>
    let (n, t) := s.draw
    t.setQp { q with rate := Config.cnpRate n % max 1 q.rate }))

end Sys2Proof.Machine
end

