-- ==== Sys2Proof/Machine/Port.lean ====
section
/-! DEFINITION. The Ethernet port: link, flow control, MACsec, network layer and lighthouse (R363 to R370, R377 to R388). -/

namespace Sys2Proof.Machine

/-! ## Link (R363, R364) -/

/-- Widths tried in order, as (Gb/s, lanes used), by LINK_MODE (Table 1 of spec/12). -/
def linkWidths (mode : Nat) : List (Nat × Nat) :=
  if mode % 4 = 3 then [(800, 0x0F)] else [(1600, 0xFF), (800, 0x0F), (400, 0x03)]

/-- ARG form L: lane mask and width. -/
def argL (mask width : Nat) : Nat := mask % 2 ^ 32 * 2 ^ 32 + width % 2 ^ 32

/-- LINK_UP (R364): alignment lock at the first width whose lanes all trained, from step 7 of start-up on (R520). `lanes`: a bit per
lane that trained. -/
def execLinkUp (lanes : Nat) (s : State) : Host.Outcome State Fault Refusal :=
  let ws := linkWidths s.straps.linkMode
  .next (if s.power.porst = false ∨ s.boot.step4 = false ∨ s.side.offReady ∨ s.port.link.isSome then s
    else match ws.find? (fun w => lanes &&& w.2 == w.2) with
      | none => s
      | some (w, m) =>
        let t := (({ s with port := { s.port with link := some w, lanes := m } }).countLink 2).notice 0x5101 (argL m w)
        if (ws.head?.map Prod.fst) ≠ some w then (t.countLink 3).notice 0x5103 (argL m w) else t)

/-- LINK_DOWN (R393): alignment lock is lost. Pauses of the peer end with it. -/
def execLinkDown (s : State) : Host.Outcome State Fault Refusal :=
  .next (match s.port.link with
    | some w =>
      let m := s.port.lanes
      ({ s with port := { s.port with link := none, lanes := 0, paused := [] } }).notice 0x5102 (argL m w)
    | none => s)

/-- FEC_DEGRADED (R393): uncorrected codewords exceed 1 in 10^12 over 10 s; counted in the logbook. -/
def execFecDegraded (s : State) : Host.Outcome State Fault Refusal :=
  .next (match s.port.link with
    | some w => s.notice 0x5104 (argL s.port.lanes w)
    | none => s)

/-! ## Flow control (R369) -/

/-- PAUSE_FRAME (R369): the peer pauses or releases a priority. -/
def execPauseFrame (prio : Nat) (on : Bool) (s : State) : Host.Outcome State Fault Refusal :=
  .next (if 8 ≤ prio ∨ s.port.link.isNone then s
    else
      let ps := s.port.paused
      let left := ps.filter (fun p => p.prio != prio)
      let old := ps.find? (fun p => p.prio == prio)
      { s with port := { s.port with paused := if on then (old.getD ⟨prio, s.tide.count, false⟩) :: left else left } })

/-- Note that 0x5106 has been raised in a priority's present episode. -/
def raisePause (prio : Nat) (l : List Paused) : List Paused := l.map (fun p => if p.prio = prio then { p with raised := true } else p)

/-- PFC_HOLD (R369): a priority stays paused beyond PFCWD; event 0x5106 once per episode. -/
def execPfcHold (prio : Nat) (s : State) : Host.Outcome State Fault Refusal :=
  .next (match s.port.paused.find? (fun p => p.prio == prio) with
    | some p =>
      if p.raised = false ∧ p.since + s.port.cfg.pfcwd * 1000000 < s.tide.count then
        ({ s with port := { s.port with paused := raisePause prio s.port.paused } }).notice 0x5106 (argV 0 prio)
      else s
    | none => s)

/-! ## MACsec (R370) -/

/-- A secure channel's associations once one with a number is in use: one held stays, a new one starts at packet number 1, and two are
kept. -/
def newSa (l : List Sa) (an : Nat) : List Sa :=
  if (l.head?.map (·.an)) = some an then l
  else (⟨an, 1 + (l.map (·.serial)).foldl max 0, 1⟩ :: l.filter (fun a => a.an != an)).take 2

/-- MKA_FRAME (R370): a frame of the key agreement under the CAK. A live peer opens the controlled port under the
association named, in the receive and in the transmit channel; two associations are kept in each, so that keys roll over. -/
def execMkaFrame (m : Mka) (s : State) : Host.Outcome State Fault Refusal :=
  .next (if s.port.cfg.macsec = false ∨ s.port.cfg.cak.isNone ∨ s.power.porst = false ∨ m.valid = false ∨ m.live = false then s
    else { s with port := { s.port with ctlOpen := true, sas := newSa s.port.sas (m.an % 4), txSas := newSa s.port.txSas (m.an % 4) } })

/-- MACSEC_PEER_LOST (R370): the controlled port closes; event 0x5105. -/
def execMacsecPeerLost (s : State) : Host.Outcome State Fault Refusal :=
  .next (if s.port.cfg.macsec = true ∧ s.port.ctlOpen = true then
      ({ s with port := { s.port with ctlOpen := false, sas := [], txSas := [] } }).notice 0x5105 0
    else s)

/-! ## Network layer (R366, R367, R377) -/

/-- Whether the port answers network frames: the link is up, and with MACsec on the controlled port is open. -/
def State.netUp (s : State) : Bool :=
  s.power.porst && s.port.link.isSome && !s.side.offReady && (!s.port.cfg.macsec || s.port.ctlOpen)

/-- The address entry that holds an address. -/
def State.entryOf (s : State) (a : Nat) (v4 : Bool) : Option Nat :=
  if a = linkLocal s.macAddr ∧ v4 = false then some 0
  else (s.port.cfg.addrs.find? (fun p => p.2.addr == a && p.2.v4 == v4)).map Prod.fst

/-- A network frame to an address of the device that `ok` takes, answered by `k`; any other is dropped and counted (R366, R367). -/
def State.netIn (s : State) (p : NetFrame) (ok : Nat → Bool) (k : State → Nat → State) : State :=
  if s.netUp = false then s
  else match s.entryOf p.target p.wire.v4 with
    | some e => if ok e then s.frameIn p.wire false (some e) (fun t => k t e) else s.frameIn p.wire false none State.dropFrame
    | none => s.frameIn p.wire false none State.dropFrame

/-- ECHO_REQUEST (R367): an ICMPv6 echo reply, or an ICMPv4 one of type 0, with the request's payload; entry 0 serves no echo
(R366). -/
def execEchoRequest (p : NetFrame) (s : State) : Host.Outcome State Fault Refusal :=
  .next (s.netIn p (fun e => e != 0) (fun t e => t.sendVia (some e) ⟨6, p.peer, if p.wire.v4 then 0 else 0x81, p.body⟩))

/-- Learn a peer's link-layer address. -/
def State.resolve (s : State) (peer mac : Nat) : State :=
  { s with port := { s.port with resolved := (peer, mac) :: s.port.resolved.filter (fun r => r.1 != peer) } }

/-- NEIGHBOUR_SOLICITATION (R367): an advertisement with the MAC address in use. -/
def execNeighbourSolicitation (p : NetFrame) (s : State) : Host.Outcome State Fault Refusal :=
  .next (s.netIn p (fun _ => !p.wire.v4) (fun t e => t.sendVia (some e) ⟨6, p.peer, 0x88, toBytes 16 p.target ++ toBytes 6 t.macAddr⟩))

/-- NEIGHBOUR_ADVERTISEMENT (R367): a peer's link-layer address is resolved. -/
def execNeighbourAdvertisement (p : NetFrame) (s : State) : Host.Outcome State Fault Refusal :=
  .next (if s.netUp = false then s else s.frameIn p.wire false none (fun t => if p.wire.v4 then t.dropFrame else t.resolve p.target p.mac))

/-- ARP_REQUEST (R367): an ARP reply for an IPv4 address the device holds. -/
def execArpRequest (p : NetFrame) (s : State) : Host.Outcome State Fault Refusal :=
  .next (s.netIn p (fun _ => p.wire.v4) (fun t e => t.sendVia (some e) ⟨6, p.peer, 2, toBytes 4 p.target ++ toBytes 6 t.macAddr⟩))

/-- ARP_REPLY (R367): an IPv4 peer's link-layer address is resolved. -/
def execArpReply (p : NetFrame) (s : State) : Host.Outcome State Fault Refusal :=
  .next (if s.netUp = false then s else s.frameIn p.wire false none (fun t => if p.wire.v4 then t.resolve p.target p.mac else t.dropFrame))

/-- PEER_DELAY_REQUEST (R377): timestamped on receipt, and answered with that timestamp and the answer's own on transmission. PTP
frames use the uncontrolled port (R370). -/
def execPeerDelayRequest (p : NetFrame) (s : State) : Host.Outcome State Fault Refusal :=
  .next (if s.power.porst = false ∨ s.port.link.isNone ∨ s.side.offReady then s
    else s.frameIn p.wire true none (fun t => t.send ⟨12, p.peer, 3, toBytes 8 t.tide.count ++ toBytes 8 t.tide.count ++ p.body⟩))

/-! ## The lighthouse (R378 to R388) -/

def lhMode (c : NetCfg) : Nat := bits c.lhcfg 30 2
def lhVis (c : NetCfg) (l : Nat) : Bool := bit c.lhcfg (22 + l)
def lhPri (c : NetCfg) : Nat := bits c.lhcfg 19 3
def lhGap (c : NetCfg) : Nat := bits c.lhcfg 0 14 * 100

/-- DONE of a session (R383, R408). -/
def Session.done (x : Session) : Nat := match x.cmds.map (·.seq) with
  | [] => x.high
  | a :: rest => rest.foldl min a - 1

/-- MARK of a session number, where the lighthouse shows it (R383). -/
def State.lhMark (s : State) (n : Nat) : Option Nat :=
  match s.session? n with
  | some x => if x.scope = 0 || lhVis s.port.cfg (x.scope % 16) then some (x.done * 2 ^ 32 + x.high) else none
  | none => none

/-- The reply payload (Table 6 of spec/12). -/
def State.lhPayload (s : State) (word : BitVec 128) : BitVec 768 :=
  let marks := (List.range 8).map (fun n => s.lhMark (bits word.toNat (64 + 8 * n) 8))
  let valid := ((List.range 8).map (fun n => b2n (marks.getD n none).isSome * 2 ^ n)).sum
  BitVec.ofNat 768 (((List.range 8).map (fun n => ((marks.getD n none).getD 0) * 2 ^ (256 + 64 * n))).sum + s.health * 2 ^ 224 +
    s.lstate (lhVis s.port.cfg) * 2 ^ 192 + s.tidestat * 2 ^ 160 + valid * 2 ^ 128 + s.tide.count % 2 ^ 64 * 2 ^ 64 +
    bits word.toNat 32 32 * 2 ^ 32 + 2 ^ 24 + 1 * 2 ^ 16 + 0x4C48)

/-- Count a probe that the lighthouse drops. -/
def State.dropProbe (s : State) : State := { s with port := { s.port with lhDrops := s.port.lhDrops + 1 } }

/-- Whether a probe is one the lighthouse answers, its spacing aside (R378, R379, R388): in mode open it comes through the uncontrolled
port, in mode protected through the controlled one. -/
def State.lhAccepts (s : State) (p : Probe) : Bool :=
  let c := s.port.cfg
  let w := p.word.toNat
  16 ≤ p.len && bits w 0 16 == 0x4C48 && bits w 16 8 == 1 && !bit w 24 && !bit w 25 &&
    (if p.l2 then bit c.lhcfg 18 && p.dport == c.lhetype else bit c.lhcfg 17 && p.dport == c.lhport && (s.entryOwner p.entry).isSome) &&
    ((lhMode c == 1 && p.wire.sec.isNone) || (lhMode c == 2 && p.wire.sec.isSome))

/-- LIGHTHOUSE_PROBE (R378 to R387): a snapshot is taken at RXTIDE, and the reply is due 180 or 240 ns later. -/
def execLighthouseProbe (p : Probe) (s : State) : Host.Outcome State Fault Refusal :=
  .next (if s.power.porst = false ∨ s.side.offReady then s
    else match s.port.link with
      | none => s
      | some w => s.frameIn p.wire (lhMode s.port.cfg == 1) (if p.l2 then none else some p.entry) (fun s =>
        if s.lhAccepts p = false then s.dropProbe
        else if (s.port.lastProbe.map (fun t => decide (s.tide.count < t + lhGap s.port.cfg))).getD false then
          (s.dropProbe).limited 0x5201 0 (s.port.lhDrops + 1) 0 none none
        else
          let r : LhReply := ⟨s.tide.count + (if w = 400 then 240 else 180), s.tide.count, s.lhPayload p.word, p.l2, p.wire.mac, p.peer, p.sport,
            p.dport, frameVlan p.wire, p.entry⟩
          { s with port := { s.port with lastProbe := some s.tide.count, lhReplies := s.port.lhReplies ++ [r] } }))

/-- A lighthouse reply leaves for the probe's source, its MAC addresses, addresses and ports swapped, with the probe's VLAN ID (R378). -/
def State.sendLight (s : State) (r : LhReply) (body : List Byte) : State :=
  let x : Outgoing := ⟨4, if r.l2 then r.mac else r.peer, if r.l2 then r.dport else r.sport, body⟩
  let h := if r.l2 then s.txHdr none none x else s.txHdr (some r.entry) (some r.dport) x
  { s with tx := if s.txClosed x then s.tx else ⟨x, { h with vlan := r.vlan, swap := some (r.mac, r.dport) }, []⟩ :: s.tx }

/-- LIGHTHOUSE_REPLY (R385, R386): the oldest reply leaves once due. Where its priority is paused it waits; it leaves with
LATE within 1 µs of its due time, and is dropped and counted beyond. -/
def execLighthouseReply (s : State) : Host.Outcome State Fault Refusal :=
  .next (match s.port.lhReplies with
    | [] => s
    | r :: rest =>
      let held := s.port.paused.any (fun p => p.prio == lhPri s.port.cfg)
      if s.tide.count < r.due ∨ s.port.link.isNone then s
      else if r.due + 1000 < s.tide.count then ({ s with port := { s.port with lhReplies := rest } }).dropProbe
      else if held then s
      else
        let late := decide (r.due + 4 < s.tide.count)
        let body := toBytes 96 (r.payload.toNat + b2n late * 2 ^ 25)
        ({ s with port := { s.port with lhReplies := rest } }).sendLight r body)

end Sys2Proof.Machine
end

