-- ==== Sys2Proof/Machine/Mailbox.lean ====
section
/-! DEFINITION. The Holaile Mailbox Protocol up to the commands' own effects: frames, handshakes, sessions, and the checks
that every command passes before it acts (R394 to R412). -/

namespace Sys2Proof

open Sys2Proof.Machine

/-! ## The parts of a frame (R395) -/

/-- The 32-byte header, and of its fields LEN and KIND (Table 1 of spec/13). -/
def Frame.hdr (f : Frame) : Nat := ofBytes (f.data.take 32)
def Frame.len (f : Frame) : Nat := bits f.hdr 96 32
def Frame.kind (f : Frame) : Nat := bits f.hdr 24 8

/-- The body, ciphertext in a protected frame. -/
def Frame.body (f : Frame) : List Byte := (f.data.drop 32).take f.len

/-- Bytes of the GCM tag, which only a protected frame has (Table 2 of spec/13). -/
def Frame.tagLen (f : Frame) : Nat := if [0x04, 0x10, 0x11, 0x12].contains f.kind then 16 else 0

/-- Whether the last four bytes are the CRC-32C of every byte before them. -/
def Frame.crcOk (f : Frame) : Bool := toBytes 4 (crc32c (f.data.take (f.data.length - 4))) == f.data.drop (f.data.length - 4)

/-- The body of a protected frame under a session key, where its tag holds: the header is the additional authenticated data, and the IV
is the header's IV field (R398). -/
def Frame.opened (f : Frame) (key : List Byte) : Option (List Byte) :=
  gcmOpen key ((f.data.drop 16).take 12) (f.data.take 32) f.body ((f.data.drop (32 + f.len)).take 16)

/-- The same body as a byte string, empty where the tag fails. -/
def Frame.plain (f : Frame) (key : List Byte) : List Byte := (f.opened key).getD []

end Sys2Proof

namespace Sys2Proof.Machine

/-! ## Frames (R395, R396) -/

/-- Header fields (Table 1 of spec/13). -/
def frameKind (f : Frame) : Nat := f.kind
def frameSession (f : Frame) : Nat := bits f.hdr 48 8
def frameSeq (f : Frame) : Nat := bits f.hdr 64 32

/-- MAGIC, VER and a KIND that a host sends. -/
def frameHeadOk (f : Frame) : Bool :=
  bits f.hdr 0 16 == 0x4D48 && bits f.hdr 16 8 == 1 && [0x01, 0x03, 0x05, 0x10].contains (frameKind f)

/-- The length of the datagram against LEN, which is at most 1,024. -/
def frameLenOk (f : Frame) : Bool := f.data.length == 32 + f.len + f.tagLen + 4 && decide (f.len ≤ 1024)

/-- A little-endian field of a body, by byte offset and length. -/
def bodyNum (b : List Byte) (off n : Nat) : Nat := ofBytes ((b.drop off).take n)

/-- A CRC or tag failure: the frame is dropped and counted; event 0x5504 at most once per second per session. -/
def State.rejectFrame (s : State) (f : Frame) : State :=
  let lag := (s.session? (frameSession f)).bind (fun x => if x.scope = 0 then none else some (x.scope % 16))
  s.dropFrame.limited 0x5504 (frameSession f) (argS (frameSeq f) (frameSession f)) 0 lag none

/-- Checks 1 to 3 of R396 of a datagram to HMPPORT of an address that the device holds (R394), and `k` for a frame of a KIND that
passes them; a good frame of another KIND is another row's. -/
def State.checkFrame (s0 : State) (f : Frame) (kind : Nat) (k : State → State) : State :=
  s0.frameIn f.wire false (some f.entry) (fun s =>
  if s.portUp = false ∨ (s.entryOwner f.entry).isNone ∨ f.dport ≠ s.port.cfg.hmpport then s.dropFrame
  else if frameLenOk f = false then s.dropFrame
  else if f.crcOk = false then s.rejectFrame f
  else if frameHeadOk f = false then s.dropFrame
  else if frameKind f ≠ kind then s
  else k s)

/-! ## Handshakes (R399 to R402) -/

/-- KEYID of a tenant key: the first 8 bytes of SHA-384 of its SEC1 encoding (Table 3 of spec/13). -/
def keyId (key : List Byte) : Nat := (sha384 key).toNat % 2 ^ 64

/-- A scope of R399. -/
def scopeOk (sc : Nat) : Bool := sc == 0 || (0x10 ≤ sc && sc ≤ 0x17) || (0x20 ≤ sc && sc ≤ 0x27)

/-- The lowest session number that is neither open nor pending. -/
def State.freeSession (s : State) : Option Nat :=
  (List.range 64).find? (fun n => !(s.sessions.any (fun x => x.id == n)) && !(s.shakes.any (fun x => x.id == n)))

/-- The tenant key of a scope with a KEYID. -/
def State.tenantKey (s : State) (sc keyid : Nat) : Option TenantKey :=
  s.keeper.tkeys.find? (fun k => k.scope == sc && keyId k.key == keyid)

/-- RESULT of HELLO_REPLY where the HELLO is refused (R399, R400, R467). -/
def State.helloRefused (s : State) (f : Frame) : Option Nat :=
  let sc := bodyNum f.body 129 1
  if s.keeper.life = 0 ∨ s.keeper.life = 3 then some 3
  else if scopeOk sc = false ∨ s.entryOwner f.entry ≠ some (scopeOwner sc) ∨ s.tenantKey sc (bodyNum f.body 130 8) = none then some 2
  else if s.freeSession.isNone then some 1
  else none

/-- The body of HELLO_REPLY without DSIG (Table 3 of spec/13). -/
def State.helloFields (s : State) (n drawn : Nat) : List Byte :=
  [0, BitVec.ofNat 8 n] ++ dpub drawn ++ padTo 32 (Config.dnonce drawn) ++
    [BitVec.ofNat 8 s.keeper.life, BitVec.ofNat 8 (s.dbgs.foldl (fun a d => max a d.level) 0)] ++
    toBytes 4 ((s.boot.running.map (·.ver)).getD 0) ++ digestBytes ((s.boot.running.map (·.dig)).getD 0) ++ digestBytes devId

/-- PRK of a handshake (R401): extracted from the ECDH product, with the nonces as salt. -/
def prkOf (hello : List Byte) (drawn : Nat) : List Byte :=
  hmac384 ((hello.drop 97).take 32 ++ padTo 32 (Config.dnonce drawn)) (sharedZ drawn (hello.take 97))

/-- A session key (R401): HKDF-Expand of the PRK over "HMP1 " with two letters, and TH2. -/
def sessionKey (prk : List Byte) (a b : Byte) (th2 : Digest) : List Byte :=
  (hmac384 prk ([0x48, 0x4D, 0x50, 0x31, 0x20, a, b] ++ digestBytes th2 ++ [1])).take 32

/-- Answer a datagram with a clear frame of a KIND and SESSION, from the address and port to which it was sent (R394, R395; SESSION
where no handshake has a number: DEDUCED 97). -/
def State.sendClear (s : State) (f : Frame) (kind session : Nat) (body : List Byte) : State :=
  s.sendData (some f.entry) (some f.dport) ⟨3, f.src, f.sport, body⟩ (clearFrame kind session body)

/-- Open a handshake and answer its HELLO. The ephemeral scalar and the nonce are free values. -/
def State.openShake (s : State) (f : Frame) (n : Nat) : State :=
  let (k, t) := s.draw
  let fields := t.helloFields n k
  let th1 := sha384 (f.body ++ fields)
  let dsig := t.keeper.signE (digestBytes th1)
  let h : Handshake := ⟨n, k, bodyNum f.body 129 1, f.src, f.sport, f.entry, bodyNum f.body 130 8, th1, ofBytes dsig, prkOf f.body k, t.tide.count⟩
  ({ t with shakes := t.shakes ++ [h] }).sendClear f 0x02 n (fields ++ dsig)

/-- HELLO (R400): a handshake opens, or is refused with its RESULT; beyond 8 pending the frame is dropped. -/
def execHello (f : Frame) (s : State) : Host.Outcome State Fault Refusal :=
  .next (s.checkFrame f 0x01 (fun (s : State) =>
    if f.body.length ≠ 140 ∨ 8 ≤ s.shakes.length then s.dropFrame
    else match s.helloRefused f with
      | some r => s.sendClear f 0x02 0xFF (BitVec.ofNat 8 r :: List.replicate 328 0)
      | none => match s.freeSession with
        | some n => s.openShake f n
        | none => s))

/-- TH2 of a handshake (R400). -/
def Handshake.th2 (h : Handshake) : Digest := sha384 (digestBytes h.th1 ++ toBytes 96 h.dsig)

/-- The lagoon that a session's scope names in events. -/
def scopeLagoon (sc : Nat) : Option Nat := if sc = 0 then none else some (sc % 16)

/-- Open the session of a handshake whose HSIG verified, with its keys (R401): FINISH_REPLY, its first protected frame, and event 0x5501.
`port` is the UDP port to which FINISH was sent. -/
def State.openSession (s : State) (h : Handshake) (port : Nat) : State :=
  let x : Session := ⟨h.id, h.serial, h.scope, h.peer, h.port, h.entry, h.keyid, 0, [], [], 0, 0, 1, s.tide.count,
    sessionKey h.prk 0x68 0x64 h.th2, sessionKey h.prk 0x64 0x68 h.th2⟩
  let t := { s with shakes := s.shakes.filter (fun y => y.id != h.id), sessions := s.sessions ++ [x] }
  (t.sendFrame x port ⟨3, h.peer, h.port, t.replyBody h.scope 0 0 0 0 []⟩).raise 0x5501 0 (argS 0 h.id) 0 (scopeLagoon h.scope) none

/-- Discard a handshake: event 0x5503. -/
def State.failShake (s : State) (h : Handshake) : State :=
  ({ s with shakes := s.shakes.filter (fun y => y.id != h.id) }).raise 0x5503 0 (argS 0 h.id) 0 (scopeLagoon h.scope) none

/-- FINISH (R400): HSIG is verified over TH2 under the tenant key that KEYID named. -/
def execFinish (f : Frame) (s : State) : Host.Outcome State Fault Refusal :=
  .next (s.checkFrame f 0x03 (fun (s : State) =>
    match s.shakes.find? (fun h => h.id == frameSession f && h.peer == f.src && h.port == f.sport && h.entry == f.entry) with
    | none => s.dropFrame
    | some h =>
      match s.tenantKey h.scope h.keyid with
      | some k => if f.body.length = 96 ∧ ecdsaVerify k.key (digestBytes h.th2) f.body = true then s.openSession h f.dport else s.failShake h
      | none => s.failShake h))

/-- CERT_GET (R402): part of the certificate chain, without a session. -/
def execCertGet (f : Frame) (s : State) : Host.Outcome State Fault Refusal :=
  .next (s.checkFrame f 0x05 (fun (s : State) =>
    let off := bodyNum f.body 0 4
    let n := bodyNum f.body 4 2
    if f.body.length < 6 ∨ n = 0 ∨ 1016 < n then s.dropFrame
    else s.sendClear f 0x06 0xFF (toBytes 4 certChain.length ++ toBytes 4 off ++ objectPart certChain off n)))

/-- HANDSHAKE_TIMEOUT (R400): a handshake not finished within 1 s of its HELLO_REPLY is discarded. -/
def execHandshakeTimeout (n : Nat) (s : State) : Host.Outcome State Fault Refusal :=
  .next (match s.shakes.find? (fun h => h.id == n) with
    | some h => if h.tide + 1000000000 ≤ s.tide.count then s.failShake h else s
    | none => s)

/-- SESSION_TIMEOUT (R403): a session ends after 300 s without an authenticated COMMAND frame. -/
def execSessionTimeout (n : Nat) (s : State) : Host.Outcome State Fault Refusal :=
  .next (match s.session? n with
    | some x => if x.lastCmd + 300000000000 ≤ s.tide.count then s.endSession n else s
    | none => s)

/-! ## Commands: prefix and table (R404, R419) -/

/-- A command as its checks and its effect see it: its answer's address, the session's scope and number, the fields of its
prefix, and its arguments. -/
structure Req where
  ref      : Ref
  scope    : Nat
  sid      : Nat
  lag      : Nat
  fregion  : Nat
  fcount   : Nat
  ftimeout : Nat
  alen     : Nat
  args     : List Byte
  deriving DecidableEq, Repr

/-- OP of a command body. -/
def bodyOp (b : List Byte) : Nat := bodyNum b 0 2

/-- A command of a session (Table 4 of spec/13). -/
def reqOf (x : Session) (c : Cmd) : Req :=
  { ref := ⟨x.handle, c.seq, bodyOp c.body⟩, scope := x.scope, sid := x.id, alen := bodyNum c.body 2 2, lag := bodyNum c.body 17 1
    fregion := bodyNum c.body 18 2, ftimeout := bodyNum c.body 20 4, fcount := bodyNum c.body 24 8, args := c.body.drop 32 }

def Req.op (r : Req) : Nat := r.ref.op

/-- Bits [lo + n − 1 : lo] of the argument area (R404). -/
def Req.arg (r : Req) (lo n : Nat) : Nat := bits (ofBytes (r.args.drop (lo / 8))) (lo % 8) n

/-- The owner that the session stands for: 8 the harbour (R399). -/
def Req.owner (r : Req) : Nat := scopeOwner r.scope

/-- What Table 8 of spec/13 says of an OP: the scopes it takes (bit 0 harbour, 1 lagoon, 2 service), whether it is ordered,
what it names (0 device, 1 a lagoon, 2 the service), and the argument bytes up to its last field. -/
structure OpInfo where
  scopes  : Nat
  ordered : Bool
  names   : Nat
  need    : Nat
  deriving DecidableEq, Repr

def opInfo : Nat → Option OpInfo
  | 0x0001 => some ⟨7, false, 0, 0⟩
  | 0x0002 => some ⟨7, true, 0, 0⟩
  | 0x0003 => some ⟨3, true, 0, 2⟩
  | 0x0101 => some ⟨1, true, 1, 11⟩
  | 0x0102 => some ⟨1, true, 1, 0⟩
  | 0x0103 => some ⟨3, true, 1, 16⟩
  | 0x0104 => some ⟨3, true, 1, 0⟩
  | 0x0105 => some ⟨3, true, 1, 0⟩
  | 0x0106 => some ⟨3, true, 1, 81⟩
  | 0x0107 => some ⟨3, true, 1, 0⟩
  | 0x0108 => some ⟨3, true, 1, 0⟩
  | 0x0109 => some ⟨3, true, 1, 0⟩
  | 0x010A => some ⟨3, true, 1, 8⟩
  | 0x010B => some ⟨3, false, 1, 8⟩
  | 0x0201 => some ⟨3, false, 0, 22⟩
  | 0x0202 => some ⟨3, false, 0, 40⟩
  | 0x0301 => some ⟨3, true, 0, 22⟩
  | 0x0302 => some ⟨3, false, 0, 4⟩
  | 0x0303 => some ⟨3, true, 0, 0⟩
  | 0x0304 => some ⟨3, false, 0, 12⟩
  | 0x0305 => some ⟨1, true, 0, 8⟩
  | 0x0401 => some ⟨1, true, 0, 1⟩
  | 0x0402 => some ⟨1, true, 0, 2⟩
  | 0x0403 => some ⟨1, true, 0, 1⟩
  | 0x0404 => some ⟨1, true, 0, 1⟩
  | 0x0405 => some ⟨1, true, 0, 1⟩
  | 0x0406 => some ⟨1, true, 0, 8⟩
  | 0x0407 => some ⟨1, true, 0, 99⟩
  | 0x0501 => some ⟨3, true, 0, 36⟩
  | 0x0502 => some ⟨3, true, 0, 2⟩
  | 0x0503 => some ⟨3, true, 0, 17⟩
  | 0x0504 => some ⟨3, true, 0, 1⟩
  | 0x0601 => some ⟨1, true, 0, 17⟩
  | 0x0701 => some ⟨3, false, 0, 32⟩
  | 0x0702 => some ⟨3, true, 0, 12⟩
  | 0x0703 => some ⟨3, true, 0, 0⟩
  | 0x0704 => some ⟨1, true, 0, 104⟩
  | 0x0801 => some ⟨3, true, 1, 12⟩
  | 0x0802 => some ⟨3, false, 1, 32⟩
  | 0x0803 => some ⟨3, true, 1, 64⟩
  | 0x0804 => some ⟨3, true, 1, 49⟩
  | 0x0805 => some ⟨3, true, 1, 48⟩
  | 0x0901 => some ⟨3, true, 1, 32⟩
  | 0x0902 => some ⟨3, true, 1, 0⟩
  | 0x0903 => some ⟨4, false, 2, 0⟩
  | _ => none

/-- Whether an OP is ordered; an OP not in the table is free (R409). -/
def opOrdered (op : Nat) : Bool := ((opInfo op).map (·.ordered)).getD false

/-! ## Argument fields that need no state (R410 step 3) -/

/-- Whether a number lies in a range. -/
def inRange (x lo hi : Nat) : Bool := decide (lo ≤ x) && decide (x ≤ hi)

/-- Bytes that an item of NET, QOS or MACSEC takes (Table 10 of spec/13), 0 for an item it does not have. -/
def itemNeed (op item : Nat) : Nat :=
  if op = 0x0403 then (if item = 0 then 7 else if item = 1 then 19 else if item ≤ 0x10 then 20 else if item = 0x11 then 3 else 0)
  else if op = 0x0404 then (if item = 0 then 5 else if item = 1 then 25 else if item = 2 then 5 else 0)
  else (if item = 0 then 5 else if item = 1 then 35 else 0)

/-- The body offset of an argument field out of range, by the command's own limits. -/
def Req.badField (r : Req) : Option Nat :=
  let item := r.arg 0 8
  let no (b : Bool) (off : Nat) : Option Nat := if b then none else some off
  match r.op with
  | 0x0101 => if r.arg 0 18 = 0 ∧ r.arg 32 20 = 0 ∧ r.arg 64 16 = 0 then some 32 else no (r.arg 80 2 != 3) 42
  | 0x0106 => no (decide (r.arg 640 4 ≤ 8)) 112
  | 0x010A => if r.arg 0 2 = 3 then some 32 else no (r.arg 32 32 == 0 || inRange (r.arg 32 32) 10000 1000000000) 36
  | 0x0201 => if inRange item 1 0x0E = false then some 32 else no (inRange (r.arg 160 10) 1 960) 52
  | 0x0202 => if inRange item 1 0x0E = false then some 32 else no (r.arg 160 32 != 0) 52
  | 0x0301 => no (r.arg 160 16 == 0 || (r.arg 128 32 % 4096 == 0 && r.arg 128 32 != 0)) 48
  | 0x0305 => no (inRange (r.arg 0 64) 1000000 60000000000) 32
  | 0x0401 => no (decide (r.arg 0 3 ≤ 3)) 32
  | 0x0403 =>
    if itemNeed 0x0403 item = 0 then some 32
    else if r.alen < itemNeed 0x0403 item then some 2
    else if item = 1 then no (r.arg 8 129 == 0 && r.arg 150 6 == 0) 33
    else no (!inRange item 2 0x10 || r.arg 152 4 ≤ 8 || r.arg 152 4 == 0xF) 51
  | 0x0404 =>
    if itemNeed 0x0404 item = 0 then some 32
    else if r.alen < itemNeed 0x0404 item then some 2
    else no (item != 2 || inRange (r.arg 8 32) 10 10000) 33
  | 0x0405 =>
    if itemNeed 0x0405 item = 0 then some 32
    else if r.alen < itemNeed 0x0405 item then some 2
    else if item = 0 then none
    else if inRange (r.arg 8 8) 1 32 = false then some 33
    else no (decide (34 + r.arg 8 8 ≤ r.alen)) 2
  | 0x0406 => no (r.arg 30 2 != 3 && inRange (r.arg 0 14) 1 10000) 32
  | 0x0407 => if scopeOk item = false then some 32 else no (r.arg 8 1 == 1 || validPoint ((r.args.drop 2).take 97)) 34
  | 0x0501 => if r.arg 160 2 = 3 then some 52 else no (r.arg 224 32 == 0 || inRange (r.arg 224 32) 4 1000000) 60
  | 0x0503 => if r.arg 0 64 % 1024 ≠ 0 then some 32 else no (r.arg 64 64 % 1024 == 0 && r.arg 64 64 != 0) 40
  | 0x0802 => no (r.arg 128 64 % 2 ^ 20 == 0) 48
  | 0x0804 => no (decide (r.alen ≤ 128)) 2
  | 0x0901 =>
    if inRange (r.arg 0 64) 10000 100000000 = false then some 32
    else if r.arg 64 16 = 0 then some 40
    else if inRange (r.arg 80 10) 1 960 = false then some 42
    else if inRange (r.arg 96 10) 1 960 = false then some 44
    else no (r.arg 108 4 != 0) 45
  | _ => none

/-- Whether LAGOON names a lagoon in this command: as Table 8 says, for objects 0x04 and 0x05 (R421), and in ATTEST of a harbour session
where it is not 0xFF (R466). -/
def Req.namesLagoon (r : Req) (i : OpInfo) : Bool :=
  i.names == 1 || ((r.op == 0x0201 || r.op == 0x0202) && (r.arg 0 8 == 4 || r.arg 0 8 == 5)) || (r.op == 0x0701 && r.scope == 0 && r.lag != 0xFF)

/-- Whether LAGOON may hold anything: a lagoon session always receives the report for its own lagoon (R466, DEDUCED 91). -/
def Req.anyLagoon (r : Req) : Bool := r.op == 0x0701 && r.scope != 0

/-- The scope bit of Table 8's column. -/
def scopeBit (sc : Nat) : Nat := if sc = 0 then 0 else if sc < 0x20 then 1 else 2

/-- Steps 1 to 3 of R410: BAD_OPCODE, FORBIDDEN, BAD_ARGUMENT. -/
def State.precheck (s : State) (r : Req) : Option (Nat × Nat) :=
  match opInfo r.op with
  | none => some (5, 0)
  | some i =>
    if bit i.scopes (scopeBit r.scope) = false then some (7, 0)
    else if (r.namesLagoon i || i.names == 2) && r.scope != 0 && r.lag ≤ 7 && r.lag != r.owner then some (7, 0)
    else if r.alen ≠ r.args.length ∨ r.alen < i.need then some (6, 2)
    else if (r.namesLagoon i && decide (7 < r.lag)) || (i.names == 0 && !r.namesLagoon i && r.lag != 0xFF && !r.anyLagoon) then some (6, 17)
    else if r.fregion ≠ 0xFFFF ∧ ((s.lr? r.fregion).map (·.owner)) ≠ some r.owner then some (6, 18)
    else if 10000000 < r.ftimeout then some (6, 20)
    else r.badField.map (fun off => (6, off))

/-! ## Power, hold and lagoon state (R410 steps 6 and 7, R414, R416) -/

/-- The power state that commands see: the state held, or the lower one that a move or a pending entry leads to. -/
def State.powerNow (s : State) : Nat :=
  let m := match s.power.move with | some m => max s.power.state m.target | none => s.power.state
  if s.power.cause = 0 then m else max m (if s.power.cause = 1 then 2 else 3)

/-- Commands that need the compute dies and HBM in P0 (R416, R435). -/
def needsP0 (op : Nat) : Bool := [0x0103, 0x0105, 0x0106, 0x0108, 0x0801, 0x0901].contains op

/-- The lagoon states in which a command is legal, as bits by state code (Table 8 of spec/13). -/
def legalStates (op : Nat) : Nat :=
  match op with
  | 0x0101 => 0x01
  | 0x0102 => 0x02
  | 0x0103 => 0x46
  | 0x0104 => 0x44
  | 0x0105 => 0x04
  | 0x0106 => 0x04
  | 0x0107 => 0x08
  | 0x0108 => 0x10
  | 0x0109 => 0x18
  | 0x010A => 0x7E
  | 0x0801 => 0x10
  | 0x0802 => 0x7E
  | 0x0803 => 0x04
  | 0x0804 => 0x7E
  | 0x0805 => 0x7E
  | 0x0901 => 0x04
  | _ => 0x7F

/-- Commands that change a lagoon's state or its memory's content. -/
def changesLagoon (op : Nat) : Bool :=
  [0x0101, 0x0102, 0x0103, 0x0104, 0x0105, 0x0106, 0x0107, 0x0108, 0x0109, 0x0801, 0x0803, 0x0901].contains op

/-- Commands that a running service or snapshot keeps out (R425, R440). -/
def State.inUse (s : State) (r : Req) : Bool :=
  let x := s.lagoon r.lag
  (x.svc.isSome && x.st != .configured && (changesLagoon r.op || r.op == 0x0802)) || (x.snap.isSome && (r.op == 0x0108 || r.op == 0x0109 || r.op == 0x0801))

/-- Steps 6 and 7 of R410 for the commands that name a lagoon, and what keeps its state from changing; START's NOT_SEALED comes before
IN_USE. -/
def State.gate (s : State) (r : Req) : Option (Nat × Nat) :=
  let x := s.lagoon r.lag
  let names := ((opInfo r.op).map (·.names)).getD 0 == 1
  let p := s.powerNow
  if (needsP0 r.op && p != 0) || (r.op == 0x0803 && decide (2 ≤ p)) then some (0x10, p)
  else if names && !bit (legalStates r.op) x.st.code then some (1, x.st.code)
  else if names && s.inUse r then some (if r.op == 0x0106 && !x.sealed then (9, 0) else (0x0E, 0))
  else none

/-- Whether a change of a command's lagoon is under way. -/
def State.underWay (s : State) (r : Req) : Bool :=
  let x := s.lagoon r.lag
  x.pauseRef.isSome || x.clearing || x.stopping || x.restore.isSome

/-- Whether a FAULTED lagoon's record has still to be built, for which its outputs are hashed as they stand (R330, R413). -/
def State.unrecorded (s : State) (l : Nat) : Bool :=
  (s.lagoon l).st == .faulted && (s.lagoon l).run.isSome && (s.lagoon l).record.isNone

/-- Whether a command that would be taken waits for its turn: a change of its lagoon that another command began is under way, each being
one at a time (R409, R414, DEDUCED 92), or a LOAD or UNLOAD would take the memory of a run whose record is being built (R413). -/
def State.waitsTurn (s : State) (r : Req) : Bool :=
  changesLagoon r.op && (s.gate r).isNone && (s.underWay r || ((r.op == 0x0103 || r.op == 0x0104) && s.unrecorded r.lag))

/-- Whether an access to n bytes of memory finds it awake (R376, R416). -/
def State.awake (s : State) (a n : Nat) : Bool := if a < ddrBase then s.powerNow ≤ 1 else s.powerNow ≤ 2 || n == 0

/-! ## Answers of a command -/

def State.ok (s : State) (r : Req) (res : List Byte) : State := s.answer r.ref 0 0 0 res
def State.no (s : State) (r : Req) (status detail : Nat) : State := s.answer r.ref status detail 0 []

/-- Mark an outstanding command's phase. -/
def State.setPhase (s : State) (r : Ref) (phase deadline : Nat) : State :=
  { s with sessions := s.sessions.map (fun x => if x.handle = r.session then
      { x with cmds := x.cmds.map (fun c => if c.seq = r.seq then { c with phase := phase, deadline := deadline } else c) } else x) }

end Sys2Proof.Machine
end

