-- ==== Sys2Proof/Machine/LagoonCmds.lean ====
section
/-! DEFINITION. Lagoon commands of the mailbox, and the rows that complete them (R413 to R415, R419, R474). -/

namespace Sys2Proof.Machine

/-! ## CONFIGURE and RELEASE (R419, R474) -/

/-- What CONFIGURE names (Table 8 of spec/13). -/
def Req.cfg (r : Req) : LagoonCfg := ⟨r.arg 0 18, r.arg 32 20, r.arg 64 16, r.arg 80 2, bit (r.arg 82 1) 0⟩

/-- NO_RESOURCE or IN_USE of CONFIGURE: a region out of service, a stack or channel worn, failed or unfitted, or one that
another lagoon holds (R494, R522, Table 11 of spec/13). -/
def State.cfgRefused (s : State) (c : LagoonCfg) : Option (Nat × Nat) :=
  if (ones 18 c.regions).any (fun n => (s.region n).state == 3) then some (0x0D, 1)
  else if (ones 20 c.hbm).any (fun n => (s.stack n).worn || (s.stack n).failed) then some (0x0D, 2)
  else if (ones 16 c.chans).any (fun n => (s.channel n).worn || (s.channel n).bytes == 0) then some (0x0D, 3)
  else if (ones 18 c.regions).any (fun n => (s.regionOwner n).isSome) || (ones 20 c.hbm).any (fun n => (s.stackOwner n).isSome) ||
      (ones 16 c.chans).any (fun n => (s.chanOwner n).isSome) then some (0x0E, 0)
  else none

/-- Worn stacks and channels that a configuration names, as (UNIT, PLOC). -/
def State.wornUnits (s : State) (c : LagoonCfg) : List (Nat × Nat) :=
  ((ones 20 c.hbm).filter (fun n => (s.stack n).worn)).map (fun n => (0x20, plocStack n)) ++
    ((ones 16 c.chans).filter (fun n => (s.channel n).worn)).map (fun n => (0x28, plocDdr n))

/-- Stacks and channels of a lagoon whose clean flag is clear (R474). -/
def State.dirtyStacks (s : State) (l : Nat) : List Nat := (s.ownStacks l).filter (fun n => !(s.stack n).clean)
def State.dirtyChans (s : State) (l : Nat) : List Nat := (s.ownChans l).filter (fun n => !(s.channel n).clean)

/-- CONFIGURE: the lagoon takes what it names; unclean memory is written with zeros before the reply. -/
def State.cmdConfigure (s : State) (r : Req) : State :=
  let named := s.setLagoon r.lag { Lagoon.blank with cfg := r.cfg }
  let p := s.powerNow
  if (named.dirtyStacks r.lag ≠ [] ∧ 2 ≤ p) ∨ (named.dirtyChans r.lag ≠ [] ∧ 3 ≤ p) then s.no r 0x10 p
  else match s.gate r with
  | some (st, d) => s.no r st d
  | none =>
    match s.cfgRefused r.cfg with
    | some (st, d) =>
      let worn := s.wornUnits r.cfg
      if st = 0x0D ∧ d ≠ 1 ∧ worn ≠ [] then
        (worn.foldl (fun (a : State) w => a.raise 0x7303 0 (argM w.1 0 0 0xFF 0) w.2 none none) s).answer r.ref st d 0x7303 []
      else s.no r st d
    | none =>
      if named.dirtyStacks r.lag = [] ∧ named.dirtyChans r.lag = [] then (named.moveLagoon r.lag .configured).ok r []
      else named.setLagoon r.lag { named.lagoon r.lag with clearing := true, pauseRef := some r.ref }

/-- Whether a command waits on a fence of a landing region that a test picks (R412). -/
def State.fenced (s : State) (p : LandReg → Bool) : Bool :=
  s.sessions.any (fun x => x.cmds.any (fun c => c.phase == 1 && ((s.lr? (reqOf x c).fregion).map p).getD false))

/-- End an owner's landing regions, queue pairs and sink; an XFER under way on a queue pair is answered TRANSFER_FAILED. -/
def State.endOwner (s : State) (o : Nat) : State :=
  let ws := (s.qps.filter (fun q => q.owner == o)).flatMap (fun q => q.work.map (fun w => (q.qpn, w)))
  let t := { s with lrs := s.lrs.filter (fun x => x.owner != o), qps := s.qps.filter (fun x => x.owner != o)
                    sinks := s.sinks.filter (fun x => x.owner != o) }
  ws.foldl (fun (a : State) w => a.answerOpt w.2.ref 0x15 w.1 0 []) t

/-- RELEASE: landing regions, queue pairs, sink, pairing and the lagoon's debug sessions end, and its memory is cleared. -/
def State.cmdRelease (s : State) (r : Req) : State :=
  let p := s.powerNow
  if (s.ownStacks r.lag ≠ [] ∧ 2 ≤ p) ∨ (s.ownChans r.lag ≠ [] ∧ 3 ≤ p) then s.no r 0x10 p
  else match s.gate r with
  | some (st, d) => s.no r st d
  | none =>
    let x := s.lagoon r.lag
    if x.drains ≠ [] ∨ s.fenced (fun q => q.owner == r.lag) = true then s.no r 0x0E 0
    else
      let t := (s.endOwner r.lag).endDebug (fun d => d.scope == r.lag)
      t.setLagoon r.lag { t.lagoon r.lag with clearing := true, pauseRef := some r.ref, pair := none, root := none, unproven := false }

/-- MEMORY_CLEARING_DONE (R474): the zeroing of RELEASE or CONFIGURE completes; flags are set, the lagoon moves and the
command is answered. The record of an earlier run is accepted before its lagoon goes. -/
def execMemoryClearingDone (l : Nat) (s : State) : Host.Outcome State Fault Refusal :=
  let x := s.lagoon l
  .next (if x.clearing = false ∨ x.run.isSome then s
    else
      let t := ((if x.st = .empty then s.dirtyStacks l else s.ownStacks l).foldl State.clearStack s)
      let u := ((if x.st = .empty then s.dirtyChans l else s.ownChans l).foldl State.clearChan t)
      if x.st = .empty then
        ((u.setLagoon l { u.lagoon l with clearing := false, pauseRef := none }).moveLagoon l .configured).answerOpt x.pauseRef 0 0 0 []
      else
        let v := u.moveLagoon l .empty
        (v.setLagoon l Lagoon.blank).answerOpt x.pauseRef 0 0 0 [])

/-! ## LOAD and UNLOAD (R346, R413) -/

/-- Build the record of a FAULTED lagoon's run if it has not been built, before its memory goes (DEDUCED 61). -/
def State.settle (s : State) (l : Nat) : State :=
  let x := s.lagoon l
  match x.run with
  | some q => if x.st = .faulted ∧ x.record.isNone then s.buildRecord l q else s
  | none => s

/-- LOAD: the loader's checks at once; an image accepted is written, and the lagoon is LOADED when the writing is done. -/
def State.cmdLoad (s : State) (r : Req) : State :=
  match s.gate r with
  | some (st, d) => s.no r st d
  | none =>
    let a := r.arg 0 64
    let n := r.arg 64 64
    if s.holds r.lag a n = false then s.no r 6 32
    else
      let f := Hpi.parse (s.readBytes a n)
      match s.loadCheck r.lag f with
      | some e => (s.raise 0x1401 2 (refusalDetail e) 0 (some r.lag) none).answer r.ref 8 (refusalDetail e) 0x1401 []
      | none =>
        let t := (s.dropLaunches r.lag .loaded).writeImage r.lag f
        t.setLagoon r.lag { t.lagoon r.lag with sealed := false, dead := none, pauseRef := some r.ref, dbgWrite := false }

/-- LOAD_DONE (R348, R415): the writing is done, and any record of the run before has been accepted. -/
def execLoadDone (l : Nat) (s : State) : Host.Outcome State Fault Refusal :=
  let x := s.lagoon l
  .next (match x.pauseRef, x.img with
    | some q, some im =>
      if q.op = 0x0103 ∧ x.run.isNone then
        let u := s.setLagoon l { x with pauseRef := none, sealed := false, dead := none }
        let t := if x.st = .loaded then u.stayLagoon l else u.moveLagoon l .loaded
        t.answer q 0 0 0 (digestBytes im.imgroot ++ digestBytes im.mapdig)
      else s
    | _, _ => s)

/-- UNLOAD: the lagoon returns to CONFIGURED. -/
def State.cmdUnload (s : State) (r : Req) : State :=
  match s.gate r with
  | some (st, d) => s.no r st d
  | none => ((s.clearImage r.lag).moveLagoon r.lag .configured).ok r []

/-! ## SEAL and START (R307, R311, R330, R414) -/

/-- SEAL: input regions close to RoCE writes, and the hashing begins (R311, R414). -/
def State.cmdSeal (s : State) (r : Req) : State :=
  match s.gate r with
  | some (st, d) => s.no r st d
  | none =>
    let x := s.lagoon r.lag
    (s.setLagoon r.lag { x with pauseRef := some r.ref, late := x.sealed && x.late }).beginHash r.lag false ((x.img.map Image.inputs).getD [])

/-- SEAL_DONE (R330): the input digests are taken, those in HBM by the stacks, and the lagoon is sealed. -/
def execSealDone (l : Nat) (s : State) : Host.Outcome State Fault Refusal :=
  let x := s.lagoon l
  .next (match x.pauseRef with
    | some q =>
      if q.op = 0x0105 ∧ x.st = .loaded ∧ x.hashed false = true then
        let root := s.inRoot l
        ((s.setLagoon l { x with pauseRef := none, sealed := true, inroot := root, hashing := none }).stayLagoon l).answer q 0 0 0 (digestBytes root)
      else s
    | none => s)

/-- Whether every core that the image was placed on still serves (R492). -/
def State.coresServe (s : State) (l : Nat) : Bool :=
  (s.lagoon l).place.all (fun p => !(s.physCore p.phys).oos && (s.region (physRegion p.phys)).state != 3)

/-- START's launch (Table 8 of spec/13): a launch count of 0 is the present count, and user seeds from NSEED on are unused (R327). -/
def State.launchOf (s : State) (r : Req) : Launch :=
  ⟨if r.arg 0 64 = 0 then s.tide.count else r.arg 0 64, bit (r.arg 644 1) 0, r.arg 64 64,
    (List.range 8).map (fun n => if n < r.arg 640 4 then r.arg (128 + 64 * n) 64 else 0), r.arg 640 4, some r.ref, false⟩

/-- START: NOT_SEALED, PLAN_MISSING and LAUNCH_TOO_SOON in that order, then the launch is set (R307, R357, R410). A
START is legal while another launch is pending (R414); the launch that comes first takes the lagoon out of LOADED, which drops
the others (R308, R415). -/
def State.cmdStart (s0 : State) (r : Req) : State :=
  match s0.gate r with
  | some (st, d) => s0.no r st d
  | none =>
    let s := s0.applyHeld r.lag
    let x := s.lagoon r.lag
    let count := r.arg 0 64
    if x.sealed = false then s.no r 9 0
    else if s.planFor r.lag = false then
      (s.raise 0x1402 2 (argV 0 x.cfg.pmode) 0 (some r.lag) none).answer r.ref 0x0C x.cfg.pmode 0x1402 []
    else if count ≠ 0 ∧ count < s.tide.count + 50000 then s.no r 0x0A 0
    else if s.coresServe r.lag = false then s.no r 0x0D 1
    else s.setLagoon r.lag { x with launch := x.launch ++ [s.launchOf r] }

/-! ## PAUSE, RESUME and STOP (R269, R270, R415) -/

/-- PAUSE: every core stops at its beat boundary; the lagoon is PAUSED when its messages have taken effect. -/
def State.cmdPause (s : State) (r : Req) : State :=
  match s.gate r with
  | some (st, d) => s.no r st d
  | none =>
    let t := s.stopCores r.lag
    t.setLagoon r.lag { t.lagoon r.lag with pauseRef := some r.ref, stopTide := s.tide.count }

/-- PAUSE_DONE (R270): every core has stopped and every sent message has taken effect. -/
def execPauseDone (l : Nat) (s : State) : Host.Outcome State Fault Refusal :=
  let x := s.lagoon l
  .next (match x.pauseRef with
    | some q =>
      if q.op = 0x0107 ∧ x.st = .running ∧ x.msgs = [] then
        ((s.setLagoon l { x with pauseRef := none }).moveLagoon l .paused).answer q 0 0 0 (toBytes 8 x.stopTide)
      else s
    | none => s)

/-- RESUME: beat issue resumes in every core whose run has not ended. -/
def State.cmdResume (s : State) (r : Req) : State :=
  match s.gate r with
  | some (st, d) => s.no r st d
  | none =>
    let t := s.mapCores r.lag (fun c => { c with stopped := c.runEnded })
    ((t.setLagoon r.lag { t.lagoon r.lag with progress := s.tide.count }).moveLagoon r.lag .running).ok r []

/-- Begin to stop a RUNNING or PAUSED lagoon: its cores stop, and its run ends with END 0x0002 (R269). A PAUSE in progress is
answered STATE_REJECTED with DRAINING, which the lagoon enters (DEDUCED 20). -/
def State.stopLagoon (s : State) (l : Nat) (ref : Option Ref) : State :=
  let x := s.lagoon l
  if (x.st = .running ∨ x.st = .paused) ∧ x.stopping = false then
    let t := s.stopCores l
    (t.setLagoon l { x with
      pauseRef := ref, stopping := true, stopTide := s.tide.count
      run := x.run.map (fun q => if q.ended = 0 then { q with ended := 2 } else q) }).answerOpt x.pauseRef 1 LState.draining.code 0 []
  else s

/-- STOP. -/
def State.cmdStop (s : State) (r : Req) : State :=
  match s.gate r with
  | some (st, d) => s.no r st d
  | none => s.stopLagoon r.lag (some r.ref)

/-- STOP_DONE (R415): the cores have stopped; the lagoon drains and STOP is answered before the record is built. -/
def execStopDone (l : Nat) (s : State) : Host.Outcome State Fault Refusal :=
  let x := s.lagoon l
  .next (if x.stopping = true ∧ (x.st = .running ∨ x.st = .paused) then
      let t := (s.setLagoon l { x with stopping := false, pauseRef := none }).moveLagoon l .draining
      (t.answerStart l 0).answerOpt x.pauseRef 0 0 0 []
    else s)

/-! ## SETMODE and WAIT_RUN -/

/-- SETMODE (R41, R42, R271): held until the next program boundary while a run is in progress. -/
def State.cmdSetmode (s : State) (r : Req) : State :=
  match s.gate r with
  | some (st, d) => s.no r st d
  | none =>
    let x := s.lagoon r.lag
    let dl := if r.arg 32 32 = 0 then (x.held.map (·.dlwin)).getD x.dlwin else r.arg 32 32
    let t := s.setLagoon r.lag { x with held := some ⟨r.arg 0 2, bit (r.arg 2 1) 0, dl⟩ }
    (t.applyHeld r.lag).ok r [BitVec.ofNat 8 (b2n (!s.atBoundary r.lag))]

/-- The results of WAIT_RUN for an accepted record. -/
def RunRec.waitResults (q : RunRec) : List Byte :=
  toBytes 2 q.ended ++ toBytes 2 q.event ++ toBytes 4 ((q.ref.map Prod.snd).getD 0) ++ toBytes 8 ((q.ref.map Prod.fst).getD 0)

/-- WAIT_RUN: answered when the run's record is accepted; NOT_FOUND where the run is not among the lagoon's last 1,024. -/
def State.cmdWaitRun (s : State) (r : Req) : State :=
  match s.runs.find? (fun q => q.runno == r.arg 0 64 && q.lagoon == r.lag) with
  | some q => s.ok r q.waitResults
  | none => if ((s.lagoon r.lag).run.map (·.runno)) = some (r.arg 0 64) then s else s.no r 0x0F 0

/-- Answer the WAIT_RUN commands of every session that wait for a record just accepted. -/
def State.answerWaits (s : State) (q : RunRec) : State :=
  (s.sessions.flatMap (fun x => (x.cmds.filter (fun c => c.phase == 2)).map (reqOf x))).foldl
    (fun (a : State) r => if r.op = 0x010B ∧ r.lag = q.lagoon ∧ r.arg 0 64 = q.runno then a.ok r q.waitResults else a) s

end Sys2Proof.Machine
end

