-- ==== Sys2Proof/Machine/DeviceCmds.lean ====
section
/-! DEFINITION. Commands that name no lagoon: objects, sinks and batches, the tide, the port's settings, tenant keys, queue
pairs, landing regions and library packages (R304, R333, R334, R372, R373, R412, R419 to R422, R458, R462). -/

namespace Sys2Proof.Machine

/-! ## READ and XFER (R421) -/

/-- READ: a part of an object as it stands now. -/
def State.cmdRead (s : State) (r : Req) : State :=
  match s.object r.scope r.lag (r.arg 0 8) (r.arg 64 64) with
  | .bytes b => s.ok r (objectPart b (r.arg 128 32) (r.arg 160 10))
  | .no st d => s.no r st d

/-- XFER: a part of an object goes to the host by RDMA WRITE; it is answered when the write has been acknowledged. -/
def State.cmdXfer (s : State) (r : Req) : State :=
  match s.object r.scope r.lag (r.arg 0 8) (r.arg 64 64) with
  | .no st d => s.no r st d
  | .bytes b =>
    match s.qp? (r.arg 192 16) with
    | none => s.no r 6 56
    | some q =>
      let bs := objectPart b (r.arg 128 32) (r.arg 160 32)
      if q.owner ≠ r.owner then s.no r 6 56
      else if q.state ≠ 0 then s.no r 0x15 q.qpn
      else if bs = [] then s.ok r (toBytes 4 0)
      else s.postWrite q (r.arg 224 32) (r.arg 256 64) bs (some r.ref) none (s.replyBody r.scope r.op 0 0 0 (toBytes 4 bs.length))

/-! ## Sinks (R422) -/

def State.sink? (s : State) (o : Nat) : Option Sink := s.sinks.find? (fun k => k.owner == o)
def State.setSink (s : State) (k : Sink) : State := { s with sinks := s.sinks.map (fun y => if y.owner = k.owner then k else y) }

/-- Where a delivery of n bytes with its trailer goes: its first slot, and the slots it takes with those it passes over. -/
def Sink.room (k : Sink) (n : Nat) : Option (Nat × Nat) :=
  let need := (n + 16 + k.slot - 1) / k.slot
  let pass := if k.slots < k.next + need then k.slots - k.next else 0
  if need ≤ k.slots ∧ k.used + pass + need ≤ k.acked + k.slots then some ((k.next + pass) % k.slots, pass + need) else none

/-- Write a signed batch and its trailer into a sink, none where it lacks room or its queue pair is in error. -/
def State.deliver (s : State) (k : Sink) (b : Batch) : Option State :=
  let bs := b.bytes (if k.owner = 8 then none else some k.owner)
  match s.qp? k.qpn, k.room bs.length with
  | some q, some (slot, n) =>
    if q.state = 0 then
      let t := s.setSink { k with next := (k.next + n) % k.slots, used := k.used + n }
      some (t.postWrite q k.rkey (k.base + k.slot * slot) (bs ++ toBytes 8 b.no ++ toBytes 4 bs.length ++ toBytes 4 (crc32c bs)) none none [])
    else none
  | _, _ => none

/-- Deliver the batches that wait for a harbour sink, in order, as far as it has room. -/
def State.drainSink (o : Nat) : List Nat → State → State
  | [], s => s
  | n :: rest, s =>
    match s.sink? o with
    | none => s
    | some k =>
      match s.builder.signed.find? (fun b => b.no == n) with
      | none => State.drainSink o rest (s.setSink { k with queue := rest })
      | some b =>
        match s.deliver { k with queue := rest } b with
        | some t => State.drainSink o rest t
        | none => s

/-- Drop signed batches beyond the last 16 that every harbour sink has received. -/
def State.trimSigned (s : State) : State :=
  let b := s.builder.signed
  { s with builder := { s.builder with signed := b.take 16 ++ (b.drop 16).filter (fun c => s.sinks.any (fun k => k.owner == 8 && k.queue.contains c.no)) } }

/-- Serve an owner's sink after it has gained room. -/
def State.serveSink (s : State) (o : Nat) : State := (State.drainSink o (((s.sink? o).map (·.queue)).getD []) s).trimSigned

/-- SINK: the owner's sink is set, replaced or removed. -/
def State.cmdSink (s : State) (r : Req) : State :=
  let o := r.owner
  let others := s.sinks.filter (fun k => k.owner != o)
  if r.arg 160 16 = 0 then (({ s with sinks := others }).trimSigned).ok r []
  else match s.qp? (r.arg 0 16) with
    | none => s.no r 6 32
    | some q =>
      if q.owner ≠ o then s.no r 6 32
      else
        let k : Sink := ⟨o, q.qpn, r.arg 32 32, r.arg 64 64, r.arg 128 32, r.arg 160 16, 0, 0, 0, ((s.sink? o).map (·.queue)).getD []⟩
        (({ s with sinks := k :: others }).serveSink o).ok r []

/-- SINK_ACK: the host has consumed slots; the total never falls and never passes the slots filled. -/
def State.cmdSinkAck (s : State) (r : Req) : State :=
  match s.sink? r.owner with
  | none => s.no r 0x0F 0
  | some k =>
    let n := r.arg 0 32
    if n < k.acked ∨ k.used < n then s.no r 6 32
    else ((s.setSink { k with acked := n }).serveSink r.owner).ok r []

/-! ## Batches (R333, R334) -/

/-- A FLUSH: the open batch closes; while four closed batches wait for their signatures it waits for room (R336). -/
def State.flush (s : State) (r : Ref) : State :=
  if s.builder.openRecs = [] then s.answer r 0 0 0 (toBytes 8 0)
  else if 4 ≤ s.builder.closed.length then { s with builder := { s.builder with flushes := s.builder.flushes ++ [r] } }
  else s.closeBatch.answer r 0 0 0 (toBytes 8 s.builder.openNo)

def State.cmdFlush (s : State) (r : Req) : State := s.flush r.ref

/-- The FLUSH commands that wait go on; one that has started runs to completion though its session has ended (R403). -/
def State.retryFlush (s : State) : State := s.builder.flushes.foldl State.flush { s with builder := { s.builder with flushes := [] } }

/-- The siblings on the way from a leaf to the root, lowest level first; a node without one passes up unchanged (R328). -/
def siblings : Nat → List Digest → Nat → List Digest
  | 0, _, _ => []
  | n + 1, l, i =>
    if l.length ≤ 1 then []
    else (l[if i % 2 = 0 then i + 1 else i - 1]?).toList ++ siblings n (hashLevel l) (i / 2)

/-- PATH: a record's leaf and sibling path in a closed batch that is held. -/
def State.cmdPath (s : State) (r : Req) : State :=
  match (s.builder.signed ++ s.builder.closed).find? (fun b => b.no == r.arg 0 64) with
  | none => s.no r 0x0F 0
  | some b =>
    match b.recs[r.arg 64 32]? with
    | none => s.no r 0x0F 0
    | some q =>
      if scopeSees r.scope q.lagoon = false then s.no r 6 40
      else
        let sib := siblings 17 (b.recs.map RunRec.leaf) (r.arg 64 32)
        s.ok r (digestBytes q.leaf ++ [BitVec.ofNat 8 sib.length] ++ sib.flatMap digestBytes)

/-- BATCHWIN. -/
def State.cmdBatchwin (s : State) (r : Req) : State := ({ s with builder := { s.builder with batchwin := r.arg 0 64 } }).ok r []

/-! ## TIDE (R303 to R305) -/

/-- The tide under new settings of discipline, domain and 1PPS input; discipline turned off leaves it FREE. -/
def State.setDiscipline (s : State) (disc pps : Bool) (domain : Nat) : State :=
  let t := s.tide
  let s1 : State := { s with tide := { t with disc := disc, domain := domain, ppsOn := pps, ppsSeen := t.ppsSeen && pps
                                              ppsFirst := pps && (!t.ppsOn || t.ppsFirst) } }
  if disc then s1 else ({ s1 with tide := { s1.tide with good := 0, step := none, slew := 0 } }).tideState 0

/-- TIDE: the time is set only forwards, while the tide is FREE, no lagoon is RUNNING and no launch is pending. -/
def State.cmdTide (s : State) (r : Req) : State :=
  let set := bit (r.arg 9 1) 0
  let time := r.arg 64 64
  if set ∧ r.alen < 16 then s.no r 6 2
  else if set ∧ (s.tide.state ≠ 0 ∨ s.tideFree = false) then s.no r 1 0xFF
  else if set ∧ time < s.tide.count then s.no r 6 40
  else
    let t := s.setDiscipline (bit (r.arg 0 1) 0) (bit (r.arg 8 1) 0) (r.arg 1 7)
    let u : State := { t with tide := { t.tide with set := t.tide.set || set } }
    (if set ∧ s.tide.count < time then u.stepTide (time - s.tide.count) else u).ok r []

/-! ## NET, QOS, MACSEC, LIGHTHOUSE (R366, R368 to R370, R388, R418, R420) -/

/-- Write the port's settings, which the keeper keeps. -/
def State.setNet (s : State) (c : NetCfg) : State :=
  { s with port := { s.port with cfg := c }, keeper := { s.keeper with net := c } }

/-- Answer, then close the sessions whose bound address a change ended. -/
def State.okThenEnd (s : State) (r : Req) (p : Session → Bool) : State := (s.ok r []).endSessions p

/-- NET item 0x00: the MAC address, or the provisioned one; entry 0 follows it. -/
def State.cmdNetMac (s : State) (r : Req) : State :=
  let t := s.setNet { s.port.cfg with mac := r.arg 8 48 }
  t.okThenEnd r (fun x => x.entry == 0 && t.macAddr != s.macAddr)

/-- NET item 0x01: the VLAN of entry 0. -/
def State.cmdNetLinkLocal (s : State) (r : Req) : State :=
  (s.setNet { s.port.cfg with local0 := if bit (r.arg 137 1) 0 then some (r.arg 138 12) else none }).ok r []

/-- The address entry that NET items 0x02 to 0x10 write. -/
def Req.addr (r : Req) : Addr :=
  let v4 := bit (r.arg 136 1) 0
  ⟨if v4 then r.arg 8 32 else r.arg 8 128, v4, if bit (r.arg 137 1) 0 then some (r.arg 138 12) else none, r.arg 152 4⟩

/-- NET items 0x02 to 0x10: an address entry is written, bound or cleared. An address is bound to at most one lagoon. -/
def State.cmdNetAddress (s : State) (r : Req) : State :=
  let e := r.arg 0 8 - 1
  let a := r.addr
  let c := s.port.cfg
  let others := c.addrs.filter (fun p => p.1 != e)
  let old := (c.addrs.find? (fun p => p.1 == e)).map Prod.snd
  if a.owner = 0xF then
    (s.setNet { c with addrs := others }).okThenEnd r (fun x => x.entry == e)
  else if others.any (fun p => p.2.addr == a.addr && p.2.v4 == a.v4 && p.2.owner != a.owner) then s.no r 0x0E 0
  else
    let same := (old.map (fun b => b.addr == a.addr && b.v4 == a.v4 && b.owner == a.owner)).getD false
    (s.setNet { c with addrs := others ++ [(e, a)] }).okThenEnd r (fun x => x.entry == e && !same)

/-- NET item 0x11: HMPPORT. -/
def State.cmdNetHmpport (s : State) (r : Req) : State := (s.setNet { s.port.cfg with hmpport := r.arg 8 16 }).ok r []

/-- QOS item 0x00: lossless priorities and the traffic map. -/
def State.cmdQosPriorities (s : State) (r : Req) : State :=
  (s.setNet { s.port.cfg with lossless := r.arg 8 8, traffic := r.arg 16 24 }).ok r []

/-- QOS item 0x01: the DSCP map. -/
def State.cmdQosDscpMap (s : State) (r : Req) : State := (s.setNet { s.port.cfg with dscp := r.arg 8 192 }).ok r []

/-- QOS item 0x02: PFCWD. -/
def State.cmdQosPfcwd (s : State) (r : Req) : State := (s.setNet { s.port.cfg with pfcwd := r.arg 8 32 }).ok r []

/-- MACSEC item 0x00: MACsec on or off, and the replay window. The controlled port opens only by key agreement. -/
def State.cmdMacsecEnable (s : State) (r : Req) : State :=
  let on := bit (r.arg 8 1) 0
  let keep := on && s.port.cfg.macsec
  let t := (s.ok r []).setNet { s.port.cfg with macsec := on, replay := r.arg 16 24 }
  { t with port := { t.port with ctlOpen := keep && t.port.ctlOpen, sas := if keep then t.port.sas else [], txSas := if keep then t.port.txSas else [] } }

/-- MACSEC item 0x01: the CAK and its name. -/
def State.cmdMacsecCak (s : State) (r : Req) : State :=
  (s.setNet { s.port.cfg with cak := some ((r.args.drop 2).take 32, (r.args.drop 34).take (r.arg 8 8)) }).ok r []

/-- LIGHTHOUSE: LHCFG, LHETYPE and LHPORT. -/
def State.cmdLighthouse (s : State) (r : Req) : State :=
  (s.setNet { s.port.cfg with lhcfg := r.arg 17 15 * 2 ^ 17 + r.arg 0 14, lhetype := r.arg 32 16, lhport := r.arg 48 16 }).ok r []

/-! ## Tenant keys (R399, R403, R458) -/

def State.setKeys (s : State) (l : List TenantKey) : State := { s with keeper := { s.keeper with tkeys := l } }

/-- TENANT_KEY, install: up to 8 keys for each scope. -/
def State.cmdKeyInstall (s : State) (r : Req) : State :=
  let k : TenantKey := ⟨r.arg 0 8, (r.args.drop 2).take 97⟩
  let l := s.keeper.tkeys
  if l.contains k then s.ok r (toBytes 8 (keyId k.key))
  else if 8 ≤ (l.filter (fun y => y.scope == k.scope)).length then s.no r 6 32
  else (s.setKeys (l ++ [k])).ok r (toBytes 8 (keyId k.key))

/-- TENANT_KEY, remove: the sessions that the key opened end; the last harbour key stays. -/
def State.cmdKeyRemove (s : State) (r : Req) : State :=
  let k : TenantKey := ⟨r.arg 0 8, (r.args.drop 2).take 97⟩
  let l := s.keeper.tkeys
  if l.contains k = false then s.no r 0x0F 0
  else if k.scope = 0 ∧ (l.filter (fun y => y.scope == 0)).length = 1 then s.no r 0x0E 0
  else
    ((s.setKeys (l.filter (fun y => y != k))).ok r (toBytes 8 (keyId k.key))).endSessions
      (fun x => x.scope == k.scope && x.keyid == keyId k.key)

/-! ## Queue pairs (R371, R372) -/

/-- QP_CREATE: the lowest QPN free. -/
def State.cmdQpCreate (s : State) (r : Req) : State :=
  match (List.range 4096).find? (fun n => (s.qp? (n + 1)).isNone) with
  | none => s.no r 0x0D 4
  | some n =>
    let v4 := bit (r.arg 128 1) 0
    let q : QPair :=
      { qpn := n + 1, owner := r.owner, peer := if v4 then r.arg 0 32 else r.arg 0 128, v4 := v4, rqpn := r.arg 136 24, mtu := r.arg 160 2
        spsn := r.arg 168 24, rpsn := r.arg 200 24, timeout := if r.arg 224 32 = 0 then 1000 else r.arg 224 32
        rate := if r.arg 256 32 = 0 then 1600000 else r.arg 256 32, limit := r.arg 256 32, retries := 0, rnr := 0, timer := 0, state := 0, work := [] }
    ({ s with qps := s.qps ++ [q] }).ok r (toBytes 2 (n + 1))

/-- QP_DESTROY: refused while a sink or a service uses the queue pair; what it had under way fails. -/
def State.cmdQpDestroy (s : State) (r : Req) : State :=
  match s.qp? (r.arg 0 16) with
  | none => s.no r 6 32
  | some q =>
    if q.owner ≠ r.owner then s.no r 6 32
    else if s.sinks.any (fun k => k.qpn == q.qpn) || (List.range 8).any (fun l => ((s.lagoon l).svc.map (fun v => v.qpns.contains q.qpn)).getD false) then
      s.no r 0x0E 0
    else (q.work.foldl (failWork q.qpn 0) { s with qps := s.qps.filter (fun y => y.qpn != q.qpn) }).ok r []

/-! ## Landing regions (R373, R412) -/

/-- An R_Key that no registered region has, from a free value (R373). -/
def State.newKey (s : State) (n : Nat) : Nat :=
  let k := Config.rkey n
  (((List.range 257).map (fun i => (k + i) % 2 ^ 32)).find? (fun x => !(s.lrs.any (fun y => y.rkey == x)))).getD (k % 2 ^ 32)

/-- LR_REGISTER: granule-aligned memory that the owner holds. -/
def State.cmdLrRegister (s : State) (r : Req) : State :=
  let a := r.arg 0 64
  let n := r.arg 64 64
  if s.holds r.owner a n = false then s.no r 6 32
  else match (List.range 256).find? (fun i => (s.lr? i).isNone) with
    | none => s.no r 0x0D 5
    | some i =>
      let (k, t) := s.draw
      let key := t.newKey k
      let x : LandReg := ⟨i, a, n, key, r.owner, bit (r.arg 128 1) 0, bit (r.arg 129 1) 0, 0⟩
      ({ t with lrs := t.lrs ++ [x] }).ok r (toBytes 4 i ++ toBytes 4 key)

/-- LR_DEREGISTER: refused while a command's fence waits on the region. -/
def State.cmdLrDeregister (s : State) (r : Req) : State :=
  match s.lr? (r.arg 0 8) with
  | none => s.no r 6 32
  | some x =>
    if x.owner ≠ r.owner then s.no r 6 32
    else if s.fenced (fun y => y.idx == x.idx) then s.no r 0x0E 0
    else ({ s with lrs := s.lrs.filter (fun y => y.idx != x.idx) }).ok r []

/-! ## Library packages (R165, R167, R462) -/

/-- Which signatures fail: 0 ECDSA, 1 LMS, 2 both; none where both pass (R462). -/
def sigFail (b : Bool × Bool) : Option Nat :=
  match b.1, b.2 with
  | true, true => none
  | false, true => some 0
  | true, false => some 1
  | false, false => some 2

/-- Which signatures of a package fail: its block stands at SIGOFF (R529, R530). -/
def packFail (bs : List Byte) : Option Nat :=
  let at_ := bits (numAt bs 0 64) 288 32
  sigFail (blockOk (bs.take at_) (bs.drop at_))

/-- Hold a package; one of the same triple is replaced. -/
def State.holdPackage (s : State) (bs : List Byte) (flash : Bool) : State :=
  let p : Library := ⟨packTriple bs, sha384 bs, bs, flash⟩
  { s with libs := s.libs.filter (fun y => y.triple != p.triple) ++ [p] }

/-- LIB_PUT: both signatures of the landed package must pass. -/
def State.cmdLibPut (s : State) (r : Req) : State :=
  let a := r.arg 0 64
  let n := r.arg 64 64
  if s.holds r.owner a n = false then s.no r 6 32
  else if s.awake a n = false then s.no r 0x10 s.powerNow
  else
    let bs := s.readBytes a n
    match packFail bs with
    | some d => (s.raise 0x6105 2 (s.argK 0 0) 0 none none).answer r.ref 0x14 d 0x6105 []
    | none =>
      if packOk bs = false then s.no r 6 32
      else (s.holdPackage bs (bit (r.arg 128 1) 0)).ok r (toBytes 4 (packTriple bs) ++ digestBytes (sha384 bs))

end Sys2Proof.Machine
end

