-- ==== Sys2Proof/Machine/Checkpoint.lean ====
section
/-! DEFINITION. Checkpoints: the checkpoint block, snapshots, drains, restores, and replica partners (R433 to R453). -/

namespace Sys2Proof.Machine

def mib : Nat := 2 ^ 20

/-! ## The checkpoint block (R433, R434) -/

/-- A half: its 0x2440 bytes. -/
def halfLen : Nat := 0x2440

/-- The offset of a half in the block, by its COMMIT code. -/
def halfOff (commit : Nat) : Nat := if commit = 1 then 0x1000 else 0x4000

/-- Fields of a half head (Table 2 of spec/14). -/
def halfSpans (h : List Byte) : Nat := bodyNum h 9 1
def halfRecs (h : List Byte) : Nat := bodyNum h 6 2 % 1024
def halfStep (h : List Byte) : Nat := bodyNum h 0 4

/-- The span list of a half, as (START, LEN). -/
def spanList (h : List Byte) : List (Nat × Nat) :=
  (List.range (halfSpans h)).map (fun i => (bodyNum h (0x40 + 16 * i) 8, bodyNum h (0x48 + 16 * i) 8))

/-- Total bytes of a half's spans. -/
def spanSum (h : List Byte) : Nat := ((spanList h).map Prod.snd).sum

/-- A span as Table 2 of spec/14 defines it, within program stacks 0 to NSTK − 1. -/
def spanOk (nstk : Nat) (p : Nat × Nat) : Bool :=
  p.1 % mib == 0 && decide (mib ≤ p.1) && p.2 % mib == 0 && p.2 != 0 && decide (p.1 + p.2 ≤ nstk * 2 ^ 37)

/-- Whether no two spans of a list overlap. -/
def apart : List (Nat × Nat) → Bool
  | [] => true
  | p :: ps => ps.all (fun q => decide (p.1 + p.2 ≤ q.1) || decide (q.1 + q.2 ≤ p.1)) && apart ps

/-- What R434 asks of a half itself. -/
def halfOk (nstk : Nat) (h : List Byte) : Bool :=
  inRange (halfSpans h) 1 64 && (spanList h).all (spanOk nstk) && apart (spanList h)

/-- The committed half of a lagoon's block: its COMMIT code and bytes, where it is valid (R434). -/
def State.committed (s : State) (l nstk : Nat) : Option (Nat × List Byte) :=
  let head := bodyNum (s.readProg l 0 64) 0 8
  let commit := bits head 32 2
  let h := s.readProg l (halfOff commit) halfLen
  if bits head 0 32 = 0x31424B43 ∧ (commit = 1 ∨ commit = 2) ∧ halfOk nstk h = true then some (commit, h) else none

/-- Whether n bytes of program memory lie in populated DDR5 that the lagoon owns, from a multiple of 2^20. -/
def State.ddrArea (s : State) (l a n : Nat) : Bool :=
  a % mib == 0 && decide (ddrBase ≤ a) && decide (0 < n) && s.owned l a (a + n - 1)

/-! ## The cursor check (R446) -/

/-- A random cursor record of a half (Table 7 of spec/10). -/
def cursorRec (h : List Byte) (i : Nat) : Nat := bodyNum h (0x440 + 16 * i) 16

/-- The virtual core that the cursor check names, on a body section head (as a number) and its copied half; none where it
passes. -/
def cursorFail (im : Image) (bh : Nat) (h : List Byte) : Option Nat :=
  let vs := (List.range 512).filter (fun v => v % 32 < im.gx && v / 32 < im.gy)
  let dcur := bits bh 96 32
  let nrec := bits bh 80 10
  if bits bh 0 32 ≠ dcur then some 0x1FF
  else if im.rngFree = false then none
  else
    let bad := (List.range vs.length).find? (fun i =>
      !(decide (i < nrec) && bits (cursorRec h i) 0 9 == vs.getD i 0 && bits (cursorRec h i) 96 32 == dcur))
    match bad with
    | some i => some (vs.getD i 0)
    | none => if vs.length < nrec then some 0x1FF else none

/-! ## Snapshots (R435 to R440) -/

/-- Whether every stream operation and reef operation of a lagoon that was in progress has finished (R435 step 1). A marker is no stream
operation (R170, R527), and what a stopped core had in progress never finishes (R269). -/
def State.quiet (s : State) (l : Nat) : Bool :=
  (s.vcores l).all (fun v => (s.core ⟨l, v⟩).stopped || (s.core ⟨l, v⟩).ops.all (fun o => 4 ≤ o.kind)) && (s.ownStacks l).all (fun n => (s.stack n).recs.all (fun r => !r.begun))

/-- Whether a range of a lagoon's DDR5 meets one of its outstanding drains (R443). -/
def Lagoon.drainMeets (x : Lagoon) (a n : Nat) : Bool := x.drains.any (fun d => decide (d.src < a + n) && decide (a < d.src + d.len))

/-- The 64 bytes of a body section head (Table 5 of spec/14). -/
def bodyHead (im : Image) (dcur commit : Nat) (h : List Byte) : List Byte :=
  toBytes 64 (im.imgroot.toNat * 2 ^ 128 + dcur % 2 ^ 32 * 2 ^ 96 + halfRecs h * 2 ^ 80 + halfSpans h * 2 ^ 72 + (im.gx - 1) % 32 * 2 ^ 53 +
    (im.gy - 1) % 16 * 2 ^ 49 + im.nstk % 32 * 2 ^ 44 + b2n im.rngFree * 2 ^ 43 + commit % 4 * 2 ^ 41 + halfStep h)

/-- Whether a program granule of a lagoon holds an atom marked bad. -/
def State.badGran (s : State) (l a : Nat) : Bool := (s.badIn l (a / 1024 * 1024) 1024).isSome

/-- A span's bytes; a granule that cannot be read reads as zeros (R438). -/
def State.spanCopy (s : State) (l : Nat) (p : Nat × Nat) : List Byte :=
  (List.range (p.2 / 1024)).flatMap (fun g =>
    if s.badGran l (p.1 + 1024 * g) then List.replicate 1024 0 else s.readProg l (p.1 + 1024 * g) 1024)

/-- Granules of the spans that cannot be read. -/
def State.badGrans (s : State) (l : Nat) (ps : List (Nat × Nat)) : Nat :=
  (ps.map (fun p => ((List.range (p.2 / 1024)).filter (fun g => s.badGran l (p.1 + 1024 * g))).length)).sum

/-- The first 128 bytes of a checkpoint header (Table 4 of spec/14). -/
def State.ckHeader (s : State) (l : Nat) (root : Digest) (tsnap runno bodylen bad : Nat) : List Byte :=
  toBytes 128 (root.toNat * 2 ^ 640 + devId.toNat * 2 ^ 256 + tsnap % 2 ^ 64 * 2 ^ 192 + runno % 2 ^ 64 * 2 ^ 128 +
    bodylen % 2 ^ 64 * 2 ^ 64 + bad % 2 ^ 32 * 2 ^ 32 + 0x4B48 * 2 ^ 16 + s.straps.feed % 64 * 2 ^ 10 + l % 8 * 2 ^ 5 + 1)

/-- What refuses a snapshot once its lagoon is quiet: no committed half (NOT_FOUND), a bad area, or a drain on it. -/
def State.snapCheck (s : State) (l area : Nat) : Option (Nat × Nat) :=
  let nstk := ((s.lagoon l).img.map (·.nstk)).getD 0
  match s.committed l nstk with
  | none => some (0x0F, 0)
  | some (_, h) =>
    let n := 2 * mib + spanSum h
    if s.ddrArea l area n = false then some (6, 32)
    else if (s.lagoon l).drainMeets area n then some (0x0E, 0)
    else none

/-- Answer a snapshot that is refused; event 0x8103 where no half is committed. -/
def State.snapRefused (s : State) (l : Nat) (ref : Ref) (dcur st d : Nat) : State :=
  if st = 0x0F then (s.raise 0x8103 2 dcur 0 (some l) none).answer ref st d 0x8103 [] else s.answer ref st d 0 []

/-- CK_SNAPSHOT (R435): refused at once where the lagoon is quiet and a check fails; else the snapshot is under way. -/
def State.cmdCkSnapshot (s : State) (r : Req) : State :=
  match s.gate r with
  | some (st, d) => s.no r st d
  | none =>
    let w : CkWork := ⟨r.ref, r.arg 0 64, 0, r.arg 64 32, 0, s.tide.count, 0⟩
    if s.quiet r.lag = false then s.setLagoon r.lag { s.lagoon r.lag with snap := some w }
    else match s.snapCheck r.lag w.area with
      | some (st, d) => s.snapRefused r.lag r.ref w.dcur st d
      | none => s.setLagoon r.lag { s.lagoon r.lag with snap := some { w with half := 1 } }

/-- Write a snapshot's area, keep its root as the lagoon's latest, and answer (R435 to R438, R451). -/
def State.writeSnapshot (s : State) (l : Nat) (w : CkWork) (im : Image) (commit : Nat) (h : List Byte) : State :=
  let x := s.lagoon l
  let bad := s.badGrans l (spanList h)
  let first := ((spanList h).findSome? (fun p => s.badIn l p.1 p.2))
  let section1 := padTo mib (bodyHead im w.dcur commit h ++ h)
  let body := section1 ++ (spanList h).flatMap (s.spanCopy l)
  let root := merkleRoot body
  let s1 := match first with | some a => if s.runs? l then s.meetBad a l none else s | none => s
  let runno := (x.run.map (·.runno)).getD 0
  let area := padTo mib (s.ckHeader l root w.tsnap runno body.length bad) ++ body
  let s2 := (spanList h).foldl (fun a p => a.harbourMovesAt l p.1 p.2) ((s1.putProg l w.area area).harbourMovesAt l w.area area.length)
  let s3 := (s2.setLagoon l { s2.lagoon l with snap := none, root := some ⟨1, root, w.dcur⟩ }).raise 0x8101 0 w.dcur 0 (some l) none
  let s4 := match cursorFail im (ofBytes (bodyHead im w.dcur commit h)) h with | some v => s3.raise 0x8102 0 w.dcur 0 (some l) (if v < 0x1FF then some v else none) | none => s3
  let s5 := if 0 < bad then s4.raise 0x8104 0 w.dcur 0 (some l) none else s4
  s5.answer w.ref 0 0 0x8101 (digestBytes root ++ toBytes 8 area.length)

/-- CK_SNAPSHOT_DONE (R435): what was in progress has finished, the checks are made, and the area is written. -/
def execCkSnapshotDone (l : Nat) (s : State) : Host.Outcome State Fault Refusal :=
  let x := s.lagoon l
  .next (match x.snap, x.img with
    | some w, some im =>
      if s.quiet l = false then s
      else match (if w.half = 0 then s.snapCheck l w.area else none) with
        | some (st, d) => (s.setLagoon l { x with snap := none }).snapRefused l w.ref w.dcur st d
        | none => match s.committed l im.nstk with
          | none => (s.setLagoon l { x with snap := none }).snapRefused l w.ref w.dcur 0x0F 0
          | some (commit, h) => s.writeSnapshot l (if w.half = 0 then { w with tsnap := s.tide.count } else w) im commit h
    | _, _ => s)

/-! ## Drains (R441, R443) -/

/-- CK_DRAIN: a range of the lagoon's DDR5 and a queue pair of the session's owner. -/
def State.cmdCkDrain (s : State) (r : Req) : State :=
  match s.gate r with
  | some (st, d) => s.no r st d
  | none =>
    match s.qp? (r.arg 0 16) with
    | none => s.no r 6 32
    | some q =>
      if q.owner ≠ r.owner then s.no r 6 32
      else if s.ddrArea r.lag (r.arg 128 64) (r.arg 192 64) = false then s.no r 6 48
      else
        let d : Drain := ⟨r.ref, q.qpn, r.arg 32 32, r.arg 64 64, r.arg 128 64, r.arg 192 64, none, [], []⟩
        (s.setLagoon r.lag { s.lagoon r.lag with drains := (s.lagoon r.lag).drains ++ [d] }).startDrain r.lag

/-- CK_DRAIN_DONE (R441): every byte of the first drain has been sent and acknowledged. -/
def execCkDrainDone (l : Nat) (s : State) : Host.Outcome State Fault Refusal :=
  let x := s.lagoon l
  .next (match x.drains with
    | [] => s
    | d :: rest =>
      match d.root with
      | none => s
      | some root =>
        if s.qps.any (fun q => q.work.any (fun w => w.drain == some l)) ∨ s.power.state = 3 then s
        else
          let t := (s.setLagoon l { x with drains := rest }).raise 0x8111 0 (argD root.toNat) 0 (some l) none
          (t.answer d.ref 0 0 0x8111 (digestBytes root)).startDrain l)

/-! ## Restore (R446 to R448) -/

/-- Checks 3 to 5 of Table 7 of spec/14 on an area: the status, DETAIL, event and its argument of the first that fails. -/
def restoreFail (im : Image) (area : List Byte) (root : Digest) : Option (Nat × Nat × Nat × Nat) :=
  let head := ofBytes (area.take 128)
  let bh := ofBytes ((area.drop mib).take 64)
  let h := (area.drop (mib + 0x40)).take halfLen
  let commit := bits bh 41 2
  let fits := bits bh 128 384 == im.imgroot.toNat && bits bh 53 5 + 1 == im.gx && bits bh 49 4 + 1 == im.gy && bits bh 44 5 == im.nstk &&
    bit bh 43 == im.rngFree
  let image : Option (Nat × Nat × Nat × Nat) := some (0x18, 0, 0x8202, argD root.toNat)
  if bits head 16 16 ≠ 0x4B48 ∨ bits head 0 5 ≠ 1 ∨ bits head 32 32 ≠ 0 ∨ bits head 64 64 + mib ≠ area.length then image
  else if fits = false ∨ !(commit == 1 || commit == 2) ∨ halfOk im.nstk h = false then image
  else (cursorFail im bh h).map (fun v => (0x17, v, 0x8203, bits bh 96 32))

/-- CK_RESTORE: the checks of Table 7 of spec/14 in order; the lagoon becomes unsealed and the copy is under way. -/
def State.cmdCkRestore (s : State) (r : Req) : State :=
  match s.gate r with
  | some (st, d) => s.no r st d
  | none =>
    let src := r.arg 0 64
    let n := r.arg 64 64
    if s.ddrArea r.lag src n = false ∨ n < 2 * mib then s.no r 6 32
    else
      let area := s.readProg r.lag src n
      let root := merkleRoot (area.drop mib)
      if root.toNat ≠ r.arg 128 384 then
        (s.raise 0x8201 2 (argD root.toNat) 0 (some r.lag) none).answer r.ref 0x18 0 0x8201 (digestBytes root)
      else match (s.lagoon r.lag).img with
        | none => s.no r 1 (s.lagoon r.lag).st.code
        | some im =>
          match restoreFail im area root with
          | some (st, d, ev, arg) =>
            (s.raise ev 2 arg 0 (some r.lag) (if ev = 0x8203 ∧ d < 0x1FF then some d else none)).answer r.ref st d ev []
          | none =>
            let bh := ofBytes ((area.drop mib).take 64)
            let t := s.dropLaunches r.lag .loaded
            t.setLagoon r.lag { t.lagoon r.lag with
              sealed := false, restore := some ⟨r.ref, src, n, bits bh 96 32, bits bh 41 2, s.tide.count, root⟩ }

/-- Copy an area's spans back to their starts, in list order, from an offset of the area on. -/
def State.copyBack (l src : Nat) : Nat → List (Nat × Nat) → State → State
  | _, [], s => s
  | off, p :: ps, s => State.copyBack l src (off + p.2) ps (s.putProg l p.1 (s.readProg l (src + off) p.2))

/-- CK_RESTORED (R448): the spans and the checkpoint block are written, the restore is unproven, and it is answered. -/
def execCkRestored (l : Nat) (s : State) : Host.Outcome State Fault Refusal :=
  let x := s.lagoon l
  .next (match x.restore with
    | none => s
    | some w =>
      let h := s.readProg l (w.area + mib + 0x40) halfLen
      let s0 := (spanList h).foldl (fun a p => a.harbourMovesAt l p.1 p.2) (s.harbourMovesAt l w.area (2 * mib + spanSum h))
      let s1 := State.copyBack l w.area (2 * mib) (spanList h) s0
      let s2 := s1.putProg l 0 (toBytes 64 (w.half * 2 ^ 32 + 0x31424B43))
      let s3 := (s2.putProg l (halfOff w.half) h).putProg l (halfOff (3 - w.half)) (List.replicate halfLen 0)
      let s4 := s3.setLagoon l { s3.lagoon l with restore := none, unproven := true, root := some ⟨2, w.root, w.dcur⟩ }
      (s4.raise 0x8204 0 (argD w.root.toNat) 0 (some l) none).answer w.ref 0 0 0x8204 (digestBytes w.root))

/-! ## Replica partners (R449 to R452) -/

/-- Whether a pairing is correlated (R449). -/
def State.correlated (s : State) (feed : Nat) (fdom : List Byte) : Bool :=
  let own := (s.keeper.prov.map (·.fdom)).getD []
  feed == s.straps.feed || (fdom != [] && own != [] && fdom == own)

/-- PAIR: a correlated partner is refused unless the acceptance bit is set. -/
def State.cmdPair (s : State) (r : Req) : State :=
  match s.gate r with
  | some (st, d) => s.no r st d
  | none =>
    let feed := r.arg 384 6
    let fdom := (r.args.drop 64).take 64
    let c := s.correlated feed fdom
    if c ∧ r.arg 390 1 = 0 then
      (s.raise 0x8302 2 (argD (r.arg 0 384)) 0 (some r.lag) none).answer r.ref 0x16 feed 0x8302 []
    else
      ((s.setLagoon r.lag { s.lagoon r.lag with pair := some ⟨r.arg 0 384, feed, fdom, c⟩ }).raise 0x8301 0 (argD (r.arg 0 384)) 0
        (some r.lag) none).answer r.ref 0 0 0x8301 []

/-- COMPARE: the lagoon's latest root against the partner's; a match ends an unproven restore. -/
def State.cmdCompare (s : State) (r : Req) : State :=
  match s.gate r with
  | some (st, d) => s.no r st d
  | none =>
    let x := s.lagoon r.lag
    match x.pair, x.root with
    | some _, some k =>
      if k.root.toNat = r.arg 0 384 then
        ((s.setLagoon r.lag { x with unproven := false }).raise 0x8303 0 (argD k.root.toNat) 0 (some r.lag) none).answer r.ref 0 0 0x8303 [1]
      else (s.raise 0x8304 0 (argD k.root.toNat) 0 (some r.lag) none).answer r.ref 0x18 0 0x8304 [0]
    | _, _ => s.no r 0x0F 0

end Sys2Proof.Machine
end

