-- ==== Sys2Proof/Machine/DebugItems.lean ====
section
/-! DEFINITION. The items of DBGACC's space 0x0 beyond the pilot and the sequencers: what each chapter lets a debugger read at D1
and read or write at D3 (R114, R137, R201, R237, R275). Table 11 of spec/15 gives them no offsets; these are the model's (DESIGN
CHOICE 39). -/

namespace Sys2Proof.Machine

/-- 32-bit word j of a number, and a number with that word replaced. -/
def word32 (x j : Nat) : Nat := bits x (32 * j) 32
def putWord32 (x j v : Nat) : Nat := putBits x (32 * j) 32 v

/-- A set of numbers as bits. -/
def bitSet (xs : List Nat) : Nat := xs.eraseDups.foldl (fun n i => n + 2 ^ i) 0

/-- A list of 128-byte lines as one number, and back. -/
def linesNat (ls : List LineData) : Nat := joinBits 1024 (ls.map BitVec.toNat)
def putLineWord (ls : List LineData) (j v : Nat) : List LineData :=
  setAt ls (j / 32) (BitVec.ofNat 1024 (putWord32 (ls.getD (j / 32) 0).toNat (j % 32) v))

/-! ## Matrix row and vector engine (R114, R137) -/

/-- An accumulator format's code in a slot's status. -/
def AccKind.debugCode : AccKind → Nat
  | .fp32 => 0 | .fp64 => 1 | .int32 => 2 | .int64 => 3 | .exact => 4

/-- Whether a slot of a cube is unset (0) or held (bit 0), in exact-sum mode (bit 1), and its format from bit 4 (R89, R114). -/
def Core.slotStatus (c : Core) (cube slot : Nat) : Nat :=
  match (c.cube cube).held.find? (fun h => decide (h.slot ≤ slot) && decide (slot < h.slot + h.kind.slots)) with
  | some h => 1 + 2 * b2n (h.kind == .exact) + 16 * h.kind.debugCode
  | none => 0

/-- Entries and bytes that the sound holds, popped tiles included until their pops end (R130). -/
def Row.soundEntries (r : Row) (beat : Nat) : Nat := r.sound.length + (r.freeing.filter (fun f => decide (beat ≤ f.1))).length
def Row.soundBytes (r : Row) (beat : Nat) : Nat :=
  (r.sound.map (·.bytes)).sum + ((r.freeing.filter (fun f => decide (beat ≤ f.1))).map Prod.snd).sum

/-- A drain register's word, and with it written; an empty one reads as zeros and takes no write. -/
def Core.drainWord (c : Core) (cube j : Nat) : Nat := (((c.cube cube).drain.map (fun d => word32 d.data j))).getD 0
def Core.putDrainWord (c : Core) (cube j v : Nat) : Core :=
  let q := c.cube cube
  let q1 : Cube := { q with drain := q.drain.map (fun d => { d with data := putWord32 d.data j v }) }
  { c with row := { c.row with cubes := Sparse.set Cube.blank c.row.cubes (cube % 16) q1 } }

/-- A summary entry's word, and with it written; bits [47:32] are reserved (R17, R135). -/
def Core.summWord (c : Core) (i j : Nat) : Nat := ((c.vec.summ[i]?).map (fun e => word32 e.entry.toNat j)).getD 0
def Core.putSummWord (c : Core) (i j v : Nat) : Core :=
  match c.vec.summ[i]? with
  | some e =>
    let w := BitVec.ofNat 64 (putBits (putWord32 e.entry.toNat j v) 32 16 0)
    { c with vec := { c.vec with summ := setAt c.vec.summ i { e with entry := w } } }
  | none => c

/-- The tag (j = 0) or a word of the sidecar (j = 1, 2) of a line, and with it written (R86, R95). -/
def Line.item (x : Line) (j : Nat) : Nat := if j = 0 then x.tag.toNat else if j < 3 then word32 x.side.toNat (j - 1) else 0
def Line.putItem (x : Line) (j v : Nat) : Line :=
  if j = 0 then { x with tag := BitVec.ofNat 4 v } else if j < 3 then { x with side := BitVec.ofNat 64 (putWord32 x.side.toNat (j - 1) v) } else x

/-- The header items of the B registers, cube by cube, BREG0 before BREG1, four for each. -/
def Core.bregItem (c : Core) (k : Nat) : Nat := (if k / 4 % 2 = 0 then (c.cube (k / 8)).b0 else (c.cube (k / 8)).b1).item (k % 4)
def Core.putBregItem (c : Core) (k v : Nat) : Core :=
  let q := c.cube (k / 8)
  let q1 : Cube := if k / 4 % 2 = 0 then { q with b0 := q.b0.putItem (k % 4) v } else { q with b1 := q.b1.putItem (k % 4) v }
  { c with row := { c.row with cubes := Sparse.set Cube.blank c.row.cubes (k / 8 % 16) q1 } }

/-- The header items of a queue entry: its tag, its elements, its marker with bit 8 set, the flags beside it, and from 32 on two words of
sidecar for each of its lines; and with one written (R155, R275). -/
def QEntry.item (e : QEntry) (j : Nat) : Nat :=
  if j = 0 then e.tag.toNat else if j = 1 then e.count else if j = 2 then (e.mark.map (fun m => 256 + m.toNat)).getD 0
  else if j = 3 then e.flags.toNat else if 32 ≤ j then word32 (e.sides.getD ((j - 32) / 2) 0).toNat (j % 2) else 0
def QEntry.putItem (e : QEntry) (j v : Nat) : QEntry :=
  if j = 0 then { e with tag := BitVec.ofNat 4 v }
  else if j = 1 then { e with count := v }
  else if j = 2 then { e with mark := if bit v 8 then some (BitVec.ofNat 8 v) else none }
  else if j = 3 then { e with flags := BitVec.ofNat _ v }
  else if 32 ≤ j ∧ (j - 32) / 2 < e.sides.length then
    { e with sides := setAt e.sides ((j - 32) / 2) (BitVec.ofNat 64 (putWord32 (e.sides.getD ((j - 32) / 2) 0).toNat (j % 2) v)) }
  else e
def Core.entryItem (c : Core) (n i j : Nat) : Nat := (((c.queue n).entries[i]?).map (fun e => e.item j)).getD 0
def Core.putEntryItem (c : Core) (n i j v : Nat) : Core :=
  match (c.queue n).entries[i]? with
  | some e => c.setQueue n { c.queue n with entries := setAt (c.queue n).entries i (e.putItem j v) }
  | none => c

/-- A packing buffer's word, and with it written; bytes past those it holds read as zeros and take no write (R133). -/
def Core.packWord (c : Core) (n j : Nat) : Nat := ofBytes (((c.queue (16 + n)).pack.drop (4 * j)).take 4)
def Core.putPackWord (c : Core) (n j v : Nat) : Core :=
  let q := c.queue (16 + n)
  let q1 : Queue := { q with pack := q.pack.take (4 * j) ++ (toBytes 4 v).take (q.pack.length - 4 * j) ++ q.pack.drop (4 * j + 4) }
  c.setQueue (16 + n) q1

/-! ## Buoys, tallies, queues and tables (R275) -/

/-- The agent of a core that waits on an object in one of the given ways, coded as AGENT of Table 10 of spec/08; 7 for none. -/
def State.waitingOn (s : State) (c : CoreId) (codes : List Nat) (obj : Nat) : Nat :=
  let ws := s.seqWaiter c.lagoon c.v .execute ++ s.seqWaiter c.lagoon c.v .access ++ s.pilotWaiter c.lagoon c.v ++
    s.portHeads c.lagoon c.v ++ s.streamWaits c.lagoon c.v
  ((ws.find? (fun w => codes.contains w.wait && w.object == obj)).map (·.agent)).getD 7

/-- A buoy: its state, BUOYCFG, the sets since load and the agent waiting on it. -/
def State.buoyItem (s : State) (c : CoreId) (n j : Nat) : Nat :=
  let b := (s.core c).buoy n
  match j with
  | 0 => b2n b.set
  | 1 => b.cfg.toNat
  | 2 => b.sets % 2 ^ 32
  | _ => s.waitingOn c [1, 2] n

/-- A tally: its value, its TB and its consumer, 0 the execute sequencer. -/
def Core.tallyItem (c : Core) (n j : Nat) : Nat :=
  let t := c.tally n
  match j with
  | 0 => t.mt.toNat
  | 1 => t.tb.toNat
  | 2 => b2n (t.consumer == .access)
  | _ => 0

/-- A queue: QCFG, occupancy, reservations, markers held, entries pushed and popped since load, the waiting agent, and the bytes in
its packing buffer. -/
def State.queueItem (s : State) (c : CoreId) (n j : Nat) : Nat :=
  let q := (s.core c).queue n
  match j with
  | 0 => q.cfg.toNat
  | 1 => q.entries.length
  | 2 => q.resv
  | 3 => (q.entries.filter (·.mark.isSome)).length
  | 4 => q.pushed % 2 ^ 32
  | 5 => q.popped % 2 ^ 32
  | 6 => s.waitingOn c [4, 5, 13] n
  | _ => q.pack.length

/-- A handler's word and its count of messages delivered. -/
def Core.handlerItem (c : Core) (n j : Nat) : Nat :=
  if j < 2 then word32 (Sparse.get 0 c.img.handlers n).toNat j else if j = 2 then Sparse.get 0 c.delivered n % 2 ^ 32 else 0

/-! ## The stream engine and the wheels (R201) -/

/-- Transactions of a core in flight on a channel: released and not finished. -/
def State.inFlightOn (s : State) (c : CoreId) (w : Nat) : Nat :=
  ((s.core c).ops.map (fun o => (o.txns.filter (fun t => (t.state == 1 || t.state == 2 || t.state == 4) && s.txnWheel c.lagoon t == some w)).length)).sum

/-- The k-th outstanding operation: its number; its kind, sequencer and descriptor; its units moved; its unfinished transactions. -/
def Core.opItem (c : Core) (k j : Nat) : Nat :=
  match c.ops[k]? with
  | none => 0
  | some o =>
    match j with
    | 0 => o.id % 2 ^ 32
    | 1 => o.kind + 2 ^ 8 * b2n (o.seq == .access) + 2 ^ 16 * o.desc
    | 2 => o.units % 2 ^ 32
    | _ => (o.txns.filter (fun t => t.state != 3)).length

/-- Whether a channel wheel is one of the lagoon's. -/
def State.ownWheel (s : State) (l w : Nat) : Bool :=
  if w < 640 then (s.ownStacks l).contains (w / 32) else (s.ownChans l).contains (w - 640)

/-! ## Barriers, combining queues and stacks (R237, R275) -/

/-- A barrier: its episode count, then its arrivals as one bit for each virtual core, the access sequencers' after the execute
sequencers'. -/
def State.barrierItem (s : State) (l n j : Nat) : Nat :=
  match (s.lagoon l).barriers.find? (fun d => d.num == n) with
  | none => 0
  | some d =>
    let came := d.members.filter (fun m => s.arrived l n m)
    if j = 0 then d.episodes % 2 ^ 32 else word32 (bitSet (came.map (fun m => m.1 + 512 * b2n m.2))) (j - 1)

/-- A combining queue: its round, then the contributions present as one bit for each virtual core; those of a queue that targets a stack
are the records that the stack holds in its group (R264). -/
def State.combItem (s : State) (l n j : Nat) : Nat :=
  match (s.lagoon l).combs.find? (fun q => q.num == n) with
  | none => 0
  | some q =>
    let group := Sparse.get [] (s.stack ((s.ownStacks l).getD (q.tcore % 32) 0)).groups q.group
    let there := q.contribs.filter (fun v =>
      if q.tkind then group.any (fun r => rCindex r.word == q.cindex v)
      else decide (q.cindex v < q.added) || q.store.any (fun d => d.round == q.round && d.cindex == q.cindex v))
    if j = 0 then q.round % 2 ^ 32 else word32 (bitSet there) (j - 1)

/-- Items of a stack by program number: REEFSTAT, records held, the shoal's hits and misses as two words each, the open combining
groups (bits) and the shoal windows' bounds; then for each group its contributors present. -/
def State.stackItem (s : State) (l st j : Nat) : Nat :=
  let k := s.stack st
  let win := ((s.lagoon l).img.map (·.shoal)).getD []
  if j = 0 then k.reefstat.toNat
  else if j = 1 then k.recs.length
  else if j < 4 then word32 k.hits (j - 2)
  else if j < 6 then word32 k.misses (j - 4)
  else if 8 ≤ j ∧ j < 16 then word32 (bitSet (k.groups.map Prod.fst)) (j - 8)
  else if 16 ≤ j ∧ j < 64 then
    let r := win.getD ((j - 16) / 4) ⟨0, 0, 0⟩
    word32 (r.start + 2 ^ 64 * r.len) ((j - 16) % 4)
  else if 0x100 ≤ j ∧ j < 0x1100 then
    word32 (bitSet ((Sparse.get [] k.groups ((j - 0x100) / 16)).map (fun r => rCindex r.word))) ((j - 0x100) % 16)
  else 0

/-- The record at a place of a stack: the records held in order of arrival, then those of the open groups by group. -/
def Stack.debugRecs (k : Stack) : List ReefHeld := k.recs ++ k.groups.flatMap Prod.snd

/-- A record's 32 words; a group's staging contents lie in the memory that its records' ADDR1 names (R218), which space 0x2 reads. -/
def Stack.recWord (k : Stack) (i j : Nat) : Nat := ((k.debugRecs[i]?).map (fun r => word32 r.word.toNat j)).getD 0

/-! ## The items by offset -/

/-- The item at an offset, with the level that reading it needs. -/
def State.debugItem (s : State) (c : CoreId) (off : Nat) : Option (Nat × Nat) :=
  let k := s.core c
  let at_ (lo n : Nat) : Bool := decide (lo ≤ off) && decide (off < lo + n)
  let st (d : Nat) : Option Nat := (s.ownStacks c.lagoon)[d]?
  if off = 0x2097 then some (1, k.row.soundEntries k.beat)
  else if off = 0x2098 then some (1, k.row.soundBytes k.beat)
  else if off = 0x2099 then some (1, k.vec.summ.length)
  else if at_ 0x2100 32 then some (3, k.summWord ((off - 0x2100) / 2) (off % 2))
  else if at_ 0x2200 256 then some (1, s.buoyItem c ((off - 0x2200) / 4) (off % 4))
  else if at_ 0x2300 64 then some (1, k.tallyItem ((off - 0x2300) / 4) (off % 4))
  else if at_ 0x2400 256 then some (1, s.queueItem c ((off - 0x2400) / 8) (off % 8))
  else if at_ 0x2600 512 then some (1, word32 (Sparse.get 0 k.img.envelopes ((off - 0x2600) / 2)).toNat (off % 2))
  else if at_ 0x2800 1024 then some (1, k.handlerItem ((off - 0x2800) / 4) (off % 4))
  else if at_ 0x3000 4096 then some (1, k.slotStatus ((off - 0x3000) / 256) (off % 256))
  else if at_ 0x4000 6144 then some (1, word32 (Sparse.get 0 k.img.descs ((off - 0x4000) / 24)).toNat ((off - 0x4000) % 24))
  else if at_ 0x5800 656 then some (1, s.inFlightOn c (off - 0x5800))
  else if off = 0x5B00 then some (1, k.ops.length)
  else if at_ 0x5C00 128 then some (3, k.bregItem (off - 0x5C00))
  else if at_ 0x6000 512 then some (1, k.opItem ((off - 0x6000) / 4) (off % 4))
  else if at_ 0x8000 8192 then some (3, k.drainWord ((off - 0x8000) / 512) (off % 512))
  else if at_ 0xA000 1024 then some (3, k.packWord ((off - 0xA000) / 64) (off % 64))
  else if at_ 0x10000 4096 then some (1, s.barrierItem c.lagoon ((off - 0x10000) / 64) (off % 64))
  else if at_ 0x20000 131072 then some (1, s.combItem c.lagoon ((off - 0x20000) / 32) (off % 32))
  else if at_ 0x100000 167936 then
    let w := (off - 0x100000) / 256
    if s.ownWheel c.lagoon w then some (1, (Sparse.get 0 (s.wheel w).owners (off % 256)).toNat) else none
  else if at_ 0x200000 163840 then (st ((off - 0x200000) / 8192)).map (fun d => (1, s.stackItem c.lagoon d (off % 8192)))
  else if at_ 0x400000 131072 then some (3, (k.tileLine ((off - 0x400000) / 4)).item (off % 4))
  else if at_ 0x800000 8388608 then some (3, k.entryItem ((off - 0x800000) / 262144) (off % 262144 / 64) (off % 64))
  else if at_ 0x2000000 10485760 then (st ((off - 0x2000000) / 524288)).map (fun d => (3, (s.stack d).recWord (off % 524288 / 32) (off % 32)))
  else none

/-- A buoy set or cleared by a debugger; a set counts among its sets. -/
def Core.debugBuoy (c : Core) (n v : Nat) : Core :=
  let b := c.buoy n
  let on := bit v 0
  { c with buoys := Sparse.set Buoy.blank c.buoys (n % 64) { b with set := on, sets := b.sets + b2n (on && !b.set) } }

/-- A tally's value, TB or consumer written by a debugger. -/
def Core.debugTally (c : Core) (n j v : Nat) : Core :=
  let t := c.tally n
  let t1 : Tally :=
    match j with
    | 0 => { t with mt := BitVec.ofNat 32 v }
    | 1 => { t with tb := BitVec.ofNat 32 v }
    | 2 => { t with consumer := if bit v 0 then .access else .execute }
    | _ => t
  { c with tallies := Sparse.set Tally.blank c.tallies (n % 16) t1 }

/-- A buoy's items written by a debugger: its state, BUOYCFG without its reserved bits (R17), its sets. -/
def Core.putBuoyItem (c : Core) (n j v : Nat) : Core :=
  let b := c.buoy n
  match j with
  | 0 => c.debugBuoy n v
  | 1 => { c with buoys := Sparse.set Buoy.blank c.buoys (n % 64) { b with cfg := BitVec.ofNat 32 v &&& 0x01FF0707 } }
  | 2 => { c with buoys := Sparse.set Buoy.blank c.buoys (n % 64) { b with sets := v } }
  | _ => c

/-- A queue's items written by a debugger: QCFG, the entries held (those past the number leave, free ones of zeros come), reservations,
the counts of pushes and pops. -/
def Core.putQueueItem (c : Core) (n j v : Nat) : Core :=
  let q := c.queue n
  let free : QEntry := ⟨List.replicate q.elines 0, List.replicate q.elines 0, 0xF, 0, none, 0, 0, 0, false, 0⟩
  match j with
  | 0 => c.setQueue n { q with cfg := BitVec.ofNat 32 v }
  | 1 => c.setQueue n { q with entries := q.entries.take v ++ List.replicate (min v q.depth - q.entries.length) free }
  | 2 => c.setQueue n { q with resv := v }
  | 4 => c.setQueue n { q with pushed := v }
  | 5 => { c with queues := Sparse.set Queue.blank c.queues (n % 32) { q with popped := v } }
  | _ => c

/-- A slot's status written by a debugger: unset, or held with a format (R89). -/
def Core.putSlotStatus (c : Core) (cube slot v : Nat) : Core :=
  let q := c.cube cube
  let left := q.held.filter (fun h => !(decide (h.slot ≤ slot) && decide (slot < h.slot + h.kind.slots)))
  let kind : AccKind := match bits v 4 3 with
    | 0 => .fp32 | 1 => .fp64 | 2 => .int32 | 3 => .int64 | _ => .exact
  let q1 : Cube := { q with held := if bit v 0 then left ++ [⟨slot, kind⟩] else left }
  { c with row := { c.row with cubes := Sparse.set Cube.blank c.row.cubes (cube % 16) q1 } }

/-- A word of a descriptor written by a debugger; [747:704] and [703:672] are reserved (R17, R173). -/
def Core.putDescWord (c : Core) (n j v : Nat) : Core :=
  let w := putBits (putWord32 (Sparse.get 0 c.img.descs n).toNat j v) 672 76 0
  { c with img := { c.img with descs := Sparse.set 0 c.img.descs n (BitVec.ofNat 768 w) } }

/-- A word of an envelope, whose bits [43:0] are reserved, or of a handler; and a handler's count of messages delivered. -/
def Core.putEnvelopeWord (c : Core) (n j v : Nat) : Core :=
  let w := putBits (putWord32 (Sparse.get 0 c.img.envelopes n).toNat j v) 0 44 0
  { c with img := { c.img with envelopes := Sparse.set 0 c.img.envelopes n (BitVec.ofNat 64 w) } }
def Core.putHandlerItem (c : Core) (n j v : Nat) : Core :=
  if j < 2 then
    { c with img := { c.img with handlers := Sparse.set 0 c.img.handlers n (BitVec.ofNat 64 (putWord32 (Sparse.get 0 c.img.handlers n).toNat j v)) } }
  else if j = 2 then { c with delivered := Sparse.set 0 c.delivered n v }
  else c

/-- Write an item of a core at D3 (R476); numbers that only count what other items hold are read only (R16). -/
def Core.putItem (c : Core) (off v : Nat) : Core :=
  let at_ (lo n : Nat) : Bool := decide (lo ≤ off) && decide (off < lo + n)
  if at_ 0x2100 32 then c.putSummWord ((off - 0x2100) / 2) (off % 2) v
  else if at_ 0x2200 256 then c.putBuoyItem ((off - 0x2200) / 4) (off % 4) v
  else if at_ 0x2300 64 then c.debugTally ((off - 0x2300) / 4) (off % 4) v
  else if at_ 0x2400 256 then c.putQueueItem ((off - 0x2400) / 8) (off % 8) v
  else if at_ 0x2600 512 then c.putEnvelopeWord ((off - 0x2600) / 2) (off % 2) v
  else if at_ 0x2800 1024 then c.putHandlerItem ((off - 0x2800) / 4) (off % 4) v
  else if at_ 0x3000 4096 then c.putSlotStatus ((off - 0x3000) / 256) (off % 256) v
  else if at_ 0x4000 6144 then c.putDescWord ((off - 0x4000) / 24) ((off - 0x4000) % 24) v
  else if at_ 0x5C00 128 then c.putBregItem (off - 0x5C00) v
  else if at_ 0x8000 8192 then c.putDrainWord ((off - 0x8000) / 512) (off % 512) v
  else if at_ 0xA000 1024 then c.putPackWord ((off - 0xA000) / 64) (off % 64) v
  else if at_ 0x400000 131072 then c.setTileLine ((off - 0x400000) / 4) ((c.tileLine ((off - 0x400000) / 4)).putItem (off % 4) v)
  else if at_ 0x800000 8388608 then c.putEntryItem ((off - 0x800000) / 262144) (off % 262144 / 64) (off % 64) v
  else c

/-- A stack's item written: REEFSTAT, the shoal's hits and misses. -/
def Stack.putItem (k : Stack) (j v : Nat) : Stack :=
  if j = 0 then { k with reefstat := BitVec.ofNat _ v }
  else if 2 ≤ j ∧ j < 4 then { k with hits := putWord32 k.hits (j - 2) v }
  else if 4 ≤ j ∧ j < 6 then { k with misses := putWord32 k.misses (j - 4) v }
  else k

/-- A word of a record that a stack holds written. -/
def Stack.putRecWord (k : Stack) (i j v : Nat) : Stack :=
  match k.debugRecs[i]? with
  | none => k
  | some r =>
    let f (x : ReefHeld) : ReefHeld := if x.is r then { x with word := BitVec.ofNat 1024 (putWord32 x.word.toNat j v) } else x
    { k with recs := k.recs.map f, groups := k.groups.map (fun g => (g.1, g.2.map f)) }

/-- Write an item that the lagoon holds and not the core: barrier episodes, combining rounds, owner words, stacks and their records. -/
def State.putShared (s : State) (c : CoreId) (off v : Nat) : State :=
  let at_ (lo n : Nat) : Bool := decide (lo ≤ off) && decide (off < lo + n)
  let x := s.lagoon c.lagoon
  if at_ 0x10000 4096 ∧ off % 64 = 0 then
    s.setLagoon c.lagoon { x with barriers := x.barriers.map (fun d => if d.num = (off - 0x10000) / 64 then { d with episodes := v } else d) }
  else if at_ 0x20000 131072 ∧ off % 32 = 0 then
    s.setLagoon c.lagoon { x with combs := x.combs.map (fun q => if q.num = (off - 0x20000) / 32 then { q with round := v } else q) }
  else if at_ 0x100000 167936 then
    let w := (off - 0x100000) / 256
    s.setWheel w { s.wheel w with owners := Sparse.set 0 (s.wheel w).owners (off % 256) (BitVec.ofNat _ v) }
  else if at_ 0x200000 163840 then
    match (s.ownStacks c.lagoon)[(off - 0x200000) / 8192]? with
    | some d => s.setStack d ((s.stack d).putItem (off % 8192) v)
    | none => s
  else if at_ 0x2000000 10485760 then
    match (s.ownStacks c.lagoon)[(off - 0x2000000) / 524288]? with
    | some d => s.setStack d ((s.stack d).putRecWord (off % 524288 / 32) (off % 32) v)
    | none => s
  else s

/-! ## The combining store (R266, R275) -/

/-- The lines that a core's combining store holds, as the model lays them out (DESIGN CHOICE 39): for each combining queue of the
core in ascending number, its held contributions in order, each with its first line first. -/
def State.storeLinesOf (s : State) (c : CoreId) : List LineData :=
  ((s.lagoon c.lagoon).combs.filter (fun q => !q.tkind && q.tcore == c.v)).flatMap (fun q => q.store.flatMap (fun d => d.entry.lines))

/-- A byte of a core's combining store. -/
def State.storeByte (s : State) (c : CoreId) (off : Nat) : Byte :=
  BitVec.ofNat 8 (bits ((s.storeLinesOf c).getD (off / 128) 0).toNat (8 * (off % 128)) 8)

/-- Write byte `r` of line `i` of a list of contributions, counted through their lines; the lines still to pass are returned. -/
def putStore (b : Byte) (r : Nat) : Nat → List Contribution → List Contribution
  | _, [] => []
  | i, d :: ds =>
    if i < d.entry.lines.length then
      let x := putBits (d.entry.lines.getD i 0).toNat (8 * r) 8 b.toNat
      { d with entry := { d.entry with lines := setAt d.entry.lines i (BitVec.ofNat 1024 x) } } :: ds
    else d :: putStore b r (i - d.entry.lines.length) ds

/-- Write a byte through a list of combining queues, of which those of the core count. -/
def putStores (c : CoreId) (b : Byte) (r : Nat) : Nat → List CombQueue → List CombQueue
  | _, [] => []
  | i, q :: qs =>
    let n := (q.store.map (fun d => d.entry.lines.length)).sum
    if q.tkind ∨ q.tcore ≠ c.v then q :: putStores c b r i qs
    else if i < n then { q with store := putStore b r i q.store } :: qs
    else q :: putStores c b r (i - n) qs

/-- Write a byte of a core's combining store; a line that nothing occupies takes no write. -/
def State.putStoreByte (c : CoreId) (s : State) (x : Nat × Byte) : State :=
  let l := s.lagoon c.lagoon
  s.setLagoon c.lagoon { l with combs := putStores c x.2 (x.1 % 128) (x.1 / 128) l.combs }

end Sys2Proof.Machine
end

