-- ==== Sys2Proof/Machine/PilotRows.lean ====
section
/-! DEFINITION. The pilot's rows, one for each class of instruction that R160 to R164 and R241 to R243 set apart. -/

namespace Sys2Proof.Machine

/-- A pilot row: the instruction at the pilot's pc, where it is of the row's class (R160, R161). -/
def State.pilotRow (s : State) (c : CoreId) (k : PClass) : State :=
  let o := s.core c
  if s.issues c && o.pilotMay then
    if s.badWord c 5 (o.pilot.pc.toNat / 4) then s.meetCore c 5 (o.pilot.pc.toNat / 4)
    else s.act c false (fun x => x.pilotStep (s.ctx c) (decide (2 ≤ s.debugLevel c.lagoon)) k)
  else s

/-- PILOT_INSTRUCTION (R160, R161, R164): one RV32IMFC or Zicsr instruction, or a read of HPMTIME and the other CSRs. -/
def execPilotInstruction (c : CoreId) (s : State) : Host.Outcome State Fault Refusal := .next (s.pilotRow c .plain)
/-- WFI (R160): the pilot finishes, and with it perhaps the core's run (R141). -/
def execWfi (c : CoreId) (s : State) : Host.Outcome State Fault Refusal := .next ((s.pilotRow c .wfi).coreEnd c)
/-- EBREAK (R160): halts for a debugger at D2 or above, else 0x1305. -/
def execEbreak (c : CoreId) (s : State) : Host.Outcome State Fault Refusal := .next (s.pilotRow c .ebreak)
/-- HQ.SUMV (R162). -/
def execHqSumv (c : CoreId) (s : State) : Host.Outcome State Fault Refusal := .next (s.pilotRow c .sumv)
/-- HQ.SUMH (R162). -/
def execHqSumh (c : CoreId) (s : State) : Host.Outcome State Fault Refusal := .next (s.pilotRow c .sumh)
/-- HQ.CHOOSE (R162). -/
def execHqChoose (c : CoreId) (s : State) : Host.Outcome State Fault Refusal := .next (s.pilotRow c .choose)
/-- HQ.BUOY set (R241, R162). -/
def execHqBuoySet (c : CoreId) (s : State) : Host.Outcome State Fault Refusal := .next (s.pilotRow c .buoySet)
/-- HQ.BUOY clear (R241, R162). -/
def execHqBuoyClear (c : CoreId) (s : State) : Host.Outcome State Fault Refusal := .next (s.pilotRow c .buoyClear)
/-- HQ.BUOY wait until set (R243, R162). -/
def execHqBuoyWaitSet (c : CoreId) (s : State) : Host.Outcome State Fault Refusal := .next (s.pilotRow c .buoyWaitSet)
/-- HQ.BUOY wait until clear (R243, R162). -/
def execHqBuoyWaitClear (c : CoreId) (s : State) : Host.Outcome State Fault Refusal := .next (s.pilotRow c .buoyWaitClear)
/-- ARSTAT_WRITE (R82, R163): a pilot write of ARSTAT clears flags. -/
def execArstatWrite (c : CoreId) (s : State) : Host.Outcome State Fault Refusal := .next (s.pilotRow c .arstatWrite)
/-- SHARED_CSR_READ (R163). -/
def execSharedCsrRead (c : CoreId) (s : State) : Host.Outcome State Fault Refusal := .next (s.pilotRow c .sharedRead)
/-- SHARED_CSR_WRITE (R163). -/
def execSharedCsrWrite (c : CoreId) (s : State) : Host.Outcome State Fault Refusal := .next (s.pilotRow c .sharedWrite)
/-- CSR_WRITE (R17, R164): a write of any other CSR. -/
def execCsrWrite (c : CoreId) (s : State) : Host.Outcome State Fault Refusal := .next (s.pilotRow c .csrWrite)

end Sys2Proof.Machine
end

