-- ==== Sys2Proof/Machine/Service.lean ====
section
/-! DEFINITION. The decision service, and what follows when records are accepted and batches are signed (R333, R336, R422,
R425 to R431). -/

namespace Sys2Proof.Machine

/-! ## Answers to requests (R427, R431) -/

/-- Answer a request by the way it came: a mailbox reply, or a SEND of the reply prefix and results. -/
def State.answerReq (s : State) (l : Nat) (q : Request) (status detail event : Nat) (res : List Byte) : State :=
  if q.roce then
    match s.qp? q.src with
    | some p => if p.state = 0 then s.postSend p (s.replyBody (0x20 + l) 0x0903 status detail event res) else s
    | none => s
  else s.answer ⟨q.src, q.num, 0x0903⟩ status detail event res

/-- Answer each request of a list alike, with no result. -/
def State.answerAll (s : State) (l : Nat) (qs : List Request) (status detail event : Nat) : State :=
  qs.foldl (fun (a : State) q => a.answerReq l q status detail event []) s

/-- The results of DECIDE for a batch's i-th row (Table 8 of spec/13). -/
def SvcBatch.results (b : SvcBatch) (q : Request) (i : Nat) : List Byte :=
  toBytes 8 q.reqid ++ toBytes 8 (b.runno.getD 0) ++ toBytes 8 ((b.rref.map Prod.fst).getD 0) ++ toBytes 4 ((b.rref.map Prod.snd).getD 0) ++
    toBytes 2 i ++ toBytes 2 0 ++ b.outs.getD i []

/-- Answer the requests of a recorded batch that a test picks. -/
def State.answerBatch (s : State) (b : SvcBatch) (status detail : Nat) (p : Request → Bool) : State :=
  (List.range b.reqs.length).foldl (fun (a : State) i =>
    match b.reqs[i]? with
    | some q => if p q then a.answerReq b.lagoon q status detail 0 (b.results q i) else a
    | none => a) s

/-! ## Windows (R426, R428, R429) -/

def State.setSvc (s : State) (l : Nat) (v : Option Service) : State := s.setLagoon l { s.lagoon l with svc := v }

/-- The window that a request joins: that of its arrival, or the next with room where it holds B rows. -/
def Service.join1 (tide : Nat) (v : Service) (q : Request) : Service :=
  let k := max (tide / max 1 v.w) v.window
  if k = v.window ∧ v.current.length < v.b then { v with current := v.current ++ [q] }
  else
    let base := if k = v.window then k + 1 else k
    let n := ((List.range (v.later.length + 1)).find? (fun i => decide ((v.later.filter (fun p => p.1 == base + i)).length < v.b))).getD 0
    { v with later := v.later ++ [(base + n, q)] }

/-- The place of a request among those of one tide tick: UDP before RoCE, then session or QPN, then SEQ or PSN (R426). -/
def Request.rank (q : Request) : Nat := b2n q.roce * 2 ^ 64 + q.sender % 2 ^ 32 * 2 ^ 32 + q.num % 2 ^ 32

/-- Insert a request by its place. -/
def placeReq (q : Request) : List Request → List Request
  | [] => [q]
  | p :: ps => if q.rank < p.rank then q :: p :: ps else p :: placeReq q ps

/-- A request joins the windows: those that arrived in the same tick give up their places and join again in the order of R426. -/
def Service.join (v : Service) (tide : Nat) (q : Request) : Service :=
  let same := (v.current ++ v.later.map Prod.snd).filter (fun p => p.tide == tide)
  let v0 := { v with current := v.current.filter (fun p => p.tide != tide), later := v.later.filter (fun p => p.2.tide != tide) }
  (same.foldl (fun a p => placeReq p a) [q]).foldl (Service.join1 tide) v0

/-- The service with its open window gone and the next one open. -/
def Service.roll (v : Service) (tide : Nat) : Service :=
  let next := if v.current = [] ∧ v.later = [] then max (v.window + 1) (tide / max 1 v.w) else v.window + 1
  { v with window := next, current := (v.later.filter (fun p => p.1 == next)).map Prod.snd, later := v.later.filter (fun p => p.1 != next) }

/-- The regions a service uses: the first input region of 64 + B × ROWIN bytes and the first output region of B × ROWOUT. -/
def svcIn (im : Image) (b rowin : Nat) : Option Span := im.inputs.find? (fun p => p.len == 64 + b * rowin)
def svcOut (im : Image) (b rowout : Nat) : Option Span := im.outputs.find? (fun p => p.len == b * rowout)

/-- The bytes of the input region for a batch (R426). -/
def Service.inputBytes (v : Service) (qs : List Request) : List Byte :=
  padTo (64 + v.b * v.rowin) (padTo 64 (toBytes 8 qs.length) ++ qs.flatMap (fun q => padTo v.rowin q.row))

/-- Whether a service's lagoon is free for its next batch. -/
def State.svcFree (s : State) (l : Nat) (v : Service) : Bool :=
  let x := s.lagoon l
  v.active.isNone && x.st == .loaded && x.run.isNone && s.powerNow == 0 && s.planFor l && x.pauseRef.isNone

/-- The rows of the first waiting batch are written and the sealing begins: the input leaves in HBM are hashed by their stacks (R330,
R426). -/
def State.writeBatch (s : State) (l : Nat) : State :=
  let x := s.lagoon l
  match x.svc, x.img with
  | some v, some im =>
    match v.closed, svcIn im v.b v.rowin with
    | b :: _, some p =>
      if v.sealing = true ∨ s.svcFree l v = false then s
      else
        let t := s.putProg l p.start (v.inputBytes b.reqs)
        (t.setLagoon l { t.lagoon l with late := false, svc := some { v with sealing := true } }).beginHash l false im.inputs
    | _, _ => s
  | _, _ => s

/-- Once the inputs of the first waiting batch are hashed, the lagoon is sealed and the run starts at once (R426). -/
def State.runBatch (s : State) (l : Nat) : State :=
  let x := s.lagoon l
  match x.svc with
  | some v =>
    match v.closed with
    | b :: rest =>
      if v.sealing = false ∨ s.svcFree l v = false ∨ x.hashed false = false then s
      else
        let t := s.setLagoon l { x with
          sealed := true, inroot := s.inRoot l, hashing := none
          svc := some { v with closed := rest, sealing := false, active := some { b with runno := some (s.counter 0) } } }
        (t.stayLagoon l).beginRun l ⟨s.tide.count, false, v.runseed, [], 0, none, true⟩
    | [] => s
  | none => s

/-- Start the first waiting batch of a service whose lagoon is free, as far as it goes (R426, R429). -/
def State.startBatch (s : State) (l : Nat) : State := ((s.applyHeld l).writeBatch l).runBatch l

/-- The open window closes: its rows become a batch, or are refused where Q batches already wait. -/
def State.closeWindow (s : State) (l : Nat) (v : Service) : State :=
  let v1 := v.roll s.tide.count
  if v.current = [] then s.setSvc l (some v1)
  else if v.q ≤ v.closed.length then
    let t := (s.setSvc l (some v1)).limitedKind 0x5601 2 l 0 0 (some l) none
    t.answerAll l v.current 0x1A v.closed.length (if t.evno = s.evno then 0 else 0x5601)
  else (s.setSvc l (some { v1 with closed := v.closed ++ [⟨l, v.current, none, [], none⟩] })).startBatch l

/-- DECISION_WINDOW_CLOSE (R426): the window's last tide count has passed. -/
def execDecisionWindowClose (l : Nat) (s : State) : Host.Outcome State Fault Refusal :=
  .next (match (s.lagoon l).svc with
    | some v => if v.stopping.isNone ∧ (v.window + 1) * v.w ≤ s.tide.count then s.closeWindow l v else s
    | none => s)

/-- BATCH_RUN_START (R429): a waiting batch is sealed once the lagoon is free, and run once its inputs are hashed. -/
def execBatchRunStart (l : Nat) (s : State) : Host.Outcome State Fault Refusal := .next (s.startBatch l)

/-! ## SVC_START and SVC_STOP (R425, R430) -/

/-- The service that SVC_START's arguments describe. -/
def Req.service (r : Req) (tide : Nat) : Service :=
  { w := r.arg 0 64, b := r.arg 64 16, rowin := r.arg 80 10, rowout := r.arg 96 10, q := r.arg 108 4, waitsign := bit (r.arg 112 1) 0
    runseed := r.arg 128 64, qpns := ((List.range 4).map (fun i => r.arg (192 + 16 * i) 16)).filter (· ≠ 0), window := tide / max 1 (r.arg 0 64)
    current := [], later := [], closed := [], active := none, stopping := none, sealing := false }

/-- SVC_START: the image must declare the regions, the queue pairs must be the lagoon's. -/
def State.cmdSvcStart (s0 : State) (r : Req) : State :=
  match s0.gate r with
  | some (st, d) => s0.no r st d
  | none =>
    let s := s0.applyHeld r.lag
    let x := s.lagoon r.lag
    let v := r.service s.tide.count
    match x.img with
    | none => s.no r 6 40
    | some im =>
      if x.launch ≠ [] ∨ x.run.isSome then s.no r 1 x.st.code
      else if (svcIn im v.b v.rowin).isNone ∨ (svcOut im v.b v.rowout).isNone then s.no r 6 40
      else if v.qpns.any (fun n => ((s.qp? n).map (·.owner)) != some r.lag) then s.no r 6 56
      else if s.planFor r.lag = false then
        (s.raise 0x1402 2 (argV 0 x.cfg.pmode) 0 (some r.lag) none).answer r.ref 0x0C x.cfg.pmode 0x1402 []
      else if s.coresServe r.lag = false then s.no r 0x0D 1
      else (s.setSvc r.lag (some v)).ok r []

/-- A service that is stopping has stopped once every batch that has closed has been run and answered. -/
def State.finishStop (s : State) (l : Nat) : State :=
  match (s.lagoon l).svc with
  | some v =>
    match v.stopping with
    | some ref =>
      if v.active.isNone ∧ v.closed = [] ∧ s.builder.unsigned.all (fun b => b.lagoon != l) = true then
        (s.setSvc l none).answer ref 0 0 0 []
      else s
    | none => s
  | none => s

/-- SVC_STOP: the open window closes at once, requests of later windows are answered SERVICE_STOPPED, and the service stops
when every closed batch has been answered. -/
def State.cmdSvcStop (s : State) (r : Req) : State :=
  match (s.lagoon r.lag).svc with
  | none => s.ok r []
  | some v =>
    if v.stopping.isSome then s.no r 0x0E 0
    else
      let t := (s.setSvc r.lag (some { v with later := [], stopping := some r.ref })).answerAll r.lag (v.later.map Prod.snd) 0x1B 0 0
      (t.closeWindow r.lag { v with later := [], stopping := some r.ref }).finishStop r.lag

/-- Stop a service at once, its batch's run having ended FAULTED or its lagoon's image being lost: whatever still waits is
answered SERVICE_STOPPED. A batch whose run's record has not been accepted waits for it (R430). -/
def State.dropService (s : State) (l : Nat) : State :=
  match (s.lagoon l).svc with
  | none => s
  | some v =>
    let left := v.active.map (fun b => { v with active := some b, closed := [], current := [], later := [], stopping := none, sealing := false })
    let t := (s.setSvc l left).answerAll l (v.closed.flatMap (·.reqs) ++ v.current ++ v.later.map Prod.snd) 0x1B 0 0
    t.answerOpt v.stopping 0 0 0 []

/-! ## DECIDE (R428, R431) -/

/-- A request of a service session or a queue pair: checked, then joined to a window. -/
def State.takeRequest (s : State) (l : Nat) (q : Request) (rowlen alen : Nat) : State :=
  match (s.lagoon l).svc with
  | none => s.answerReq l q 0x1B 0 0 []
  | some v =>
    if v.stopping.isSome ∨ (s.lagoon l).st = .configured then s.answerReq l q 0x1B 0 0 []
    else if rowlen ≠ v.rowin then s.answerReq l q 6 40 0 []
    else if alen < 16 + v.rowin then s.answerReq l q 6 2 0 []
    else s.setSvc l (some (v.join s.tide.count { q with row := q.row.take v.rowin, waitsign := q.waitsign || v.waitsign }))

/-- DECIDE by mailbox. -/
def State.cmdDecide (s : State) (r : Req) : State :=
  s.takeRequest r.owner ⟨false, r.ref.session, r.ref.seq, r.arg 0 64, r.args.drop 16, bit (r.arg 80 1) 0, s.tide.count, r.sid⟩ (r.arg 64 10) r.alen

/-- A SEND's payload on a queue pair of a service: the command prefix, then DECIDE's arguments. -/
def State.decideSend (s : State) (l : Nat) (qpn psn : Nat) (body : List Byte) : State :=
  let args := body.drop 32
  let n := ofBytes args
  let q : Request := ⟨true, qpn, psn, bits n 0 64, args.drop 16, bit n 80, s.tide.count, qpn⟩
  if bodyOp body ≠ 0x0903 then s.answerReq l q 5 0 0 []
  else s.takeRequest l q (bits n 64 10) (min (bodyNum body 2 2) args.length)

/-- ROCE_SEND (R371, R431): a SEND to a resident service is a request; a SEND to another queue pair is an invalid request. -/
def execRoceSend (p : Packet) (s : State) : Host.Outcome State Fault Refusal :=
  .next (s.roceIn p (fun s q => s.inOrder q p (fun t q =>
      if ((t.lagoon q.owner).svc.map (fun v => v.qpns.contains q.qpn)).getD false && decide (q.owner < 8) then
        let u := (t.setQp { q with rpsn := (q.rpsn + 1) % 2 ^ 24 }).ackPacket q p
        u.decideSend q.owner q.qpn p.psn p.bytes
      else t.send ⟨5, q.qpn, p.psn, [0xE1]⟩)
    (fun t q => t.ackPacket q p)))

/-! ## Records (R336, R427, R430) -/

/-- What a service does when its batch's record has been accepted. -/
def State.serviceRecord (s : State) (l : Nat) (r : RunRec) : State :=
  let x := s.lagoon l
  match x.svc with
  | some v =>
    match v.active with
    | none => s
    | some b =>
      if b.runno ≠ some r.runno then s
      else
        let out := (x.img.bind (fun im => svcOut im v.b v.rowout)).map (·.start)
        let rows := (List.range b.reqs.length).map (fun i => s.readProg l (out.getD 0 + i * v.rowout) v.rowout)
        if r.ended = 1 then
          let b1 : SvcBatch := { b with rref := r.ref, outs := [] }
          let t := (s.setSvc l (some { v with active := none })).answerBatch b1 0x19 r.event (fun _ => true)
          (t.dropService l).raise 0x5602 1 r.runno 0 (some l) none
        else
          let b1 : SvcBatch := { b with rref := r.ref, outs := rows }
          let t := s.setSvc l (some { v with active := none })
          let u : State := if b.reqs.any (·.waitsign) then { t with builder := { t.builder with unsigned := t.builder.unsigned ++ [b1] } } else t
          (u.answerBatch b1 0 0 (fun q => !q.waitsign)).finishStop l
  | none => s

/-- The builder takes a lagoon's record, in the order in which runs ended; WAIT_RUN commands and the service's requests are
answered (R332, R336). -/
def State.recordTaken (s : State) (l : Nat) : State :=
  match (s.lagoon l).record with
  | none => s
  | some q =>
    if s.builder.room = false ∨ s.behind l = true then s
    else
      let t := s.acceptRecord l q
      match t.runs with
      | r :: _ => (t.answerWaits r).serviceRecord l r
      | [] => t

/-! ## Signed batches (R333, R422) -/

/-- Batches that wait for harbour sinks. -/
def State.sinkBacklog (s : State) : Nat := ((s.sink? 8).map (fun k => k.queue.length)).getD 0

/-- Give a signed batch to a sink: a harbour sink keeps it until it has room, a lagoon sink without room misses it. -/
def offer (b : Batch) (s : State) (k : Sink) : State :=
  if k.owner = 8 then s.setSink { k with queue := k.queue ++ [b.no] }
  else match s.deliver k b with
    | some t => t
    | none => s.raise 0x5507 0 b.no 0 (some k.owner) none

/-- Answer the service requests that waited for a batch's signatures (R427). -/
def State.answerSigned (s : State) (no : Nat) : State :=
  let mine := s.builder.unsigned.filter (fun b => (b.rref.map Prod.fst) == some no)
  let t : State := { s with builder := { s.builder with unsigned := s.builder.unsigned.filter (fun b => (b.rref.map Prod.fst) != some no) } }
  mine.foldl (fun (a : State) b => a.answerBatch b 0 0 (·.waitsign)) t

/-- The oldest closed batch has been signed under both algorithms and goes to the host and the sinks; what waited for its
signatures or for room in the builder goes on (R333, R335, R422). -/
def State.batchDone (s : State) : State :=
  match s.builder.closed with
  | [] => s
  | b :: _ =>
    if s.power.porst = false ∨ s.builder.stopped = true ∨ 2 ^ 40 ≤ s.reserveLeaves.keeper.leaf ∨ 64 ≤ s.sinkBacklog then s
    else
      let s1 := s.signBatch b
      let signed := (s1.builder.signed.head?).getD b
      let s2 := (s1.sinks.foldl (offer signed) s1).serveSink 8
      let s3 := s2.answerSigned b.no
      let s4 := (List.range 8).foldl (fun (a : State) l => a.finishStop l) s3
      let s5 := if 65536 ≤ s4.builder.openRecs.length then s4.closeBatch else s4
      s5.retryFlush

end Sys2Proof.Machine
end

