-- ==== Sys2Proof/Machine/Logbook.lean ====
section
/-! DEFINITION. The logbook's seconds and commits (R496, R497). -/

namespace Sys2Proof.Machine

/-- Add one to a saturating count of w bytes. -/
def bump (w : Nat) (m : Sparse Nat) (i : Nat) : Sparse Nat := Sparse.set 0 m i (min (2 ^ (8 * w) - 1) (Sparse.get 0 m i + 1))

/-- Temperature bin (R496). -/
def tempBin (t : Int) : Nat := if t < 0 then 0 else min 31 (t.toNat / 5 + 1)

/-- Rate bin (R496). -/
def rateBin (mhz : Nat) : Nat := if mhz < 1040 then 0 else min 31 ((mhz - 1000) / 40)

/-- The second counts of Table 7 of spec/16 that advance in the present state. -/
def State.secondKinds (s : State) : List Nat :=
  [if s.power.state = 0 then s.packageMode else s.power.state + 2,
   match s.port.link with | some 1600 => 6 | some 800 => 7 | some _ => 8 | none => 9,
   10 + s.keeper.life] ++
  (if s.tide.state = 2 then [14] else []) ++ (if s.dbgs.any (fun d => decide (2 ≤ d.level)) then [15] else [])

/-- A unit's powered day restarts 86,400 s after it began (Table 9 of spec/16). -/
def ErrEntry.day (e : ErrEntry) (now : Nat) : ErrEntry :=
  if e.daystart + 86400 ≤ min (2 ^ 32 - 1) now then { e with daystart := e.daystart + 86400, daycnt := 0 } else e

/-- Whether the harbour die or the keeper, sensors 38 and 39 of Table 7 of spec/16, reads 125 °C or more (R519). -/
def hotHarbour (temps : List Int) : Bool := decide (125 ≤ temps.getD 38 0) || decide (125 ≤ temps.getD 39 0)

/-- The lowest rail seen in the rails section, after a reading in mV (0, none). -/
def lowestRail (v mv : Nat) : Nat :=
  let low := if bits v 16 16 = 0 then mv else min mv (bits v 16 16)
  if mv = 0 then v else v / 2 ^ 32 * 2 ^ 32 + min 65535 low * 65536 + v % 65536

/-- LOGBOOK_SECOND (R496): a powered second passes, with what is read in it. THERMTRIP_N is driven low when the harbour die or the
keeper is too hot (R519). -/
def execLogbookSecond (at_ : SecondAt) (s : State) : Host.Outcome State Fault Refusal :=
  .next (if s.power.porst then
      let b := s.rel.log
      let now := min (2 ^ 64 - 1) (b.seconds + 1)
      let on := (List.range 18).filter (fun r => (s.region r).state != 4)
      let b1 : Logbook := { b with
        seconds := now
        states := s.secondKinds.foldl (bump 8) b.states
        temps := (List.range (min 40 at_.temps.length)).foldl (fun m i => bump 4 m (32 * i + tempBin (at_.temps.getD i 0))) b.temps
        rails := (List.range 18).foldl (fun m r => Sparse.set 0 m r (lowestRail (Sparse.get 0 m r) (at_.rails.getD r 0))) b.rails
        links := [(0, at_.fixed), (1, at_.lost)].foldl (fun m p =>
          Sparse.set 0 m p.1 (min (2 ^ 64 - 1) (Sparse.get 0 m p.1 + p.2))) b.links
        vsets := on.foldl (fun m r => bump 4 m (32 * r + min 16 ((s.region r).vset - 0x14))) b.vsets
        rates := on.foldl (fun m r => bump 4 m (32 * r + rateBin (s.region r).rate)) b.rates
        errs := b.errs.map (fun e => e.day now) }
      { s with rel := { s.rel with log := b1 }, power := { s.power with thermtrip := s.power.thermtrip || hotHarbour at_.temps } }
    else s)

/-- Commit the logbook to the other flash slot; the keeper stores its digest and keeps the previous one (R497). -/
def State.commitLog (s : State) : State :=
  let n := s.counter 5 + 1
  let t := s.setCounter 5 n
  let d := sha384 (t.logbookBytes n s.tide.count)
  { t with rel := { t.rel with slots := ((n, t.rel.log) :: t.rel.slots).take 2, lastCk := s.tide.count }
           keeper := { t.keeper with logDig := ((n, d) :: t.keeper.logDig).take 2 } }

/-- LOGBOOK_COMMIT (R497): 900 s of tide have passed since the last commit. -/
def execLogbookCommit (s : State) : Host.Outcome State Fault Refusal :=
  .next (if s.power.porst = true ∧ s.boot.ready = true ∧ s.rel.lastCk + 900000000000 ≤ s.tide.count then s.commitLog else s)

end Sys2Proof.Machine
end

