-- ==== Sys2Proof/Machine/Security.lean ====
section
/-! DEFINITION. Attestation, debug tokens and sessions, the lifecycle and the wipe (R466 to R479). -/

namespace Sys2Proof.Machine

/-! ## Attestation (R466) -/

/-- The lagoon that a report is for: a lagoon session's own, or the one that a harbour session names. -/
def Req.reportOn (r : Req) : Option Nat := if r.scope ≠ 0 then some r.owner else if r.lag = 0xFF then none else some r.lag

/-- Bytes 0 to 351 of a report (Table 4 of spec/15). -/
def State.report (s : State) (lag : Option Nat) (nonce : Nat) : List Byte :=
  let x := (lag.map s.lagoon).getD Lagoon.blank
  let fdom := (s.keeper.prov.map (·.fdom)).getD []
  let fw := s.boot.running
  let corr := match lag with
    | some _ => (x.pair.map (·.correlated)).getD false
    | none => (List.range 8).any (fun l => ((s.lagoon l).pair.map (·.correlated)).getD false)
  let unp := match lag with | some _ => x.unproven | none => (List.range 8).any (fun l => (s.lagoon l).unproven)
  toBytes 352 (ofBytes (padTo 64 fdom) * 2 ^ 2304 + ((x.root.map (·.root.toNat)).getD 0) * 2 ^ 1920 + ((x.img.map (·.imgroot.toNat)).getD 0) * 2 ^ 1536 +
    ((fw.map (·.dig.toNat)).getD 0) * 2 ^ 1152 + devId.toNat * 2 ^ 768 + nonce % 2 ^ 256 * 2 ^ 512 + s.tide.count % 2 ^ 64 * 2 ^ 448 +
    s.counter 0 % 2 ^ 64 * 2 ^ 384 + s.counter 2 % 2 ^ 64 * 2 ^ 320 + ((fw.map (·.ver)).getD 0) % 2 ^ 32 * 2 ^ 288 + ((x.root.map (·.dcur)).getD 0) % 2 ^ 32 * 2 ^ 256 +
    ((x.img.map (·.libver)).getD 0) % 2 ^ 32 * 2 ^ 224 + s.tidestat * 2 ^ 192 +
    s.lstate (fun l => match lag with | some k => l == k | none => true) * 2 ^ 160 + s.health * 2 ^ 128 + fdom.length % 256 * 2 ^ 120 +
    s.straps.feed % 64 * 2 ^ 114 + s.straps.slot % 256 * 2 ^ 106 + ((x.root.map (·.kind)).getD 0) % 4 * 2 ^ 104 + b2n corr * 2 ^ 103 + b2n unp * 2 ^ 102 +
    (lag.getD 0) % 8 * 2 ^ 99 + b2n lag.isSome * 2 ^ 98 + s.keeper.grade % 256 * 2 ^ 88 + s.keeper.stepping % 256 * 2 ^ 80 + 0x31544148 * 2 ^ 16 + 1)

/-- ATTEST: the report and its signature by DIK-E. -/
def State.cmdAttest (s : State) (r : Req) : State :=
  let b := s.report r.reportOn (r.arg 0 256)
  s.ok r (b ++ s.keeper.signE b)

/-! ## Debug tokens (R477, R479) -/

/-- The header of a token as a number (Table 8 of spec/15). -/
def tokenHead (b : List Byte) : Nat := ofBytes (b.take 128)
def tokScope (h : Nat) : Nat := bits h 56 8
def tokLevel (h : Nat) : Nat := bits h 50 2
def tokSeq (h : Nat) : Nat := bits h 576 64
def tokBlank (h : Nat) : Bool := bit h 48

/-- Check 0x01 of Table 9 of spec/15. -/
def tokenFormed (b : List Byte) : Bool :=
  let h := tokenHead b
  bits h 16 32 == 0x31544448 && bits h 0 16 == 1 && tokLevel h != 0 && inRange (bits h 544 32) 1 86400 && bits h 64 448 == 0 &&
    b.length == 224 + bits h 512 32

/-- The code of the first check of Table 9 of spec/15 that a token fails. `allowed`: scopes that the presenting session may
open; `way`: whether the token's way in is open. -/
def State.tokenCode (s : State) (b : List Byte) (allowed : Nat → Bool) (way : Bool) : Option Nat :=
  let h := tokenHead b
  let e := (tokenSigs b).1
  let m := (tokenSigs b).2
  let sc := tokScope h
  if tokenFormed b = false then some 0x01
  else if e = false ∧ m = true then some 0x02
  else if e = true ∧ m = false then some 0x03
  else if e = false ∧ m = false then some 0x04
  else if bits h 640 384 ≠ devId.toNat then some 0x05
  else if tokSeq h ≤ s.counter 4 then some 0x06
  else if bit h (52 + s.keeper.life) = false ∨ (tokLevel h = 3 ∧ s.keeper.life = 2) ∨ (tokBlank h = true ∧ s.keeper.life ≠ 3) then some 0x07
  else if !(decide (sc < 8) || sc == 0xFF) || !allowed sc || (decide (sc < 8) && (s.lagoon sc).st == .empty) then some 0x08
  else if way = false then some 0x09
  else if 2 ≤ tokLevel h ∧ 2 ≤ s.power.state then some 0x0A
  else if s.dbgs.any (fun d => d.scope == sc) then some 0x0B
  else none

/-- TAINT flags of a debug level (R482). -/
def levelTaint (level : Nat) : Nat := b2n (decide (2 ≤ level)) + 2 * b2n (decide (3 ≤ level))

/-- Taint the runs in progress that a session's scope covers. -/
def State.taintScope (s : State) (sc flag : Nat) : State :=
  (List.range 8).foldl (fun (a : State) l => if (sc = 0xFF ∨ sc = l) ∧ a.runs? l then a.taint l flag else a) s

/-- Open the session of an accepted token: TOKSEQ is committed first (R479). -/
def State.openDebug (s : State) (h : Nat) (via : Option Nat) : State :=
  let sc := tokScope h
  let t := (s.setCounter 4 (tokSeq h)).raise 0x6301 0 (s.argK sc (tokSeq h)) 0 (if sc < 8 then some sc else none) none
  let d : Debug := ⟨sc, tokLevel h, via, t.tide.count + bits h 544 32 * 1000000000, tokSeq h⟩
  ({ t with dbgs := t.dbgs ++ [d] }).taintScope sc (levelTaint (tokLevel h))

/-- A refused token: event 0x6303. -/
def State.denyToken (s : State) (h : Nat) : State :=
  s.raise 0x6303 2 (s.argK (tokScope h) (tokSeq h)) 0 (if tokScope h < 8 then some (tokScope h) else none) none

/-- DEBUG_OPEN: a landed token, for a scope that the session may open. -/
def State.cmdDebugOpen (s : State) (r : Req) : State :=
  let a := r.arg 0 64
  let n := r.arg 64 32
  if s.holds r.owner a n = false then s.no r 6 32
  else if s.awake a n = false then s.no r 0x10 s.powerNow
  else
    let b := s.readBytes a n
    let h := tokenHead b
    match s.tokenCode b (fun sc => r.scope == 0 || sc == r.owner) (s.keeper.life == 1 || s.keeper.life == 2) with
    | some c => (s.denyToken h).answer r.ref 0x13 c 0x6303 []
    | none => (s.openDebug h (some r.sid)).answer r.ref 0 0 0x6301 [BitVec.ofNat 8 (tokLevel h)]

/-- DEBUG_CLOSE: the sessions that this mailbox session opened end. -/
def State.cmdDebugClose (s : State) (r : Req) : State :=
  if s.dbgs.any (fun d => d.via == some r.sid) then (s.endDebug (fun d => d.via == some r.sid)).ok r [] else s.no r 0x0F 0

/-- DEBUG_SESSION_EXPIRY (R478): DURATION seconds of tide have passed. -/
def execDebugSessionExpiry (scope : Nat) (s : State) : Host.Outcome State Fault Refusal :=
  .next (if s.dbgs.any (fun d => d.scope == scope && decide (d.deadline ≤ s.tide.count)) then s.endDebug (fun d => d.scope == scope) else s)

/-! ## The wipe (R472) -/

/-- Step 4: what the keeper erases from MRAM; the port's settings return to their reset values. -/
def State.eraseTenant (s : State) : State :=
  { s with keeper := { s.keeper with tkeys := [], prov := none, net := NetCfg.blank }, port := { s.port with cfg := NetCfg.blank, ctlOpen := false, sas := [], txSas := [] } }

/-- A stack with every byte and register written with zeros. -/
def Stack.zeroed (k : Stack) : Stack := { Stack.blank with clean := true, worn := k.worn, failed := k.failed }

/-- Step 5: zeros in every memory of the device. Packages in boot flash stay. -/
def State.zeroAll (s : State) : State :=
  let t : State := { s with
    mem := [], cores := [], lagoons := [], wheels := [], ferry := [], fabric := Fabric.blank, runs := [], log := [], libs := s.libs.filter (·.flash)
    rel := { s.rel with bad := [], badCore := [] }
    builder := { s.builder with openRecs := [], closed := [], signed := [], waiting := [], unsigned := [] } }
  let u := (List.range 20).foldl (fun (a : State) n => a.setStack n (a.stack n).zeroed) t
  (List.range 16).foldl (fun (a : State) n => a.setChannel n { a.channel n with clean := (a.channel n).bytes != 0 }) u

/-- Steps 5 and 6: the wipe completes, the pending flag clears and counter 7 advances; event 0x6202. -/
def State.finishWipe (s : State) : State :=
  let t := s.zeroAll
  let u : State := { t with keeper := { t.keeper with wipe := false } }
  (u.setCounter 7 (u.counter 7 + 1)).raise 0x6202 0 (u.argK 0 0) 0 none none

/-- WIPE_DONE. -/
def execWipeDone (s : State) : Host.Outcome State Fault Refusal :=
  .next (if s.keeper.wipe = true ∧ s.power.porst = true then s.finishWipe else s)

/-! ## Lifecycle (R468 to R471) -/

/-- Whether an authorisation verifies under an enrolled harbour key (R470). -/
def State.authorised (s : State) (target : Nat) (sig : List Byte) : Bool :=
  let msg : List Byte := [0x48, 0x4C, 0x43, 0x31] ++ digestBytes devId ++ [BitVec.ofNat 8 target]
  s.keeper.tkeys.any (fun k => k.scope == 0 && ecdsaVerify k.key msg sig)

/-- Move the lifecycle: the logbook is committed before (R497), event 0x6201 after. -/
def State.moveLife (s : State) (life : Nat) : State :=
  let t := s.commitLog
  let u : State := { t with keeper := { t.keeper with life := life } }
  u.raise 0x6201 0 (u.argK 0 0) 0 none none

/-- Begin to stop every lagoon, for an entry that waits for their records: a cause of `Power.cause`. -/
def State.stopAll (s : State) (cause : Nat) (ref : Option Ref) : State :=
  let t := (List.range 8).foldl (fun (a : State) l => a.stopLagoon l none) s
  { t with power := { t.power with cause := cause, ref := ref } }

/-- Whether every run's record has been accepted, and whether every batch has been signed. -/
def State.allRecorded (s : State) : Bool := (List.range 8).all (fun l => (s.lagoon l).run.isNone)
def State.allSigned (s : State) : Bool := s.builder.openRecs.isEmpty && s.builder.closed.isEmpty

/-- Steps 2 to 4 of R472: RETURNED and the wipe-pending flag are committed, the command is answered, and every session, queue
pair, landing region and sink ends. -/
def State.enterReturned (s : State) : State :=
  let ref := s.power.ref
  let t := s.moveLife 3
  let u : State := { t with keeper := { t.keeper with wipe := true }, power := { t.power with cause := 0, ref := none } }
  let v := (u.answerOpt ref 0 0 0x6201 []).endSessions (fun _ => true)
  let w := v.endDebug (fun _ => true)
  ({ w with shakes := [], qps := [], lrs := [], sinks := [] }).eraseTenant

/-- Go on with a pending entry: once the records are accepted the open batch closes, and a move to RETURNED that waited for
the last signature is made (R392, R416, R472). -/
def State.proceed (s : State) : State :=
  if 2 ≤ s.power.cause ∧ s.allRecorded = true then
    let t := s.closeBatch
    if t.power.cause = 4 ∧ t.allSigned = true then t.enterReturned else t
  else s

/-- LIFECYCLE: only the moves of Table 5 of spec/15, with an authorisation. -/
def State.cmdLifecycle (s : State) (r : Req) : State :=
  let target := r.arg 0 2
  let p := s.powerNow
  if (target = 2 ∧ s.keeper.life = 1) ∨ (target = 3 ∧ (s.keeper.life = 1 ∨ s.keeper.life = 2)) then
    if (target = 2 ∧ 2 ≤ p) ∨ (target = 3 ∧ p ≠ 0) then s.no r 0x10 p
    else if s.authorised target ((r.args.drop 8).take 96) = false then s.no r 6 40
    else if target = 2 then ((s.moveLife 2).endDebug (fun d => d.level == 3)).answer r.ref 0 0 0x6201 []
    else (s.stopAll 4 (some r.ref)).proceed
  else s.no r 0x12 s.keeper.life

/-- RECORD_ACCEPTED (R336). -/
def execRecordAccepted (l : Nat) (s : State) : Host.Outcome State Fault Refusal := .next (s.recordTaken l).proceed

/-- BATCH_SIGNED (R333). -/
def execBatchSigned (s : State) : Host.Outcome State Fault Refusal := .next s.batchDone.proceed

end Sys2Proof.Machine
end

