-- ==== Sys2Proof/Machine/Spares.lean ====
section
/-! DEFINITION. Spares and how they enter use (R24, R110, R111, R118, R492 to R494). -/

namespace Sys2Proof.Machine

/-! ## Counts -/

/-- Spares of a kind used at a place, and one more. -/
def State.spent (s : State) (kind place : Nat) : Nat := Sparse.get 0 s.rel.used (kind * 2 ^ 24 + place)
def State.spend (s : State) (kind place : Nat) : State :=
  { s with rel := { s.rel with used := Sparse.set 0 s.rel.used (kind * 2 ^ 24 + place) (s.spent kind place + 1) } }

/-- Write a substitution into the keeper's MRAM, count it in the logbook and raise 0x7301 with the spare kind in SUBIDX (R492,
Table 7 of spec/16). -/
def State.substituted (s : State) (kind ploc unit word bit eclass : Nat) : State :=
  let lb := s.rel.log
  let n := min (2 ^ 64 - 1) (Sparse.get 0 lb.spares kind + 1)
  let t : State := { s with
    rel := { s.rel with log := { lb with spares := Sparse.set 0 lb.spares kind n } }
    keeper := { s.keeper with spares := s.keeper.spares ++ [(kind, ploc)] } }
  t.raise 0x7301 0 (argM unit kind word bit eclass) ploc (s.plocLagoon ploc) none

/-- Mark a unit's error entry as replaced. -/
def State.markSpared (s : State) (ploc unit subidx : Nat) : State :=
  s.setErrs (s.rel.log.errs.map (fun e => if e.isFor ploc unit subidx then { e with spared := true } else e))

/-! ## Positions of a core (R110, R118) -/

/-- The tile memory bank positions in use: the lowest 64 of the 66 that have not been replaced. -/
def Phys.banksUsed (k : Phys) : List Nat := ((List.range 66).filter (fun i => !(k.banks.contains i))).take 64

/-- Take a cube (kind 0), bank (2) or lane (3) position of a physical core out of service: the core after it, and whether a
spare position took its place; none where no spare is left. -/
def Phys.without (k : Phys) (spent kind pos : Nat) : Option (Phys × Bool) :=
  if kind = 0 then
    if pos = k.spare then some (k, false)
    else if spent = 0 then some ({ k with spare := pos }, true)
    else none
  else if kind = 2 then
    if k.banks.contains pos then some (k, false)
    else if k.banks.length < 2 then some ({ k with banks := k.banks ++ [pos] }, k.banksUsed.contains pos)
    else none
  else if k.lanes.contains pos then some ({ k with dead := pos :: k.dead.filter (fun i => i != pos) }, false)
  else match k.lanes.find? (fun i => !(k.dead.contains i)) with
    | none => none
    | some i =>
      let off := pos :: k.lanes.filter (fun j => j != i)
      some ({ k with lanes := (List.range 68).filter (fun j => off.contains j), dead := pos :: k.dead }, true)

/-- ROWCFG and VCFG of the contexts on a physical core follow its positions (R112, R118). -/
def State.copyPositions (s : State) (p : Nat) : State :=
  let k := s.physCore p
  let f (c : Core) : Core :=
    if c.img.used ∧ c.img.phys = p then
      { c with csr := { c.csr with rowcfg := rowcfgWord k (bit c.csr.rowcfg.toNat 0), vcfg := vcfgWord k } }
    else c
  { s with cores := s.cores.map (fun q => (q.1, f q.2)) }

/-! ## Cores (R24, R316, R493) -/

/-- Physical cores of a region in the order of R316. -/
def regionCores (r : Nat) : List Nat :=
  (List.range 16).map (fun i => 144 * (r / 9) + 12 * (4 * (r % 9 / 3) + i / 4) + 4 * (r % 3) + i % 4)

/-- A placement in the list order of R316 (R528). -/
def inListOrder (m : List Place) : List Place :=
  ((List.range 18).flatMap regionCores).flatMap (fun p => m.filter (fun e => e.phys == p))

/-- Whether a physical core is a spare that may enter use. -/
def State.spareCore (s : State) (p : Nat) : Bool :=
  !(s.physCore p).enabled && !(s.physCore p).oos && (s.region (physRegion p)).state != 3

/-- Enabled cores of a die, and how many the grade asks for (R24). -/
def State.enabledOf (s : State) (die : Nat) : Nat :=
  ((List.range 144).filter (fun i => (s.physCore (144 * die + i)).enabled)).length
def State.gradeCores (s : State) : Nat := if s.keeper.grade = 3 then 112 else 128

/-- The device has lost a core that no spare replaces: 0x7302 and DEGRADED (R494). -/
def State.shortfall (s : State) (p : Nat) : State :=
  ({ s with degraded := true }).raise 0x7302 0 (argM (Config.coreUnit p) 0 0 0xFF 0x05) (plocCore p) (s.plocLagoon (plocCore p)) none

/-- Put a physical core out of service. -/
def State.coreOut (s : State) (p : Nat) : State :=
  ({ s with degraded := true }).setPhys p { s.physCore p with oos := true, enabled := false }

/-- The owner word that names physical core q in place of p. -/
def renameOwner (p q : Nat) (w : BitVec 16) : BitVec 16 :=
  let n := w.toNat
  if bits n 13 3 = 1 ∧ bits n 9 1 * 144 + bits n 0 9 = p then BitVec.ofNat 16 (n / 1024 * 1024 + q / 144 * 2 ^ 9 + q % 144) else w

/-- A context as the harbour writes it into spare core q: what its load left, with its CSRs as they are in the old core (R493). Its
ledger record is kept for reading (R298). -/
def Core.carried (c : Core) (q : Nat) : Core :=
  { c.atLoad 0 with img := { c.img with phys := q }, csr := c.csr, ledger := c.ledger, beat := c.beat }

/-- A spare core takes over the contexts of the core it replaces: the map, the owner words and what the load left (R493). -/
def State.takeOver (s : State) (p q : Nat) : State :=
  let s1 := s.setPhys q { s.physCore q with enabled := true }
  let f (c : Core) : Core := if c.img.used ∧ c.img.phys = p then c.carried q else c
  let s2 : State := { s1.moveMarks p q with
    cores := s1.cores.map (fun c => (c.1, f c.2))
    wheels := s1.wheels.map (fun w => (w.1, { w.2 with owners := w.2.owners.map (fun o => (o.1, renameOwner p q o.2)) })) }
  let s3 := (List.range 8).foldl (fun (a : State) l =>
    let x := a.lagoon l
    let g (e : Place) : Place := if e.phys = p then { e with phys := q } else e
    let m := inListOrder (x.place.map g)
    a.setLagoon l { x with place := m, img := x.img.map (fun im => { im with mapdig := sha384 (mapBytes m) }) }) s2
  s3.copyPositions q

/-- Replace a physical core: by the first spare, in the list order of R316, in a region that its lagoon owns, or of its die
where no lagoon owns it (R493, R522). Without one the core is lost. -/
def State.replaceCore (s : State) (p unit word bit eclass : Nat) : State :=
  if (s.physCore p).oos then s
  else
    let was := (s.physCore p).enabled
    let t := s.coreOut p
    let rs := match s.plocLagoon (plocCore p) with
      | some l => (List.range 18).filter (fun r => s.regionOwner r == some l)
      | none => (List.range 9).map (fun i => 9 * (p / 144) + i)
    if was = false then t
    else match (rs.flatMap regionCores).find? t.spareCore with
      | some q => (t.takeOver p q).substituted 1 (plocCore p) unit word bit eclass
      | none => t.shortfall p

end Sys2Proof.Machine
end

