-- ==== Sys2Proof/Machine/Power.lean ====
section
/-! DEFINITION. Power states, the board's power signals, the BMC's requests, resets and start-up (R45, R46, R285, R391, R392,
R416, R417, R483, R506 to R512, R520 to R523). -/

namespace Sys2Proof.Machine

/-! ## Power groups (R509) -/

/-- Group 0 HB, 1 CW, 2 CE. -/
def Power.group (p : Power) (g : Nat) : PGroup := if g = 0 then p.hb else if g = 1 then p.cw else p.ce
def State.setGroup (s : State) (g : Nat) (x : PGroup) : State :=
  { s with power := if g = 0 then { s.power with hb := x } else if g = 1 then { s.power with cw := x } else { s.power with ce := x } }

/-- Write the ageing setpoints of a die's regions, as is done before its enable is asserted (R508, R509). -/
def State.writeSetpoints (s : State) (d : Nat) : State :=
  (List.range 9).foldl (fun (a : State) i => a.setRegion (9 * d + i) { a.region (9 * d + i) with vset := (a.region (9 * d + i)).vbase }) s

/-- Raise a group's enable, unless a failed power-good keeps it low until the next reset (R510); a die's setpoints are written before. -/
def State.raisePen (s : State) (g : Nat) : State :=
  let x := s.power.group g
  if x.barred ∨ x.pen then s
  else (if g = 0 then s else s.writeSetpoints (g - 1)).setGroup g { x with pen := true, pgood := false }
def State.lowerPen (s : State) (g : Nat) : State := s.setGroup g { s.power.group g with pen := false, pgood := false }

/-- Whether a group serves: its power is good, or a failure has taken it out until the next reset. -/
def PGroup.settled (x : PGroup) : Bool := x.barred || (x.pen && x.pgood)

/-! ## Resets (R418, R511) -/

/-- What a region keeps through a reset: the ageing setpoint (R508). -/
def Region.kept (x : Region) : Region := { Region.blank with vbase := x.vbase }

/-- Every session and debug session ends at a reset, each with its event (R403, R478). -/
def State.endAll (s : State) : State := (s.endSessions (fun _ => true)).endDebug (fun _ => true)

/-- The state that a reset leaves. MRAM, keeper counters and boot flash survive (R457, R511); the leaves of the blocks held
are abandoned (R464, R465), and no batch is signed once counter 3 has reached 2^40. -/
def State.resetDevice (s0 : State) (self : Bool) : State :=
  let s := s0.endAll
  State.leafLow { State.reset with
    pending := s.pending, fresh := s.fresh, tx := s.tx
    hbm := (s.hbm.map (fun p => (p.1, { Stack.blank with worn := p.2.worn }))).filter (fun p => decide (p.2 ≠ Stack.blank))
    ddr := (s.ddr.map (fun p => (p.1, { Ddr.blank with worn := p.2.worn }))).filter (fun p => decide (p.2 ≠ Ddr.blank))
    regions := (s.regions.map (fun p => (p.1, p.2.kept))).filter (fun p => decide (p.2 ≠ Region.blank))
    phys := (s.phys.map (fun p => (p.1, { p.2 with closed := 0 }))).filter (fun p => decide (p.2 ≠ Phys.blank))
    straps := s.straps
    libs := s.libs.filter (·.flash)
    builder := { Builder.blank with prev := s.builder.prev, stopped := decide (2 ^ 40 ≤ s.counter 3) }
    port := { Port.blank with cfg := s.keeper.net }
    keeper := { s.keeper with leaf := s.keeper.leafEnd, secret := none }
    boot := { Boot.blank with copyA := s.boot.copyA, copyB := s.boot.copyB, selfReset := self }
    jtag := { Jtag.blank with trst := s.jtag.trst }
    rel := { Reliab.blank with slots := s.rel.slots, used := s.rel.used } } s.keeper.leaf

/-- PORST_N_FALL (R511): every enable lowers, every agent stops, and everything volatile is lost. -/
def execPorstFall (s : State) : Host.Outcome State Fault Refusal := .next (s.resetDevice false)

/-- SUPPLY_FAILURE (R511): a rail leaves its tolerance without warning. Every write of MRAM is one step of the model, so none
is in progress. -/
def execSupplyFailure (s : State) : Host.Outcome State Fault Refusal := .next (s.resetDevice false)

/-- REFERENCE_LOST (R302): sources change only at a reset, so the source that TIDESTAT shows stays. -/
def execReferenceLost (s : State) : Host.Outcome State Fault Refusal := .next s

/-! ## Entering a state (R417, R483) -/

/-- What a lagoon loses with core memory: LOADED and FAULTED fall to CONFIGURED, a service ends, and a LOAD or SEAL under way
is answered POWER_STATE. -/
def State.lowLagoon (p : Nat) (s : State) (l : Nat) : State :=
  let x := s.lagoon l
  let s1 := match x.pauseRef with
    | some q =>
      if q.op = 0x0103 ∨ q.op = 0x0105 then
        ((s.ownStacks l).foldl (fun (a : State) n => a.setStack n (a.stack n).discard) (s.setLagoon l { x with pauseRef := none, hashing := none })).answer
          q 0x10 p 0 []
      else s
    | none => s
  if x.st = .loaded ∨ x.st = .faulted then (((s1.settle l).dropService l).clearImage l).moveLagoon l .configured
  else if x.img.isSome then s1.clearImage l
  else s1

/-- HBM loses its contents: bytes, registers and clean flags. What the lost bytes read as the spec does not say; they read as
zeros (R46; DESIGN CHOICE 38). -/
def State.loseHbm (s : State) : State :=
  (List.range 20).foldl (fun (a : State) n =>
    ((a.zeroRange (n * 2 ^ 37) ((n + 1) * 2 ^ 37)).soundRange (n * 2 ^ 37) ((n + 1) * 2 ^ 37)).setStack n { Stack.blank with worn := (a.stack n).worn, failed := (a.stack n).failed }) s

/-- Enter P2 or P3 (Table 12 of spec/15). The logbook is committed before P3 (R497). -/
def State.enterLow (s : State) (p : Nat) : State :=
  let s1 := if p = 3 then s.commitLog else s
  let s2 := ((List.range 8).foldl (State.lowLagoon p) s1).endDebug (fun d => decide (2 ≤ d.level))
  let s3 := s2.diesOff
  let s4 := if p = 3 ∧ s.power.state < 3 then (s3.lowerPen 0).loseHbm else s3
  { s4 with ferry := [], fabric := Fabric.blank, power := { s4.power with state := p, cause := 0, move := none } }

/-- A die comes back on a wake: its regions run at their setpoints (R523). -/
def State.wakeDie (s : State) (d : Nat) : State :=
  if (s.power.group (1 + d)).barred then s
  else (List.range 9).foldl (fun (a : State) i =>
    let r := a.region (9 * d + i)
    if r.state = 4 then a.setRegion (9 * d + i) { r with state := 0 } else a) s

/-- An HBM lane of a channel fails training: one of its 4 spares replaces it, or the stack has failed (R492, R522). -/
def State.hbmLane (s : State) (x : Nat × Nat) : State :=
  let place := plocChan x.1 x.2
  if s.spent 8 place < 4 then (s.spend 8 place).substituted 8 place 0x21 0 0xFF 0x05
  else s.setStack x.1 { s.stack x.1 with failed := true }

/-- Step 9 of start-up: HBM trains. Lanes that fail are replaced, and each stack with a channel that cannot train raises 0x7202. -/
def State.startHbm (s : State) (lanes : List (Nat × Nat)) (fails : List Nat) : State :=
  let t := (lanes.filter (fun x => decide (x.1 < 20))).foldl State.hbmLane ({ s with degraded := s.degraded || !lanes.isEmpty })
  let u := (fails.filter (fun n => decide (n < 20))).foldl (fun (a : State) n => a.setStack n { a.stack n with failed := true }) t
  ((List.range 20).filter (fun n => (u.stack n).failed)).foldl (fun (a : State) n =>
    a.raise 0x7202 0 (argM 0x20 0 0 0xFF 0x05) (plocStack n) none none) u

/-- HBM trains again on a wake from P3 (R523): which lanes and stacks fail then are free values. -/
def State.trainAgain (s : State) : State :=
  let (n, t) := s.draw
  t.startHbm (Config.wakeLanes n) (Config.wakeFails n)

/-- Complete a wake: from P3 HBM trains, the stacks of configured lagoons are written with zeros (R474) and drains go on (R443). -/
def State.wake (s : State) (p : Nat) : State :=
  let s1 := if s.power.state = 3 then
      (List.range 8).foldl (fun (a : State) l => if (a.lagoon l).st = .empty then a else (a.ownStacks l).foldl State.clearStack a) s.trainAgain
    else s
  let s2 := if p ≤ 1 then
      let t := (s1.wakeDie 0).wakeDie 1
      { t with power := { t.power with thermtrip := false, tripTide := none } }
    else s1
  let s3 : State := { s2 with power := { s2.power with state := p, move := none } }
  if s.power.state = 3 then (List.range 8).foldl (fun (a : State) l => a.startDrain l) s3 else s3

/-- Whether memory is being cleared or restored for a lagoon, or hashed for the record of a FAULTED run, which an entry to P2 or P3
waits for. -/
def State.memBusy (s : State) : Bool :=
  (List.range 8).any (fun l => (s.lagoon l).clearing || (s.lagoon l).restore.isSome || s.unrecorded l)

/-- Whether the power groups that a state needs serve. -/
def State.groupsFor (s : State) (p : Nat) : Bool :=
  (decide (3 ≤ p) || s.power.hb.settled) && (decide (2 ≤ p) || (s.power.cw.settled && s.power.ce.settled))

/-- Steps 3 and 4 of R392: the rails may go. The port, the lighthouse and the mailbox stop, the DIMMs are in self-refresh, and
the BMC gets an in-band interrupt. -/
def State.enterOffReady (s : State) : State :=
  let t := s.enterLow 3
  let u := t.endSessions (fun _ => true)
  let v : State := { u with
    shakes := [], side := { u.side with offReady := true }
    port := { u.port with link := none, lanes := 0, paused := [], lhReplies := [] } }
  v.send ⟨7, v.side.eid.getD 0, 4, []⟩

/-- POWER_STATE_ENTERED (R45, R285, R392, R483): the move, wake or pending entry under way completes. -/
def execPowerStateEntered (s : State) : Host.Outcome State Fault Refusal :=
  .next (if s.power.porst = false ∨ s.boot.ready = false ∨ s.side.offReady = true then s
    else if s.power.cause = 1 then
      (if s.allRecorded = true ∧ s.memBusy = false then
        match s.power.move with
        | some m => if m.target = 2 then (s.enterLow 2).answerOpt m.ref 0 0 0 [] else (s.enterLow 2).answerOpt m.ref 0x10 2 0 []
        | none => s.enterLow 2
      else s)
    else if s.power.cause = 2 ∨ s.power.cause = 3 then
      if s.allRecorded = true ∧ s.allSigned = true ∧ s.memBusy = false then
        (if s.power.cause = 3 then s.enterOffReady else s.enterLow 3)
      else s
    else match s.power.move with
      | none => s
      | some m =>
        if s.power.state < m.target then
          (if m.target ≤ 1 then ({ s with power := { s.power with state := m.target, move := none } }).answerOpt m.ref 0 0 0 []
          else if s.memBusy then s
          else (s.enterLow m.target).answerOpt m.ref 0 0 0 [])
        else if s.groupsFor m.target then (s.wake m.target).answerOpt m.ref 0 0 0 []
        else s)

/-- PGOOD_ASSERTED (R509): a group's power is good; compute enables follow HBM's on a wake that needs them. -/
def execPgoodAsserted (g : Nat) (s : State) : Host.Outcome State Fault Refusal :=
  .next (if g < 3 ∧ (s.power.group g).pen = true ∧ (s.power.group g).pgood = false then
      let t := s.setGroup g { s.power.group g with pgood := true }
      match t.power.move with
      | some m => if g = 0 ∧ m.target ≤ 1 then (t.raisePen 1).raisePen 2 else t
      | none => t
    else s)

/-! ## POWER (R285, R416) -/

/-- Whether 10 s of tide have not yet passed since a thermal trip (R285). -/
def State.tripHolds (s : State) : Bool :=
  match s.power.tripTide with
  | some t => decide (s.tide.count < t + 10000000000)
  | none => false

/-- Whether lagoons keep the device out of a state (R416). -/
def State.keepsFrom (s : State) (p : Nat) : Bool :=
  (List.range 8).any (fun l =>
    let st := (s.lagoon l).st
    (decide (1 ≤ p) && (st = .running || st = .draining)) || (decide (2 ≤ p) && st = .paused))

/-- POWER: answered when the state is entered. -/
def State.cmdPower (s : State) (r : Req) : State :=
  let p := r.arg 0 3
  match s.side.bmcHold with
  | some h => s.no r 0x11 h
  | none =>
    if s.tripHolds = true ∧ p ≤ 1 then s.no r 0x10 2
    else if s.power.hb.barred ∧ p < 3 then s.no r 0x10 3
    else if s.power.cause ≠ 0 ∨ s.power.move.isSome ∨ s.keepsFrom p = true then s.no r 1 0xFF
    else if s.power.state = p then s.ok r []
    else
      let t : State := { s with power := { s.power with move := some ⟨p, some r.ref⟩ } }
      if s.power.state < p then t
      else if s.power.state = 3 then t.raisePen 0
      else if p ≤ 1 then (t.raisePen 1).raisePen 2
      else t

/-! ## Power-good failures (R510) -/

/-- Every region of a die is treated as failed on a low rail: 0x4203 for each, its owner's run ends, and the die is off. -/
def State.dieFails (s : State) (d : Nat) : State :=
  let t := (List.range 9).foldl (fun (a : State) i =>
    let r := 9 * d + i
    let b := a.setRegion r (a.region r).off
    match b.regionOwner r with
    | some l => b.fault 0x4203 0 (plocRegion r) l none
    | none => b.raise 0x4203 0 0 (plocRegion r) none none) s
  t.setGroup (1 + d) ⟨false, false, true⟩

/-- HBM power fails: running lagoons fault, each stack raises 0x7202, and the device is in P3 until the next reset. -/
def State.hbmFails (s : State) : State :=
  let t := (List.range 8).foldl (fun (a : State) l => a.faultLagoon l 0x7202) s
  let u := (List.range 20).foldl (fun (a : State) n =>
    a.raise 0x7202 0 (argM 0x20 0 0 0xFF 0x05) (plocStack n) (a.stackOwner n) none) t
  let m := u.power.move
  let v := (u.enterLow 3).setGroup 0 ⟨false, false, true⟩
  match m with
  | some q => v.answerOpt q.ref 0x10 3 0x7202 []
  | none => v

/-- PGOOD_FAIL (R510): a power-good does not rise in time, or falls, while its enable is asserted. -/
def execPgoodFail (g : Nat) (s : State) : Host.Outcome State Fault Refusal :=
  .next (if g < 3 ∧ (s.power.group g).pen = true then (if g = 0 then s.hbmFails else s.dieFails (g - 1)) else s)

/-! ## The BMC's requests (R391, R392) -/

/-- Take a BMC request: it supersedes host requests under way, stops the lagoons and waits for their records. -/
def State.takeBmc (s : State) (h : Nat) : State :=
  let m := s.power.move
  let w := s.power.ref
  let t : State := { s with side := { s.side with bmcHold := some h, pending := none }, power := { s.power with move := none, ref := none } }
  let u := (t.answerOpt (m.bind (·.ref)) 0x11 h 0 []).answerOpt w 0x11 h 0 []
  if h = 3 ∧ u.power.state = 3 then { u with power := { u.power with cause := 0 } }
  else (u.stopAll (h - 1) none).proceed

/-- A request before mailbox readiness waits for it (R521). -/
def State.bmcRequest (s : State) (h : Nat) : State :=
  if s.power.porst = false ∨ s.side.offReady = true then s
  else if s.boot.ready = false then { s with side := { s.side with pending := some h } }
  else s.takeBmc h

def execBmcRequestP3 (s : State) : Host.Outcome State Fault Refusal := .next (s.bmcRequest 3)
def execBmcRequestOff (s : State) : Host.Outcome State Fault Refusal := .next (s.bmcRequest 4)

/-- BMC_RELEASE: from off-ready the device resets itself; an entry not yet made is called off. -/
def execBmcRelease (s : State) : Host.Outcome State Fault Refusal :=
  .next (if s.side.offReady then s.resetDevice true
    else
      let t : State := { s with side := { s.side with bmcHold := none, pending := none } }
      if t.power.cause = 2 ∨ t.power.cause = 3 then { t with power := { t.power with cause := 0 } } else t)

/-! ## Start-up (R455, R456, R460, R520 to R522) -/

/-- MRAM items whose tag fails are absent, with 0x6104 for each (R456); the last are the spare and calibration records, with the ageing
setpoints. -/
def State.dropItem (s : State) (n : Nat) : State :=
  let k := s.keeper
  let t := s.raise 0x6104 0 (s.argK 0 0) 0x9000 none none
  if n = 0 then
    let (i, u) := t.draw
    { u with keeper := { k with life := Config.absentLife i % 4, wipe := bit (Config.absentLife i) 2 } }
  else if n = 1 then { t with keeper := { k with prov := none } }
  else if n = 2 then { t with keeper := { k with tkeys := [] } }
  else if n = 3 then { t with keeper := { k with net := { k.net with cak := none } } }
  else if n = 4 then { t with keeper := { k with net := { NetCfg.blank with cak := k.net.cak } } }
  else if n = 5 then { t with keeper := { k with logDig := [] } }
  else { t with keeper := { k with spares := [], lanes := [] }, phys := [], regions := [], rel := { t.rel with used := [] } }

/-- The firmware copies tried, by BOOT_SRC (Table 3 of spec/15). -/
def State.copies (s : State) : List (Option Firmware) :=
  match s.straps.bootSrc % 4 with
  | 1 => [s.boot.copyB, s.boot.copyA]
  | 2 => [s.boot.copyA]
  | _ => [s.boot.copyA, s.boot.copyB]

/-- A copy passes if both of its signatures do (R462). -/
def Firmware.passes (f : Firmware) : Bool := f.ecdsa && f.lms

/-- Steps 3 to 5 of R460: 0x6101 for each copy that fails, the first that passes runs. -/
def State.tryCopies : List (Option Firmware) → State → State
  | [], s => s
  | none :: fs, s => State.tryCopies fs (s.raise 0x6101 0 (s.argK 0 0) 0x9000 none none)
  | some f :: fs, s =>
    if f.passes then { s with boot := { s.boot with running := some f } }
    else State.tryCopies fs (s.raise 0x6101 0 (s.argK 0 0) 0x9000 none none)

/-- Held as R455 describes: in P3, with STARTING set. -/
def State.hold (s : State) (code : Nat) : State :=
  let t := s.raise code 3 (s.argK 0 0) 0x9000 none none
  { t with power := { t.power with state := 3 }, boot := { t.boot with held := true } }

/-- Step 6: the logbook is loaded (R497), and every clean flag is clear (R474). -/
def State.loadLog (s : State) (bad : List Nat) : State :=
  let now := s.rel.log.events
  let use (b : Logbook) : State := { s with rel := { s.rel with log := { b with events := (now ++ b.events).take 1024 } } }
  let t := match s.keeper.logDig with
    | [] => if s.counter 5 = 0 then s else s.notice 0x7402 (s.counter 5)
    | (n, _) :: old =>
      match s.rel.slots.find? (fun (c : Nat × Logbook) => c.1 == n && !(bad.contains 7)) with
      | some c => use c.2
      | none =>
        match s.rel.slots.find? (fun (c : Nat × Logbook) => old.any (fun d => d.1 == c.1) && !(bad.contains 8)) with
        | some c => (use c.2).notice 0x7401 c.1
        | none => s.notice 0x7402 n
  let u := (List.range 20).foldl (fun (a : State) n => a.setStack n { a.stack n with clean := false }) t
  (List.range 16).foldl (fun (a : State) n => a.setChannel n { a.channel n with clean := false }) u

/-- The speeds of Table 4a of spec/06 that an RDIMM may run at, highest first. -/
def rdimmSpeeds : List Nat := [6400, 6000, 5600, 5200, 4800]

/-- Step 8: the lowest-numbered channel with a supported DIMM fixes type and speed; others that cannot follow are unfitted (R514). -/
def State.fitDimms (s : State) (ds : List Dimm) : State :=
  let firstOf (n : Nat) : Option Dimm := ds.find? (fun d => d.ch == n && d.supported)
  match (List.range 16).filterMap firstOf with
  | [] => s
  | d :: rest =>
    let mts := if d.mrdimm then 8800 else (rdimmSpeeds.find? (fun v => decide (v ≤ d.mts))).getD 0
    ((d :: rest).filter (fun e => e.mrdimm == d.mrdimm && decide (mts ≤ e.mts) && mts != 0)).foldl (fun (a : State) e =>
      a.setChannel e.ch { a.channel e.ch with bytes := min e.bytes (2 ^ 38), mts := mts, clean := false }) s

/-- Step 10: regions at their ageing setpoints, with the pacer trims found (R281, R508). -/
def State.startRegions (s : State) (d : Nat) : State :=
  (List.range 9).foldl (fun (a : State) i =>
    let r := 9 * d + i
    let x := a.region r
    a.setRegion r { x with state := 0, vset := x.vbase, ptrim := Config.ptrim r % 256 }) s

/-- A unit of a core fails its start-up test: 0x7202, then a spare position, or the core is replaced (R111, R118, R522). -/
def State.unitFails (kind unit : Nat) (s : State) (x : Nat × Nat) : State :=
  if 288 ≤ x.1 then s
  else
    let p := plocCore x.1
    let t := s.raise 0x7202 0 (argM unit x.2 0 0xFF 0x05) p none none
    match (t.physCore x.1).without (t.spent kind x.1) kind x.2 with
    | some (k, swapped) =>
      let u := (t.setPhys x.1 k).spend kind x.1
      if swapped then (({ u with degraded := u.degraded || kind == 3 }).substituted kind p unit 0 0xFF 0x05) else u
    | none => t.coreOut x.1

/-- A core fails its start-up test. -/
def State.coreFails (s : State) (p : Nat) : State :=
  if 288 ≤ p then s
  else (s.raise 0x7202 0 (argM (Config.coreUnit p) 0 0 0xFF 0x05) (plocCore p) none none).coreOut p

/-- Fill a die's enabled cores up to the grade's count from passing spares in the list order of R316 (R24, R522). -/
def State.fillDie (d : Nat) : Nat → State → State
  | 0, s => s
  | n + 1, s =>
    if s.gradeCores ≤ s.enabledOf d then s
    else match ((List.range 9).flatMap (fun i => regionCores (9 * d + i))).find? s.spareCore with
      | some q => State.fillDie d n (s.setPhys q { s.physCore q with enabled := true })
      | none => s

/-- Choose a die's enabled cores: those recorded that still pass, then spares; 0x7301 for each core replaced, and 0x7302 where
fewer pass than the grade needs (R494, R522). `before`: cores enabled before the tests. -/
def State.chooseCores (s : State) (d : Nat) (before : List Nat) : State :=
  let lost := before.filter (fun p => p / 144 == d && !(s.physCore p).enabled)
  let had := s.enabledOf d
  let t := State.fillDie d 144 s
  let gained := t.enabledOf d - had
  let u := (lost.take gained).foldl (fun (a : State) p => a.substituted 1 (plocCore p) (Config.coreUnit p) 0 0xFF 0x05) t
  if u.enabledOf d < u.gradeCores then u.shortfall ((lost.drop gained).headD (144 * d)) else u

/-- Lanes of one direction of a boundary or group that failed. -/
def failLane (m : Sparse Lanes) (k lane : Nat) : Sparse Lanes :=
  let x := Sparse.get ⟨[]⟩ m k
  Sparse.set ⟨[]⟩ m k (if x.failed.contains lane then x else ⟨x.failed ++ [lane]⟩)
def lanesFailed (m : Sparse Lanes) (k : Nat) : Nat := (Sparse.get ⟨[]⟩ m k).failed.length

/-- The twelve pairs of adjacent regions of a die of three by three (R287). -/
def adjacent : List (Nat × Nat) :=
  (List.range 6).map (fun i => (i / 2 * 3 + i % 2, i / 2 * 3 + i % 2 + 1)) ++ (List.range 6).map (fun i => (i, i + 3))

/-- Straits between a region of a die and its harbour link end, W8 or E6 (R27). -/
def linkDistance (d i : Nat) : Nat := (if d = 0 then 2 - i % 3 else i % 3) + (2 - i / 3)

/-- The region on a boundary that lies farther from its die's harbour link end (R291). -/
def farRegion (d b : Nat) : Nat :=
  let p := adjacent.getD (Config.boundaryPlace (12 * d + b) % 12) (0, 1)
  9 * d + (if linkDistance d p.2 < linkDistance d p.1 then p.1 else p.2)

/-- A boundary is lost: 0x4103, and the region farther from the harbour link end goes out of service with its cores (R291). -/
def State.loseBoundary (s : State) (d b ploc : Nat) : State :=
  let r := farRegion d b
  let u := s.raise 0x4103 0 0 ploc none none
  let v := u.setRegion r { u.region r with state := 3 }
  (regionCores r).foldl (fun (a : State) p => a.setPhys p { a.physCore p with enabled := false }) v

/-- A strait lane (die, boundary, direction, lane) fails calibration: 0x7202 and 0x4101 (R291, R522); a boundary with fewer than
eight lanes left in a direction is lost. -/
def State.straitFails (s : State) (x : Nat × Nat × Nat × Nat) : State :=
  let (d, b, dir, lane) := x
  let key := (12 * d + b) * 2 + dir
  let ploc := 0x3000 + d * 512 + b * 32 + dir * 16 + lane
  let t := ({ s with straits := failLane s.straits key lane, degraded := true }).raise 0x7202 0
    (argM 0x30 lane 0 0xFF 0x05) ploc none none
  let u := t.raise 0x4101 0 0 ploc none none
  if lanesFailed u.straits key = 2 then u.loseBoundary d b ploc else u

/-- A causeway lane (group, direction, lane) fails calibration: 0x4102; a group with fewer than 32 lanes left carries no more traffic
(State.groupUp), which takes the other two. -/
def State.causewayFails (s : State) (x : Nat × Nat × Nat) : State :=
  let (g, dir, lane) := x
  ({ s with causeway := failLane s.causeway (2 * g + dir) lane, degraded := true }).raise 0x4102 0 0
    (0x4000 + g * 128 + dir * 64 + lane) none none

/-- What calibration found, kept in the keeper's MRAM: the lanes that failed, as boundary and direction or group and direction, and
lane (R291, R293). -/
def State.keepLanes (s : State) (b : StartUp) : State :=
  { s with keeper := { s.keeper with
    lanes := b.straits.map (fun x => ((12 * x.1 + x.2.1) * 2 + x.2.2.1, x.2.2.2)) ++ b.causeway.map (fun x => (48 + 2 * x.1 + x.2.1, x.2.2)) } }

/-- Step 10 whole. -/
def State.startCompute (s0 : State) (b : StartUp) : State :=
  let s := s0.keepLanes b
  let before := (List.range 288).filter (fun p => (s.physCore p).enabled)
  let s1 := (s.startRegions 0).startRegions 1
  let s2 := b.cores.foldl State.coreFails s1
  let s3 := b.cubes.foldl (State.unitFails 0 0x10) s2
  let s4 := b.vlanes.foldl (State.unitFails 3 0x11) s3
  let s5 := b.banks.foldl (State.unitFails 2 0x00) s4
  let s6 := b.straits.foldl State.straitFails s5
  let s7 := b.causeway.foldl State.causewayFails s6
  (s7.chooseCores 0 before).chooseCores 1 before

/-- Step 12: the mailbox is ready. Batches opened and not signed are lost, and their gap notices wait to be signed before any
new batch opens (R335). A BMC request that waited is taken (R521). -/
def State.becomeReady (s : State) : State :=
  let first := s.counter 2 + 1
  let gap (i : Nat) : Batch := ⟨first + i, [], Config.gapTide (2 * (first + i)), Config.gapTide (2 * (first + i) + 1), 0, [], [], true⟩
  let t : State := { s with
    boot := { s.boot with ready := true, start := none }
    builder := { s.builder with closed := (List.range (s.counter 1 + 1 - first)).map gap } }
  match t.side.pending with
  | some h => t.takeBmc h
  | none => t

/-- Steps 5 to 12, once firmware runs. A power-good that does not rise ends start-up short of readiness (R510). -/
def State.afterFirmware (s : State) (b : StartUp) : State :=
  let s1 : State := { s with boot := { s.boot with step4 := true, waitFw := false }, tide := { s.tide with source := b2n b.ref10 } }
  let s2 := (s1.loadLog b.badItems).fitDimms b.dimms
  let s3 := ((s2.raisePen 0).raisePen 1).raisePen 2
  if b.pgHb = false then s3.hbmFails
  else
    let good : PGroup := ⟨true, true, false⟩
    let s4 := ((s3.setGroup 0 good).startHbm b.hbmLanes b.hbmFail)
    let s5 := ((s4.setGroup 1 good).setGroup 2 good).startCompute b
    let s6 := if b.pgCw then s5 else s5.dieFails 0
    let s7 := if b.pgCe then s6 else s6.dieFails 1
    if b.pgCw && b.pgCe then s7.becomeReady else s7

/-- The keeper rebuilds the device secret (R455). -/
def State.rebuild (s : State) : State := { s with keeper := { s.keeper with secret := some (Config.deviceSecret s.keeper.helper) } }

/-- Steps 1 to 4. -/
def State.startUp (s : State) (b : StartUp) : State :=
  let st : Straps := if s.boot.selfReset then s.straps else ⟨b.feed % 64, b.slot % 256, b.bootSrc % 4, b.linkMode % 4⟩
  let s1 : State := { s with
    straps := st, power := { s.power with porst := true }, boot := { s.boot with selfReset := false }
    jtag := { s.jtag with trst := b.trst } }
  let s2 := s1.setCounter 6 (s1.counter 6 + 1)
  if b.puf = false then s2.hold 0x6103
  else
    let s3 := (b.badItems.filter (fun n => decide (n < 7))).foldl State.dropItem s2.rebuild
    let s4 : State := { s3 with port := { s3.port with cfg := s3.keeper.net } }
    let s5 := if s4.keeper.wipe then ((s4.raise 0x6203 0 (s4.argK 0 0) 0x9000 none none).eraseTenant).finishWipe else s4
    if st.bootSrc = 3 ∧ (s5.keeper.life = 0 ∨ s5.keeper.life = 3) then
      { s5 with boot := { s5.boot with waitFw := true, start := some b, fwstat := 0xFE } }
    else
      let s6 := State.tryCopies s5.copies s5
      if s6.boot.running.isNone then s6.hold 0x6102 else s6.afterFirmware b

/-- PORST_N_RELEASE (R520): the start-up steps to mailbox readiness, with what the board and the tests show in `b`. -/
def execPorstRelease (b : StartUp) (s : State) : Host.Outcome State Fault Refusal :=
  .next (if s.power.porst then s else s.startUp b)

end Sys2Proof.Machine
end

