-- ==== Sys2Proof/Machine/Sideband.lean ====
section
/-! DEFINITION. The sideband port's I3C, MCTP and PLDM rows (R389, R390, R518). -/

namespace Sys2Proof.Machine

/-- Whether the sideband port answers: the device is out of reset and has its endpoint ID. -/
def State.sideUp (s : State) : Bool := s.power.porst && s.side.eid.isSome

/-- Answer the BMC: `kind` tells the rows' answers apart. -/
def State.sideSend (s : State) (kind : Nat) (body : List Byte) : State := s.send ⟨7, s.side.eid.getD 0, kind, body⟩

/-- The 48-bit I3C provisional ID, which carries SLOT_ID (R389); where it does, and its other bits, are free values
(DESIGN CHOICE 99). -/
def State.i3cId (s : State) : Nat := putBits (Config.i3cId 0 % 2 ^ 48) (Config.i3cSlotAt 0 % 41) 8 (s.straps.slot % 256)

/-- I3C_DYNAMIC_ADDRESS (R389): the device gives its provisional ID and takes the address assigned to it. -/
def execI3cDynamicAddress (a : Nat) (s : State) : Host.Outcome State Fault Refusal :=
  .next (if s.power.porst then (({ s with side := { s.side with dyn := some (a % 128) } } : State)).send ⟨7, 0, 1, toBytes 6 s.i3cId⟩ else s)

/-- ENDPOINT_ID_ASSIGNMENT (R389): the BMC assigns the MCTP endpoint ID over the I3C binding. -/
def execEndpointIdAssignment (eid : Nat) (s : State) : Host.Outcome State Fault Refusal :=
  .next (if s.power.porst && s.side.dyn.isSome then { s with side := { s.side with eid := some (eid % 256) } } else s)

/-- PLDM_BASE_QUERY (R390): the answers' bytes are DSP0240's, free values. -/
def execPldmBaseQuery (n : Nat) (s : State) : Host.Outcome State Fault Refusal :=
  .next (if s.sideUp then s.sideSend 0x100 (Config.pldmBase n) else s)

/-- The power-state sensor: off-ready follows P3 (R392). -/
def State.powerSensor (s : State) : Nat := if s.side.offReady then 4 else s.power.state

/-- A PLDM sensor (Table 12 of spec/12), numbered in that table's order: 0–17 Tj of the regions, 18–35 their rails, 36–55 stack
temperatures, 56 harbour die, 57 keeper, 58 package power, 59 power state, 60 lifecycle, 61 link width, 62 tide state. `v` is
the reading of a sensor that no other step samples. -/
def State.sensor (s : State) (n : Nat) (v : Int) : Int :=
  if n < 18 then (s.region n).tj
  else if n = 59 then (s.powerSensor : Int)
  else if n = 60 then (s.keeper.life : Int)
  else if n = 61 then ((s.port.link.getD 0 : Nat) : Int)
  else if n = 62 then (s.tide.state : Int)
  else v

/-- PLDM_SENSOR_READ. -/
def execPldmSensorRead (n : Nat) (v : Int) (s : State) : Host.Outcome State Fault Refusal :=
  .next (if s.sideUp && decide (n < 63) then s.sideSend (0x200 + n) (toBytes 4 (wrapInt 32 (s.sensor n v))) else s)

/-- PLDM_FRU_READ: what the ordering code is made of, serial, slot and the device certificate's digest (R6, R390, R512). -/
def execPldmFruRead (s : State) : Host.Outcome State Fault Refusal :=
  let k := s.keeper
  .next (if s.sideUp then
      s.sideSend 0x400 (toBytes 1 k.grade ++ toBytes 1 k.stepping ++ toBytes 1 k.lid ++ toBytes 1 s.straps.slot ++ toBytes 8 k.serial ++
        digestBytes devId)
    else s)

/-! ## Firmware update (R165, R167, R518) -/

/-- A firmware image as a copy in boot flash: it ends in its signature block. -/
def firmwareOf (ver : Nat) (bs : List Byte) : Firmware :=
  let b := blockOk (bs.take (blockStart bs)) (bs.drop (blockStart bs))
  ⟨ver, sha384 bs, b.1, b.2⟩

/-- Write the copy that comes second, or first, in the BOOT_SRC order (Table 3 of spec/15). -/
def State.writeCopy (s : State) (second : Bool) (f : Firmware) : State :=
  let toB := second != (s.straps.bootSrc == 1)
  { s with boot := if toB then { s.boot with copyB := some f } else { s.boot with copyA := some f } }

/-- Whether a firmware update is taken: not under BOOT_SRC 0b10 or 0b11 (R518). -/
def State.updates (s : State) : Bool := s.sideUp && s.boot.step4 && !s.side.offReady && decide (s.straps.bootSrc < 2)

/-- PLDM_FIRMWARE_UPDATE: an image is staged in the second copy and verified; a package goes to the package store if both
signatures pass. Refusals answer 1. -/
def execPldmFirmwareUpdate (pkg : Bool) (ver : Nat) (bytes : List Byte) (s : State) : Host.Outcome State Fault Refusal :=
  .next (if s.sideUp = false then s
    else if pkg then
      if s.boot.step4 = false ∨ s.side.offReady = true then s.sideSend 0x500 [1]
      else if (packFail bytes).isSome then (s.raise 0x6105 2 (s.argK 0 0) 0 none none).sideSend 0x500 [1]
      else if packOk bytes then (s.holdPackage bytes true).sideSend 0x500 [0]
      else s.sideSend 0x500 [1]
    else if s.updates = false ∨ 64 * 2 ^ 20 < bytes.length ∨ bytes = [] then s.sideSend 0x500 [1]
    else
      let f := firmwareOf ver bytes
      let t := s.writeCopy true f
      if f.passes then ({ t with boot := { t.boot with staged := some f } }).sideSend 0x500 [0]
      else ({ t with boot := { t.boot with staged := none } }).sideSend 0x500 [1])

/-- PLDM_FIRMWARE_ACTIVATE: the staged image is copied over the first copy, which is verified again. It runs from the next
start-up. -/
def execPldmFirmwareActivate (s : State) : Host.Outcome State Fault Refusal :=
  .next (if s.sideUp = false then s
    else match s.boot.staged with
      | some f =>
        if s.updates then
          let t := s.writeCopy false f
          ({ t with boot := { t.boot with staged := none } }).sideSend 0x501 [0]
        else s.sideSend 0x501 [1]
      | none => s.sideSend 0x501 [1])

/-! ## OEM commands (R286, R381) -/

/-- OEM_READ_RGNSTAT. -/
def execOemReadRgnstat (r : Nat) (s : State) : Host.Outcome State Fault Refusal :=
  .next (if s.sideUp && decide (r < 18) then s.sideSend (0x3F00 + r) (toBytes 8 (s.region r).stat) else s)

/-- OEM_READ_HEALTH. -/
def execOemReadHealth (s : State) : Host.Outcome State Fault Refusal :=
  .next (if s.sideUp then s.sideSend 0x3F20 (toBytes 4 s.health) else s)

end Sys2Proof.Machine
end

