-- ==== Sys2Proof/Machine/Jtag.lean ====
section
/-! DEFINITION. The JTAG port: boundary scan, status, tokens, provisioning, firmware load and DBGACC (R461, R468, R469, R476 to
R482). -/

namespace Sys2Proof.Machine

/-! ## The TAP (R480) -/

/-- Select an instruction and shift out a data register of n bytes. -/
def State.shift (s : State) (ir n v : Nat) : State :=
  ({ s with jtag := { s.jtag with ir := ir } }).send ⟨10, ir, 0, toBytes n v⟩

/-- An instruction reaches the TAP unless TRST_N holds it in Test-Logic-Reset (R503). -/
def State.tap (s : State) (t : State) : State := if s.jtag.trst then s else t

/-- An instruction that acts as BYPASS: the one-bit register, which captures 0. -/
def State.asBypass (s : State) (ir : Nat) : State := { s with jtag := { s.jtag with ir := ir, dr := [false] } }

/-- Whether the lifecycle state is BLANK or RETURNED. -/
def State.unowned (s : State) : Bool := s.keeper.life == 0 || s.keeper.life == 3

/-- Boundary scan: the cells captured go out and `d` comes in. -/
def State.boundary (s : State) (ir : Nat) (d : List Bool) : State :=
  let (i, t) := s.draw
  ({ t with jtag := { t.jtag with ir := ir, dr := d } }).send ⟨10, ir, 0, (Config.boundaryScan i).map (fun b => BitVec.ofNat 8 (b2n b))⟩

/-- EXTEST: boundary scan in BLANK and RETURNED, else BYPASS. -/
def execExtest (d : List Bool) (s : State) : Host.Outcome State Fault Refusal :=
  .next (s.tap (if s.unowned then s.boundary 0x00 d else s.asBypass 0x00))

/-- SAMPLE/PRELOAD. -/
def execSamplePreload (d : List Bool) (s : State) : Host.Outcome State Fault Refusal := .next (s.tap (s.boundary 0x02 d))

/-- IDCODE (Table 10 of spec/15). -/
def State.idcode (s : State) : Nat :=
  (if s.keeper.stepping = 0xB1 then 1 else 0) * 2 ^ 28 + 0x5A11 * 2 ^ 12 + Config.jep106 0 % 2048 * 2 + 1
def execIdcode (s : State) : Host.Outcome State Fault Refusal := .next (s.tap (s.shift 0x01 4 s.idcode))

/-- BYPASS. -/
def execBypass (s : State) : Host.Outcome State Fault Refusal := .next (s.tap (s.asBypass 0xFF))

/-- TOKSTAT, PROVSTAT, FWSTAT, DBGSEL. -/
def execTokstat (s : State) : Host.Outcome State Fault Refusal := .next (s.tap (s.shift 0x11 2 s.jtag.tokstat))
def execProvstat (s : State) : Host.Outcome State Fault Refusal := .next (s.tap (s.shift 0x15 1 s.jtag.provstat))
def execFwstat (s : State) : Host.Outcome State Fault Refusal := .next (s.tap (s.shift 0x17 1 s.boot.fwstat))
def execDbgsel (scope : Nat) (s : State) : Host.Outcome State Fault Refusal :=
  .next (s.tap { s with jtag := { s.jtag with ir := 0x12, sel := scope % 256 } })

/-! ## TOKEN and DBGEND (R468, R471, R477 to R479) -/

/-- A token accepted over JTAG: with TOBLANK it moves a RETURNED device to BLANK and opens no session. -/
def State.takeToken (s : State) (h : Nat) : State :=
  if tokBlank h then
    let t := (s.setCounter 4 (tokSeq h)).raise 0x6301 0 (s.argK (tokScope h) (tokSeq h)) 0 none none
    let u := (t.moveLife 0).endDebug (fun _ => true)
    { u with jtag := { u.jtag with tokstat := 0 } }
  else
    let t := s.openDebug h none
    { t with jtag := { t.jtag with tokstat := tokLevel h * 256 } }

/-- TOKEN: taken in BLANK and RETURNED from the end of start-up step 4 (R521), once no wipe is pending. -/
def execToken (bytes : List Byte) (s : State) : Host.Outcome State Fault Refusal :=
  .next (s.tap (if s.unowned = false then s.asBypass 0x10
    else if s.boot.step4 = false ∨ s.keeper.wipe = true then s
    else
      let t : State := { s with jtag := { s.jtag with ir := 0x10 } }
      let h := tokenHead bytes
      match t.tokenCode bytes (fun _ => true) (bit h 49) with
      | some c =>
        let u := t.denyToken h
        { u with jtag := { u.jtag with tokstat := c } }
      | none => t.takeToken h))

/-- DBGEND: ends the session of a scope if it was opened over JTAG. -/
def execDbgend (scope : Nat) (s : State) : Host.Outcome State Fault Refusal :=
  let t : State := { s with jtag := { s.jtag with ir := 0x18 } }
  .next (s.tap (if t.dbgs.any (fun d => d.scope == scope && d.via.isNone) then t.endDebug (fun d => d.scope == scope && d.via.isNone) else t))

/-! ## PROVISION (R469) -/

/-- What is wrong with a provisioning record (R469). -/
def provFail (d : Nat) : Option Nat :=
  let n := bits d 112 8
  if bits d 16 32 ≠ 0x31525048 ∨ bits d 0 16 ≠ 1 ∨ bits d 48 16 ≠ 0 ∨ 64 < n ∨ bits d (120 + 8 * n) (512 - 8 * n) ≠ 0 then some 2
  else if validPoint (toBytes 97 (bits d 632 776)) then none
  else some 3

/-- The record of a provisioning word. -/
def provRec (d : Nat) : ProvRec := ⟨toBytes 97 (bits d 632 776), (toBytes 64 (bits d 120 512)).take (bits d 112 8), bits d 64 48⟩

/-- PROVISION: the first harbour key is enrolled, the next batch's PREV is 0, and BLANK becomes PROVISIONED. -/
def execProvision (d : BitVec 1408) (s : State) : Host.Outcome State Fault Refusal :=
  .next (s.tap (if s.power.porst = false ∨ s.boot.held = true then s
    else
      let t : State := { s with jtag := { s.jtag with ir := 0x14 } }
      let say (u : State) (n : Nat) : State := { u with jtag := { u.jtag with provstat := n } }
      if t.keeper.life ≠ 0 then say t 1
      else match provFail d.toNat with
        | some n => say t n
        | none =>
          let r := provRec d.toNat
          let u : State := { t with
            keeper := { t.keeper with prov := some r, tkeys := [⟨0, r.key⟩] }, builder := { t.builder with prev := 0 } }
          say (u.moveLife 1) 0))

/-! ## FWLOAD (R461) -/

/-- FWSTAT of an image: its length, then both signatures. -/
def fwCode (bs : List Byte) : Nat :=
  if bs = [] ∨ 64 * 2 ^ 20 < bs.length then 4
  else match sigFail ((firmwareOf 0 bs).ecdsa, (firmwareOf 0 bs).lms) with
    | none => 0
    | some 0 => 1
    | some 1 => 2
    | some _ => 3

/-- FWLOAD, in BLANK and RETURNED (R480): while the keeper waits, an image that passes runs from harbour SRAM and start-up goes on; else BYPASS. -/
def execFwload (ver : Nat) (bytes : List Byte) (s : State) : Host.Outcome State Fault Refusal :=
  .next (s.tap (match s.boot.waitFw && s.unowned, s.boot.start with
    | true, some b =>
      let c := fwCode bytes
      let t : State := { s with jtag := { s.jtag with ir := 0x16 }, boot := { s.boot with fwstat := c } }
      if c = 0 then ({ t with boot := { t.boot with running := some (firmwareOf ver bytes) } }).afterFirmware b
      else t.raise 0x6101 0 (t.argK 0 0) 0x9000 none none
    | _, _ => s.asBypass 0x16))

/-! ## DBGACC words (R481) -/

def dSpace (w : BitVec 128) : Nat := bits w.toNat 124 4
def dLag (w : BitVec 128) : Nat := bits w.toNat 121 3
def dCore (w : BitVec 128) : CoreId := ⟨dLag w, bits w.toNat 112 9⟩
def dOff (w : BitVec 128) : Nat := bits w.toNat 64 48
def dData (w : BitVec 128) : Nat := bits w.toNat 32 32
def dWrite (w : BitVec 128) : Bool := bit w.toNat 0

/-- The session open for the selected scope. -/
def State.selected (s : State) : Option Debug := s.dbgs.find? (fun d => d.scope == s.jtag.sel)

/-- The result of an access: DONE, and the data read or ERROR. -/
def dbgResult (w : BitVec 128) : Option Nat → BitVec 128
  | some v => BitVec.ofNat 128 (putBits (putBits w.toNat 32 32 v) 0 32 (2 + b2n (dWrite w)))
  | none => BitVec.ofNat 128 (putBits w.toNat 0 32 (6 + b2n (dWrite w)))

/-- A DBGACC row: the result of the access before goes out, and the access `f` is made if the session's scope and level allow
it. Without a session for the selected scope the instruction acts as BYPASS. -/
def State.dbgacc (s : State) (w : BitVec 128) (mine : Bool) (level : Nat) (f : State → Option (State × Nat)) : State :=
  if mine = false ∨ s.jtag.trst = true then s
  else match s.selected with
    | none => s.asBypass 0x13
    | some d =>
      let t := s.shift 0x13 16 s.jtag.result.toNat
      let done (u : State) (r : Option Nat) : State := { u with jtag := { u.jtag with result := dbgResult w r } }
      if (d.scope ≠ 0xFF ∧ d.scope ≠ dLag w) ∨ t.debugLevel (dLag w) < level then done t none
      else match f t with
        | some (u, v) => done u (some v)
        | none => done t none

/-- A D3 write has been made to a lagoon: DEBUG_WRITE (R482). -/
def State.wrote (s : State) (w : BitVec 128) : State :=
  let t := s.taint (dLag w) 4
  t.setLagoon (dLag w) { t.lagoon (dLag w) with dbgWrite := true }

/-! ## Space 0x0: state of a virtual core -/

/-- The level that reading a CSR needs: D1 for those that their chapters name (R82, R112, R114, R137, R168, R201, R237, R275). -/
def csrLevel (n : Nat) : Nat :=
  if isSharedCsr n || [0x7C5, 0x7C6, 0x7CD, 0x7CE, 0xC00, 0xC80, 0xC02, 0xC82].contains n || (0x7D0 ≤ n && n ≤ 0x7EF) ||
    (0xFC0 ≤ n && n ≤ 0xFFF) then 1 else 3

/-- A CSR as a debugger reads it: the execute-side registers as they stand. -/
def Core.csrNow (c : Core) (v n : Nat) : Option Nat :=
  if n = 0x7C0 then some c.arNow.toNat
  else if n = 0x7C9 then some c.csr.vrstep.toNat
  else if n = 0x7CA then some c.csr.vrbase.toNat
  else if 0x7C1 ≤ n ∧ n ≤ 0x7C4 then some (c.csr.dp.getD (n - 0x7C1) 0).toNat
  else c.csrRead v c.pilot.cycle n

/-- The sequencer items of R168 in its order, 74 for each sequencer, then the pilot's pc, cycle and instret. -/
def Core.seqItem (c : Core) (i : SeqId) (k : Nat) : Nat :=
  let q := c.seq i
  if k = 0 then q.addr
  else if k = 1 then c.beat % 2 ^ 32
  else if k < 17 then q.getX (k - 1)
  else if k < 32 then q.getXS (k - 16)
  else if k < 40 then ((q.loops.find? (fun f => f.ctr == k - 32)).map (·.left)).getD 0
  else if k = 40 then q.stack.length
  else if k = 41 then q.choices.length
  else (c.queue (k - 42)).entries.length

def Core.pilotItem (c : Core) (k : Nat) : Nat :=
  if k = 0 then c.pilot.pc.toNat else if k = 1 then c.pilot.cycle % 2 ^ 32 else c.pilot.instret % 2 ^ 32

/-- Read an item of space 0x0, with the level it needs. -/
def Core.stateItem (c : Core) (v off : Nat) : Option (Nat × Nat) :=
  if off < 0x1000 then (c.csrNow v off).map (fun x => (csrLevel off, x))
  else if off < 0x1020 then some (3, c.pilot.getX (off - 0x1000))
  else if off < 0x1040 then some (3, c.pilot.getF (off - 0x1020))
  else if 0x2000 ≤ off ∧ off < 0x204A then some (1, c.seqItem .execute (off - 0x2000))
  else if 0x204A ≤ off ∧ off < 0x2094 then some (1, c.seqItem .access (off - 0x204A))
  else if 0x2094 ≤ off ∧ off < 0x2097 then some (1, c.pilotItem (off - 0x2094))
  else none

/-- A list brought to a length: what is past it leaves, and `x` fills it up. -/
def resize {α : Type} (l : List α) (n : Nat) (x : α) : List α := l.take n ++ List.replicate (n - l.length) x

/-- Write an item of a sequencer at D3: its address, the beat, X, XS, loop counters, the depths of its call stack and of its choice queue
(frames and choices past the number leave, and zeros fill them up), and a queue's occupancy. -/
def Core.putSeqItem (c : Core) (i : SeqId) (k v : Nat) : Core :=
  let q := c.seq i
  let f (l : LoopFrame) : LoopFrame := if l.ctr = k - 32 then { l with left := v } else l
  if k = 0 then c.setSeq i { q with addr := v % 16384 }
  else if k = 1 then { c with beat := v }
  else if k < 17 then c.setSeq i (q.setX (k - 1) v)
  else if k < 32 then c.setSeq i (q.setXS (k - 16) v)
  else if k < 40 then c.setSeq i { q with loops := q.loops.map f }
  else if k = 40 then c.setSeq i { q with stack := resize q.stack (min v 8) 0 }
  else if k = 41 then c.setSeq i { q with choices := resize q.choices (min v 64) 0 }
  else c.putQueueItem (k - 42) 1 v

/-- Write one of the pilot's items: its pc, cycle or instret. -/
def Core.putPilotItem (c : Core) (k v : Nat) : Core :=
  let p := c.pilot
  { c with pilot := if k = 0 then { p with pc := BitVec.ofNat 32 v }
      else if k = 1 then { p with cycle := putBits p.cycle 0 32 v } else { p with instret := putBits p.instret 0 32 v } }

/-- Write an item of space 0x0 at D3; a read-only register ignores it (R16). -/
def Core.putState (c : Core) (off v : Nat) : Core :=
  if off < 0x1000 then (if isSharedCsr off then c.applyPend ⟨off, BitVec.ofNat 32 v, 0⟩ else c.csrWrite off v)
  else if off < 0x1020 then { c with pilot := c.pilot.setX (off - 0x1000) v 0 }
  else if off < 0x1040 then { c with pilot := c.pilot.setF (off - 0x1020) v 0 }
  else if off < 0x204A then c.putSeqItem .execute (off - 0x2000) v
  else if off < 0x2094 then c.putSeqItem .access (off - 0x204A) v
  else if 0x2094 ≤ off ∧ off < 0x2097 then c.putPilotItem (off - 0x2094) v
  else c.putItem off v

/-- Whether a debugger reaches the state of a virtual core: it is loaded, and the compute dies hold it (R483). In BLANK and RETURNED, with
no lagoons, VCORE names a physical core beside LAGOON 0 (R485, DESIGN CHOICE 39). -/
def State.reaches (s : State) (w : BitVec 128) : Bool :=
  ((s.core (dCore w)).img.used || (s.unowned && decide (dLag w = 0) && decide ((dCore w).v < 288))) && decide (s.power.state < 2)

/-- A core as a debugger finds it: results that are due have landed (R149). -/
def State.debugCore (s : State) (c : CoreId) : State := s.setCore c (s.core c).landDue

/-- DBGACC_STATE: space 0x0; a space that Table 11 does not name is refused here. -/
def execDbgaccState (w : BitVec 128) (s : State) : Host.Outcome State Fault Refusal :=
  .next (s.dbgacc w (dSpace w == 0 || 5 ≤ dSpace w) 1 (fun (t0 : State) =>
    let t := t0.debugCore (dCore w)
    let c := t.core (dCore w)
    if dSpace w ≠ 0 ∨ t.reaches w = false then none
    else match (c.stateItem (dCore w).v (dOff w)).or (t.debugItem (dCore w) (dOff w)) with
      | none => none
      | some (lv, v) =>
        let have_ := t.debugLevel (dLag w)
        if dWrite w then (if have_ < 3 then none else some (((t.setCore (dCore w) (c.putState (dOff w) (dData w))).putShared (dCore w) (dOff w) (dData w)).wrote w, dData w))
        else if have_ < lv then none
        else some (t0, v)))

/-! ## Space 0x1: core memories at D3 -/

/-- Byte i of a number, and with it replaced. -/
def byteAt (x i : Nat) : Byte := BitVec.ofNat 8 (bits x (8 * i) 8)
def putByte (x i : Nat) (b : Byte) : Nat := putBits x (8 * i) 8 b.toNat

/-- Bytes of a core memory (OFFSET [47:40] of Table 11). -/
def Core.memSize (c : Core) (sel : Nat) : Nat :=
  match sel with
  | 0 => 128 * c.tileLines
  | 1 => 256 * c.cacheLines
  | 2 => c.limit (4096 * 128)
  | 3 => 16384 * 8
  | 4 => c.limit 0x40000
  | 5 => 0x20000
  | 6 => 16 * c.accSlots * 256
  | 7 => 16 * 256
  | 8 => 32 * 256 + 8 * 32
  | 9 => c.limit (512 * 128)
  | _ => 0

/-- A byte of a core memory. The B registers follow one another cube by cube, BREG0 before BREG1, 128 bytes each (DESIGN CHOICE 39). The
combining store is the lagoon's (`State.storeByte`). -/
def Core.memByte (c : Core) (sel off : Nat) : Byte :=
  match sel with
  | 0 => byteAt (c.tileLine (off / 128)).data.toNat (off % 128)
  | 1 => byteAt (c.cacheLine (off / 256)).toNat (off % 256)
  | 2 => byteAt (c.queueLine (off / 128)).toNat (off % 128)
  | 3 => byteAt (Sparse.get 0 c.img.prog (off / 8)).toNat (off % 8)
  | 4 => Sparse.get 0 c.pilot.dmem off
  | 5 => Sparse.get 0 c.pilot.imem off
  | 6 => byteAt (Sparse.get 0 (c.cube (off / (c.accSlots * 256))).bank (off / 256 % c.accSlots)).toNat (off % 256)
  | 7 =>
    let k := c.cube (off / 256)
    byteAt (if off / 128 % 2 = 0 then k.b0 else k.b1).data.toNat (off % 128)
  | 8 => if off < 8192 then byteAt (c.vreg (off / 256)).toNat (off % 256) else byteAt (c.mreg ((off - 8192) / 32)).toNat (off % 32)
  | _ => 0

/-- Write a byte of a core memory. -/
def Core.putMem (c : Core) (sel : Nat) (d : Core) (x : Nat × Byte) : Core :=
  let off := x.1
  let b := x.2
  let putCube (k : Nat) (q : Cube) : Core := { d with row := { d.row with cubes := Sparse.set Cube.blank d.row.cubes k q } }
  match sel with
  | 0 =>
    let l := d.tileLine (off / 128)
    d.setTileLine (off / 128) { l with data := BitVec.ofNat 1024 (putByte l.data.toNat (off % 128) b) }
  | 1 => d.setCacheLine (off / 256) (BitVec.ofNat 2048 (putByte (d.cacheLine (off / 256)).toNat (off % 256) b))
  | 2 => d.setQueueLine (off / 128) (BitVec.ofNat 1024 (putByte (d.queueLine (off / 128)).toNat (off % 128) b))
  | 3 =>
    let v := BitVec.ofNat 64 (putByte (Sparse.get 0 d.img.prog (off / 8)).toNat (off % 8) b)
    { d with img := { d.img with prog := Sparse.set 0 d.img.prog (off / 8) v } }
  | 4 => { d with pilot := { d.pilot with dmem := Sparse.set 0 d.pilot.dmem off b } }
  | 5 => { d with pilot := { d.pilot with imem := Sparse.set 0 d.pilot.imem off b } }
  | 6 =>
    let k := off / (c.accSlots * 256)
    let q := d.cube k
    let slot := off / 256 % c.accSlots
    putCube k { q with bank := Sparse.set 0 q.bank slot (BitVec.ofNat 2048 (putByte (Sparse.get 0 q.bank slot).toNat (off % 256) b)) }
  | 7 =>
    let q := d.cube (off / 256)
    let f (l : Line) : Line := { l with data := BitVec.ofNat 1024 (putByte l.data.toNat (off % 128) b) }
    putCube (off / 256) (if off / 128 % 2 = 0 then { q with b0 := f q.b0 } else { q with b1 := f q.b1 })
  | 8 =>
    if off < 8192 then
      let v := BitVec.ofNat 2048 (putByte (d.vreg (off / 256)).toNat (off % 256) b)
      { d with vec := { d.vec with regs := Sparse.set 0 d.vec.regs (off / 256) v } }
    else
      let n := (off - 8192) / 32
      let v := BitVec.ofNat 256 (putByte (d.mreg n).toNat (off % 32) b)
      { d with vec := { d.vec with masks := Sparse.set 0 d.vec.masks n v } }
  | _ => d

/-- The four bytes of a read. -/
def State.debugRead (s : State) (id : CoreId) (sel off : Nat) : Nat :=
  ofBytes ((List.range 4).map (fun k => if sel = 9 then s.storeByte id (off + k) else (s.core id).memByte sel (off + k)))

/-- DBGACC_CORE_MEMORY: space 0x1. -/
def execDbgaccCoreMemory (w : BitVec 128) (s : State) : Host.Outcome State Fault Refusal :=
  .next (s.dbgacc w (dSpace w == 1) 3 (fun (t0 : State) =>
    let t := t0.debugCore (dCore w)
    let c := t.core (dCore w)
    let sel := dOff w / 2 ^ 40
    let off := dOff w % 2 ^ 40
    if t.reaches w = false ∨ c.memSize sel < off + 4 then none
    else if dWrite w then
      let bs := (List.range 4).map (fun k => (off + k, byteAt (dData w) k))
      let u : State := if sel = 9 then bs.foldl (State.putStoreByte (dCore w)) t else t.setCore (dCore w) (bs.foldl (c.putMem sel) c)
      some (u.wrote w, dData w)
    else some (t0, t.debugRead (dCore w) sel off)))

/-! ## Spaces 0x2 and 0x3 -/

/-- DBGACC_PROGRAM_ADDRESS: space 0x2, at D3, in the lagoon's memory; in BLANK and RETURNED, with no lagoons, at the device address that
OFFSET gives beside LAGOON 0 (R485, DESIGN CHOICE 39). -/
def execDbgaccProgramAddress (w : BitVec 128) (s : State) : Host.Outcome State Fault Refusal :=
  .next (s.dbgacc w (dSpace w == 2) 3 (fun (t : State) =>
    let l := dLag w
    let a := dOff w
    if (a < ddrBase ∧ 2 ≤ t.power.state) ∨ 3 ≤ t.power.state then none
    else if t.owned l a (a + 3) = false then
      if t.unowned = true ∧ l = 0 ∧ (t.fitted a && t.fitted (a + 3)) = true then
        if dWrite w then some ((t.writeBytes a (toBytes 4 (dData w))).wrote w, dData w) else some (t, ofBytes (t.readBytes a 4))
      else none
    else if dWrite w then some ((t.writeProg l a (toBytes 4 (dData w))).wrote w, dData w)
    else some (t, ofBytes (t.readProg l a 4))))

/-- DBGACC_OBJECT: space 0x3, the READ objects of R421, which nothing writes. -/
def execDbgaccObject (w : BitVec 128) (s : State) : Host.Outcome State Fault Refusal :=
  .next (s.dbgacc w (dSpace w == 3) 1 (fun (t : State) =>
    let obj := bits (dOff w) 40 8
    let sc := if t.jtag.sel = 0xFF then 0 else 0x10 + t.jtag.sel
    match t.object sc (if obj = 4 ∨ obj = 5 then dLag w else 0xFF) obj (bits (dOff w) 24 16) with
    | .no _ _ => none
    | .bytes b => if dWrite w ∨ b.length ≤ bits (dOff w) 0 24 then none else some (t, ofBytes (objectPart b (bits (dOff w) 0 24) 4))))

/-! ## Space 0x4: control at D2 (R168, R476) -/

/-- A control row: offset k of space 0x4; only a write acts. -/
def State.dbgControl (s : State) (w : BitVec 128) (mine : Bool) (f : State → Core → State) : State :=
  s.dbgacc w (dSpace w == 4 && mine) 2 (fun (t : State) =>
    if t.reaches w = false then none
    else if dWrite w then some (f t (t.core (dCore w)), dData w)
    else some (t, dData w))

def Core.haltX (c : Core) (b : Bool) : Core := { c with ex := { c.ex with halted := b } }
def Core.haltP (c : Core) (b : Bool) : Core := { c with pilot := { c.pilot with halted := b } }

/-- DBGACC_HALT_SEQUENCER: offset 0; offsets that Table 11 does not name are refused here. -/
def execDbgaccHaltSequencer (w : BitVec 128) (s : State) : Host.Outcome State Fault Refusal :=
  .next (if dSpace w = 4 ∧ 6 ≤ dOff w then s.dbgacc w true 2 (fun _ => none)
    else s.dbgControl w (dOff w == 0) (fun (t : State) c => t.setCore (dCore w) (c.haltX true)))

/-- DBGACC_STEP_SEQUENCER: offset 1, one beat of a halted execute sequencer, an empty one after END. -/
def execDbgaccStepSequencer (w : BitVec 128) (s : State) : Host.Outcome State Fault Refusal :=
  .next (s.dbgControl w (dOff w == 1) (fun (t : State) c =>
    if c.ex.halted = false then t
    else
      let u := t.setCore (dCore w) (c.haltX false)
      let v := if c.ex.ended then u.emptyBeat (dCore w) else u.seqIssue (dCore w) .execute
      v.setCore (dCore w) ((v.core (dCore w)).haltX true)))

/-- DBGACC_RESUME_SEQUENCER: offset 2. -/
def execDbgaccResumeSequencer (w : BitVec 128) (s : State) : Host.Outcome State Fault Refusal :=
  .next (s.dbgControl w (dOff w == 2) (fun (t : State) c => t.setCore (dCore w) (c.haltX false)))

/-- DBGACC_HALT_PILOT: offset 3. -/
def execDbgaccHaltPilot (w : BitVec 128) (s : State) : Host.Outcome State Fault Refusal :=
  .next (s.dbgControl w (dOff w == 3) (fun (t : State) c => t.setCore (dCore w) (c.haltP true)))

/-- The class of the instruction at the pilot's pc. -/
def Core.pilotClass (c : Core) : PClass :=
  match c.pilotFetch with
  | .ok (some w, _) => pclass w
  | _ => .plain

/-- DBGACC_STEP_PILOT: offset 4, one instruction of a halted pilot. -/
def execDbgaccStepPilot (w : BitVec 128) (s : State) : Host.Outcome State Fault Refusal :=
  .next (s.dbgControl w (dOff w == 4) (fun (t : State) c =>
    if c.pilot.halted = false then t
    else
      let u := (t.setCore (dCore w) (c.haltP false)).pilotRow (dCore w) c.pilotClass
      (u.setCore (dCore w) ((u.core (dCore w)).haltP true)).coreEnd (dCore w)))

/-- DBGACC_RESUME_PILOT: offset 5. -/
def execDbgaccResumePilot (w : BitVec 128) (s : State) : Host.Outcome State Fault Refusal :=
  .next (s.dbgControl w (dOff w == 5) (fun (t : State) c => t.setCore (dCore w) (c.haltP false)))

end Sys2Proof.Machine
end

