-- ==== Sys2Proof/Machine/Wheels.lean ====
section
/-! DEFINITION. Slot wheels: whom a slot serves, and to whom it is lent (R185 to R189, R204, R206, R229, R442). -/

namespace Sys2Proof.Machine

/-- A slot of the harbour for the granules that its landings and snapshots move; none where no slot is owed on the channel. -/
def State.harbourSlot (s : State) (w : Nat) : Option State :=
  let k := s.wheel w
  if k.owed = 0 then none else some (s.setWheel w { k with owed := k.owed - 1 })

/-- A slot of the harbour for the next granule on the channel of the lagoon's first drain (R442). With its last granule the drain's bytes
are sent. -/
def State.drainSlot (s : State) (l w : Nat) : Option State :=
  match (s.lagoon l).drains with
  | [] => none
  | d :: rest =>
    match d.todo.find? (fun g => (s.translate l (1024 * g)).map wheelOf == some w) with
    | none => none
    | some g =>
      let s1 := match s.badIn l (1024 * g) 1024 with | some a => s.meetBad a l none | none => s
      let d1 := { d with todo := d.todo.erase g, got := Sparse.set [] d.got g (s1.readProg l (1024 * g) 1024) }
      let t := s1.setLagoon l { s1.lagoon l with drains := d1 :: rest }
      some (if d1.todo.isEmpty then t.sendDrain l else t)

/-- Lend a slot, or the DRAM time of a hit, in the order of R188: to the harbour's landings and snapshots, to the lagoon's core with the
oldest waiting transaction, to a drain of the lagoon (R188, R229). Cores run in P0 alone. -/
def State.lend (s : State) (l w : Nat) (bad : Bool) : State :=
  if (s.lagoon l).cfg.steady then s
  else match s.harbourSlot w with
    | some t => t
    | none =>
      match (if s.power.state = 0 then s.oldest l w (fun _ => true) else none) with
      | some (v, o, t) => (s.serveShoal ⟨l, v⟩ o t w bad).1
      | none => (s.drainSlot l w).getD s

/-- Whether a slot is reserved for refresh and maintenance (R185, R189). -/
def slotReserved (w n : Nat) : Bool := if w < 640 then n % 32 == 0 else n % 16 == 0

/-- Whether a channel's wheel turns: HBM's in P0 and P1, DDR5's in P2 too (R206, R442, R443). -/
def State.turns (s : State) (ch : Nat) : Bool :=
  decide (ch < 656) && (decide (s.power.state ≤ 1) || (decide (640 ≤ ch) && decide (s.power.state = 2)))

/-- WHEEL_SLOT (R185 to R189, R204): the next slot of a channel wheel starts. It serves its owner: a core, the channel's reef engine or the
harbour; where that has no work it is lent, and a free slot is lent. In P1 the reef engines work for the harbour alone (R206). -/
def execWheelSlot (ch : Nat) (bad : Bool) (s : State) : Host.Outcome State Fault Refusal :=
  .next (if s.turns ch = false then s
    else
      let k := s.wheel ch
      let own := (Sparse.get 0 k.owners k.pos).toNat
      let s1 := s.setWheel ch { k with pos := (k.pos + 1) % 256 }
      let l := bits own 10 3
      let p := 144 * bits own 9 1 + bits own 0 9
      let lent := s1.lend l ch bad
      if slotReserved ch k.pos ∨ bits own 13 3 = 0 ∨ 4 < bits own 13 3 then s1
      else if bits own 13 3 = 2 then
        match s1.reefWork l ch with
        | some r => s1.reefSlot ch r
        | none => lent
      else if bits own 13 3 = 3 then
        match (s1.harbourSlot ch).or (s1.drainSlot l ch) with
        | some t => t
        | none => lent
      else if bits own 13 3 = 1 ∧ s.power.state = 0 then
        match s1.oldest l ch (fun v => (s1.core ⟨l, v⟩).img.phys == p) with
        | some (v, o, t) =>
          let (s2, idle) := s1.serveShoal ⟨l, v⟩ o t ch bad
          if idle then s2.lend l ch bad else s2
        | none => lent
      else lent)

end Sys2Proof.Machine
end

