-- ==== Sys2Proof/Machine/Reliability.lean ====
section
/-! DEFINITION. Errors, scrubbing, self-tests and substitutions as they come about (R486 to R494). -/

namespace Sys2Proof.Machine

/-- The virtual core that an error in a core names: the first that the physical core at a PLOC carries. -/
def State.plocCore? (s : State) (ploc : Nat) : Option Nat :=
  if bits ploc 12 4 ≠ 1 then none
  else (s.plocLagoon ploc).bind (fun l =>
    (s.vcores l).find? (fun v => (s.core ⟨l, v⟩).img.phys == 144 * bits ploc 8 1 + bits ploc 0 8))

/-- The two regions that a strait or causeway lane joins. -/
def laneEnds (unit ploc : Nat) : Nat × Nat :=
  if unit = 0x30 then
    let d := bits ploc 9 1
    let p := adjacent.getD (Config.boundaryPlace (12 * d + bits ploc 5 4) % 12) (0, 1)
    (9 * d + p.1, 9 * d + p.2)
  else (3 * bits ploc 7 2 + 2, 9 + 3 * bits ploc 7 2)

/-- The key under which the lanes of a PLOC's boundary or group and direction are kept. -/
def laneKey (unit ploc : Nat) : Nat :=
  if unit = 0x30 then (12 * bits ploc 9 1 + bits ploc 5 4) * 2 + bits ploc 4 1 else 2 * bits ploc 7 2 + bits ploc 6 1

/-- The lane that a PLOC names: direction 0 leads from the lower-numbered region (DESIGN CHOICE 40), and passing lanes serve in
ascending physical order (R492). -/
def State.laneAt (s : State) (unit ploc : Nat) : Nat :=
  let e := laneEnds unit ploc
  let m := if unit = 0x30 then s.straits else s.causeway
  let n := if unit = 0x30 then bits ploc 0 4 else bits ploc 0 6
  let low := ((Sparse.get ⟨[]⟩ m (laneKey unit ploc)).failed.filter (fun i => decide (i < n))).length
  let dir := if unit = 0x30 then bits ploc 4 1 else bits ploc 6 1
  if dir = 0 then laneOf e.1 e.2 (n - low) else laneOf e.2 e.1 (n - low)

/-- A lane sends a line again: the oldest item in it is available 24 receiving periods later (R486). -/
def State.laneRetry (s : State) (x : Nat) : State :=
  match s.fabric.items.find? (fun t => t.lanes.head? == some x) with
  | none => s
  | some t => { s with fabric := { s.fabric with
      items := s.fabric.items.map (fun u => if u.id = t.id then { u with placed := u.placed + 24000 } else u) } }

/-- ERROR_CORRECTED (R487). -/
def execErrorCorrected (e : ErrAt) (s : State) : Host.Outcome State Fault Refusal :=
  .next (if s.power.porst then
      let t := s.corrected e.ploc e.unit e.subidx e.word e.bit e.eclass (s.plocLagoon e.ploc) (s.plocCore? e.ploc)
      if e.unit = 0x30 ∨ e.unit = 0x31 then t.laneRetry (t.laneAt e.unit e.ploc) else t
    else s)

/-- The word of a core's state that a mark names, by the unit and the WORD of the error. Banks and B registers belong to the logical
cube that the position in SUBIDX serves (R110). In the sound WORD counts tiles from the head, in a combining store lines; the mark
stays with the tile or the contribution that is there (DEDUCED 86). -/
def State.markWord (s : State) (p : Nat) (e : ErrAt) : Option Nat :=
  let c : Option CoreId := (s.plocLagoon e.ploc).bind (fun l => (s.plocCore? e.ploc).map (fun v => ⟨l, v⟩))
  let spare := (s.physCore p).spare
  let cube := if e.subidx < spare then e.subidx else e.subidx - 1
  if e.unit = 6 ∨ e.unit = 7 then some (cube * 2 ^ 32 + e.word)
  else if e.unit = 0x12 then c.bind (fun i => ((s.core i).row.sound[e.word]?).map DrainTile.key)
  else if e.unit = 0x09 then c.bind (fun i => (s.storeKeys i)[e.word]?)
  else some e.word

/-- Leave a word with its check bits marked bad (R488): an atom of memory, or a word of a core. -/
def State.markBad (s : State) (e : ErrAt) : State :=
  if e.unit = 0x20 ∨ e.unit = 0x28 then { s with rel := { s.rel with bad := (e.addr / 64) :: s.rel.bad.filter (fun a => a != e.addr / 64) } }
  else if bits e.ploc 12 4 = 1 then
    let p := 144 * bits e.ploc 8 1 + bits e.ploc 0 8
    match s.markWord p e with
    | some word => { s with rel := { s.rel with badCore := (p, e.unit, word) :: s.rel.badCore } }
    | none => s
  else s

/-- Whether a scrub or a test may look at a unit: at core state only at a program boundary or in P1 (R489, R490). -/
def State.scrubs (s : State) (e : ErrAt) : Bool :=
  e.unit != 0x38 && bits e.ploc 12 4 == 1 && !(((s.plocLagoon e.ploc).map s.atBoundary).getD true) && s.power.state != 1

/-- A shoal line that cannot be corrected is dropped: event 0x2211 (R231). WORD is the granule. -/
def State.dropLine (s : State) (e : ErrAt) : State :=
  let n := e.word / 2 ^ 27
  (s.setStack n { s.stack n with shoal := (s.stack n).shoal.filter (fun h => h != e.word) }).raise 0x2211 0
    (argM 0x22 e.subidx e.word e.bit 0x02) e.ploc (s.plocLagoon e.ploc) none

/-- ERROR_UNCORRECTABLE (R488): `met` 0, an access by or for the run of the unit's lagoon; otherwise a scrub or a test. An error
in harbour SRAM resets the device; one in a link ends the runs whose traffic was on it; a shoal line is dropped (R231); an item of the
keeper's MRAM, numbered by WORD, counts as absent (R456). -/
def execErrorUncorrectable (e : ErrAt) (met : Nat) (s : State) : Host.Outcome State Fault Refusal :=
  let arg := argM e.unit e.subidx e.word e.bit (if e.eclass = 3 then 3 else 2)
  .next (if s.power.porst = false ∨ (met ≠ 0 ∧ s.scrubs e = true) then s
    else
      let t := s.countError e.ploc e.unit e.subidx e.word e.bit true
      if e.unit = 0x22 then t.dropLine e
      else if e.unit = 0x39 then (t.raise 0x7102 0 arg e.ploc none none).dropItem e.word else
      if e.unit = 0x38 then (t.raise 0x7102 3 arg e.ploc none none).resetDevice true
      else if 0x30 ≤ e.unit ∧ e.unit ≤ 0x33 then
        if e.lagoons = [] then t.raise 0x7102 0 arg e.ploc none none
        else e.lagoons.foldl (fun (a : State) l => if l < 8 then a.fault 0x7102 arg e.ploc l none else a) t
      else match t.plocLagoon e.ploc with
        | some l =>
          if met = 0 ∧ t.runs? l = true then
            (if (t.lagoon l).snap.isSome then t.markBad e else t).fault 0x7102 arg e.ploc l (t.plocCore? e.ploc)
          else (t.markBad e).raise 0x7102 0 arg e.ploc (some l) (t.plocCore? e.ploc)
        | none => (t.markBad e).raise 0x7102 0 arg e.ploc none none)

/-- SCRUB (R489): an atom is read, corrected and written back in the reserved slot that its wheel has come to. `outcome` 1: an error was
corrected; 2: it could not be, and the atom is marked. -/
def execScrub (addr outcome : Nat) (s : State) : Host.Outcome State Fault Refusal :=
  let w := wheelOf addr
  let ploc := plocAddr addr
  let sub := Config.memoryBank addr % 256
  let awake := decide (s.power.state ≤ 1) || (decide (ddrBase ≤ addr) && decide (s.power.state ≤ 2))
  .next (match s.power.porst && awake && slotReserved w (s.wheel w).pos, s.addrOwner addr with
    | true, some o =>
      let lag := if o < 8 then some o else none
      let unit := atomUnit (addr / 64)
      if outcome = 1 then s.corrected ploc unit sub (addr / 1024) 0xFF 0x01 lag none
      else if outcome = 2 then
        let t := s.countError ploc unit sub (addr / 1024) 0xFF true
        (t.markBad ⟨ploc, unit, sub, addr / 1024, 0xFF, 2, addr, []⟩).raise 0x7102 0 (argM unit sub (addr / 1024) 0xFF 0x02) ploc lag none
      else s
    | _, _ => s)

/-! ## Self-tests (R490, R491) -/

/-- The regions that a lagoon owns. -/
def State.ownRegions (s : State) (l : Nat) : List Nat := (List.range 18).filter (fun r => s.regionOwner r == some l)

/-- The lanes that a lagoon's traffic may take: between its regions, to its stacks and to its DDR5 (R27, R28, R290, R292), as the pairs
of regions that they join. -/
def State.joins (s : State) (l : Nat) : List (Nat × Nat) :=
  let rs := s.ownRegions l
  let ways := rs.flatMap (fun r =>
    let p := (regionCores r).headD 0
    rs.map (s.lanesTo p r) ++ (s.ownStacks l).map (fun n => s.lanesToMem p (n * 2 ^ 37)) ++
      (if s.ownChans l = [] then [] else [s.lanesToMem p ddrBase]))
  ways.flatMap (fun w => w.map (fun x => (laneSrc x, laneDst x)))

/-- Whether a lagoon has traffic on a strait or causeway lane. -/
def State.crosses (s : State) (l unit ploc : Nat) : Bool :=
  let e := laneEnds unit ploc
  (s.joins l).any (fun p => p == e || p == (e.2, e.1))

/-- Whether a unit may be tested or replaced now (R41): the lagoon that owns it at present is at a program boundary; for lanes of
straits and causeways, which lagoons share, every lagoon that has traffic on them is (R490). -/
def State.unitFree (s : State) (unit ploc : Nat) : Bool :=
  if unit = 0x30 ∨ unit = 0x31 then (List.range 8).all (fun l => s.atBoundary l || !s.crosses l unit ploc)
  else ((s.plocLagoon ploc).map s.atBoundary).getD true

/-- TARGETED_SELF_TEST: the n-th scheduled test runs and classes the error; one already classed lasting stays so. -/
def execTargetedSelfTest (n : Nat) (pass : Bool) (s : State) : Host.Outcome State Fault Refusal :=
  .next (match s.rel.tests[n]? with
    | none => s
    | some t =>
      if s.power.porst = false ∨ s.unitFree t.unit t.ploc = false then s
      else
        let u : State := { s with rel := { s.rel with tests := s.rel.tests.eraseIdx n } }
        let e := u.rel.log.errs.find? (fun e => e.isFor t.ploc t.unit t.subidx)
        let word := (e.map (·.word)).getD 0
        let b := (e.map (·.bit)).getD 0xFF
        if t.classed then u
        else if pass then u.raise 0x7201 0 (argM t.unit t.subidx word b t.eclass) t.ploc t.lagoon (u.plocCore? t.ploc)
        else u.classLasting t.ploc t.unit t.subidx word b 0x05)

/-! ## Substitutions (R492 to R494) -/

/-- The physical core of a PLOC. -/
def plocPhys (ploc : Nat) : Nat := 144 * bits ploc 8 1 + bits ploc 0 8

/-- A unit has been replaced: the event, the error entry, and the substitution no longer waits. -/
def State.replaced (s : State) (n : Nat) (x : Subst) : State :=
  let t := (s.substituted x.kind x.ploc x.unit x.word x.bit x.eclass).markSpared x.ploc x.unit x.subidx
  { t with rel := { t.rel with substs := t.rel.substs.eraseIdx n } }

/-- No spare is left: what Table 3 of spec/16 says, and the substitution no longer waits. -/
def State.noSpare (s : State) (n : Nat) (f : State → State) : State :=
  let t : State := { s with rel := { s.rel with substs := s.rel.substs.eraseIdx n } }
  f t

/-- A position of a core (kinds 0, 2 and 3): a spare that fails its own test is put out of service. -/
def State.replacePosition (s : State) (n : Nat) (x : Subst) (pass : Bool) : State :=
  let p := plocPhys x.ploc
  let k := s.physCore p
  let lose := s.noSpare n (fun (t : State) => t.replaceCore p x.unit x.word x.bit x.eclass)
  if pass then
    match k.without (s.spent x.kind p) x.kind x.subidx with
    | some (k1, _) => (((({ s with degraded := s.degraded || x.kind == 3 }).setPhys p k1).spend x.kind p).copyPositions p).replaced n x
    | none => lose
  else
    let idle := if x.kind = 0 then (if s.spent 0 p = 0 then some k.spare else none)
      else if x.kind = 2 then (List.range 66).find? (fun i => !(k.banks.contains i) && !(k.banksUsed.contains i))
      else k.lanes.find? (fun i => !(k.dead.contains i))
    match idle.bind (fun i => k.without (s.spent x.kind p) x.kind i) with
    | some (k1, _) => (s.setPhys p k1).spend x.kind p
    | none => lose

/-- A spare core that fails its test is put out of service. -/
def State.dropSpareCore (s : State) (p : Nat) : State :=
  let rs := match s.plocLagoon (plocCore p) with
    | some l => (List.range 18).filter (fun r => s.regionOwner r == some l)
    | none => (List.range 9).map (fun i => 9 * (p / 144) + i)
  match (rs.flatMap regionCores).find? s.spareCore with
  | some q => s.coreOut q
  | none => s

/-- Mark a stack or a DDR5 channel worn. -/
def State.wear (s : State) (ploc : Nat) : State :=
  if bits ploc 12 4 = 7 then s.setChannel (bits ploc 1 4) { s.channel (bits ploc 1 4) with worn := true }
  else
    let n := if bits ploc 12 4 = 5 then bits ploc 0 5 else bits ploc 6 5
    s.setStack n { s.stack n with worn := true }

/-- The lane that serves next when one of the lanes in use fails: the first after the `active` lowest of those that have not failed. -/
def Lanes.idle (x : Lanes) (total active : Nat) : Option Nat :=
  ((List.range total).filter (fun i => !(x.failed.contains i)))[active]?

/-- A region goes out of service at run time: where a die's enabled cores fall below the grade's count, event 0x7302 (R494). -/
def State.loseRegion (s : State) (d b ploc : Nat) : State :=
  let t := s.loseBoundary d b ploc
  if s.gradeCores ≤ s.enabledOf d ∧ t.enabledOf d < t.gradeCores then t.shortfall ((regionCores (farRegion d b)).headD 0) else t

/-- A strait or causeway lane at run time: the spare lane, or what R291 and R293 say where none is left. A spare that fails its own test
is put out of service, and the next is taken (R492). -/
def State.replaceLane (s : State) (n : Nat) (x : Subst) (pass : Bool) : State :=
  let key := laneKey x.unit x.ploc
  if x.kind = 4 then
    let out (t : State) (lane : Nat) : State := { t with straits := failLane t.straits key lane, degraded := true }
    let lane := bits x.ploc 0 4
    match (Sparse.get ⟨[]⟩ s.straits key).idle 9 8 with
    | some i => if pass ∨ i = lane then (out s lane).replaced n x else out s i
    | none => s.noSpare n (fun (t : State) => (out t lane).loseRegion (bits x.ploc 9 1) (bits x.ploc 5 4) x.ploc)
  else
    let out (t : State) (lane : Nat) : State := { t with causeway := failLane t.causeway key lane, degraded := true }
    let lane := bits x.ploc 0 6
    match (Sparse.get ⟨[]⟩ s.causeway key).idle 34 32 with
    | some i => if pass ∨ i = lane then (out s lane).replaced n x else out s i
    | none => s.noSpare n (fun (t : State) => out t lane)

/-- SPARE_SUBSTITUTED (R492): the n-th substitution that waits is made, or its spare fails its test. -/
def execSpareSubstituted (n : Nat) (pass : Bool) (s : State) : Host.Outcome State Fault Refusal :=
  .next (match s.rel.substs[n]? with
    | none => s
    | some x =>
      if s.power.porst = false ∨ s.unitFree x.unit x.ploc = false then s
      else if x.kind = 0 ∨ x.kind = 2 ∨ x.kind = 3 then s.replacePosition n x pass
      else if x.kind = 1 then
        let p := plocPhys x.ploc
        if pass then (s.noSpare n (fun (t : State) => t.replaceCore p x.unit x.word x.bit x.eclass)).markSpared x.ploc x.unit x.subidx
        else s.dropSpareCore p
      else if x.kind = 4 ∨ x.kind = 5 then s.replaceLane n x pass
      else if x.kind = 9 then
        (if pass then (s.spend 9 (x.ploc * 256)).replaced n x else s.noSpare n (fun (t : State) => t.wear x.ploc))
      else
        let place := if x.kind = 8 then x.ploc / 2 * 2 else if x.kind = 7 then x.ploc * 256 else x.ploc * 256 + x.subidx % 256
        if (if x.kind = 7 then 8 else 4) ≤ s.spent x.kind place then s.noSpare n (fun (t : State) => t.wear x.ploc)
        else if pass then (({ s with degraded := s.degraded || x.kind == 8 }).spend x.kind place).replaced n x
        else s.spend x.kind place)

end Sys2Proof.Machine
end

