-- ==== Sys2Proof/Machine/MailRows.lean ====
section
/-! DEFINITION. Mailbox commands as they arrive, wait and run: the window and the reply cache, the order of execution, fences,
and one row for each command (R403, R406 to R411, R419). -/

namespace Sys2Proof.Machine

/-- The item byte of NET, QOS and MACSEC. -/
def Req.item (r : Req) : Nat := r.arg 0 8

/-- NOP. -/
def State.cmdNop (s : State) (r : Req) : State := s.ok r []

/-- CLOSE: the session ends after the reply (R403). -/
def State.cmdClose (s : State) (r : Req) : State := (s.ok r []).endSession r.sid

/-- EVENTS (R424). -/
def State.cmdEvents (s : State) (r : Req) : State :=
  match s.session? r.sid with
  | some x => (s.setSession { x with groups := r.arg 0 16 }).ok r []
  | none => s

/-- What a command does once its prefix has been checked and its fence is met (R410 steps 5 to 8). -/
def State.effect (s : State) (r : Req) : State :=
  match r.op with
  | 0x0001 => s.cmdNop r
  | 0x0002 => s.cmdClose r
  | 0x0003 => s.cmdEvents r
  | 0x0101 => s.cmdConfigure r
  | 0x0102 => s.cmdRelease r
  | 0x0103 => s.cmdLoad r
  | 0x0104 => s.cmdUnload r
  | 0x0105 => s.cmdSeal r
  | 0x0106 => s.cmdStart r
  | 0x0107 => s.cmdPause r
  | 0x0108 => s.cmdResume r
  | 0x0109 => s.cmdStop r
  | 0x010A => s.cmdSetmode r
  | 0x010B => s.cmdWaitRun r
  | 0x0201 => s.cmdRead r
  | 0x0202 => s.cmdXfer r
  | 0x0301 => s.cmdSink r
  | 0x0302 => s.cmdSinkAck r
  | 0x0303 => s.cmdFlush r
  | 0x0304 => s.cmdPath r
  | 0x0305 => s.cmdBatchwin r
  | 0x0401 => s.cmdPower r
  | 0x0402 => s.cmdTide r
  | 0x0403 => if r.item = 0 then s.cmdNetMac r else if r.item = 1 then s.cmdNetLinkLocal r
      else if r.item = 0x11 then s.cmdNetHmpport r else s.cmdNetAddress r
  | 0x0404 => if r.item = 0 then s.cmdQosPriorities r else if r.item = 1 then s.cmdQosDscpMap r else s.cmdQosPfcwd r
  | 0x0405 => if r.item = 0 then s.cmdMacsecEnable r else s.cmdMacsecCak r
  | 0x0406 => s.cmdLighthouse r
  | 0x0407 => if r.arg 8 1 = 0 then s.cmdKeyInstall r else s.cmdKeyRemove r
  | 0x0501 => s.cmdQpCreate r
  | 0x0502 => s.cmdQpDestroy r
  | 0x0503 => s.cmdLrRegister r
  | 0x0504 => s.cmdLrDeregister r
  | 0x0601 => s.cmdLibPut r
  | 0x0701 => s.cmdAttest r
  | 0x0702 => s.cmdDebugOpen r
  | 0x0703 => s.cmdDebugClose r
  | 0x0704 => s.cmdLifecycle r
  | 0x0801 => s.cmdCkSnapshot r
  | 0x0802 => s.cmdCkDrain r
  | 0x0803 => s.cmdCkRestore r
  | 0x0804 => s.cmdPair r
  | 0x0805 => s.cmdCompare r
  | 0x0901 => s.cmdSvcStart r
  | 0x0902 => s.cmdSvcStop r
  | 0x0903 => s.cmdDecide r
  | _ => s.no r 5 0

/-! ## Starting a command (R409 to R411) -/

/-- Run a command: from now on it has started (R403). -/
def State.runCmd (s : State) (r : Req) : State := (s.setPhase r.ref 2 0).effect r

/-- The ledger of the landing region that a fence names. -/
def State.ledger (s : State) (r : Req) : Nat := ((s.lr? r.fregion).map (·.ledger)).getD 0

/-- Whether a fence is met, or none is asked for (R411). -/
def State.fenceMet (s : State) (r : Req) : Bool := r.fregion == 0xFFFF || decide (r.fcount ≤ s.ledger r)

/-- Whether self-tests of a lagoon's units hold back its LOAD or START (R490). -/
def State.underTest (s : State) (r : Req) : Bool :=
  (r.op == 0x0103 || r.op == 0x0106) && s.atBoundary r.lag && s.rel.tests.any (fun t => s.plocLagoon t.ploc == some r.lag)

/-- Whether a command whose fence is met still waits before it starts. -/
def State.mustWait (s : State) (r : Req) : Bool := s.underTest r || s.waitsTurn r

/-- A command starts: steps 1 to 3 of R410, then its fence. FTIMEOUT 0 stands for 10,000 µs. -/
def State.startCmd (s : State) (r : Req) : State :=
  match s.precheck r with
  | some (st, d) => s.no r st d
  | none =>
    if s.fenceMet r then (if s.mustWait r then s else s.runCmd r)
    else s.setPhase r.ref 1 (s.tide.count + (if r.ftimeout = 0 then 10000 else r.ftimeout) * 1000)

/-- Whether a command of a session is the first ordered one that has not been answered. -/
def Session.firstOrdered (x : Session) : Option Cmd := x.cmds.find? (fun c => opOrdered (bodyOp c.body))

/-- COMMAND_START (R409): the first ordered command of a session that waits for its turn starts. -/
def execCommandStart (n : Nat) (s : State) : Host.Outcome State Fault Refusal :=
  .next (match s.session? n with
    | some x =>
      match x.firstOrdered with
      | some c => if c.phase = 0 then s.startCmd (reqOf x c) else s
      | none => s
    | none => s)

/-- A session's command that waits on its fence. -/
def State.fencedCmd (s : State) (n seq : Nat) : Option (Session × Cmd) :=
  (s.session? n).bind (fun x => (x.cmds.find? (fun c => c.seq == seq && c.phase == 1)).map (fun c => (x, c)))

/-- LANDING_FENCE_MET (R411). -/
def execLandingFenceMet (n seq : Nat) (s : State) : Host.Outcome State Fault Refusal :=
  .next (match s.fencedCmd n seq with
    | some (x, c) => if s.fenceMet (reqOf x c) && !s.mustWait (reqOf x c) then s.runCmd (reqOf x c) else s
    | none => s)

/-- LANDING_TIMEOUT (R411): answered with the ledger's low bits and not executed; event 0x5505. -/
def execLandingTimeout (n seq : Nat) (s : State) : Host.Outcome State Fault Refusal :=
  .next (match s.fencedCmd n seq with
    | some (x, c) =>
      let r := reqOf x c
      if c.deadline ≤ s.tide.count ∧ s.fenceMet r = false then
        (s.raise 0x5505 2 (argS seq n) 0 (scopeLagoon x.scope) none).answer r.ref 4 (s.ledger r % 2 ^ 32) 0x5505 []
      else s
    | none => s)

/-! ## Acceptance (R406, R407) -/

/-- A frame of a session to a command's number, from the port to which the command was sent: kind 1 a reply, 9 one sent again. -/
def State.sendReply (s : State) (x : Session) (c : Cmd) (kind : Nat) (body : List Byte) : State :=
  let y := { x with sent := x.sent + 1 }
  (s.setSession y).sendFrame y c.port ⟨kind, x.id, c.seq, body⟩

/-- A reply that is neither cached nor counted as an answer. -/
def State.replyOnly (s : State) (x : Session) (c : Cmd) (status detail : Nat) : State :=
  s.sendReply x c 1 (s.replyBody x.scope (bodyOp c.body) status detail 0 [])

/-- Accept a command; it starts at once if it is free, or the first ordered one of its session. -/
def State.take (s : State) (x : Session) (c : Cmd) : State :=
  let high := max x.high c.seq
  let y : Session := { x with cmds := x.cmds ++ [c], high := high, cache := x.cache.filter (fun k => high < k.seq + 4096) }
  let t := s.setSession y
  if opOrdered (bodyOp c.body) && x.firstOrdered.isSome then t else t.startCmd (reqOf y c)

/-- A COMMAND of a session, by its sequence number. -/
def State.accept (s : State) (x : Session) (c : Cmd) : State :=
  let seq := c.seq
  let low := (x.cmds.map (·.seq)).foldl (fun (a : Option Nat) q => match a with | some m => some (min m q) | none => some q) none
  if seq = 0 ∨ seq + 4096 ≤ x.high then s.replyOnly x c 2 (max 1 (x.high - 4095))
  else if x.high < seq then
    match low with
    | some m => if m + 4096 ≤ seq then s.replyOnly x c 3 m else s.take x c
    | none => s.take x c
  else match x.cache.find? (fun k => k.seq == seq) with
    | some k => s.sendReply x c 9 k.body
    | none => if x.cmds.any (fun k => k.seq == seq) then s else s.take x c

/-- A command whose frame's tag holds, with its prefix; `mine` picks the commands of the row, and others are left to theirs. -/
def State.takeBody (s : State) (x : Session) (c : Cmd) (mine : Req → Bool) : State :=
  if c.body.length < 32 then s.dropFrame
  else if mine (reqOf x c) then
    let y : Session := { x with lastCmd := s.tide.count }
    (s.setSession y).accept y c
  else s

/-- A COMMAND frame (R396): its session and source, its tag under the session's host-to-device key, then its command. -/
def State.cmdRow (s : State) (f : Frame) (mine : Req → Bool) : State :=
  s.checkFrame f 0x10 (fun (s : State) =>
    match s.sessions.find? (fun x => x.id == frameSession f && x.peer == f.src && x.port == f.sport && x.entry == f.entry) with
    | none => s.dropFrame
    | some x =>
      match f.opened x.hd with
      | none => s.rejectFrame f
      | some b => s.takeBody x ⟨frameSeq f, b, 0, 0, f.dport⟩ mine)

/-! ## The commands of Table 8 of spec/13, Table 10's items each with a row -/

/-- NOP; an OP that Table 8 does not name is answered BAD_OPCODE here. -/
def execCmdHmpNop (f : Frame) (s : State) : Host.Outcome State Fault Refusal :=
  .next (s.cmdRow f (fun r => r.op == 1 || (opInfo r.op).isNone))
/-- CLOSE. -/
def execCmdClose (f : Frame) (s : State) : Host.Outcome State Fault Refusal :=
  .next (s.cmdRow f (fun r => r.op == 0x0002))
/-- EVENTS. -/
def execCmdEvents (f : Frame) (s : State) : Host.Outcome State Fault Refusal :=
  .next (s.cmdRow f (fun r => r.op == 0x0003))
/-- CONFIGURE. -/
def execCmdConfigure (f : Frame) (s : State) : Host.Outcome State Fault Refusal :=
  .next (s.cmdRow f (fun r => r.op == 0x0101))
/-- RELEASE. -/
def execCmdRelease (f : Frame) (s : State) : Host.Outcome State Fault Refusal :=
  .next (s.cmdRow f (fun r => r.op == 0x0102))
/-- LOAD. -/
def execCmdLoad (f : Frame) (s : State) : Host.Outcome State Fault Refusal :=
  .next (s.cmdRow f (fun r => r.op == 0x0103))
/-- UNLOAD. -/
def execCmdUnload (f : Frame) (s : State) : Host.Outcome State Fault Refusal :=
  .next (s.cmdRow f (fun r => r.op == 0x0104))
/-- SEAL. -/
def execCmdSeal (f : Frame) (s : State) : Host.Outcome State Fault Refusal :=
  .next (s.cmdRow f (fun r => r.op == 0x0105))
/-- START. -/
def execCmdStart (f : Frame) (s : State) : Host.Outcome State Fault Refusal :=
  .next (s.cmdRow f (fun r => r.op == 0x0106))
/-- PAUSE. -/
def execCmdPause (f : Frame) (s : State) : Host.Outcome State Fault Refusal :=
  .next (s.cmdRow f (fun r => r.op == 0x0107))
/-- RESUME. -/
def execCmdResume (f : Frame) (s : State) : Host.Outcome State Fault Refusal :=
  .next (s.cmdRow f (fun r => r.op == 0x0108))
/-- STOP. -/
def execCmdStop (f : Frame) (s : State) : Host.Outcome State Fault Refusal :=
  .next (s.cmdRow f (fun r => r.op == 0x0109))
/-- SETMODE. -/
def execCmdSetmode (f : Frame) (s : State) : Host.Outcome State Fault Refusal :=
  .next (s.cmdRow f (fun r => r.op == 0x010A))
/-- WAIT_RUN. -/
def execCmdWaitRun (f : Frame) (s : State) : Host.Outcome State Fault Refusal :=
  .next (s.cmdRow f (fun r => r.op == 0x010B))
/-- READ. -/
def execCmdRead (f : Frame) (s : State) : Host.Outcome State Fault Refusal :=
  .next (s.cmdRow f (fun r => r.op == 0x0201))
/-- XFER. -/
def execCmdXfer (f : Frame) (s : State) : Host.Outcome State Fault Refusal :=
  .next (s.cmdRow f (fun r => r.op == 0x0202))
/-- SINK. -/
def execCmdSink (f : Frame) (s : State) : Host.Outcome State Fault Refusal :=
  .next (s.cmdRow f (fun r => r.op == 0x0301))
/-- SINK_ACK. -/
def execCmdSinkAck (f : Frame) (s : State) : Host.Outcome State Fault Refusal :=
  .next (s.cmdRow f (fun r => r.op == 0x0302))
/-- FLUSH. -/
def execCmdFlush (f : Frame) (s : State) : Host.Outcome State Fault Refusal :=
  .next (s.cmdRow f (fun r => r.op == 0x0303))
/-- PATH. -/
def execCmdPath (f : Frame) (s : State) : Host.Outcome State Fault Refusal :=
  .next (s.cmdRow f (fun r => r.op == 0x0304))
/-- BATCHWIN. -/
def execCmdBatchwin (f : Frame) (s : State) : Host.Outcome State Fault Refusal :=
  .next (s.cmdRow f (fun r => r.op == 0x0305))
/-- POWER to P0, and to a state that does not exist. -/
def execCmdPowerP0 (f : Frame) (s : State) : Host.Outcome State Fault Refusal :=
  .next (s.cmdRow f (fun r => r.op == 0x0401 && (r.arg 0 3 == 0 || decide (4 ≤ r.arg 0 3))))
/-- POWER to P1. -/
def execCmdPowerP1 (f : Frame) (s : State) : Host.Outcome State Fault Refusal :=
  .next (s.cmdRow f (fun r => r.op == 0x0401 && (r.arg 0 3 == 1)))
/-- POWER to P2. -/
def execCmdPowerP2 (f : Frame) (s : State) : Host.Outcome State Fault Refusal :=
  .next (s.cmdRow f (fun r => r.op == 0x0401 && (r.arg 0 3 == 2)))
/-- POWER to P3. -/
def execCmdPowerP3 (f : Frame) (s : State) : Host.Outcome State Fault Refusal :=
  .next (s.cmdRow f (fun r => r.op == 0x0401 && (r.arg 0 3 == 3)))
/-- TIDE. -/
def execCmdTide (f : Frame) (s : State) : Host.Outcome State Fault Refusal :=
  .next (s.cmdRow f (fun r => r.op == 0x0402))
/-- NET item 0x00, and items that do not exist. -/
def execCmdNetMac (f : Frame) (s : State) : Host.Outcome State Fault Refusal :=
  .next (s.cmdRow f (fun r => r.op == 0x0403 && (r.item == 0 || decide (0x12 ≤ r.item))))
/-- NET item 0x01. -/
def execCmdNetLinkLocal (f : Frame) (s : State) : Host.Outcome State Fault Refusal :=
  .next (s.cmdRow f (fun r => r.op == 0x0403 && (r.item == 1)))
/-- NET items 0x02 to 0x10. -/
def execCmdNetAddress (f : Frame) (s : State) : Host.Outcome State Fault Refusal :=
  .next (s.cmdRow f (fun r => r.op == 0x0403 && (inRange r.item 2 0x10)))
/-- NET item 0x11. -/
def execCmdNetHmpport (f : Frame) (s : State) : Host.Outcome State Fault Refusal :=
  .next (s.cmdRow f (fun r => r.op == 0x0403 && (r.item == 0x11)))
/-- QOS item 0x00, and items that do not exist. -/
def execCmdQosPriorities (f : Frame) (s : State) : Host.Outcome State Fault Refusal :=
  .next (s.cmdRow f (fun r => r.op == 0x0404 && (r.item == 0 || decide (3 ≤ r.item))))
/-- QOS item 0x01. -/
def execCmdQosDscpMap (f : Frame) (s : State) : Host.Outcome State Fault Refusal :=
  .next (s.cmdRow f (fun r => r.op == 0x0404 && (r.item == 1)))
/-- QOS item 0x02. -/
def execCmdQosPfcwd (f : Frame) (s : State) : Host.Outcome State Fault Refusal :=
  .next (s.cmdRow f (fun r => r.op == 0x0404 && (r.item == 2)))
/-- MACSEC item 0x00, and items that do not exist. -/
def execCmdMacsecEnable (f : Frame) (s : State) : Host.Outcome State Fault Refusal :=
  .next (s.cmdRow f (fun r => r.op == 0x0405 && (r.item != 1)))
/-- MACSEC item 0x01. -/
def execCmdMacsecCak (f : Frame) (s : State) : Host.Outcome State Fault Refusal :=
  .next (s.cmdRow f (fun r => r.op == 0x0405 && (r.item == 1)))
/-- LIGHTHOUSE. -/
def execCmdLighthouse (f : Frame) (s : State) : Host.Outcome State Fault Refusal :=
  .next (s.cmdRow f (fun r => r.op == 0x0406))
/-- TENANT_KEY with bit 8 clear. -/
def execCmdTenantKeyInstall (f : Frame) (s : State) : Host.Outcome State Fault Refusal :=
  .next (s.cmdRow f (fun r => r.op == 0x0407 && (r.arg 8 1 == 0)))
/-- TENANT_KEY with bit 8 set. -/
def execCmdTenantKeyRemove (f : Frame) (s : State) : Host.Outcome State Fault Refusal :=
  .next (s.cmdRow f (fun r => r.op == 0x0407 && (r.arg 8 1 == 1)))
/-- QP_CREATE. -/
def execCmdQpCreate (f : Frame) (s : State) : Host.Outcome State Fault Refusal :=
  .next (s.cmdRow f (fun r => r.op == 0x0501))
/-- QP_DESTROY. -/
def execCmdQpDestroy (f : Frame) (s : State) : Host.Outcome State Fault Refusal :=
  .next (s.cmdRow f (fun r => r.op == 0x0502))
/-- LR_REGISTER. -/
def execCmdLrRegister (f : Frame) (s : State) : Host.Outcome State Fault Refusal :=
  .next (s.cmdRow f (fun r => r.op == 0x0503))
/-- LR_DEREGISTER. -/
def execCmdLrDeregister (f : Frame) (s : State) : Host.Outcome State Fault Refusal :=
  .next (s.cmdRow f (fun r => r.op == 0x0504))
/-- LIB_PUT. -/
def execCmdLibPut (f : Frame) (s : State) : Host.Outcome State Fault Refusal :=
  .next (s.cmdRow f (fun r => r.op == 0x0601))
/-- ATTEST. -/
def execCmdAttest (f : Frame) (s : State) : Host.Outcome State Fault Refusal :=
  .next (s.cmdRow f (fun r => r.op == 0x0701))
/-- DEBUG_OPEN. -/
def execCmdDebugOpen (f : Frame) (s : State) : Host.Outcome State Fault Refusal :=
  .next (s.cmdRow f (fun r => r.op == 0x0702))
/-- DEBUG_CLOSE. -/
def execCmdDebugClose (f : Frame) (s : State) : Host.Outcome State Fault Refusal :=
  .next (s.cmdRow f (fun r => r.op == 0x0703))
/-- LIFECYCLE to a state other than RETURNED. -/
def execCmdLifecycleDeploy (f : Frame) (s : State) : Host.Outcome State Fault Refusal :=
  .next (s.cmdRow f (fun r => r.op == 0x0704 && (r.arg 0 2 != 3)))
/-- LIFECYCLE to RETURNED. -/
def execCmdLifecycleReturn (f : Frame) (s : State) : Host.Outcome State Fault Refusal :=
  .next (s.cmdRow f (fun r => r.op == 0x0704 && (r.arg 0 2 == 3)))
/-- CK_SNAPSHOT. -/
def execCmdCkSnapshot (f : Frame) (s : State) : Host.Outcome State Fault Refusal :=
  .next (s.cmdRow f (fun r => r.op == 0x0801))
/-- CK_DRAIN. -/
def execCmdCkDrain (f : Frame) (s : State) : Host.Outcome State Fault Refusal :=
  .next (s.cmdRow f (fun r => r.op == 0x0802))
/-- CK_RESTORE. -/
def execCmdCkRestore (f : Frame) (s : State) : Host.Outcome State Fault Refusal :=
  .next (s.cmdRow f (fun r => r.op == 0x0803))
/-- PAIR. -/
def execCmdPair (f : Frame) (s : State) : Host.Outcome State Fault Refusal :=
  .next (s.cmdRow f (fun r => r.op == 0x0804))
/-- COMPARE. -/
def execCmdCompare (f : Frame) (s : State) : Host.Outcome State Fault Refusal :=
  .next (s.cmdRow f (fun r => r.op == 0x0805))
/-- SVC_START. -/
def execCmdSvcStart (f : Frame) (s : State) : Host.Outcome State Fault Refusal :=
  .next (s.cmdRow f (fun r => r.op == 0x0901))
/-- SVC_STOP. -/
def execCmdSvcStop (f : Frame) (s : State) : Host.Outcome State Fault Refusal :=
  .next (s.cmdRow f (fun r => r.op == 0x0902))
/-- DECIDE. -/
def execCmdDecide (f : Frame) (s : State) : Host.Outcome State Fault Refusal :=
  .next (s.cmdRow f (fun r => r.op == 0x0903))

end Sys2Proof.Machine
end

