-- ==== Sys2Proof/Machine/SlotRows.lean ====
section
/-! DEFINITION. The rows of single slots: the matrix row and its cubes, the B path, vector compute and vector moves. A
slot row commands one slot by its syllable at the present beat of the execute sequencer (DEDUCED 21). -/

namespace Sys2Proof.Machine

/-- Take a slot's charge from the context's bucket at its issue; it waits where the bucket holds less (R352, R354). -/
def Core.charged (k : Core) (w : Slot) (r : Res Core) : Res Core :=
  r.bind (fun d => if k.guardLu < slotCharge k d w then .wait .guard 0 else .ok { d with guardLu := k.guardLu - slotCharge k d w })

/-- Issue one slot by itself at the present beat, results due by now having landed. -/
def State.slot (s : State) (c : CoreId) (w : Slot) (f : Core → Res Core) : State :=
  if s.issues c && !(s.core c).ex.halted then s.act c false (fun k => k.landDue.charged w (f k.landDue)) else s

/-- A VEC slot whose operation is that of its row (Table 5 of spec/05, Table 3 of spec/04). -/
def State.vecSlot (s : State) (c : CoreId) (vop : Nat) (w : BitVec 64) : State :=
  s.slot c (.vec w) (fun k => k.issueVec c.v (s.envelopeOk c) { VOp.ofSyl (effVec k.ex w) with vop := vop })

/-- A VMOVE slot whose operation is that of its row. -/
def State.moveSlot (s : State) (c : CoreId) (vop : Nat) (w : BitVec 64) : State :=
  s.slot c (.vmove w) (fun k => k.issueMove (s.envelopeOk c) { VOp.ofSyl (effVec k.ex w) with vop := vop })

/-- The B-path syllable with its KIND set to that of its row: 1 SET, 2 ONE, 3 ACCLOAD (R96). -/
def withBopKind (kind : Nat) (w : BitVec 64) : BitVec 64 := BitVec.ofNat 64 (putBits w.toNat 46 2 kind)

/-- A B-path slot of a kind. -/
def State.bSlot (s : State) (c : CoreId) (kind : Nat) (w : BitVec 64) : State :=
  s.slot c (.bpath w) (fun k => k.issueBpath (effBpath k k.ex (withBopKind kind w)))

/-! ## The matrix row -/

/-- A_TILE_ISSUE (R92): a MATRIX slot issues an A tile after its checks (R59, R68, R90, R94, R104). -/
def execATileIssue (c : CoreId) (w : BitVec 64) (s : State) : Host.Outcome State Fault Refusal :=
  .next (s.slot c (.matrix w) (fun k => k.issueMatrix (effMatrix k k.ex w)))

/-- Whether the execute sequencer's next bundle waits until the sound takes or holds another tile. -/
def State.soundWaits (s : State) (c : CoreId) : Bool :=
  let k := (s.core c).landDue
  (k.bundleWaits (s.ctx c) .execute (k.bundle .execute)).any (fun w => w.1 = .soundEmpty ∨ w.1 = .soundFull)

/-- The core as the sound meets it: while the next bundle waits for the sound the beats of earlier pops run out (R130). -/
def State.soundCoreOf (s : State) (c : CoreId) (o : Core) : Core :=
  if o.row.freeing.isEmpty || o.ex.ended || !s.soundWaits c then o else { o with row := { o.row with freeing := [] } }

/-- Whether the row and the sound can do nothing more with the reads of the beats that have issued, while the next bundle waits for them:
so much is the same for every order of their steps (R109, R113). -/
def State.rowStuck (s : State) (c : CoreId) (o : Core) : Bool :=
  s.soundWaits c && (List.range 16).all (fun j => !o.cubeReady j) && (s.soundCoreOf c o).nextSound.isNone

/-- The core as cube k meets it. Where the next bundle waits for the sound, and the row can go on no further without a read whose
beat cannot come before the next drained tile (u, n) of the fixed order, what the B path writes on that tile's way is read now, from
what tile memory holds at the read's own beat (R97, R101, R107; DEDUCED 27). `o` is the core in the state. -/
def State.rowCoreOf (s : State) (c : CoreId) (k : Nat) (o : Core) : Core :=
  let q := (o.cube k).pos
  match o.row.order with
  | [] => o
  | (u, n) :: _ => if o.readsDone k q || o.ex.ended || n < k || u + k < q || !s.rowStuck c o then o else o.takeReads k q

def State.rowCore (s : State) (c : CoreId) (k : Nat) : Core := s.rowCoreOf c k (s.core c)

def State.soundCore (s : State) (c : CoreId) : Core := s.soundCoreOf c (s.core c)

/-- CUBE_ACT (R85, R102): cube k acts at its next beat position; an exact-sum overflow raises 0x1103 (R72). -/
def execCubeAct (c : CoreId) (k : Nat) (s : State) : Host.Outcome State Fault Refusal :=
  .next (
    let o := s.rowCore c k
    if s.paced c && k < 16 && o.cubeReady k then
      let t := s.act c false (fun x => .ok ((s.rowCoreOf c k x).cubeAct k))
      if o.cubeOverflows k then
        t.raise 0x1103 0 ((o.cube k).pos % 2 ^ 32 * 2 ^ 32 + k) (plocCore o.img.phys) (some c.lagoon) (some c.v)
      else t
    else s)

/-- SET (R97). -/
def execSetB (c : CoreId) (w : BitVec 64) (s : State) : Host.Outcome State Fault Refusal := .next (s.bSlot c 1 w)
/-- ONE (R97). -/
def execOneB (c : CoreId) (w : BitVec 64) (s : State) : Host.Outcome State Fault Refusal := .next (s.bSlot c 2 w)
/-- ACCLOAD (R98). -/
def execAccload (c : CoreId) (w : BitVec 64) (s : State) : Host.Outcome State Fault Refusal := .next (s.bSlot c 3 w)

/-- SOUND_ENTRY (R105): the next drained tile enters the sound when it is drained and there is room. -/
def execSoundEntry (c : CoreId) (s : State) : Host.Outcome State Fault Refusal :=
  .next (if s.paced c && (s.soundCore c).nextSound.isSome then s.act c false (fun x => .ok (s.soundCoreOf c x).soundEntry) else s)

/-! ## Vector compute -/

/-- ADD (R124), opcode 0x01. -/
def execVAdd (c : CoreId) (w : BitVec 64) (s : State) : Host.Outcome State Fault Refusal := .next (s.vecSlot c 0x01 w)
/-- SUB (R124), opcode 0x02. -/
def execVSub (c : CoreId) (w : BitVec 64) (s : State) : Host.Outcome State Fault Refusal := .next (s.vecSlot c 0x02 w)
/-- MUL (R124), opcode 0x03. -/
def execVMul (c : CoreId) (w : BitVec 64) (s : State) : Host.Outcome State Fault Refusal := .next (s.vecSlot c 0x03 w)
/-- FMA (R124), opcode 0x04. -/
def execVFma (c : CoreId) (w : BitVec 64) (s : State) : Host.Outcome State Fault Refusal := .next (s.vecSlot c 0x04 w)
/-- NEG (R124), opcode 0x05. -/
def execVNeg (c : CoreId) (w : BitVec 64) (s : State) : Host.Outcome State Fault Refusal := .next (s.vecSlot c 0x05 w)
/-- ABS (R124), opcode 0x06. -/
def execVAbs (c : CoreId) (w : BitVec 64) (s : State) : Host.Outcome State Fault Refusal := .next (s.vecSlot c 0x06 w)
/-- ADDS (R124), opcode 0x08. -/
def execVAdds (c : CoreId) (w : BitVec 64) (s : State) : Host.Outcome State Fault Refusal := .next (s.vecSlot c 0x08 w)
/-- SUBS (R124), opcode 0x09. -/
def execVSubs (c : CoreId) (w : BitVec 64) (s : State) : Host.Outcome State Fault Refusal := .next (s.vecSlot c 0x09 w)
/-- MULS (R124), opcode 0x0A. -/
def execVMuls (c : CoreId) (w : BitVec 64) (s : State) : Host.Outcome State Fault Refusal := .next (s.vecSlot c 0x0A w)
/-- SHL (R124), opcode 0x10. -/
def execVShl (c : CoreId) (w : BitVec 64) (s : State) : Host.Outcome State Fault Refusal := .next (s.vecSlot c 0x10 w)
/-- SHR (R124), opcode 0x11. -/
def execVShr (c : CoreId) (w : BitVec 64) (s : State) : Host.Outcome State Fault Refusal := .next (s.vecSlot c 0x11 w)
/-- SAR (R124), opcode 0x12. -/
def execVSar (c : CoreId) (w : BitVec 64) (s : State) : Host.Outcome State Fault Refusal := .next (s.vecSlot c 0x12 w)
/-- AND (R124), opcode 0x13. -/
def execVAnd (c : CoreId) (w : BitVec 64) (s : State) : Host.Outcome State Fault Refusal := .next (s.vecSlot c 0x13 w)
/-- OR (R124), opcode 0x14. -/
def execVOr (c : CoreId) (w : BitVec 64) (s : State) : Host.Outcome State Fault Refusal := .next (s.vecSlot c 0x14 w)
/-- XOR (R124), opcode 0x15. -/
def execVXor (c : CoreId) (w : BitVec 64) (s : State) : Host.Outcome State Fault Refusal := .next (s.vecSlot c 0x15 w)
/-- MIN (R81), opcode 0x18. -/
def execVMin (c : CoreId) (w : BitVec 64) (s : State) : Host.Outcome State Fault Refusal := .next (s.vecSlot c 0x18 w)
/-- MAX (R81), opcode 0x19. -/
def execVMax (c : CoreId) (w : BitVec 64) (s : State) : Host.Outcome State Fault Refusal := .next (s.vecSlot c 0x19 w)
/-- EQ (R120), opcode 0x20. -/
def execVEq (c : CoreId) (w : BitVec 64) (s : State) : Host.Outcome State Fault Refusal := .next (s.vecSlot c 0x20 w)
/-- NE (R120), opcode 0x21. -/
def execVNe (c : CoreId) (w : BitVec 64) (s : State) : Host.Outcome State Fault Refusal := .next (s.vecSlot c 0x21 w)
/-- LT (R120), opcode 0x22. -/
def execVLt (c : CoreId) (w : BitVec 64) (s : State) : Host.Outcome State Fault Refusal := .next (s.vecSlot c 0x22 w)
/-- LE (R120), opcode 0x23. -/
def execVLe (c : CoreId) (w : BitVec 64) (s : State) : Host.Outcome State Fault Refusal := .next (s.vecSlot c 0x23 w)
/-- TOTLT (R124), opcode 0x24. -/
def execVTotlt (c : CoreId) (w : BitVec 64) (s : State) : Host.Outcome State Fault Refusal := .next (s.vecSlot c 0x24 w)
/-- SEL (R124), opcode 0x28. -/
def execVSel (c : CoreId) (w : BitVec 64) (s : State) : Host.Outcome State Fault Refusal := .next (s.vecSlot c 0x28 w)
/-- CVT (R525), opcode 0x30. -/
def execVCvt (c : CoreId) (w : BitVec 64) (s : State) : Host.Outcome State Fault Refusal := .next (s.vecSlot c 0x30 w)
/-- EXP (R125), opcode 0x38. -/
def execVExp (c : CoreId) (w : BitVec 64) (s : State) : Host.Outcome State Fault Refusal := .next (s.vecSlot c 0x38 w)
/-- EXP2 (R125), opcode 0x39. -/
def execVExp2 (c : CoreId) (w : BitVec 64) (s : State) : Host.Outcome State Fault Refusal := .next (s.vecSlot c 0x39 w)
/-- LN (R125), opcode 0x3A. -/
def execVLn (c : CoreId) (w : BitVec 64) (s : State) : Host.Outcome State Fault Refusal := .next (s.vecSlot c 0x3A w)
/-- LOG2 (R125), opcode 0x3B. -/
def execVLog2 (c : CoreId) (w : BitVec 64) (s : State) : Host.Outcome State Fault Refusal := .next (s.vecSlot c 0x3B w)
/-- RCP (R125), opcode 0x3C. -/
def execVRcp (c : CoreId) (w : BitVec 64) (s : State) : Host.Outcome State Fault Refusal := .next (s.vecSlot c 0x3C w)
/-- SQRT (R125), opcode 0x3D. -/
def execVSqrt (c : CoreId) (w : BitVec 64) (s : State) : Host.Outcome State Fault Refusal := .next (s.vecSlot c 0x3D w)
/-- RSQRT (R125), opcode 0x3E. -/
def execVRsqrt (c : CoreId) (w : BitVec 64) (s : State) : Host.Outcome State Fault Refusal := .next (s.vecSlot c 0x3E w)
/-- TANH (R125), opcode 0x3F. -/
def execVTanh (c : CoreId) (w : BitVec 64) (s : State) : Host.Outcome State Fault Refusal := .next (s.vecSlot c 0x3F w)
/-- LOGISTIC (R125), opcode 0x40. -/
def execVLogistic (c : CoreId) (w : BitVec 64) (s : State) : Host.Outcome State Fault Refusal := .next (s.vecSlot c 0x40 w)
/-- ERF (R125), opcode 0x41. -/
def execVErf (c : CoreId) (w : BitVec 64) (s : State) : Host.Outcome State Fault Refusal := .next (s.vecSlot c 0x41 w)
/-- RSUM (R134), opcode 0x48. -/
def execVRsum (c : CoreId) (w : BitVec 64) (s : State) : Host.Outcome State Fault Refusal := .next (s.vecSlot c 0x48 w)
/-- RMAX (R134), opcode 0x49. -/
def execVRmax (c : CoreId) (w : BitVec 64) (s : State) : Host.Outcome State Fault Refusal := .next (s.vecSlot c 0x49 w)
/-- RMIN (R134), opcode 0x4A. -/
def execVRmin (c : CoreId) (w : BitVec 64) (s : State) : Host.Outcome State Fault Refusal := .next (s.vecSlot c 0x4A w)
/-- COMPRESS (R131), opcode 0x50. -/
def execVCompress (c : CoreId) (w : BitVec 64) (s : State) : Host.Outcome State Fault Refusal := .next (s.vecSlot c 0x50 w)
/-- EXPAND (R132), opcode 0x51. -/
def execVExpand (c : CoreId) (w : BitVec 64) (s : State) : Host.Outcome State Fault Refusal := .next (s.vecSlot c 0x51 w)
/-- COMPRESS_Q (R133), opcode 0x52. -/
def execVCompressQ (c : CoreId) (w : BitVec 64) (s : State) : Host.Outcome State Fault Refusal := .next (s.vecSlot c 0x52 w)
/-- EXPAND_Q (R133), opcode 0x53. -/
def execVExpandQ (c : CoreId) (w : BitVec 64) (s : State) : Host.Outcome State Fault Refusal := .next (s.vecSlot c 0x53 w)
/-- FLUSH_OQ (R133), opcode 0x54. -/
def execVFlushOq (c : CoreId) (w : BitVec 64) (s : State) : Host.Outcome State Fault Refusal := .next (s.vecSlot c 0x54 w)
/-- SUMM (R135), opcode 0x58. -/
def execVSumm (c : CoreId) (w : BitVec 64) (s : State) : Host.Outcome State Fault Refusal := .next (s.vecSlot c 0x58 w)

/-! ## Vector moves -/

/-- LDC (R148), opcode 0x80. -/
def execVLdc (c : CoreId) (w : BitVec 64) (s : State) : Host.Outcome State Fault Refusal := .next (s.moveSlot c 0x80 w)
/-- STC (R148), opcode 0x81. -/
def execVStc (c : CoreId) (w : BitVec 64) (s : State) : Host.Outcome State Fault Refusal := .next (s.moveSlot c 0x81 w)
/-- LDT (R148), opcode 0x82. -/
def execVLdt (c : CoreId) (w : BitVec 64) (s : State) : Host.Outcome State Fault Refusal := .next (s.moveSlot c 0x82 w)
/-- STT (R123), opcode 0x83. -/
def execVStt (c : CoreId) (w : BitVec 64) (s : State) : Host.Outcome State Fault Refusal := .next (s.moveSlot c 0x83 w)
/-- SPOP_W (R129), opcode 0x84. -/
def execVSpopW (c : CoreId) (w : BitVec 64) (s : State) : Host.Outcome State Fault Refusal := .next (s.moveSlot c 0x84 w)
/-- SPOP_P (R129), opcode 0x85. -/
def execVSpopP (c : CoreId) (w : BitVec 64) (s : State) : Host.Outcome State Fault Refusal := .next (s.moveSlot c 0x85 w)
/-- QPOP (R148), opcode 0x86. -/
def execVQpop (c : CoreId) (w : BitVec 64) (s : State) : Host.Outcome State Fault Refusal := .next (s.moveSlot c 0x86 w)
/-- QPUSH (R148), opcode 0x87. -/
def execVQpush (c : CoreId) (w : BitVec 64) (s : State) : Host.Outcome State Fault Refusal := .next (s.moveSlot c 0x87 w)

end Sys2Proof.Machine
end

