-- ==== Sys2Proof/Machine/Dispatch.lean ====
section
/-! DEFINITION. The dispatch of commands: one arm for each row of the table. -/

namespace Sys2Proof.Machine

def exec (i : Instr) (s : State) : Host.Outcome State Fault Refusal :=
  match i with
  | .nop c q => Sys2Proof.Machine.execNop c q s
  | .repeatBundle c q => Sys2Proof.Machine.execRepeatBundle c q s
  | .loop c q => Sys2Proof.Machine.execLoop c q s
  | .call c q => Sys2Proof.Machine.execCall c q s
  | .ret c q => Sys2Proof.Machine.execRet c q s
  | .select c q => Sys2Proof.Machine.execSelect c q s
  | .setx c q => Sys2Proof.Machine.execSetx c q s
  | .take c q => Sys2Proof.Machine.execTake c q s
  | .bset c q => Sys2Proof.Machine.execBset c q s
  | .bclr c q => Sys2Proof.Machine.execBclr c q s
  | .bwaitSet c q => Sys2Proof.Machine.execBwaitSet c q s
  | .bwaitClear c q => Sys2Proof.Machine.execBwaitClear c q s
  | .bwaitTally c q => Sys2Proof.Machine.execBwaitTally c q s
  | .fence c q => Sys2Proof.Machine.execFence c q s
  | .barrier c q => Sys2Proof.Machine.execBarrier c q s
  | .cancel c q => Sys2Proof.Machine.execCancel c q s
  | .qmark c q => Sys2Proof.Machine.execQmark c q s
  | .qmatch c q => Sys2Proof.Machine.execQmatch c q s
  | .endStream c q => Sys2Proof.Machine.execEndStream c q s
  | .emptyBeat c => Sys2Proof.Machine.execEmptyBeat c s
  | .aTileIssue c w => Sys2Proof.Machine.execATileIssue c w s
  | .cubeAct c k => Sys2Proof.Machine.execCubeAct c k s
  | .setB c w => Sys2Proof.Machine.execSetB c w s
  | .oneB c w => Sys2Proof.Machine.execOneB c w s
  | .accload c w => Sys2Proof.Machine.execAccload c w s
  | .soundEntry c => Sys2Proof.Machine.execSoundEntry c s
  | .vAdd c w => Sys2Proof.Machine.execVAdd c w s
  | .vSub c w => Sys2Proof.Machine.execVSub c w s
  | .vMul c w => Sys2Proof.Machine.execVMul c w s
  | .vFma c w => Sys2Proof.Machine.execVFma c w s
  | .vNeg c w => Sys2Proof.Machine.execVNeg c w s
  | .vAbs c w => Sys2Proof.Machine.execVAbs c w s
  | .vAdds c w => Sys2Proof.Machine.execVAdds c w s
  | .vSubs c w => Sys2Proof.Machine.execVSubs c w s
  | .vMuls c w => Sys2Proof.Machine.execVMuls c w s
  | .vShl c w => Sys2Proof.Machine.execVShl c w s
  | .vShr c w => Sys2Proof.Machine.execVShr c w s
  | .vSar c w => Sys2Proof.Machine.execVSar c w s
  | .vAnd c w => Sys2Proof.Machine.execVAnd c w s
  | .vOr c w => Sys2Proof.Machine.execVOr c w s
  | .vXor c w => Sys2Proof.Machine.execVXor c w s
  | .vMin c w => Sys2Proof.Machine.execVMin c w s
  | .vMax c w => Sys2Proof.Machine.execVMax c w s
  | .vEq c w => Sys2Proof.Machine.execVEq c w s
  | .vNe c w => Sys2Proof.Machine.execVNe c w s
  | .vLt c w => Sys2Proof.Machine.execVLt c w s
  | .vLe c w => Sys2Proof.Machine.execVLe c w s
  | .vTotlt c w => Sys2Proof.Machine.execVTotlt c w s
  | .vSel c w => Sys2Proof.Machine.execVSel c w s
  | .vCvt c w => Sys2Proof.Machine.execVCvt c w s
  | .vExp c w => Sys2Proof.Machine.execVExp c w s
  | .vExp2 c w => Sys2Proof.Machine.execVExp2 c w s
  | .vLn c w => Sys2Proof.Machine.execVLn c w s
  | .vLog2 c w => Sys2Proof.Machine.execVLog2 c w s
  | .vRcp c w => Sys2Proof.Machine.execVRcp c w s
  | .vSqrt c w => Sys2Proof.Machine.execVSqrt c w s
  | .vRsqrt c w => Sys2Proof.Machine.execVRsqrt c w s
  | .vTanh c w => Sys2Proof.Machine.execVTanh c w s
  | .vLogistic c w => Sys2Proof.Machine.execVLogistic c w s
  | .vErf c w => Sys2Proof.Machine.execVErf c w s
  | .vRsum c w => Sys2Proof.Machine.execVRsum c w s
  | .vRmax c w => Sys2Proof.Machine.execVRmax c w s
  | .vRmin c w => Sys2Proof.Machine.execVRmin c w s
  | .vCompress c w => Sys2Proof.Machine.execVCompress c w s
  | .vExpand c w => Sys2Proof.Machine.execVExpand c w s
  | .vCompressQ c w => Sys2Proof.Machine.execVCompressQ c w s
  | .vExpandQ c w => Sys2Proof.Machine.execVExpandQ c w s
  | .vFlushOq c w => Sys2Proof.Machine.execVFlushOq c w s
  | .vSumm c w => Sys2Proof.Machine.execVSumm c w s
  | .vLdc c w => Sys2Proof.Machine.execVLdc c w s
  | .vStc c w => Sys2Proof.Machine.execVStc c w s
  | .vLdt c w => Sys2Proof.Machine.execVLdt c w s
  | .vStt c w => Sys2Proof.Machine.execVStt c w s
  | .vSpopW c w => Sys2Proof.Machine.execVSpopW c w s
  | .vSpopP c w => Sys2Proof.Machine.execVSpopP c w s
  | .vQpop c w => Sys2Proof.Machine.execVQpop c w s
  | .vQpush c w => Sys2Proof.Machine.execVQpush c w s
  | .streamIssue c q w => Sys2Proof.Machine.execStreamIssue c q w s
  | .transactionRelease c op => Sys2Proof.Machine.execTransactionRelease c op s
  | .wheelSlot ch bad => Sys2Proof.Machine.execWheelSlot ch bad s
  | .transactionResponse c op txn fails => Sys2Proof.Machine.execTransactionResponse c op txn fails s
  | .streamQmark c n => Sys2Proof.Machine.execStreamQmark c n s
  | .streamQmatch c n => Sys2Proof.Machine.execStreamQmatch c n s
  | .cancelDiscardDone c => Sys2Proof.Machine.execCancelDiscardDone c s
  | .fenceComplete c n => Sys2Proof.Machine.execFenceComplete c n s
  | .barrierRelease l b => Sys2Proof.Machine.execBarrierRelease l b s
  | .messageSend c n fails => Sys2Proof.Machine.execMessageSend c n fails s
  | .messageDelivery l dst src => Sys2Proof.Machine.execMessageDelivery l dst src s
  | .combiningContribution l n src => Sys2Proof.Machine.execCombiningContribution l n src s
  | .reefFill st iss => Sys2Proof.Machine.execReefFill st iss s
  | .reefCvt st iss => Sys2Proof.Machine.execReefCvt st iss s
  | .reefAdd st iss => Sys2Proof.Machine.execReefAdd st iss s
  | .reefMul st iss => Sys2Proof.Machine.execReefMul st iss s
  | .reefScale st iss => Sys2Proof.Machine.execReefScale st iss s
  | .reefAxpby st iss => Sys2Proof.Machine.execReefAxpby st iss s
  | .reduceSum st iss => Sys2Proof.Machine.execReduceSum st iss s
  | .reduceMax st iss => Sys2Proof.Machine.execReduceMax st iss s
  | .reduceMin st iss => Sys2Proof.Machine.execReduceMin st iss s
  | .reefCheck st iss => Sys2Proof.Machine.execReefCheck st iss s
  | .sgdm st iss => Sys2Proof.Machine.execSgdm st iss s
  | .adamw st iss => Sys2Proof.Machine.execAdamw st iss s
  | .combine st iss => Sys2Proof.Machine.execCombine st iss s
  | .digest st iss => Sys2Proof.Machine.execDigest st iss s
  | .reefOpComplete st d => Sys2Proof.Machine.execReefOpComplete st d s
  | .ferryLineReceived p fails => Sys2Proof.Machine.execFerryLineReceived p fails s
  | .deadlock l => Sys2Proof.Machine.execDeadlock l s
  | .pilotInstruction c => Sys2Proof.Machine.execPilotInstruction c s
  | .wfi c => Sys2Proof.Machine.execWfi c s
  | .ebreak c => Sys2Proof.Machine.execEbreak c s
  | .hqSumv c => Sys2Proof.Machine.execHqSumv c s
  | .hqSumh c => Sys2Proof.Machine.execHqSumh c s
  | .hqChoose c => Sys2Proof.Machine.execHqChoose c s
  | .hqBuoySet c => Sys2Proof.Machine.execHqBuoySet c s
  | .hqBuoyClear c => Sys2Proof.Machine.execHqBuoyClear c s
  | .hqBuoyWaitSet c => Sys2Proof.Machine.execHqBuoyWaitSet c s
  | .hqBuoyWaitClear c => Sys2Proof.Machine.execHqBuoyWaitClear c s
  | .arstatWrite c => Sys2Proof.Machine.execArstatWrite c s
  | .sharedCsrRead c => Sys2Proof.Machine.execSharedCsrRead c s
  | .sharedCsrWrite c => Sys2Proof.Machine.execSharedCsrWrite c s
  | .csrWrite c => Sys2Proof.Machine.execCsrWrite c s
  | .programBoundary l raise => Sys2Proof.Machine.execProgramBoundary l raise s
  | .thermalGovernorTick r rate => Sys2Proof.Machine.execThermalGovernorTick r rate s
  | .regionResume r => Sys2Proof.Machine.execRegionResume r s
  | .temperatureSample r tj => Sys2Proof.Machine.execTemperatureSample r tj s
  | .railLow r mv => Sys2Proof.Machine.execRailLow r mv s
  | .railRecover r => Sys2Proof.Machine.execRailRecover r s
  | .railFail r => Sys2Proof.Machine.execRailFail r s
  | .tideTick => Sys2Proof.Machine.execTideTick s
  | .ptpSync p domain => Sys2Proof.Machine.execPtpSync p domain s
  | .holdoverTimeout => Sys2Proof.Machine.execHoldoverTimeout s
  | .deferredTideStep => Sys2Proof.Machine.execDeferredTideStep s
  | .ppsEdge => Sys2Proof.Machine.execPpsEdge s
  | .launch l => Sys2Proof.Machine.execLaunch l s
  | .guardWindow r => Sys2Proof.Machine.execGuardWindow r s
  | .outputHashDone l => Sys2Proof.Machine.execOutputHashDone l s
  | .recordAccepted l => Sys2Proof.Machine.execRecordAccepted l s
  | .batchWindowExpiry => Sys2Proof.Machine.execBatchWindowExpiry s
  | .batchSigned => Sys2Proof.Machine.execBatchSigned s
  | .hello f => Sys2Proof.Machine.execHello f s
  | .finish f => Sys2Proof.Machine.execFinish f s
  | .certGet f => Sys2Proof.Machine.execCertGet f s
  | .handshakeTimeout n => Sys2Proof.Machine.execHandshakeTimeout n s
  | .sessionTimeout n => Sys2Proof.Machine.execSessionTimeout n s
  | .commandStart n => Sys2Proof.Machine.execCommandStart n s
  | .landingFenceMet n seq => Sys2Proof.Machine.execLandingFenceMet n seq s
  | .landingTimeout n seq => Sys2Proof.Machine.execLandingTimeout n seq s
  | .cmdHmpNop f => Sys2Proof.Machine.execCmdHmpNop f s
  | .cmdClose f => Sys2Proof.Machine.execCmdClose f s
  | .cmdEvents f => Sys2Proof.Machine.execCmdEvents f s
  | .cmdConfigure f => Sys2Proof.Machine.execCmdConfigure f s
  | .cmdRelease f => Sys2Proof.Machine.execCmdRelease f s
  | .cmdLoad f => Sys2Proof.Machine.execCmdLoad f s
  | .cmdUnload f => Sys2Proof.Machine.execCmdUnload f s
  | .cmdSeal f => Sys2Proof.Machine.execCmdSeal f s
  | .sealDone l => Sys2Proof.Machine.execSealDone l s
  | .cmdStart f => Sys2Proof.Machine.execCmdStart f s
  | .cmdPause f => Sys2Proof.Machine.execCmdPause f s
  | .pauseDone l => Sys2Proof.Machine.execPauseDone l s
  | .cmdResume f => Sys2Proof.Machine.execCmdResume f s
  | .cmdStop f => Sys2Proof.Machine.execCmdStop f s
  | .cmdSetmode f => Sys2Proof.Machine.execCmdSetmode f s
  | .cmdWaitRun f => Sys2Proof.Machine.execCmdWaitRun f s
  | .cmdRead f => Sys2Proof.Machine.execCmdRead f s
  | .cmdXfer f => Sys2Proof.Machine.execCmdXfer f s
  | .cmdSink f => Sys2Proof.Machine.execCmdSink f s
  | .cmdSinkAck f => Sys2Proof.Machine.execCmdSinkAck f s
  | .cmdFlush f => Sys2Proof.Machine.execCmdFlush f s
  | .cmdPath f => Sys2Proof.Machine.execCmdPath f s
  | .cmdBatchwin f => Sys2Proof.Machine.execCmdBatchwin f s
  | .cmdPowerP0 f => Sys2Proof.Machine.execCmdPowerP0 f s
  | .cmdPowerP1 f => Sys2Proof.Machine.execCmdPowerP1 f s
  | .cmdPowerP2 f => Sys2Proof.Machine.execCmdPowerP2 f s
  | .cmdPowerP3 f => Sys2Proof.Machine.execCmdPowerP3 f s
  | .cmdTide f => Sys2Proof.Machine.execCmdTide f s
  | .cmdNetMac f => Sys2Proof.Machine.execCmdNetMac f s
  | .cmdNetLinkLocal f => Sys2Proof.Machine.execCmdNetLinkLocal f s
  | .cmdNetAddress f => Sys2Proof.Machine.execCmdNetAddress f s
  | .cmdNetHmpport f => Sys2Proof.Machine.execCmdNetHmpport f s
  | .cmdQosPriorities f => Sys2Proof.Machine.execCmdQosPriorities f s
  | .cmdQosDscpMap f => Sys2Proof.Machine.execCmdQosDscpMap f s
  | .cmdQosPfcwd f => Sys2Proof.Machine.execCmdQosPfcwd f s
  | .cmdMacsecEnable f => Sys2Proof.Machine.execCmdMacsecEnable f s
  | .cmdMacsecCak f => Sys2Proof.Machine.execCmdMacsecCak f s
  | .cmdLighthouse f => Sys2Proof.Machine.execCmdLighthouse f s
  | .cmdTenantKeyInstall f => Sys2Proof.Machine.execCmdTenantKeyInstall f s
  | .cmdTenantKeyRemove f => Sys2Proof.Machine.execCmdTenantKeyRemove f s
  | .cmdQpCreate f => Sys2Proof.Machine.execCmdQpCreate f s
  | .cmdQpDestroy f => Sys2Proof.Machine.execCmdQpDestroy f s
  | .cmdLrRegister f => Sys2Proof.Machine.execCmdLrRegister f s
  | .cmdLrDeregister f => Sys2Proof.Machine.execCmdLrDeregister f s
  | .cmdLibPut f => Sys2Proof.Machine.execCmdLibPut f s
  | .cmdAttest f => Sys2Proof.Machine.execCmdAttest f s
  | .cmdDebugOpen f => Sys2Proof.Machine.execCmdDebugOpen f s
  | .cmdDebugClose f => Sys2Proof.Machine.execCmdDebugClose f s
  | .debugSessionExpiry scope => Sys2Proof.Machine.execDebugSessionExpiry scope s
  | .cmdLifecycleDeploy f => Sys2Proof.Machine.execCmdLifecycleDeploy f s
  | .cmdLifecycleReturn f => Sys2Proof.Machine.execCmdLifecycleReturn f s
  | .wipeDone => Sys2Proof.Machine.execWipeDone s
  | .cmdCkSnapshot f => Sys2Proof.Machine.execCmdCkSnapshot f s
  | .ckSnapshotDone l => Sys2Proof.Machine.execCkSnapshotDone l s
  | .cmdCkDrain f => Sys2Proof.Machine.execCmdCkDrain f s
  | .ckDrainDone l => Sys2Proof.Machine.execCkDrainDone l s
  | .cmdCkRestore f => Sys2Proof.Machine.execCmdCkRestore f s
  | .ckRestored l => Sys2Proof.Machine.execCkRestored l s
  | .cmdPair f => Sys2Proof.Machine.execCmdPair f s
  | .cmdCompare f => Sys2Proof.Machine.execCmdCompare f s
  | .cmdSvcStart f => Sys2Proof.Machine.execCmdSvcStart f s
  | .cmdSvcStop f => Sys2Proof.Machine.execCmdSvcStop f s
  | .cmdDecide f => Sys2Proof.Machine.execCmdDecide f s
  | .decisionWindowClose l => Sys2Proof.Machine.execDecisionWindowClose l s
  | .batchRunStart l => Sys2Proof.Machine.execBatchRunStart l s
  | .lighthouseProbe p => Sys2Proof.Machine.execLighthouseProbe p s
  | .lighthouseReply => Sys2Proof.Machine.execLighthouseReply s
  | .echoRequest p => Sys2Proof.Machine.execEchoRequest p s
  | .neighbourSolicitation p => Sys2Proof.Machine.execNeighbourSolicitation p s
  | .arpRequest p => Sys2Proof.Machine.execArpRequest p s
  | .linkUp lanes => Sys2Proof.Machine.execLinkUp lanes s
  | .linkDown => Sys2Proof.Machine.execLinkDown s
  | .fecDegraded => Sys2Proof.Machine.execFecDegraded s
  | .mkaFrame m => Sys2Proof.Machine.execMkaFrame m s
  | .macsecPeerLost => Sys2Proof.Machine.execMacsecPeerLost s
  | .pauseFrame prio on => Sys2Proof.Machine.execPauseFrame prio on s
  | .pfcHold prio => Sys2Proof.Machine.execPfcHold prio s
  | .roceWrite p => Sys2Proof.Machine.execRoceWrite p s
  | .roceRead p => Sys2Proof.Machine.execRoceRead p s
  | .roceSend p => Sys2Proof.Machine.execRoceSend p s
  | .roceReadResponse p => Sys2Proof.Machine.execRoceReadResponse p s
  | .roceAck p => Sys2Proof.Machine.execRoceAck p s
  | .roceAckTimeout qpn => Sys2Proof.Machine.execRoceAckTimeout qpn s
  | .cnpReceived qpn => Sys2Proof.Machine.execCnpReceived qpn s
  | .i3cDynamicAddress a => Sys2Proof.Machine.execI3cDynamicAddress a s
  | .pldmBaseQuery n => Sys2Proof.Machine.execPldmBaseQuery n s
  | .pldmSensorRead n v => Sys2Proof.Machine.execPldmSensorRead n v s
  | .pldmFruRead => Sys2Proof.Machine.execPldmFruRead s
  | .pldmFirmwareUpdate pkg ver bytes => Sys2Proof.Machine.execPldmFirmwareUpdate pkg ver bytes s
  | .pldmFirmwareActivate => Sys2Proof.Machine.execPldmFirmwareActivate s
  | .oemReadRgnstat r => Sys2Proof.Machine.execOemReadRgnstat r s
  | .oemReadHealth => Sys2Proof.Machine.execOemReadHealth s
  | .bmcRequestP3 => Sys2Proof.Machine.execBmcRequestP3 s
  | .bmcRequestOff => Sys2Proof.Machine.execBmcRequestOff s
  | .bmcRelease => Sys2Proof.Machine.execBmcRelease s
  | .extest d => Sys2Proof.Machine.execExtest d s
  | .idcode => Sys2Proof.Machine.execIdcode s
  | .samplePreload d => Sys2Proof.Machine.execSamplePreload d s
  | .bypass => Sys2Proof.Machine.execBypass s
  | .token bytes => Sys2Proof.Machine.execToken bytes s
  | .tokstat => Sys2Proof.Machine.execTokstat s
  | .dbgsel scope => Sys2Proof.Machine.execDbgsel scope s
  | .dbgaccState w => Sys2Proof.Machine.execDbgaccState w s
  | .dbgaccCoreMemory w => Sys2Proof.Machine.execDbgaccCoreMemory w s
  | .dbgaccProgramAddress w => Sys2Proof.Machine.execDbgaccProgramAddress w s
  | .dbgaccObject w => Sys2Proof.Machine.execDbgaccObject w s
  | .dbgaccHaltSequencer w => Sys2Proof.Machine.execDbgaccHaltSequencer w s
  | .dbgaccStepSequencer w => Sys2Proof.Machine.execDbgaccStepSequencer w s
  | .dbgaccResumeSequencer w => Sys2Proof.Machine.execDbgaccResumeSequencer w s
  | .dbgaccHaltPilot w => Sys2Proof.Machine.execDbgaccHaltPilot w s
  | .dbgaccStepPilot w => Sys2Proof.Machine.execDbgaccStepPilot w s
  | .dbgaccResumePilot w => Sys2Proof.Machine.execDbgaccResumePilot w s
  | .provision d => Sys2Proof.Machine.execProvision d s
  | .provstat => Sys2Proof.Machine.execProvstat s
  | .fwload ver bytes => Sys2Proof.Machine.execFwload ver bytes s
  | .fwstat => Sys2Proof.Machine.execFwstat s
  | .dbgend scope => Sys2Proof.Machine.execDbgend scope s
  | .porstFall => Sys2Proof.Machine.execPorstFall s
  | .porstRelease b => Sys2Proof.Machine.execPorstRelease b s
  | .pgoodFail g => Sys2Proof.Machine.execPgoodFail g s
  | .errorCorrected e => Sys2Proof.Machine.execErrorCorrected e s
  | .errorUncorrectable e met => Sys2Proof.Machine.execErrorUncorrectable e met s
  | .targetedSelfTest n pass => Sys2Proof.Machine.execTargetedSelfTest n pass s
  | .spareSubstituted n pass => Sys2Proof.Machine.execSpareSubstituted n pass s
  | .scrub addr outcome => Sys2Proof.Machine.execScrub addr outcome s
  | .logbookSecond at_ => Sys2Proof.Machine.execLogbookSecond at_ s
  | .logbookCommit => Sys2Proof.Machine.execLogbookCommit s
  | .stopDone l => Sys2Proof.Machine.execStopDone l s
  | .loadDone l => Sys2Proof.Machine.execLoadDone l s
  | .memoryClearingDone l => Sys2Proof.Machine.execMemoryClearingDone l s
  | .powerStateEntered => Sys2Proof.Machine.execPowerStateEntered s
  | .pgoodAsserted g => Sys2Proof.Machine.execPgoodAsserted g s
  | .avsbusStatusTimeout r => Sys2Proof.Machine.execAvsbusStatusTimeout r s
  | .supplyFailure => Sys2Proof.Machine.execSupplyFailure s
  | .referenceLost => Sys2Proof.Machine.execReferenceLost s
  | .peerDelayRequest p => Sys2Proof.Machine.execPeerDelayRequest p s
  | .neighbourAdvertisement p => Sys2Proof.Machine.execNeighbourAdvertisement p s
  | .arpReply p => Sys2Proof.Machine.execArpReply p s
  | .endpointIdAssignment eid => Sys2Proof.Machine.execEndpointIdAssignment eid s

end Sys2Proof.Machine
end

