-- ==== Sys2Proof/Safety.lean ====
section
/-! DEFINITION. The terms in which claims are stated: canonical memories, steps that issue, and the frames of
families of commands. -/

namespace Sys2Proof

open Sys2Proof.Machine

/-- The core whose row a command is: control bundles, slots, the matrix row, vector instructions, the stream engine's own rows
and the pilot's. -/
def Instr.coreRow? : Instr → Option CoreId
  | .nop c _ => some c
  | .repeatBundle c _ => some c
  | .loop c _ => some c
  | .call c _ => some c
  | .ret c _ => some c
  | .select c _ => some c
  | .setx c _ => some c
  | .take c _ => some c
  | .bset c _ => some c
  | .bclr c _ => some c
  | .bwaitSet c _ => some c
  | .bwaitClear c _ => some c
  | .bwaitTally c _ => some c
  | .fence c _ => some c
  | .barrier c _ => some c
  | .cancel c _ => some c
  | .qmark c _ => some c
  | .qmatch c _ => some c
  | .endStream c _ => some c
  | .emptyBeat c => some c
  | .aTileIssue c _ => some c
  | .cubeAct c _ => some c
  | .setB c _ => some c
  | .oneB c _ => some c
  | .accload c _ => some c
  | .soundEntry c => some c
  | .vAdd c _ => some c
  | .vSub c _ => some c
  | .vMul c _ => some c
  | .vFma c _ => some c
  | .vNeg c _ => some c
  | .vAbs c _ => some c
  | .vAdds c _ => some c
  | .vSubs c _ => some c
  | .vMuls c _ => some c
  | .vShl c _ => some c
  | .vShr c _ => some c
  | .vSar c _ => some c
  | .vAnd c _ => some c
  | .vOr c _ => some c
  | .vXor c _ => some c
  | .vMin c _ => some c
  | .vMax c _ => some c
  | .vEq c _ => some c
  | .vNe c _ => some c
  | .vLt c _ => some c
  | .vLe c _ => some c
  | .vTotlt c _ => some c
  | .vSel c _ => some c
  | .vCvt c _ => some c
  | .vExp c _ => some c
  | .vExp2 c _ => some c
  | .vLn c _ => some c
  | .vLog2 c _ => some c
  | .vRcp c _ => some c
  | .vSqrt c _ => some c
  | .vRsqrt c _ => some c
  | .vTanh c _ => some c
  | .vLogistic c _ => some c
  | .vErf c _ => some c
  | .vRsum c _ => some c
  | .vRmax c _ => some c
  | .vRmin c _ => some c
  | .vCompress c _ => some c
  | .vExpand c _ => some c
  | .vCompressQ c _ => some c
  | .vExpandQ c _ => some c
  | .vFlushOq c _ => some c
  | .vSumm c _ => some c
  | .vLdc c _ => some c
  | .vStc c _ => some c
  | .vLdt c _ => some c
  | .vStt c _ => some c
  | .vSpopW c _ => some c
  | .vSpopP c _ => some c
  | .vQpop c _ => some c
  | .vQpush c _ => some c
  | .streamIssue c _ _ => some c
  | .streamQmark c _ => some c
  | .streamQmatch c _ => some c
  | .cancelDiscardDone c => some c
  | .fenceComplete c _ => some c
  | .pilotInstruction c => some c
  | .wfi c => some c
  | .ebreak c => some c
  | .hqSumv c => some c
  | .hqSumh c => some c
  | .hqChoose c => some c
  | .hqBuoySet c => some c
  | .hqBuoyClear c => some c
  | .hqBuoyWaitSet c => some c
  | .hqBuoyWaitClear c => some c
  | .arstatWrite c => some c
  | .sharedCsrRead c => some c
  | .sharedCsrWrite c => some c
  | .csrWrite c => some c
  | _ => none

/-- Which requests of the mailbox a row serves (Table 8 of spec/13, with the items of Table 10). -/
def Instr.serves : Instr → Req → Bool
  | .cmdHmpNop _, r => r.op == 1 || (opInfo r.op).isNone
  | .cmdClose _, r => r.op == 0x0002
  | .cmdEvents _, r => r.op == 0x0003
  | .cmdConfigure _, r => r.op == 0x0101
  | .cmdRelease _, r => r.op == 0x0102
  | .cmdLoad _, r => r.op == 0x0103
  | .cmdUnload _, r => r.op == 0x0104
  | .cmdSeal _, r => r.op == 0x0105
  | .cmdStart _, r => r.op == 0x0106
  | .cmdPause _, r => r.op == 0x0107
  | .cmdResume _, r => r.op == 0x0108
  | .cmdStop _, r => r.op == 0x0109
  | .cmdSetmode _, r => r.op == 0x010A
  | .cmdWaitRun _, r => r.op == 0x010B
  | .cmdRead _, r => r.op == 0x0201
  | .cmdXfer _, r => r.op == 0x0202
  | .cmdSink _, r => r.op == 0x0301
  | .cmdSinkAck _, r => r.op == 0x0302
  | .cmdFlush _, r => r.op == 0x0303
  | .cmdPath _, r => r.op == 0x0304
  | .cmdBatchwin _, r => r.op == 0x0305
  | .cmdPowerP0 _, r => r.op == 0x0401 && (r.arg 0 3 == 0 || decide (4 ≤ r.arg 0 3))
  | .cmdPowerP1 _, r => r.op == 0x0401 && (r.arg 0 3 == 1)
  | .cmdPowerP2 _, r => r.op == 0x0401 && (r.arg 0 3 == 2)
  | .cmdPowerP3 _, r => r.op == 0x0401 && (r.arg 0 3 == 3)
  | .cmdTide _, r => r.op == 0x0402
  | .cmdNetMac _, r => r.op == 0x0403 && (r.item == 0 || decide (0x12 ≤ r.item))
  | .cmdNetLinkLocal _, r => r.op == 0x0403 && (r.item == 1)
  | .cmdNetAddress _, r => r.op == 0x0403 && (inRange r.item 2 0x10)
  | .cmdNetHmpport _, r => r.op == 0x0403 && (r.item == 0x11)
  | .cmdQosPriorities _, r => r.op == 0x0404 && (r.item == 0 || decide (3 ≤ r.item))
  | .cmdQosDscpMap _, r => r.op == 0x0404 && (r.item == 1)
  | .cmdQosPfcwd _, r => r.op == 0x0404 && (r.item == 2)
  | .cmdMacsecEnable _, r => r.op == 0x0405 && (r.item != 1)
  | .cmdMacsecCak _, r => r.op == 0x0405 && (r.item == 1)
  | .cmdLighthouse _, r => r.op == 0x0406
  | .cmdTenantKeyInstall _, r => r.op == 0x0407 && (r.arg 8 1 == 0)
  | .cmdTenantKeyRemove _, r => r.op == 0x0407 && (r.arg 8 1 == 1)
  | .cmdQpCreate _, r => r.op == 0x0501
  | .cmdQpDestroy _, r => r.op == 0x0502
  | .cmdLrRegister _, r => r.op == 0x0503
  | .cmdLrDeregister _, r => r.op == 0x0504
  | .cmdLibPut _, r => r.op == 0x0601
  | .cmdAttest _, r => r.op == 0x0701
  | .cmdDebugOpen _, r => r.op == 0x0702
  | .cmdDebugClose _, r => r.op == 0x0703
  | .cmdLifecycleDeploy _, r => r.op == 0x0704 && (r.arg 0 2 != 3)
  | .cmdLifecycleReturn _, r => r.op == 0x0704 && (r.arg 0 2 == 3)
  | .cmdCkSnapshot _, r => r.op == 0x0801
  | .cmdCkDrain _, r => r.op == 0x0802
  | .cmdCkRestore _, r => r.op == 0x0803
  | .cmdPair _, r => r.op == 0x0804
  | .cmdCompare _, r => r.op == 0x0805
  | .cmdSvcStart _, r => r.op == 0x0901
  | .cmdSvcStop _, r => r.op == 0x0902
  | .cmdDecide _, r => r.op == 0x0903
  | _, _ => false

/-- The frame that a mailbox command row carries. -/
def Instr.frame? : Instr → Option Frame
  | .cmdHmpNop f => some f
  | .cmdClose f => some f
  | .cmdEvents f => some f
  | .cmdConfigure f => some f
  | .cmdRelease f => some f
  | .cmdLoad f => some f
  | .cmdUnload f => some f
  | .cmdSeal f => some f
  | .cmdStart f => some f
  | .cmdPause f => some f
  | .cmdResume f => some f
  | .cmdStop f => some f
  | .cmdSetmode f => some f
  | .cmdWaitRun f => some f
  | .cmdRead f => some f
  | .cmdXfer f => some f
  | .cmdSink f => some f
  | .cmdSinkAck f => some f
  | .cmdFlush f => some f
  | .cmdPath f => some f
  | .cmdBatchwin f => some f
  | .cmdPowerP0 f => some f
  | .cmdPowerP1 f => some f
  | .cmdPowerP2 f => some f
  | .cmdPowerP3 f => some f
  | .cmdTide f => some f
  | .cmdNetMac f => some f
  | .cmdNetLinkLocal f => some f
  | .cmdNetAddress f => some f
  | .cmdNetHmpport f => some f
  | .cmdQosPriorities f => some f
  | .cmdQosDscpMap f => some f
  | .cmdQosPfcwd f => some f
  | .cmdMacsecEnable f => some f
  | .cmdMacsecCak f => some f
  | .cmdLighthouse f => some f
  | .cmdTenantKeyInstall f => some f
  | .cmdTenantKeyRemove f => some f
  | .cmdQpCreate f => some f
  | .cmdQpDestroy f => some f
  | .cmdLrRegister f => some f
  | .cmdLrDeregister f => some f
  | .cmdLibPut f => some f
  | .cmdAttest f => some f
  | .cmdDebugOpen f => some f
  | .cmdDebugClose f => some f
  | .cmdLifecycleDeploy f => some f
  | .cmdLifecycleReturn f => some f
  | .cmdCkSnapshot f => some f
  | .cmdCkDrain f => some f
  | .cmdCkRestore f => some f
  | .cmdPair f => some f
  | .cmdCompare f => some f
  | .cmdSvcStart f => some f
  | .cmdSvcStop f => some f
  | .cmdDecide f => some f
  | _ => none

end Sys2Proof

namespace Sys2Proof.Machine

/-! ## Canonical form -/

/-- Device memory is in canonical form: addresses rise and no byte listed is 0. -/
def Memory.wf (m : List Host.Cell) : Bool := Sparse.wf 0 m

/-- The sparse arrays of one sequencer. -/
def Seq.canonical (q : Seq) : Bool := Sparse.wf 0 q.x && Sparse.wf 0 q.xs

/-- The sparse arrays of one core: index and step registers, tile memory, cubes, vector and mask registers, the operand cache,
queues, the pilot's registers, buoys and tallies. -/
def Core.canonical (k : Core) : Bool :=
  k.ex.canonical && k.ac.canonical && Sparse.wf Line.blank k.tile && Sparse.wf Cube.blank k.row.cubes && Sparse.wf 0 k.vec.regs &&
    Sparse.wf 0 k.vec.masks && Sparse.wf 0 k.vec.cache && Sparse.wf Queue.blank k.queues && Sparse.wf 0 k.pilot.x &&
    Sparse.wf Buoy.blank k.buoys && Sparse.wf Tally.blank k.tallies

/-- Memory, the arrays of cores, lagoons, stacks, wheels, DDR5 channels, regions and physical cores, those of each core and the keeper's
counters are in canonical form: keys rise and no entry equals its default. -/
def State.canonical (s : State) : Bool :=
  Memory.wf s.mem && Sparse.wf Core.blank s.cores && Sparse.wf Lagoon.blank s.lagoons && Sparse.wf Stack.blank s.hbm &&
    Sparse.wf Wheel.blank s.wheels && Sparse.wf Ddr.blank s.ddr && Sparse.wf Region.blank s.regions && Sparse.wf Phys.blank s.phys &&
    s.cores.all (fun p => p.2.canonical) && Sparse.wf 0 s.keeper.counters

/-! ## Steps of one core -/

/-- A slot row finds the execute sequencer able to issue, and no word of the core's memories is marked bad (R488). -/
def State.slotReady (s : State) (c : CoreId) : Prop := s.issues c = true ∧ (s.core c).ex.halted = false ∧ s.marks c = []

/-- The core in which a slot issues: results due by its beat have landed (R149). -/
def State.slotCore (s : State) (c : CoreId) : Core := (s.core c).landDue

/-- The effective fields of a VEC or VMOVE syllable (R148). -/
def Core.fieldsOf (k : Core) (w : BitVec 64) : VOp := VOp.ofSyl (effVec k.ex w)

/-- The active elements of a vector instruction over `n` elements, ascending (R120). -/
def Core.active (k : Core) (o : VOp) (n : Nat) : List Nat :=
  (List.range n).filter (fun e => !o.msk || bit (k.mreg o.mreg).toNat e)

/-- The bytes of VD that an element-wise instruction writes: those of the active elements (R120). -/
def Core.resultMask (k : Core) (o : VOp) : BitVec 256 :=
  BitVec.ofNat 256 (byteMask (o.fmt.width / 8) (activeUnits o.msk (k.mreg o.mreg) o.fmt.count))

/-- The flags of several elements together. -/
def orFlags (l : List Flags) : Flags := l.foldl (· ||| ·) 0

/-- What a vector compute instruction over `n` elements leaves of core `k`: its results on their way, its path occupied for `occ`
beats, its flags in ARSTAT, VRBASE ahead by `n` under RSR, and 16 load units for each beat paid (R82, R126, R149, R352). -/
structure Core.Computed (k k' : Core) (o : VOp) (results : List VWrite) (occ n : Nat) (flags : Flags) : Prop where
  pend   : k'.vec.pend = k.vec.pend ++ results
  free   : k'.vec.freeC = k.beat + occ
  arstat : k'.arstat = (k.raise k.beat flags).arstat
  vrbase : k'.csr.vrbase = k.csr.vrbase + BitVec.ofNat 32 (if o.rm = 4 then n else 0)
  paid   : k'.guardLu = k.guardLu - 16 * occ

/-- The core in which a bundle issues: for the execute sequencer, results due by its beat have landed. -/
def State.issueCore (s : State) (c : CoreId) (q : SeqId) : Core :=
  match q with
  | .execute => (s.core c).landDue
  | .access => s.core c

/-- The bundle that a sequencer stands at issues: the core may issue, neither a word of it nor one of the core's memories is marked bad, no slot and no control
operation waits, its slots issue and leave `k`, and the power guard holds their charge (R140, R352, R354, R488). -/
structure State.Issuing (s : State) (c : CoreId) (q : SeqId) (k : Core) : Prop where
  runs   : s.issues c = true
  sound  : ∀ i, i < ((s.core c).bundle q).size → s.badWord c 3 (((s.core c).seq q).addr + i) = false
  marks  : s.marks c = []
  may    : (s.core c).mayIssue q = true
  ready  : (s.issueCore c q).bundleWaits (s.ctx c) q ((s.core c).bundle q) = []
  slots  : ((s.issueCore c q).copBefore q ((s.core c).bundle q)).issueSlots (s.ctx c) q ((s.core c).bundle q).slots = .ok k
  charge : slotsCharge (s.issueCore c q) k ((s.core c).bundle q).slots ≤ (s.issueCore c q).guardLu

/-- The pilot stands at instruction `w` of `len` bytes of a class, in a core that issues, at a word that is not marked bad, no word of
its memories being marked so (R160, R161, R488). -/
structure State.PilotAt (s : State) (c : CoreId) (k : PClass) (w len : Nat) : Prop where
  runs  : s.issues c = true
  may   : (s.core c).pilotMay = true
  sound : s.badWord c 5 ((s.core c).pilot.pc.toNat / 4) = false
  marks : s.marks c = []
  fetch : (s.core c).pilotFetch = .ok (some w, len)
  cls   : pclass w = k

/-! ## Mailbox commands -/

/-- A new command of an open session as its frame, opened under the session's key, brings it. -/
def cmdOf (f : Frame) (x : Session) : Cmd := ⟨frameSeq f, f.plain x.hd, 0, 0, f.dport⟩

/-- The session once it has accepted the command, with no other outstanding. -/
def Session.accepting (x : Session) (f : Frame) (now : Nat) : Session :=
  { x with lastCmd := now, cmds := [cmdOf f x], high := frameSeq f, cache := x.cache.filter (fun k => frameSeq f < k.seq + 4096) }

/-- A frame of an accepted length whose way to the device is clear: MACsec, Table 2 of spec/12, and the VLAN of the entry that it came
to (R365 to R368, R370). -/
def State.hears (s : State) (w : Wire) (opn : Bool) (e : Option Nat) : Bool :=
  decide (64 ≤ w.len) && decide (w.len ≤ 9216) && s.passes w opn e

/-- A datagram of a KIND passes the checks of R394 to R396. -/
structure State.Heard (s : State) (f : Frame) (kind : Nat) : Prop where
  wire  : s.hears f.wire false (some f.entry) = true
  up    : s.portUp = true
  entry : (s.entryOwner f.entry).isSome = true
  port  : f.dport = s.port.cfg.hmpport
  len   : frameLenOk f = true
  crc   : f.crcOk = true
  head  : frameHeadOk f = true
  kind  : frameKind f = kind

/-- The request that the frame's command makes. -/
def State.request (s : State) (f : Frame) (x : Session) : Req := reqOf (x.accepting f s.tide.count) (cmdOf f x)

/-- The state in which the frame's session has accepted its command. -/
def State.accepted (s : State) (f : Frame) (x : Session) : State :=
  ((s.tookFrame f.wire).setSession { x with lastCmd := s.tide.count }).setSession (x.accepting f s.tide.count)

/-- The state in which the command's effect takes place: its session has accepted it, and it has started. -/
def State.running (s : State) (f : Frame) (x : Session) : State := (s.accepted f x).setPhase (s.request f x).ref 2 0

/-- A frame's command runs at once: the frame passes R396, its session has nothing outstanding, the number is the next, the prefix
passes steps 1 to 3 of R410, nothing holds it back, and its fence is met (R396, R398, R406 to R411). -/
structure State.CommandRuns (s : State) (f : Frame) (x : Session) : Prop where
  heard   : s.Heard f 0x10
  found   : s.sessions.find? (fun y => y.id == frameSession f && y.peer == f.src && y.port == f.sport && y.entry == f.entry) = some x
  single  : (s.sessions.filter (fun y => y.id == x.id)).length = 1
  tag     : (f.opened x.hd).isSome = true
  body    : 32 ≤ (f.plain x.hd).length
  number  : x.high < frameSeq f
  idle    : x.cmds = []
  checked : (s.accepted f x).precheck (s.request f x) = none
  tested  : (s.accepted f x).mustWait (s.request f x) = false
  fenced  : (s.accepted f x).fenceMet (s.request f x) = true

/-! ## Frames -/

/-- What a vector compute row leaves of core `k`, where it leaves `d`: results on their way, the compute path, VRBASE, ARSTAT and what is
left in the power guard's bucket are `d`'s, the rest is `k`'s. -/
def Core.keepCompute (k d : Core) : Core :=
  { k with vec := { k.vec with pend := d.vec.pend, freeC := d.vec.freeC }, csr := { k.csr with vrbase := d.csr.vrbase }, arstat := d.arstat
           guardLu := d.guardLu }

/-- The same for SUMM: the summary queue, the compute path and ARSTAT. -/
def Core.keepSumm (k d : Core) : Core :=
  { k with vec := { k.vec with summ := d.vec.summ, freeC := d.vec.freeC }, arstat := d.arstat, guardLu := d.guardLu }

/-- For loads and stores: results on their way and the move path. -/
def Core.keepMove (k d : Core) : Core := { k with vec := { k.vec with pend := d.vec.pend, freeM := d.vec.freeM }, guardLu := d.guardLu }

/-- For sound pops: the sound and the origin too. -/
def Core.keepSound (k d : Core) : Core :=
  { k with row := { k.row with sound := d.row.sound, entryAt := d.row.entryAt, freeing := d.row.freeing }
           vec := { k.vec with pend := d.vec.pend, freeM := d.vec.freeM, origCube := d.vec.origCube, origSlot := d.vec.origSlot }
           guardLu := d.guardLu }

/-- For the rows that pop or push queues: queues, results on their way, both paths, ARSTAT, and the operations outstanding. -/
def Core.keepQueue (k d : Core) : Core :=
  { k with vec := { k.vec with pend := d.vec.pend, freeC := d.vec.freeC, freeM := d.vec.freeM }, queues := d.queues, arstat := d.arstat
           nextOp := d.nextOp, outst := d.outst, guardLu := d.guardLu }

/-- For the matrix slots: what is under way in the row and when its paths are free; an A tile may pop a queue. -/
def Core.keepRow (k d : Core) : Core :=
  { k with row := { k.row with tiles := d.row.tiles, bops := d.row.bops, future := d.row.future, order := d.row.order
                               aFree := d.row.aFree, bFree := d.row.bFree }
           queues := d.queues, arstat := d.arstat, guardLu := d.guardLu }

/-- For pilot instructions and CSR rows. -/
def Core.keepPilot (k d : Core) : Core := { k with pilot := d.pilot }

end Sys2Proof.Machine

namespace Sys2Proof

open Sys2Proof.Machine

/-- The core of a slot row, and what it may change there. -/
def Instr.slotKeeps : Instr → Option (CoreId × (Core → Core → Core))
  | .aTileIssue c _ => some (c, Core.keepRow)
  | .setB c _ => some (c, Core.keepRow)
  | .oneB c _ => some (c, Core.keepRow)
  | .accload c _ => some (c, Core.keepRow)
  | .vAdd c _ => some (c, Core.keepCompute)
  | .vSub c _ => some (c, Core.keepCompute)
  | .vMul c _ => some (c, Core.keepCompute)
  | .vFma c _ => some (c, Core.keepCompute)
  | .vNeg c _ => some (c, Core.keepCompute)
  | .vAbs c _ => some (c, Core.keepCompute)
  | .vAdds c _ => some (c, Core.keepCompute)
  | .vSubs c _ => some (c, Core.keepCompute)
  | .vMuls c _ => some (c, Core.keepCompute)
  | .vShl c _ => some (c, Core.keepCompute)
  | .vShr c _ => some (c, Core.keepCompute)
  | .vSar c _ => some (c, Core.keepCompute)
  | .vAnd c _ => some (c, Core.keepCompute)
  | .vOr c _ => some (c, Core.keepCompute)
  | .vXor c _ => some (c, Core.keepCompute)
  | .vMin c _ => some (c, Core.keepCompute)
  | .vMax c _ => some (c, Core.keepCompute)
  | .vEq c _ => some (c, Core.keepCompute)
  | .vNe c _ => some (c, Core.keepCompute)
  | .vLt c _ => some (c, Core.keepCompute)
  | .vLe c _ => some (c, Core.keepCompute)
  | .vTotlt c _ => some (c, Core.keepCompute)
  | .vSel c _ => some (c, Core.keepCompute)
  | .vCvt c _ => some (c, Core.keepCompute)
  | .vExp c _ => some (c, Core.keepCompute)
  | .vExp2 c _ => some (c, Core.keepCompute)
  | .vLn c _ => some (c, Core.keepCompute)
  | .vLog2 c _ => some (c, Core.keepCompute)
  | .vRcp c _ => some (c, Core.keepCompute)
  | .vSqrt c _ => some (c, Core.keepCompute)
  | .vRsqrt c _ => some (c, Core.keepCompute)
  | .vTanh c _ => some (c, Core.keepCompute)
  | .vLogistic c _ => some (c, Core.keepCompute)
  | .vErf c _ => some (c, Core.keepCompute)
  | .vRsum c _ => some (c, Core.keepCompute)
  | .vRmax c _ => some (c, Core.keepCompute)
  | .vRmin c _ => some (c, Core.keepCompute)
  | .vCompress c _ => some (c, Core.keepCompute)
  | .vExpand c _ => some (c, Core.keepCompute)
  | .vSumm c _ => some (c, Core.keepSumm)
  | .vLdc c _ => some (c, Core.keepMove)
  | .vStc c _ => some (c, Core.keepMove)
  | .vLdt c _ => some (c, Core.keepMove)
  | .vStt c _ => some (c, Core.keepMove)
  | .vSpopW c _ => some (c, Core.keepSound)
  | .vSpopP c _ => some (c, Core.keepSound)
  | .vCompressQ c _ => some (c, Core.keepQueue)
  | .vExpandQ c _ => some (c, Core.keepQueue)
  | .vFlushOq c _ => some (c, Core.keepQueue)
  | .vQpop c _ => some (c, Core.keepQueue)
  | .vQpush c _ => some (c, Core.keepQueue)
  | _ => none

/-- The core of a pilot row that changes nothing but the pilot. -/
def Instr.pilotOnly? : Instr → Option CoreId
  | .pilotInstruction c => some c
  | .ebreak c => some c
  | .hqBuoyWaitSet c => some c
  | .hqBuoyWaitClear c => some c
  | .arstatWrite c => some c
  | .sharedCsrRead c => some c
  | .sharedCsrWrite c => some c
  | .csrWrite c => some c
  | _ => none

/-- The core and sequencer of a control row, and the bundles it acts on; CANCEL, which also settles stream operations, aside. -/
def Instr.controls? : Instr → Option (CoreId × SeqId × (Bundle → Bool))
  | .nop c q => some (c, q, isCop .nop)
  | .repeatBundle c q => some (c, q, isCop .repeat)
  | .loop c q => some (c, q, isCop .loop)
  | .call c q => some (c, q, isCop .call)
  | .ret c q => some (c, q, isCop .ret)
  | .select c q => some (c, q, isCop .select)
  | .setx c q => some (c, q, isCop .setx)
  | .take c q => some (c, q, isCop .take)
  | .bset c q => some (c, q, isCop .bset)
  | .bclr c q => some (c, q, isCop .bclr)
  | .bwaitSet c q => some (c, q, isBwait 0)
  | .bwaitClear c q => some (c, q, isBwait 1)
  | .bwaitTally c q => some (c, q, isBwait 2)
  | .fence c q => some (c, q, isCop .fence)
  | .barrier c q => some (c, q, isCop .barrier)
  | .qmark c q => some (c, q, isCop .qmark)
  | .qmatch c q => some (c, q, isCop .qmatch)
  | .endStream c q => some (c, q, isCop .finish)
  | _ => none

end Sys2Proof

namespace Sys2Proof.Machine

/-- What a control bundle without slots keeps of the core in which it issues: the vector engine, tile memory, the cubes, the image,
the pilot's registers and data memory, and the other sequencer. -/
def Core.keepsControl (q : SeqId) (k d : Core) : Prop :=
  d.vec = k.vec ∧ d.tile = k.tile ∧ d.row.cubes = k.row.cubes ∧ d.img = k.img ∧ d.pilot.x = k.pilot.x ∧ d.pilot.f = k.pilot.f ∧
    d.pilot.dmem = k.pilot.dmem ∧ d.pilot.pc = k.pilot.pc ∧ (q = .execute → d.ac = k.ac) ∧ (q = .access → d.ex = k.ex)

/-- What the step of a core can never change: memory, the harbour's settings and keys, the tide, the regions, the channels,
power, the keeper and the port. -/
def State.coreFrame (s t : State) : Prop :=
  t.mem = s.mem ∧ t.wheels = s.wheels ∧ t.ddr = s.ddr ∧ t.regions = s.regions ∧ t.phys = s.phys ∧ t.tide = s.tide ∧
    t.power = s.power ∧ t.straps = s.straps ∧ t.lrs = s.lrs ∧ t.qps = s.qps ∧ t.sinks = s.sinks ∧ t.libs = s.libs ∧
    t.port = s.port ∧ t.side = s.side ∧ t.keeper = s.keeper ∧ t.boot = s.boot ∧ t.dbgs = s.dbgs ∧ t.jtag = s.jtag ∧
    t.pending = s.pending

end Sys2Proof.Machine
end

