-- ==== Sys2Proof/Certificates/Slice0/Obligations.lean ====
section
/-! DEFINITION. The statements about the model: its step, its invariant, and what each family of commands does. -/

open Sys2Proof Sys2Proof.Machine

/-! ## One step, reset and canonical form -/

/-- Step takes the command at the front of the queue and answers what `exec` answers for it on the queue's rest; with an empty
queue the block idles. The model's choice: the queue is DESIGN CHOICE 2, the idling DESIGN CHOICE 3. -/
def Obligations.StepRunsFrontCommand : Prop :=
  (∀ (c : Instr) (s : State), step { s with pending := c :: s.pending } = exec c s) ∧
    (∀ s : State, s.pending = [] → step s = .next s)

/-- The state after reset is canonical and holds what the spec gives at reset: the tide counts from 0 in FREE (R302), every
lagoon is EMPTY (R413) with DLWIN 1,000,000 (R271), BATCHWIN is 100,000,000 (R333), no session, queue pair, landing region or
sink is open, JTAG holds BYPASS (R480), and FWSTAT tells that no boot has ended. -/
def Obligations.ResetState : Prop :=
  State.reset.canonical = true ∧ State.reset.pending = [] ∧
    State.reset.tide.count = 0 ∧ State.reset.tide.state = 0 ∧ State.reset.power.porst = false ∧
    (∀ l, (State.reset.lagoon l).st = .empty ∧ (State.reset.lagoon l).dlwin = 1000000) ∧
    State.reset.builder.batchwin = 100000000 ∧ State.reset.jtag.ir = 0xFF ∧ State.reset.boot.fwstat = 0xFE ∧
    State.reset.sessions = [] ∧ State.reset.qps = [] ∧ State.reset.lrs = [] ∧ State.reset.sinks = [] ∧
    (∀ a, State.reset.readByte a = 0)

/-- The canonical form is an invariant: whatever command a step takes, from a state whose memory and arrays (those of each core among them) are canonical it
leaves one: keys rise and no entry equals its default, so that equal contents are equal data. -/
def Obligations.StepKeepsCanonicalForm : Prop :=
  ∀ s t : State, s.canonical = true → step s = .next t → t.canonical = true

/-! ## Control bundles -/

/-- A control bundle whose issue completes goes on as Table 2 of spec/05 says. `q0` are the registers at the start of the issue,
`q1` those after INC, `next` the bundle that follows (R147, R152, R153, R162). In the execute sequencer a beat passes (R140).
A LOOP bundle enters its body COUNT times, or X15 times with CX = 1; with X15 = 0 the body is skipped (R152). -/
def Obligations.ControlFlowBundles : Prop :=
  (∀ (c : CoreId) (q : SeqId) (s : State) (k : Core), s.canonical = true → s.Issuing c q k →
    let b := (s.core c).bundle q
    let q0 := (s.core c).seq q
    let q1 := q0.applyInc b.inc
    let next := q0.addr + b.size
    let goes (i : Instr) (r : Seq) : Prop := ∃ t : State, exec i s = .next t ∧ (t.core c).seq q = r ∧
      (q = .execute → (t.core c).beat = (s.core c).beat + 1)
    (isCop .nop b = true → goes (.nop c q) (q1.moveTo next)) ∧
    (isCop .repeat b = true → goes (.repeatBundle c q)
      (if q0.rep < bits b.carg 0 16 then { q1 with rep := q0.rep + 1 } else { q1 with rep := 0 }.moveTo next)) ∧
    (isCop .call b = true → goes (.call c q) { q1 with
      stack := next :: q0.stack, addr := Sparse.get 0 ((s.core c).callTable q0.addr) (bits b.carg 0 16) % 16384 }) ∧
    (isCop .ret b = true → ∀ a rest, q0.stack = a :: rest → goes (.ret c q) ({ q1 with stack := rest }.moveTo a)) ∧
    (isCop .setx b = true → goes (.setx c q) (if bit b.carg 27
      then (q1.setXS (bits b.carg 28 4) (bits b.carg 0 16)).moveTo next
      else (q1.setX (bits b.carg 28 4) (bits b.carg 0 16)).moveTo next)) ∧
    (isCop .finish b = true → goes (.endStream c q) { q1 with ended := true })) ∧
  (∀ (c : CoreId) (q : SeqId) (s : State) (k : Core), s.canonical = true → s.Issuing c q k → isCop .loop ((s.core c).bundle q) = true →
    let b := (s.core c).bundle q
    let q0 := (s.core c).seq q
    let q1 := q0.applyInc b.inc
    let next := q0.addr + b.size
    let stop := skipBundles (s.core c).img.prog (bits b.carg 16 13) next
    let times := if bit b.carg 15 then q0.getX 15 else bits b.carg 0 15 + 1
    ∃ t : State, exec (.loop c q) s = .next t ∧ (t.core c).seq q =
      if times = 0 then q1.moveTo stop
      else { q1 with loops := ⟨bits b.carg 29 3, next, stop, times, q0.stack.length⟩ :: q0.loops, addr := next % 16384 })

/-- SELECT and TAKE take the next choice, write its ARG to X15 after INC, and SELECT calls the variant the choice names; a choice
that is no variant, or no token at a TAKE, raises 0x1301 (R162). -/
def Obligations.ChoiceBundles : Prop :=
  ∀ (c : CoreId) (q : SeqId) (s : State) (k : Core) (w : BitVec 32) (rest : List (BitVec 32)), s.canonical = true →
    s.Issuing c q k → ((s.core c).seq q).choices = w :: rest →
    let b := (s.core c).bundle q
    let q0 := (s.core c).seq q
    let q1 := (q0.applyInc b.inc).setX 15 (bits w.toNat 16 16)
    let next := q0.addr + b.size
    let vs := Sparse.get [] ((s.core c).variantTable q0.addr) (bits b.carg 0 16)
    let v := bits w.toNat 0 16
    (isCop .take b = true →
      (v = 0xFFFF → ∃ t : State, exec (.take c q) s = .next t ∧ (t.core c).seq q = { q1 with choices := rest }.moveTo next) ∧
      (v ≠ 0xFFFF → exec (.take c q) s = .next (s.coreFault c 0x1301 0 (q == .access)))) ∧
    (isCop .select b = true →
      (v ≠ 0xFFFF → v < vs.length → ∃ t : State, exec (.select c q) s = .next t ∧
        (t.core c).seq q = { q1 with choices := rest, stack := next :: q0.stack, addr := vs.getD v 0 % 16384 }) ∧
      (v = 0xFFFF ∨ vs.length ≤ v → exec (.select c q) s = .next (s.coreFault c 0x1301 0 (q == .access))))

/-- BSET sets its buoy and counts the set, BCLR clears its buoy, BWAIT leaves it as it found it, and a tally wait adds n to the
tally's base (R241, R243, R246). Each waits, with nothing changed, until its condition holds (R140).
Where a synchronisation operation's condition does not hold, its row leaves the state as it is: BSET at a buoy that is set,
BCLR and BWAIT until set at one that is clear, BWAIT until clear at one that is set (R140, R241, R243). -/
def Obligations.BuoyBundles : Prop :=
  (∀ (c : CoreId) (q : SeqId) (s : State) (k : Core), s.canonical = true → Sparse.wf Buoy.blank (s.core c).buoys = true →
    Sparse.wf Tally.blank (s.core c).tallies = true → s.Issuing c q k →
    let b := (s.core c).bundle q
    let n := bits b.carg 0 6
    let ty := bits b.carg 26 4
    let next := (((s.core c).seq q).applyInc b.inc).moveTo (((s.core c).seq q).addr + b.size)
    (isCop .bset b = true → ∃ t : State, exec (.bset c q) s = .next t ∧ (t.core c).seq q = next ∧
      (t.core c).buoy n = { (s.core c).buoy n with set := true, sets := ((s.core c).buoy n).sets + 1 }) ∧
    (isCop .bclr b = true → ∃ t : State, exec (.bclr c q) s = .next t ∧ (t.core c).seq q = next ∧
      (t.core c).buoy n = { (s.core c).buoy n with set := false }) ∧
    (isBwait 0 b = true → ∃ t : State, exec (.bwaitSet c q) s = .next t ∧ (t.core c).seq q = next ∧
      (t.core c).buoys = (s.core c).buoys) ∧
    (isBwait 1 b = true → ∃ t : State, exec (.bwaitClear c q) s = .next t ∧ (t.core c).seq q = next ∧
      (t.core c).buoys = (s.core c).buoys) ∧
    (isBwait 2 b = true → ∃ t : State, exec (.bwaitTally c q) s = .next t ∧ (t.core c).seq q = next ∧
      (t.core c).tally ty = { (s.core c).tally ty with
        tb := ((s.core c).tally ty).tb + BitVec.ofNat 32 (tallyCount ((s.core c).seq q) b.carg) })) ∧
  (∀ (c : CoreId) (q : SeqId) (s : State),
    let b := (s.core c).bundle q
    let up := ((s.core c).buoy (bits b.carg 0 6)).set
    (∀ i, i < b.size → s.badWord c 3 (((s.core c).seq q).addr + i) = false) → s.marks c = [] →
    ((isCop .bset b = true ∧ up = true → exec (.bset c q) s = .next s) ∧
     (isCop .bclr b = true ∧ up = false → exec (.bclr c q) s = .next s) ∧
     (isBwait 0 b = true ∧ up = false → exec (.bwaitSet c q) s = .next s) ∧
     (isBwait 1 b = true ∧ up = true → exec (.bwaitClear c q) s = .next s)))

/-- A posted FENCE (WAIT = 0) is posted before its bundle's slots, with its classes, and the sequencer goes on (R248, R250). A FENCE
with WAIT posts its fence and holds the sequencer, and issues once that fence is complete (R250). A BARRIER that names classes posts a
fence of them; once that is complete, or where it names none, its member arrives at the episode; once the episode is released the
bundle issues (R254), once its release has come to the end of its way through the lanes (R287), and not before. -/
def Obligations.FenceAndBarrierBundles : Prop :=
  ∀ (c : CoreId) (q : SeqId) (s : State) (k : Core), s.canonical = true →
    let b := (s.core c).bundle q
    let q0 := (s.core c).seq q
    let fence (carg lo : Nat) (by_ : Option Nat) (w : Bool) : Fence :=
      ⟨(s.core c).nextOp, q, bit carg lo, bit carg (lo + 1), bit carg (lo + 2), (s.core c).nextOp, by_, w⟩
    let buoy := if bit b.carg 14 then some (bits b.carg 8 6) else none
    let next : Seq :=
      { q0.applyInc b.inc with fence := none, fenced := false, arrived := false, released := false, way := 0 }.moveTo (q0.addr + b.size)
    let stands : Prop := s.issues c = true ∧ (s.core c).mayIssue q = true ∧ s.marks c = [] ∧
      ∀ i, i < b.size → s.badWord c 3 (q0.addr + i) = false
    (isCop .fence b = true → bit b.carg 15 = false → s.Issuing c q k → ∃ t : State, exec (.fence c q) s = .next t ∧
      (t.core c).seq q = next ∧ fence b.carg 0 buoy false ∈ (t.core c).fences) ∧
    (isCop .fence b = true → bit b.carg 15 = true → q0.fence = none → q0.fenced = false → stands →
      ∃ t : State, exec (.fence c q) s = .next t ∧ (t.core c).seq q = { q0 with fence := some (s.core c).nextOp } ∧
        (t.core c).fences = (s.core c).fences ++ [fence b.carg 0 buoy true]) ∧
    (isCop .fence b = true → bit b.carg 15 = true → q0.fenced = true → s.Issuing c q k → ∃ t : State,
      exec (.fence c q) s = .next t ∧ (t.core c).seq q = next) ∧
    (isCop .barrier b = true → bits b.carg 8 3 ≠ 0 → q0.fence = none → q0.fenced = false → stands →
      ∃ t : State, exec (.barrier c q) s = .next t ∧ (t.core c).seq q = { q0 with fence := some (s.core c).nextOp } ∧
        (t.core c).fences = (s.core c).fences ++ [fence b.carg 8 none true]) ∧
    (isCop .barrier b = true → (bits b.carg 8 3 ≠ 0 → q0.fenced = true) → q0.arrived = false → q0.released = false → stands →
      ∃ t : State, exec (.barrier c q) s = .next t ∧ (t.core c).seq q = { q0 with arrived := true }) ∧
    (isCop .barrier b = true → q0.released = true → q0.arrived = true → (bits b.carg 8 3 ≠ 0 → q0.fenced = true) →
      s.Issuing c q k → ∃ t : State, exec (.barrier c q) s = .next t ∧ (t.core c).seq q = next) ∧
    (isCop .barrier b = true → q0.released = true → q0.arrived = true → (bits b.carg 8 3 ≠ 0 → q0.fenced = true) →
      s.home q0.way = false → stands → exec (.barrier c q) s = .next s)

/-- CANCEL clears its buoy and discards every entry of the inbound queues its mask names, with the fetches into them (R197, R198);
QMARK on an outbound queue pushes a marker with its label behind the queue's entries, for a message queue with its envelope, QMATCH on
an inbound queue pops a marker of its label and stops the run at data (0x1302) or another label (0x1304) (R158); on the queues of the stream engine both are queued for it in issue order (R527).
`k` is the core once the bundle's slots have issued. -/
def Obligations.QueueBundles : Prop :=
  ∀ (c : CoreId) (q : SeqId) (s : State) (k : Core), s.canonical = true → s.Issuing c q k →
    let b := (s.core c).bundle q
    let n := bits b.carg 16 4
    let label := BitVec.ofNat 8 b.carg
    let goes (i : Instr) (p : Core → Prop) : Prop := ∃ t : State, exec i s = .next t ∧ p (t.core c) ∧
      (t.core c).seq q = (((s.core c).seq q).applyInc b.inc).moveTo (((s.core c).seq q).addr + b.size)
    let cancelled (o : StreamOp) : Bool := decide (o.first < 16) && bit (bits b.carg 16 16) o.first &&
      ((o.kind == 1 && dDkind o.word == 0) || o.kind == 4)
    (isCop .cancel b = true → goes (.cancel c q) (fun d => (d.buoy (bits b.carg 8 6)).set = false ∧
      (∀ m, m < 16 → bit (bits b.carg 16 16) m = true → (d.queue m).entries = []) ∧
      ∃ x ∈ d.cancels, x.mask = bits b.carg 16 16 ∧ ∀ o ∈ k.ops, cancelled o = true → o.id ∈ x.ops)) ∧
    (isCop .qmark b = true → bit b.carg 20 = true → (k.queue (16 + n)).room ≠ 0 →
      ((k.queue (16 + n)).farEnd = 2 → (s.envelopeOk c (bits b.carg 8 8)).isSome = true) →
      goes (.qmark c q) (fun d => ∃ e : QEntry, (d.queue (16 + n)).entries = (k.queue (16 + n)).entries ++ [e] ∧
        e.mark = some label ∧ e.count = 0 ∧ e.lines = [] ∧ e.env = bits b.carg 8 8)) ∧
    (isCop .qmark b = true → bit b.carg 20 = false → goes (.qmark c q) (fun d =>
      d.ops.map (fun o => (o.kind, o.first, o.label)) = k.ops.map (fun o => (o.kind, o.first, o.label)) ++ [(4, n, label)])) ∧
    (isCop .qmatch b = true → bit b.carg 20 = true → goes (.qmatch c q) (fun d =>
      d.ops.map (fun o => (o.kind, o.first, o.label)) = k.ops.map (fun o => (o.kind, o.first, o.label)) ++ [(5, n, label)])) ∧
    (∀ e rest, isCop .qmatch b = true → bit b.carg 20 = false → (k.queue n).entries = e :: rest → e.mark = some label →
      goes (.qmatch c q) (fun d => (d.queue n).entries = rest ∧ (d.queue n).popped = (k.queue n).popped + 1)) ∧
    (∀ e rest, isCop .qmatch b = true → bit b.carg 20 = false → (k.queue n).entries = e :: rest → e.mark ≠ some label →
      exec (.qmatch c q) s = .next (s.coreFault c (if e.mark = none then 0x1302 else 0x1304) n (q == .access)))

/-- After END an empty beat issues while the core is not settled, and the trace ends at the first beat boundary at which it is
(R141).
A posted fence that covers no outstanding operation completes and sets its buoy if that is clear (R250); a barrier whose
members have all arrived completes an episode and releases every member (R254). -/
def Obligations.BeatsAndBarriersEnd : Prop :=
  (∀ (c : CoreId) (s : State), s.canonical = true → s.issues c = true → (s.core c).ex.ended = true → (s.core c).ex.halted = false →
    (s.core c).traceEnd = false → (s.core c).rowCaughtUp = true → s.marks c = [] →
    ((s.core c).settled = false → ∃ t : State, exec (.emptyBeat c) s = .next t ∧ (t.core c).beat = (s.core c).beat + 1 ∧
      (t.core c).traceEnd = false) ∧
    ((s.core c).settled = true → ∃ t : State, exec (.emptyBeat c) s = .next t ∧ (t.core c).beat = (s.core c).beat ∧
      (t.core c).traceEnd = true)) ∧
  ((∀ (c : CoreId) (n : Nat) (s : State) (f : Fence), s.canonical = true → (s.core c).fences.find? (fun g => g.id == n) = some f →
    s.paced c = true → (s.core c).fenceMet f = true → (∀ m, f.buoy = some m → ((s.core c).buoy m).set = false) →
    exec (.fenceComplete c n) s = .next (s.withCore c ((s.core c).fenceComplete f)) ∧
    ((s.core c).fenceComplete f).fences = (s.core c).fences.filter (fun g => g.id ≠ n) ∧
    (∀ m, f.buoy = some m → (((s.core c).fenceComplete f).buoy m).set = true)) ∧
  (∀ (l b : Nat) (s : State) (d : BarrierDef), s.canonical = true → (s.lagoon l).barriers.find? (fun e => e.num == b) = some d →
    (s.lagoon l).st = .running → d.members.all (s.arrived l b) = true → (∀ m ∈ d.members, m.1 < 512) →
    ∃ t : State, exec (.barrierRelease l b) s = .next t ∧
      (∀ e ∈ (t.lagoon l).barriers, e.num = b → ∃ e0 ∈ (s.lagoon l).barriers, e0.num = b ∧ e.episodes = e0.episodes + 1) ∧
      (∀ m ∈ d.members, ((t.core ⟨l, m.1⟩).seq (if m.2 && (t.core ⟨l, m.1⟩).img.split then .access else .execute)).released = true)))


/-! ## The matrix row -/

/-- An A tile that passes its checks, and whose charge the power guard's bucket holds, enters the row at this beat, claims the row for
one beat or, in exact-sum mode, two, a drain it asks for joins the fixed order of the sound for each cube it masks, and a tile fed from
a queue leaves it (R92, R94, R105, R108, R352). One that fails a check is not issued and stops the run with the check's event.
An A tile whose tag is not the FMT of its syllable is not issued: event 0x1101 stops the run (R59, R90). -/
def Obligations.ATileIssues : Prop :=
  (∀ (c : CoreId) (w : BitVec 64) (s : State) (l : Line) (a : AccKind), s.canonical = true → s.slotReady c →
    let k := s.slotCore c
    let x := effMatrix k k.ex w
    let rcw : BitVec 32 := BitVec.ofNat 32 x.toNat
    let fmt := Fmt.ofTag (bits x.toNat 60 4)
    let charge := (maskedCubes (BitVec.ofNat 32 w.toNat)).length * (if rcwExact (BitVec.ofNat 32 w.toNat) then 8 else 4)
    k.aLine x.toNat = .ok l → k.row.waitingAtEntry < 2 →
    (k.checkATile fmt l rcw = none → fmt.acc? (rcwExact rcw) = some a → charge ≤ k.guardLu → ∃ k' : Core,
      exec (.aTileIssue c w) s = .next (s.withCore c k') ∧
      k'.row.tiles = k.row.tiles ++ [⟨k.beat, l, fmt, rcw, k.csr.dp.getD (rcwProf rcw) 0⟩] ∧
      k'.row.aFree = k.beat + (if rcwExact rcw then 2 else 1) ∧
      k'.row.order = k.row.order ++ (if rcwDrain rcw then (maskedCubes rcw).map (fun n => (k.beat, n)) else []) ∧
      k'.guardLu = k.guardLu - charge ∧
      (bit x.toNat 59 = true → (k'.queue (bits x.toNat 55 4)).entries = (k.queue (bits x.toNat 55 4)).entries.tail)) ∧
    (k.checkATile fmt l rcw = none → k.guardLu < charge → exec (.aTileIssue c w) s = .next s) ∧
    (∀ e n, k.checkATile fmt l rcw = some (e, n) → exec (.aTileIssue c w) s = .next (s.coreFault c e n false))) ∧
  (∀ (c : CoreId) (w : BitVec 64) (s : State) (l : Line), s.slotReady c →
    let k := s.slotCore c
    let x := effMatrix k k.ex w
    let fmt := Fmt.ofTag (bits x.toNat 60 4)
    k.aLine x.toNat = .ok l → k.row.waitingAtEntry < 2 → l.tag.toNat ≠ fmt.tag →
    exec (.aTileIssue c w) s = .next (s.coreFault c 0x1101 0 false))

/-- A cube that is ready acts at its beat position and moves on by one: the A tile that reaches it there, where its mask names the
cube, then the B-path writes of that position; the other cubes keep their state, and an exact-sum overflow raises the notice 0x1103
(R72, R85, R92, R97). The element an integer beat leaves in an INT32 tile is the old one plus the exact products modulo 2^32 (R65).
The next drained tile of the fixed order enters the sound behind the tiles it holds, when it is drained and there is room, and
leaves its drain register; otherwise nothing changes (R105). -/
def Obligations.CubesAndSound : Prop :=
  ((∀ (c : CoreId) (n : Nat) (s : State), s.canonical = true → n < 16 → s.paced c = true → (s.rowCore c n).cubeReady n = true →
    s.marks c = [] →
    let o := s.rowCore c n
    let q := (o.cube n).pos
    let taken : Cube := match o.row.tileAt n q with
      | some t => if rcwMask t.rcw n then (cubeTake (o.cube n) n t).1 else o.cube n
      | none => o.cube n
    ∃ t : State, exec (.cubeAct c n) s = .next t ∧
      (t.core c).cube n = { o.row.bops.foldl (bopWrite n q) taken with pos := q + 1 } ∧
      (∀ m, m < 16 → m ≠ n → (t.core c).cube m = (s.core c).cube m) ∧ t.mem = s.mem ∧
      (o.cubeOverflows n = true → (t.log.head?).map (·.code) = some 0x1103) ∧
      (o.cubeOverflows n = false → t.log = s.log)) ∧
  (∀ (f : Fmt) (a b : Line) (acc : List Nat) (e : Nat), e < 64 →
    (cubeBeat f .int32 a b acc).1.getD e 0 = wrapInt 32 ((acc.getD e 0 : Int) +
      (List.zipWith (fun x y => x.toInt * y.toInt) ((tileRows f a).getD (e / 8) []) ((tileRows f b).getD (e % 8) [])).sum))) ∧
  (∀ (c : CoreId) (s : State), s.canonical = true → s.paced c = true → s.marks c = [] →
    (∀ d n, (s.soundCore c).nextSound = some (d, n) → ∃ k' : Core, exec (.soundEntry c) s = .next (s.withCore c k') ∧
      k'.row.sound = (s.core c).row.sound ++ [d] ∧ k'.row.order = (s.core c).row.order.tail ∧
      (s.core c).row.order.head? = some (d.beat, n) ∧ (n < 16 → (k'.cube n).drain = none)) ∧
    ((s.soundCore c).nextSound = none → exec (.soundEntry c) s = .next s))

/-- A B-path operation that finds its path free is under way from this beat, its path claimed for as many beats as it reads lines:
SET names sixteen members, ONE one cube, ACCLOAD the lines of its accumulator kind (R96 to R98). One issued while the path is busy
raises 0x1106 (R94, R98), an ACCLOAD of no accumulator kind or at a slot its kind does not allow 0x1104 (R90, R96). -/
def Obligations.BPathOperations : Prop :=
  ∀ (c : CoreId) (w : BitVec 64) (s : State), s.slotReady c →
    let k := s.slotCore c
    let word (kind : Nat) : BitVec 48 := BitVec.ofNat 48 (effBpath k k.ex (withBopKind kind w)).toNat
    let members (kind : Nat) : List Line := (List.range (bopMembers (word kind))).map (fun m => k.tileLine (bopIndex k.skew (word kind) m))
    let allowed : Prop := ∃ a n, akind? (bopAkind (word 3)) = some (a, n) ∧ bopSlot (word 3) % a.slots = 0
    (k.row.bFree ≤ k.beat → ∃ k' : Core, exec (.setB c w) s = .next (s.withCore c k') ∧
      k'.row.bops = k.row.bops ++ [⟨k.beat, word 1, members 1, []⟩] ∧ k'.row.bFree = k.beat + 1) ∧
    (k.row.bFree ≤ k.beat → ∃ k' : Core, exec (.oneB c w) s = .next (s.withCore c k') ∧
      k'.row.bops = k.row.bops ++ [⟨k.beat, word 2, members 2, []⟩] ∧ k'.row.bFree = k.beat + 1) ∧
    (k.row.bFree ≤ k.beat → allowed → ∃ k' : Core, exec (.accload c w) s = .next (s.withCore c k') ∧
      k'.row.bops = k.row.bops ++ [⟨k.beat, word 3, members 3, []⟩] ∧ k'.row.bFree = k.beat + bopLines (word 3)) ∧
    (k.row.bFree ≤ k.beat → ¬allowed → exec (.accload c w) s = .next (s.coreFault c 0x1104 (bopCube (word 3)) false)) ∧
    (k.beat < k.row.bFree → exec (.setB c w) s = .next (s.coreFault c 0x1106 (bopCube (word 1)) false) ∧
      exec (.oneB c w) s = .next (s.coreFault c 0x1106 (bopCube (word 2)) false) ∧
      exec (.accload c w) s = .next (s.coreFault c 0x1106 (bopCube (word 3)) false))

/-! ## The vector engine -/

/-- Element-wise integer instructions: in INT8, INT16 and INT32, element e of the result, ready for VD three beats on, is what
Table 3 of spec/04 names of elements e of VA, VB and VC: wrapping, saturating, shifting, bitwise, minimum and maximum (R124, R149). An
inactive element's bytes are outside the result's mask, so that it keeps its value (R120). A saturated element sets SAT in ARSTAT (R58),
VRBASE advances by the element count under RSR (R126), and the bucket of the power guard pays 16 load units (R352).
`a`, `b`, `d` are the sources' elements, `x`, `y`, `z` their signed values, `n` the shift count modulo the width. -/
def Obligations.VectorIntegerElements : Prop :=
  ∀ (c : CoreId) (w : BitVec 64) (s : State), s.slotReady c →
    let k := s.slotCore c
    let o := k.fieldsOf w
    o.fmt.isVecInt = true → 16 ≤ k.guardLu →
    let wd := o.fmt.width
    let out (v : Int) : Bool := decide (v < -(2 ^ (wd - 1) : Int)) || decide ((2 ^ (wd - 1) : Int) - 1 < v)
    let sat (v : Int) : Nat := if v < -(2 ^ (wd - 1) : Int) then 2 ^ (wd - 1)
      else if (2 ^ (wd - 1) : Int) - 1 < v then 2 ^ (wd - 1) - 1 else wrapInt wd v
    let va (e : Nat) : Nat := (elems o.fmt (k.vreg o.va)).getD e 0
    let vb (e : Nat) : Nat := (elems o.fmt (k.vreg o.vb)).getD e 0
    let vc (e : Nat) : Nat := (elems o.fmt (k.vreg o.vc)).getD e 0
    let on := k.active o o.fmt.count
    let gives (i : Instr) (f : Nat → Nat → Nat → Nat) (fl : Flags) : Prop := ∃ (k' : Core) (r : VecData),
      exec i s = .next (s.withCore c k') ∧ k.Computed k' o [⟨k.beat + 3, .reg o.vd, r, k.resultMask o⟩] 1 o.fmt.count fl ∧
      ∀ e ∈ on, (elems o.fmt r).getD e 0 = f (va e) (vb e) (vc e)
    let saturates (i : Instr) (f : Int → Int → Int) : Prop :=
      gives i (fun a b _ => sat (f (sext wd a) (sext wd b))) (if on.any (fun e => out (f (sext wd (va e)) (sext wd (vb e)))) then fSat else 0)
    gives (.vAdd c w) (fun a b _ => wrapInt wd (sext wd a + sext wd b)) 0 ∧
    gives (.vSub c w) (fun a b _ => wrapInt wd (sext wd a - sext wd b)) 0 ∧
    gives (.vMul c w) (fun a b _ => wrapInt wd (sext wd a * sext wd b)) 0 ∧
    gives (.vFma c w) (fun a b d => wrapInt wd (sext wd a * sext wd b + sext wd d)) 0 ∧
    gives (.vNeg c w) (fun a _ _ => wrapInt wd (-sext wd a)) 0 ∧
    gives (.vAbs c w) (fun a _ _ => wrapInt wd (if sext wd a < 0 then -sext wd a else sext wd a)) 0 ∧
    saturates (.vAdds c w) (· + ·) ∧ saturates (.vSubs c w) (· - ·) ∧ saturates (.vMuls c w) (· * ·) ∧
    gives (.vShl c w) (fun a _ _ => a * 2 ^ (o.imm % wd) % 2 ^ wd) 0 ∧
    gives (.vShr c w) (fun a _ _ => a / 2 ^ (o.imm % wd)) 0 ∧
    gives (.vSar c w) (fun a _ _ => wrapInt wd (sext wd a / (2 ^ (o.imm % wd) : Nat))) 0 ∧
    gives (.vAnd c w) (fun a b _ => a &&& b) 0 ∧ gives (.vOr c w) (fun a b _ => a ||| b) 0 ∧ gives (.vXor c w) (fun a b _ => a ^^^ b) 0 ∧
    gives (.vMin c w) (fun a b _ => if sext wd b < sext wd a then b else a) 0 ∧
    gives (.vMax c w) (fun a b _ => if sext wd a < sext wd b then b else a) 0

/-- Element-wise floating-point instructions in FP64, FP32, BF16 and FP16: each element is the exact result rounded once by the
instruction's mode, under RSR with the random word of its position, and VRBASE then advances by the element count (R124, R126, R524).
An inactive element keeps its value (R120). ARSTAT takes the rounding's flags of every active element, NAN_IN where a source is NaN and NV
where the result alone is (R82). -/
def Obligations.VectorFloatElements : Prop :=
  ∀ (c : CoreId) (w : BitVec 64) (s : State) (ff : FloatFmt), s.slotReady c →
    let k := s.slotCore c
    let o := k.fieldsOf w
    (o.fmt = .fp64 ∨ o.fmt = .fp32 ∨ o.fmt = .bf16 ∨ o.fmt = .fp16) → o.fmt.float? = some ff → 16 ≤ k.guardLu →
    let rdn := o.mode == .rdn
    let word (e : Nat) : Nat := if o.rm = 4 then k.draw c.v o.aux e else 0
    let va (e : Nat) : Val := ff.decode ((elems o.fmt (k.vreg o.va)).getD e 0)
    let vb (e : Nat) : Val := ff.decode ((elems o.fmt (k.vreg o.vb)).getD e 0)
    let vc (e : Nat) : Val := ff.decode ((elems o.fmt (k.vreg o.vc)).getD e 0)
    let on := k.active o o.fmt.count
    let gives (i : Instr) (ins : Nat → List Val) (mode : RMode) (draw : Nat → Nat) (v : Nat → Val) : Prop :=
      ∃ (k' : Core) (r : VecData), exec i s = .next (s.withCore c k') ∧
        k.Computed k' o [⟨k.beat + 3, .reg o.vd, r, k.resultMask o⟩] 1 o.fmt.count
          (orFlags (on.map (fun e => (ff.round mode (draw e) false (v e)).2 |||
            (if (ins e).any Val.isNan then fNanIn else if (v e).isNan then fNv else 0)))) ∧
        ∀ e ∈ on, (elems o.fmt r).getD e 0 = (ff.round mode (draw e) false (v e)).1 % 2 ^ o.fmt.width
    gives (.vAdd c w) (fun e => [va e, vb e]) o.mode word (fun e => Val.add rdn (va e) (vb e)) ∧
    gives (.vSub c w) (fun e => [va e, vb e]) o.mode word (fun e => Val.add rdn (va e) (vb e).negate) ∧
    gives (.vMul c w) (fun e => [va e, vb e]) o.mode word (fun e => Val.mul (va e) (vb e)) ∧
    gives (.vFma c w) (fun e => [va e, vb e, vc e]) o.mode word (fun e => Val.add rdn (Val.mul (va e) (vb e)) (vc e)) ∧
    gives (.vNeg c w) (fun e => [va e]) o.mode word (fun e => (va e).negate) ∧
    gives (.vAbs c w) (fun e => [va e]) o.mode word (fun e => (va e).abs) ∧
    gives (.vMin c w) (fun e => [va e, vb e]) .rne (fun _ => 0) (fun e => Val.min (va e) (vb e)) ∧
    gives (.vMax c w) (fun e => [va e, vb e]) .rne (fun _ => 0) (fun e => Val.max (va e) (vb e))

/-- A class that does not accept the FMT of its syllable does not execute: event 0x1203 stops the run (R138). Saturating, shift and
logic instructions accept INT8, INT16 and INT32 only; compares, reductions and the arithmetic classes no MX, E8M0 or raw format;
special functions no integer format. -/
def Obligations.VectorFormatRefused : Prop :=
  ∀ (c : CoreId) (w : BitVec 64) (s : State), s.slotReady c →
    let o := (s.slotCore c).fieldsOf w
    let refused (i : Instr) : Prop := exec i s = .next (s.coreFault c 0x1203 0 false)
    (o.fmt.isVecInt = false → refused (.vAdds c w) ∧ refused (.vSubs c w) ∧ refused (.vMuls c w) ∧ refused (.vShl c w) ∧
      refused (.vShr c w) ∧ refused (.vSar c w) ∧ refused (.vAnd c w) ∧ refused (.vOr c w) ∧ refused (.vXor c w)) ∧
    (o.fmt.isArith = false → refused (.vAdd c w) ∧ refused (.vSub c w) ∧ refused (.vMul c w) ∧ refused (.vFma c w) ∧
      refused (.vNeg c w) ∧ refused (.vAbs c w) ∧ refused (.vMin c w) ∧ refused (.vMax c w) ∧ refused (.vEq c w) ∧
      refused (.vNe c w) ∧ refused (.vLt c w) ∧ refused (.vLe c w) ∧ refused (.vTotlt c w) ∧ refused (.vRsum c w) ∧
      refused (.vRmax c w) ∧ refused (.vRmin c w)) ∧
    (o.fmt.isArith = false ∨ o.fmt.isVecInt = true → refused (.vExp c w) ∧ refused (.vExp2 c w) ∧ refused (.vLn c w) ∧
      refused (.vLog2 c w) ∧ refused (.vRcp c w) ∧ refused (.vSqrt c w) ∧ refused (.vRsqrt c w) ∧ refused (.vTanh c w) ∧
      refused (.vLogistic c w) ∧ refused (.vErf c w))

/-- Compares write mask register MREG, three beats on: bit e of an active element tells whether the comparison holds, bit e of an
inactive one keeps its value, and every bit past the elements is 0 (R120, R80, R81). NAN_IN is set where an active element is NaN
(R82), and 16 load units are paid (R352). -/
def Obligations.VectorCompares : Prop :=
  ∀ (c : CoreId) (w : BitVec 64) (s : State), s.slotReady c →
    let k := s.slotCore c
    let o := k.fieldsOf w
    o.fmt.isArith = true → 16 ≤ k.guardLu →
    let va (e : Nat) : Val := o.fmt.decode ((elems o.fmt (k.vreg o.va)).getD e 0)
    let vb (e : Nat) : Val := o.fmt.decode ((elems o.fmt (k.vreg o.vb)).getD e 0)
    let nan := (k.active o o.fmt.count).any (fun e => (va e).isNan || (vb e).isNan)
    let gives (i : Instr) (p : Val → Val → Bool) : Prop := ∃ (k' : Core) (r : VecData), exec i s = .next (s.withCore c k') ∧
      k.Computed k' o [⟨k.beat + 3, .mask o.mreg, r, BitVec.allOnes 256⟩] 1 0 (if nan then fNanIn else 0) ∧
      (∀ e, e < o.fmt.count → bit r.toNat e =
        if o.msk = true ∧ bit (k.mreg o.mreg).toNat e = false then bit (k.mreg o.mreg).toNat e else p (va e) (vb e)) ∧
      ∀ e, o.fmt.count ≤ e → bit r.toNat e = false
    gives (.vEq c w) Val.eq ∧ gives (.vNe c w) (fun x y => !Val.eq x y) ∧ gives (.vLt c w) Val.lt ∧
    gives (.vLe c w) (fun x y => Val.lt x y || Val.eq x y) ∧ gives (.vTotlt c w) Val.totLt

/-- SEL takes each unit from VA where its mask bit is set, else from VB; COMPRESS packs the active units of VA into the low units
of VD and zeroes the rest; EXPAND spreads the low units over the active places and zeroes the others. Each takes one beat and pushes no
summary entry (R124, R131, R132). -/
def Obligations.VectorSelectAndPack : Prop :=
  ∀ (c : CoreId) (w : BitVec 64) (s : State), s.slotReady c →
    let k := s.slotCore c
    let o := k.fieldsOf w
    16 ≤ k.guardLu →
    let on (e : Nat) : Bool := bit (k.mreg o.mreg).toNat e
    let va := unitsOf o.fmt (k.vreg o.va)
    let act := activeUnits o.msk (k.mreg o.mreg) o.fmt.units
    let gives (i : Instr) (p : VecData → Prop) : Prop := ∃ (k' : Core) (r : VecData), exec i s = .next (s.withCore c k') ∧
      k.Computed k' o [⟨k.beat + 3, .reg o.vd, r, BitVec.allOnes 256⟩] 1 0 0 ∧ k'.vec.summ = k.vec.summ ∧ p r
    gives (.vSel c w) (fun r => ∀ e, e < o.fmt.units →
      (unitsOf o.fmt r).getD e 0 = if on e then va.getD e 0 else (unitsOf o.fmt (k.vreg o.vb)).getD e 0) ∧
    gives (.vCompress c w) (fun r => ∀ e, e < o.fmt.units → (unitsOf o.fmt r).getD e 0 = (packUnits va act).getD e 0) ∧
    gives (.vExpand c w) (fun r => ∀ e, e < o.fmt.units → (unitsOf o.fmt r).getD e 0 =
      if act.getD e false then va.getD ((act.take e).countP id) 0 else 0)

/-- Special functions are computed as the exact value rounded once; FP64 occupies the path for 8 beats, FP32, BF16 and FP16 for one
beat in 16 elements, and the result is ready five beats after that (R116, R125, R149). An inactive element keeps its value (R120), ARSTAT
takes the flags of the active ones, VRBASE advances under RSR (R126), and 16 load units a beat are paid (R352). Special inputs give the
results of Table 4 of spec/04 whatever the mode, and LN and LOG2 of +1 give +0 (R125). RCP, SQRT and RSQRT are rounded as the mode says:
downwards not above the exact value, upwards not below it, the two no further than neighbours; and a value of the format that is exact
is given itself. EXP2 of an integer and LOG2 of a power of two are their exact values rounded once; TANH and ERF are odd. -/
def Obligations.VectorSpecialFunctions : Prop :=
  (∀ (c : CoreId) (w : BitVec 64) (s : State) (ff : FloatFmt), s.slotReady c →
    let k := s.slotCore c
    let o := k.fieldsOf w
    (o.fmt = .fp64 ∨ o.fmt = .fp32 ∨ o.fmt = .bf16 ∨ o.fmt = .fp16) → o.fmt.float? = some ff →
    let occ := if o.fmt = .fp64 then 8 else o.fmt.count / 16
    16 * occ ≤ k.guardLu →
    let word (e : Nat) : Nat := if o.rm = 4 then k.draw c.v o.aux e else 0
    let va (e : Nat) : Val := ff.decode ((elems o.fmt (k.vreg o.va)).getD e 0)
    let on := k.active o o.fmt.count
    let gives (i : Instr) (fn : SpecialFn) : Prop := ∃ (k' : Core) (r : VecData), exec i s = .next (s.withCore c k') ∧
      k.Computed k' o [⟨k.beat + (occ + 5), .reg o.vd, r, k.resultMask o⟩] occ o.fmt.count
        (orFlags (on.map (fun e => (special ff o.mode (word e) fn (va e)).2 ||| (if (va e).isNan then fNanIn else 0)))) ∧
      ∀ e ∈ on, (elems o.fmt r).getD e 0 = (special ff o.mode (word e) fn (va e)).1 % 2 ^ o.fmt.width
    gives (.vExp c w) .exp ∧ gives (.vExp2 c w) .exp2 ∧ gives (.vLn c w) .ln ∧ gives (.vLog2 c w) .log2 ∧
    gives (.vRcp c w) .rcp ∧ gives (.vSqrt c w) .sqrt ∧ gives (.vRsqrt c w) .rsqrt ∧ gives (.vTanh c w) .tanh ∧
    gives (.vLogistic c w) .logistic ∧ gives (.vErf c w) .erf) ∧
  (∀ (ff : FloatFmt) (mode : RMode) (r : Nat), ff ∈ [fp64F, fp32F, bf16F, fp16F] →
    let gives (fn : SpecialFn) (v : Val) (x : Nat) (fl : Flags) : Prop := special ff mode r fn v = (x, fl)
    let inf (n : Bool) : Nat := ff.withSign n (ff.inf.getD 0)
    let one : Nat := ff.bias * 2 ^ ff.mbits
    let nan : Nat := ff.nan.getD 0
    let zero (n : Bool) (e : Int) : Val := .fin n 0 e
    (∀ fn, gives fn .nan nan 0) ∧
    (∀ n e, gives .exp (zero n e) one 0 ∧ gives .exp2 (zero n e) one 0 ∧ gives .ln (zero n e) (inf true) 0 ∧
      gives .log2 (zero n e) (inf true) 0 ∧ gives .rcp (zero n e) (inf n) 0 ∧ gives .sqrt (zero n e) (ff.withSign n 0) 0 ∧
      gives .rsqrt (zero n e) (inf n) 0 ∧ gives .tanh (zero n e) (ff.withSign n 0) 0 ∧ gives .erf (zero n e) (ff.withSign n 0) 0 ∧
      gives .logistic (zero n e) (one - 2 ^ ff.mbits) 0) ∧
    gives .exp (.inf false) (inf false) 0 ∧ gives .exp2 (.inf false) (inf false) 0 ∧ gives .ln (.inf false) (inf false) 0 ∧
    gives .log2 (.inf false) (inf false) 0 ∧ gives .rcp (.inf false) 0 0 ∧ gives .sqrt (.inf false) (inf false) 0 ∧
    gives .rsqrt (.inf false) 0 0 ∧ gives .tanh (.inf false) one 0 ∧ gives .erf (.inf false) one 0 ∧
    gives .logistic (.inf false) one 0 ∧
    gives .exp (.inf true) 0 0 ∧ gives .exp2 (.inf true) 0 0 ∧ gives .ln (.inf true) nan fNv ∧ gives .log2 (.inf true) nan fNv ∧
    gives .rcp (.inf true) (ff.withSign true 0) 0 ∧ gives .sqrt (.inf true) nan fNv ∧ gives .rsqrt (.inf true) nan fNv ∧
    gives .tanh (.inf true) (ff.withSign true one) 0 ∧ gives .erf (.inf true) (ff.withSign true one) 0 ∧
    gives .logistic (.inf true) 0 0 ∧
    (∀ m e, 0 < m → gives .ln (.fin true m e) nan fNv ∧ gives .log2 (.fin true m e) nan fNv ∧ gives .sqrt (.fin true m e) nan fNv ∧
      gives .rsqrt (.fin true m e) nan fNv) ∧
    (∀ j : Nat, gives .ln (.fin false (2 ^ j) (-(j : Int))) 0 0 ∧ gives .log2 (.fin false (2 ^ j) (-(j : Int))) 0 0) ∧
    (∀ (n : Bool) (j : Nat), 0 < j → j < 2 ^ 12 →
      special ff mode r .exp2 (.fin n j 0) = ff.round mode r false (.fin false 1 (if n then -(j : Int) else j))) ∧
    (∀ j : Int, j ≠ 0 → special ff mode r .log2 (.fin false 1 j) = ff.round mode r false (.fin (decide (j < 0)) j.natAbs 0)) ∧
    (∀ m e, (mode = .rne ∨ mode = .rtz) → ∀ fn, fn = .tanh ∨ fn = .erf →
      special ff mode r fn (.fin true m e) = (ff.withSign true (special ff mode r fn (.fin false m e)).1, (special ff mode r fn (.fin false m e)).2))) ∧
  (∀ (ff : FloatFmt) (r x : Nat), ff ∈ [fp64F, fp32F, bf16F, fp16F] →
    let v := ff.decode x
    let one : Val := .fin false 1 0
    v.isNan = false → v.isInf = false → Val.lt (.fin false 0 0) v = true →
    let rounds (fn : SpecialFn) (scaled : Val → Val) (goal : Val) : Prop :=
      let result (mode : RMode) : Nat := (special ff mode r fn v).1
      let not_above (y : Nat) : Prop := Val.lt goal (scaled (ff.decode y)) = false
      let not_below (y : Nat) : Prop := Val.lt (scaled (ff.decode y)) goal = false
      not_above (result .rdn) ∧ not_below (result .rup) ∧ result .rtz = result .rdn ∧
      (result .rup = result .rdn ∨ result .rup = result .rdn + 1) ∧ (result .rne = result .rdn ∨ result .rne = result .rup) ∧
      (∀ y, y < 2 ^ ff.signBit → Val.eq (scaled (ff.decode y)) goal = true → ∀ mode, (special ff mode r fn v).1 = y)
    rounds .sqrt (fun y => Val.mul y y) v ∧ rounds .rcp (fun y => Val.mul y v) one ∧
    rounds .rsqrt (fun y => Val.mul (Val.mul y y) v) one)

/-- RSUM, RMAX and RMIN leave their one result in the low bytes of VD with every other byte 0 (R134): for integer formats the sum
modulo 2^32 and the extremes of the active elements, with the least or greatest value of the format where none is active; for
floating-point formats, computed in FP64 for FP64 and in FP32 for the others, the sum by the fixed tree with inactive elements as +0, and
the extremes, with the infinities where no element is active. ARSTAT takes the flags of the sum, and NAN_IN where an active element is NaN
(R82); 16 load units are paid (R352).
CVT converts a source group of registers into a destination group, the wider of the two formats filling one vector or more
(R525). Element e of the source group, scaled by byte e / 32 of the register after the group where its format is MX, becomes element e of
the destination group by the rounding mode and overflow rule of the syllable; into an MX format the active elements of each block of
32 share a scale (R79), which the register after the destination group takes, while a block with none keeps its scale, and the rest of that
register is 0. Places of inactive elements keep their values. ARSTAT takes the flags of the active elements, VRBASE advances by N under
RSR (R126), and 16 load units a beat are paid (R352). -/
def Obligations.VectorReduceAndConvert : Prop :=
  (∀ (c : CoreId) (w : BitVec 64) (s : State), s.slotReady c →
    let k := s.slotCore c
    let o := k.fieldsOf w
    16 ≤ k.guardLu →
    let wd := o.fmt.width
    let active (e : Nat) : Bool := !o.msk || bit (k.mreg o.mreg).toNat e
    let raw (e : Nat) : Nat := (elems o.fmt (k.vreg o.va)).getD e 0
    let on := (List.range o.fmt.count).filter active
    let ints := on.map (fun e => sext wd (raw e))
    let ff := if o.fmt = .fp64 then fp64F else fp32F
    let vals := (List.range o.fmt.count).map (fun e => if active e then o.fmt.decode (raw e) else .fin false 0 0)
    let nan : Flags := if on.any (fun e => (o.fmt.decode (raw e)).isNan) then fNanIn else 0
    let gives (i : Instr) (v : Nat) (fl : Flags) : Prop := ∃ k' : Core, exec i s = .next (s.withCore c k') ∧
      k.Computed k' o [⟨k.beat + 5, .reg o.vd, BitVec.ofNat 2048 v, BitVec.allOnes 256⟩] 1 0 fl
    (o.fmt.isVecInt = true → gives (.vRsum c w) (wrapInt 32 ints.sum) 0 ∧
      gives (.vRmax c w) (wrapInt 32 (ints.foldl max (-(2 ^ (wd - 1) : Int)))) 0 ∧
      gives (.vRmin c w) (wrapInt 32 (ints.foldl min ((2 ^ (wd - 1) : Int) - 1))) 0) ∧
    (o.fmt.isArith = true → o.fmt.isVecInt = false →
      gives (.vRsum c w) (rneTo ff (treeSum ff 10 vals).1).1 ((treeSum ff 10 vals).2 ||| nan) ∧
      (on = [] → gives (.vRmax c w) (ff.withSign true (ff.inf.getD 0)) 0 ∧ gives (.vRmin c w) (ff.withSign false (ff.inf.getD 0)) 0) ∧
      (on ≠ [] → ∃ x y : Val, foldMM true (on.map (fun e => o.fmt.decode (raw e))) = some x ∧
        foldMM false (on.map (fun e => o.fmt.decode (raw e))) = some y ∧
        gives (.vRmax c w) (rneTo ff x).1 nan ∧ gives (.vRmin c w) (rneTo ff y).1 nan))) ∧
  (∀ (c : CoreId) (w : BitVec 64) (s : State), s.slotReady c →
    let k := s.slotCore c
    let o := k.fieldsOf w
    let src := Fmt.ofTag o.aux
    let dst := o.fmt
    (src = .e8m0 ∨ src = .raw ∨ dst = .e8m0 ∨ dst = .raw → exec (.vCvt c w) s = .next (s.coreFault c 0x1203 0 false)) ∧
    (src ≠ .e8m0 → src ≠ .raw → dst ≠ .e8m0 → dst ≠ .raw →
      let n := max src.count dst.count
      let t := n / dst.count
      let occ := (n + cvtRate src - 1) / cvtRate src
      let active (e : Nat) : Bool := !o.msk || bit (k.mreg o.mreg).toNat (if n = 512 then e / 2 else e)
      let from_ (e : Nat) : Val :=
        let x := (elems src (k.vreg (o.va + e / src.count))).getD (e % src.count) 0
        if src.isMx then src.decodeScaled x (bits (k.vreg (o.va + n / src.count)).toNat (8 * (e / 32)) 8) else src.decode x
      let word (e : Nat) : Nat := if o.rm = 4 then k.draw c.v o.aux e else 0
      let block (b : Nat) : List Nat := ((List.range 32).map (32 * b + ·)).filter active
      let mask (j : Nat) : BitVec 256 := BitVec.ofNat 256 (byteMask (dst.unitBits / 8)
        ((List.range dst.units).map (fun u => active (dst.count * j + dst.count / dst.units * u))))
      let flags : Flags :=
        if dst.isMx then orFlags ((List.range (n / 32)).map (fun b => if block b = [] then 0
          else (mxBlock dst o.mode ((block b).map (fun e => (from_ e, word e)))).2.2))
        else orFlags (((List.range n).filter active).map (fun e => (convertVal dst o.mode (word e) (!o.ovf) (from_ e)).2))
      16 * occ ≤ k.guardLu → ∃ (k' : Core) (r : Nat → VecData) (sc : VecData), exec (.vCvt c w) s = .next (s.withCore c k') ∧
        k.Computed k' o ((List.range t).map (fun j => ⟨k.beat + (occ + 3), .reg ((o.vd + j) % 32), r j, mask j⟩) ++
          (if dst.isMx then [⟨k.beat + (occ + 3), .reg ((o.vd + t) % 32), sc, BitVec.allOnes 256⟩] else [])) occ n flags ∧
        sc.toNat < 2 ^ (n / 4) ∧
        (∀ e, e < n → active e = true → dst.isMx = false →
          (elems dst (r (e / dst.count))).getD (e % dst.count) 0 =
            (convertVal dst o.mode (word e) (!o.ovf) (from_ e)).1 % 2 ^ dst.width) ∧
        (dst.isMx = true → ∀ b, b < n / 32 →
          let q := mxBlock dst o.mode ((block b).map (fun e => (from_ e, word e)))
          (block b = [] → bits sc.toNat (8 * b) 8 = bits (k.vreg (o.vd + t)).toNat (8 * b) 8) ∧
          (block b ≠ [] → bits sc.toNat (8 * b) 8 = q.1 % 256 ∧ ∀ i, i < (block b).length →
            (elems dst (r ((block b).getD i 0 / dst.count))).getD ((block b).getD i 0 % dst.count) 0 = q.2.1.getD i 0 % 2 ^ dst.width))))

/-- SUMM pushes one summary entry, readable by the pilot from the eighth period on after its issue (R277), while fewer than sixteen wait; a sixteenth waiting
makes the next raise 0x1202 (R135). COUNT holds the number of active units, ANY whether there is one, MAX and SUM the reduction of R134 for
formats of the arithmetic classes but FP64; other kinds and formats raise 0x1203 (R134, R138; kinds 4 to 15 by DESIGN CHOICE 35).
COMPRESS.Q appends the active units to the packing buffer of an outbound queue and pushes an entry when 256 bytes are there, waiting
for room; FLUSH pushes a partly filled buffer with its element count and does nothing to an empty one; EXPAND.Q waits at an empty queue,
takes units of its head entries, going on to the next entry where one ends, and spreads them over the active places (R133). A message
queue's entry needs a valid envelope, else 0x3101 stops the run (R256). -/
def Obligations.SummariesAndPacking : Prop :=
  (∀ (c : CoreId) (w : BitVec 64) (s : State), s.slotReady c →
    let k := s.slotCore c
    let o := k.fieldsOf w
    16 ≤ k.guardLu →
    let n := ((List.range o.fmt.units).filter (fun e => !o.msk || bit (k.mreg o.mreg).toNat e)).length
    let act := activeUnits o.msk (k.mreg o.mreg) o.fmt.units
    let sums : Bool := o.fmt.isArith && o.fmt != .fp64
    let tag := if o.fmt.isVecInt then 0xA else 1
    let entry (kind tag v : Nat) : BitVec 64 := BitVec.ofNat 64 (v % 2 ^ 32 + (o.imm % 256) * 2 ^ 48 + tag * 2 ^ 56 + kind * 2 ^ 60)
    let pushes (e : BitVec 64) : Prop := ∃ k' : Core, exec (.vSumm c w) s = .next (s.withCore c k') ∧
      k'.vec.summ = k.vec.summ ++ [⟨e, k.clock + 8⟩] ∧ k'.vec.freeC = k.beat + 1 ∧ k'.guardLu = k.guardLu - 16
    (k.vec.summ.length < 16 →
      (o.aux = 0 → pushes (entry 0 0xA n)) ∧ (o.aux = 1 → pushes (entry 1 0xA (if n = 0 then 0 else 1))) ∧
      (o.aux = 2 → sums = true → pushes (entry 2 tag (reduceVec 1 o.fmt (elems o.fmt (k.vreg o.va)) act).1)) ∧
      (o.aux = 3 → sums = true → pushes (entry 3 tag (reduceVec 0 o.fmt (elems o.fmt (k.vreg o.va)) act).1))) ∧
    (16 ≤ k.vec.summ.length → (o.aux < 2 ∨ (o.aux < 4 ∧ sums = true)) → exec (.vSumm c w) s = .next (s.coreFault c 0x1202 0 false)) ∧
    (4 ≤ o.aux ∨ (2 ≤ o.aux ∧ sums = false) → exec (.vSumm c w) s = .next (s.coreFault c 0x1203 0 false))) ∧
  (∀ (c : CoreId) (w : BitVec 64) (s : State), s.canonical = true → s.slotReady c →
    let k := s.slotCore c
    let o := k.fieldsOf w
    16 ≤ k.guardLu →
    let oq := 16 + o.aux % 16
    let iq := o.aux % 16
    let act := activeUnits o.msk (k.mreg o.mreg) o.fmt.units
    let n := act.countP id
    let buf := (k.queue oq).pack ++ (packUnits (unitsOf o.fmt (k.vreg o.va)) act).flatMap (toBytes (o.fmt.unitBits / 8))
    let valid : Prop := (k.queue oq).farEnd = 2 → (s.envelopeOk c (o.imm % 256)).isSome = true
    let spread (us : List Nat) : VWrite :=
      ⟨k.beat + 3, .reg o.vd, BitVec.ofNat 2048 (joinBits o.fmt.unitBits (spreadUnits us act)), BitVec.allOnes 256⟩
    (buf.length < 256 → ∃ k' : Core, exec (.vCompressQ c w) s = .next (s.withCore c k') ∧ (k'.queue oq).pack = buf ∧
      (k'.queue oq).entries = (k.queue oq).entries ∧ k'.vec.freeC = k.beat + 1) ∧
    (256 ≤ buf.length → valid → (k.queue oq).room ≠ 0 → ∃ (k' : Core) (e : QEntry),
      exec (.vCompressQ c w) s = .next (s.withCore c k') ∧ (k'.queue oq).pack = buf.drop 256 ∧
      (k'.queue oq).entries = (k.queue oq).entries ++ [e] ∧ e.count = o.fmt.count ∧ e.tag.toNat = o.fmt.tag ∧ e.mark = none) ∧
    (256 ≤ buf.length → valid → (k.queue oq).room = 0 → exec (.vCompressQ c w) s = .next s) ∧
    (256 ≤ buf.length → ¬valid → exec (.vCompressQ c w) s = .next (s.coreFault c 0x3101 oq false)) ∧
    ((k.queue oq).pack = [] → ∃ k' : Core, exec (.vFlushOq c w) s = .next (s.withCore c k') ∧ k'.queues = k.queues ∧
      k'.vec.freeC = k.beat + 1) ∧
    ((k.queue oq).pack ≠ [] → valid → (k.queue oq).room ≠ 0 → ∃ (k' : Core) (e : QEntry),
      exec (.vFlushOq c w) s = .next (s.withCore c k') ∧ (k'.queue oq).pack = [] ∧
      (k'.queue oq).entries = (k.queue oq).entries ++ [e] ∧ e.count = 8 * (k.queue oq).pack.length / o.fmt.width) ∧
    ((k.queue oq).pack ≠ [] → valid → (k.queue oq).room = 0 → exec (.vFlushOq c w) s = .next s) ∧
    ((k.queue oq).pack ≠ [] → ¬valid → exec (.vFlushOq c w) s = .next (s.coreFault c 0x3101 oq false)) ∧
    ((k.queue iq).entries = [] → n ≠ 0 → exec (.vExpandQ c w) s = .next s) ∧
    (∀ k1 us, k.takeUnits o.fmt iq ((k.queue iq).entries.length + 1) n [] = .ok (k1, us) → us.length = n →
      ∃ k' : Core, exec (.vExpandQ c w) s = .next (s.withCore c k') ∧ k'.queue iq = k1.queue iq ∧
        k'.vec.pend = k.vec.pend ++ [spread us]) ∧
    (∀ e rest, (k.queue iq).entries = e :: rest → e.mark = none → k.cancelHolds iq = false →
      (k.queue iq).taken + n < (entryUnits o.fmt e).length → 0 < n →
      ∃ k' : Core, exec (.vExpandQ c w) s = .next (s.withCore c k') ∧ (k'.queue iq).entries = (k.queue iq).entries ∧
        (k'.queue iq).taken = (k.queue iq).taken + n ∧
        k'.vec.pend = k.vec.pend ++ [spread (((entryUnits o.fmt e).drop (k.queue iq).taken).take n)]))

/-- LDC, STC, LDT and STT move one vector, ready two beats on: between VD or VA and an operand cache line, or tile memory lines T
and T + 1, a store with the tag of its FMT and, for an MX tag, the sidecars of VB (R121, R123, R148, R149). -/
def Obligations.VectorLoadsAndStores : Prop :=
  ∀ (c : CoreId) (w : BitVec 64) (s : State), s.slotReady c →
    let k := s.slotCore c
    let o := k.fieldsOf w
    4 ≤ k.guardLu →
    let store := o.imm + (if bit o.aux 3 then (256 * k.vec.origCube + k.vec.origSlot) * 2 ^ (o.aux % 8) else 0)
    let vb := (k.vreg o.vb).toNat
    let side (x : Nat) : BitVec 64 := if o.fmt.isMx then BitVec.ofNat 64 x else 0
    let moves (i : Instr) (tgt : VTarget) (v : VecData) : Prop := ∃ k' : Core, exec i s = .next (s.withCore c k') ∧
      k'.vec.pend = k.vec.pend ++ [⟨k.beat + 2, tgt, v, BitVec.allOnes 256⟩] ∧ k'.vec.freeM = k.beat + 1
    moves (.vLdc c w) (.reg o.vd) (k.cacheLine o.imm) ∧
    moves (.vStc c w) (.cache store) (k.vreg o.va) ∧
    moves (.vLdt c w) (.reg o.vd) (twoLines (k.tileLine o.imm).data (k.tileLine (o.imm + 1)).data) ∧
    moves (.vStt c w) (.tile store (BitVec.ofNat 4 o.fmt.tag) (side vb) (side (vb / 2 ^ 64))) (k.vreg o.va)

/-- SPOP takes the head of the sound where its tag is the FMT named, keeps its origin and delivers it to consecutive registers, one
a beat: SPOP.W widened to 32-bit elements, an FP64 tile as its two vectors, SPOP.P as its bytes; another tag, or one that the form does
not take, raises 0x1201, an empty sound is waited for (R129, R130). Its space is free once the last beat of the pop has ended (R130).
QPOP takes the head entry of an inbound queue into VD two beats on, waits at an empty queue, and raises 0x1303 at a marker;
QPUSH puts VA behind the entries of an outbound queue that has room, for a message queue with a valid envelope, and waits where there is
none (R148, R156, R158, R256). -/
def Obligations.SoundAndQueueMoves : Prop :=
  (∀ (c : CoreId) (w : BitVec 64) (s : State), s.slotReady c →
    let k := s.slotCore c
    let o := k.fieldsOf w
    (k.row.sound = [] → exec (.vSpopW c w) s = .next s ∧ exec (.vSpopP c w) s = .next s) ∧
    (∀ d rest, k.row.sound = d :: rest →
      (d.tag.toNat ≠ o.fmt.tag → exec (.vSpopW c w) s = .next (s.coreFault c 0x1201 0 false) ∧
        exec (.vSpopP c w) s = .next (s.coreFault c 0x1201 0 false)) ∧
      (d.tag.toNat = o.fmt.tag → 4 ≤ k.guardLu →
        let n := (d.bytes + 255) / 256
        let taken (k' : Core) (vs : List VecData) : Prop := k'.row.sound = rest ∧ k'.vec.origCube = d.cube ∧ k'.vec.origSlot = d.slot ∧
          k'.vec.freeM = k.beat + vs.length ∧ k'.row.freeing = k.row.freeing ++ [(k.beat + vs.length - 1, d.bytes)] ∧
          k'.vec.pend = k.vec.pend ++ (List.range vs.length).map (fun j =>
            ⟨k.beat + (vs.length + 1), .reg ((o.vd + j) % 32), vs.getD j 0, BitVec.allOnes 256⟩)
        (∃ k' : Core, exec (.vSpopP c w) s = .next (s.withCore c k') ∧
          taken k' ((List.range n).map (fun j => BitVec.ofNat 2048 (d.data / 2 ^ (2048 * j))))) ∧
        (∀ vs, widenTile d = some vs → ∃ k' : Core, exec (.vSpopW c w) s = .next (s.withCore c k') ∧ taken k' vs) ∧
        (widenTile d = none → exec (.vSpopW c w) s = .next (s.coreFault c 0x1201 0 false))))) ∧
  (∀ (c : CoreId) (w : BitVec 64) (s : State), s.canonical = true → s.slotReady c →
    let k := s.slotCore c
    let o := k.fieldsOf w
    let iq := o.aux % 16
    let oq := 16 + o.aux % 16
    let valid : Prop := (k.queue oq).farEnd = 2 → (s.envelopeOk c (o.imm % 256)).isSome = true
    ((k.queue iq).entries = [] → exec (.vQpop c w) s = .next s) ∧
    (∀ e rest, (k.queue iq).entries = e :: rest → k.cancelHolds iq = false →
      (e.mark ≠ none → exec (.vQpop c w) s = .next (s.coreFault c 0x1303 iq false)) ∧
      (e.mark = none → 4 ≤ k.guardLu → ∃ k' : Core, exec (.vQpop c w) s = .next (s.withCore c k') ∧
        (k'.queue iq).popped = (k.queue iq).popped + 1 ∧ (k'.queue iq).entries = rest ∧
        k'.vec.pend = k.vec.pend ++ [⟨k.beat + 2, .reg o.vd, twoLines (e.lines.headD 0) ((e.lines.drop 1).headD 0),
          BitVec.allOnes 256⟩])) ∧
    (¬valid → exec (.vQpush c w) s = .next (s.coreFault c 0x3101 oq false)) ∧
    (valid → (k.queue oq).room = 0 → exec (.vQpush c w) s = .next s) ∧
    (valid → (k.queue oq).room ≠ 0 → 4 ≤ k.guardLu → ∃ (k' : Core) (e : QEntry), exec (.vQpush c w) s = .next (s.withCore c k') ∧
      (k'.queue oq).entries = (k.queue oq).entries ++ [e] ∧ (k'.queue oq).pushed = (k.queue oq).pushed + 1 ∧
      { e with op := 0 } = entryOf (k.vreg o.va) o.fmt o.fmt.count o.imm (k.clock + 2)))

/-- Results due by a beat land before it issues: a register byte whose mask bit is set takes the result's byte, the others keep
theirs (R149, R120), and a register no result is due for keeps its value. -/
def Obligations.ResultsLand : Prop :=
  (∀ (k : Core) (n : Nat) (r : VecData) (m : BitVec 256) (rd b : Nat), Sparse.wf 0 k.vec.regs = true → n < 32 →
    k.vec.pend = [⟨rd, .reg n, r, m⟩] → rd ≤ k.beat → b < 256 →
    bits (k.landDue.vreg n).toNat (8 * b) 8 = if bit m.toNat b then bits r.toNat (8 * b) 8 else bits (k.vreg n).toNat (8 * b) 8) ∧
  (∀ (k : Core) (n : Nat), Sparse.wf 0 k.vec.regs = true → n < 32 →
    (∀ w ∈ k.vec.pend, w.ready ≤ k.beat → ∀ j, w.tgt = .reg j → j % 32 ≠ n) → k.landDue.vreg n = k.vreg n) ∧
  (∀ k : Core, k.landDue.vec.pend = k.vec.pend.filter (fun w => k.beat < w.ready))

/-- An exact sum does not depend on the order in which its products are added (R70): adding the same products in another order
leaves the same accumulator, flags and all. -/
def Obligations.ExactSumOrderFree : Prop :=
  ∀ (x : Nat) (ps qs : List Val), ps.Perm qs →
    ps.foldl (fun a v => (xsEnter a v).1) x = qs.foldl (fun a v => (xsEnter a v).1) x


/-! ## Streams and memory -/

/-- A STREAM syllable is accepted while operations are fewer than the limit: the operation joins those outstanding and its core's
fences cover it, with one transaction for each granule that its elements touch, none other and each granule once, reads but for a STORE,
and for a MOVE as many writes for the granules of its target; it is refused with 0x2101 outside its bounds and 0x2102 outside
owned memory, and waits at the limit (R171, R172, R174, R184). An operation without elements touches nothing. -/
def Obligations.StreamAcceptance : Prop :=
  ∀ (c : CoreId) (q : SeqId) (w : BitVec 64) (s : State), s.issues c = true → ((s.core c).seq q).halted = false →
    (s.core c).ex.halted = false → s.marks c = [] →
    let k := s.core c
    let o := k.streamOp q w
    let granules (ts : List Txn) (spots : List (Nat × Nat)) (write : Bool) : Prop :=
      (∀ p, p ∈ spots ↔ ∃ t ∈ ts, p ∈ t.spots) ∧
      (∀ t ∈ ts, t.write = write ∧ t.state = 0 ∧ t.spots ≠ [] ∧ ∀ a ∈ t.spots, ∀ b ∈ t.spots, a.2 / 1024 = b.2 / 1024) ∧
      ts.Pairwise (fun x y => ∀ a ∈ x.spots, ∀ b ∈ y.spots, a.2 / 1024 ≠ b.2 / 1024)
    (k.maxOps ≤ k.outstandingOps → exec (.streamIssue c q w) s = .next s) ∧
    (k.outstandingOps < k.maxOps →
      (∀ e, o.refusal (s.owned c.lagoon) = some e → exec (.streamIssue c q w) s =
        .next (s.coreFault c e (bits w.toNat 48 8) (q == .access))) ∧
      (o.refusal (s.owned c.lagoon) = none → o.nItems = 0 → exec (.streamIssue c q w) s =
        .next (s.withCore c { k with nextOp := k.nextOp + 1 })) ∧
      (o.refusal (s.owned c.lagoon) = none → o.nItems ≠ 0 → ∃ (k' : Core) (ts us : List Txn),
        exec (.streamIssue c q w) s = .next (s.withCore c k') ∧ k'.ops = k.ops ++ [{ o with txns := ts ++ us }] ∧
        k'.nextOp = k.nextOp + 1 ∧ k'.nextTxn = k.nextTxn + ts.length + us.length ∧ k'.outst = k.outst ++ [⟨k.nextOp, q, 0⟩] ∧
        ts = mkTxns k.nextTxn (o.kind == 2) (dMemFmt o.word).isMx o.walkSpots ∧ granules ts o.walkSpots (o.kind == 2) ∧
        (o.kind ≠ 3 → us = []) ∧
        (o.kind = 3 → us = mkTxns (k.nextTxn + ts.length) true (dDfmt o.word).isMx o.moveSpots ∧ granules us o.moveSpots true)))

/-- The next transaction of an operation is released under R192 with the next stamp and placed in the first lane of its way, waits
with nothing changed, or stops the run where its source does not fit (R172, R192, R202, R289); a release changes no memory. A read for
tile memory or the operand cache needs no more than R192's room and lead; a PUT that finds part of what its transaction needs takes
that part (R176), and finds an entry from the beat on at which it is in its queue, or where the execute sequencer issues no beat (R149;
model: DEDUCED 56).
A response whose check holds finishes its transaction and settles what it completes. Where the check fails once, a write is sent
again at once and finishes, and a read waits for its owner's next slot on its channel; a second failure is an uncorrectable error and ends
the run in FAULTED (R171, R196, R223). A response that has not come through its lanes waits (R288, R289). -/
def Obligations.TransactionsReleaseAndRespond : Prop :=
  (∀ (c : CoreId) (n : Nat) (s : State) (o : StreamOp) (t : Txn), (s.core c).op? n = some o → o.nextTxn = some t → s.live c = true →
    s.marks c = [] →
    let k0 := (s.core c).landDue
    let placed := s.place (s.txnLanes c t) t.lines
    let released (k : Core) (o1 : StreamOp) (t1 : Txn) : State :=
      { placed.1.setCore c (k.markReleased o1 { t1 with way := placed.2 } s.stamp) with stamp := s.stamp + 1 }
    (s.mayRelease c o t = false → exec (.transactionRelease c n) s = .next s) ∧
    (s.mayRelease c o t = true →
      (t.write = false → o.kind = 1 → dDkind o.word ≠ 0 → ∃ u : State, exec (.transactionRelease c n) s = .next u ∧
        u = released k0 o t ∧ u.mem = s.mem) ∧
      (∀ k o1 t1, k0.prepare o t = .ok (k, o1, some t1) → ∃ u : State, exec (.transactionRelease c n) s = .next u ∧
        u = released k o1 t1 ∧ u.mem = s.mem) ∧
      (∀ k o1, k0.prepare o t = .ok (k, o1, none) → exec (.transactionRelease c n) s = .next (s.setCore c (k.setOp o1))) ∧
      (∀ a b, k0.prepare o t = .wait a b → exec (.transactionRelease c n) s = .next s) ∧
      (∀ e b, k0.prepare o t = .event e b → exec (.transactionRelease c n) s = .next (s.streamFault c e b o)))) ∧
  (∀ (c : CoreId) (n x : Nat) (s : State) (o : StreamOp) (t : Txn), s.canonical = true → (s.core c).op? n = some o →
    o.txns.find? (fun u => u.id == x && (u.state == 2 || u.state == 4)) = some t → s.live c = true → s.marks c = [] →
    let k := ((s.core c).setOp { o with txns := o.txns.map (fun u => if u.id = t.id then { u with state := 3 } else u) }).settleOps
    let again (u : Txn) : Txn := if u.id = t.id then { u with state := 1, data := [], way := 0, back := false, retried := true } else u
    (∀ fails, (t.back = true ∨ s.home t.way = false) → exec (.transactionResponse c n x fails) s = .next s) ∧
    (t.back = false → s.home t.way = true →
      exec (.transactionResponse c n x 0) s = .next (s.withCore c k) ∧
      (t.retried = false → (t.write = true ∨ t.state = 4) → ∃ u : State, exec (.transactionResponse c n x 1) s = .next u ∧
        u.core c = k ∧ u.mem = s.mem) ∧
      (t.retried = false → t.write = false → t.state = 2 → ∃ u : State, exec (.transactionResponse c n x 1) s = .next u ∧
        u.core c = (s.core c).setOp { o with txns := o.txns.map again } ∧ u.mem = s.mem) ∧
      (∀ fails, (2 ≤ fails ∨ (t.retried = true ∧ fails ≠ 0)) → ∃ u : State, exec (.transactionResponse c n x fails) s = .next u ∧
        (u.lagoon c.lagoon).st = .faulted)))

/-- Each slot advances its channel's wheel by one of 256 positions (R185); a reserved slot serves nothing (R189); a slot of a core
serves that core's oldest waiting transaction on the channel, which in steady timing, and outside the shoal's windows, goes to DRAM
(R187, R228, R232); a slot of a reef engine moves one granule of the record that the engine works for (R204, R356). A slot of the
harbour, and in normal timing a free one, moves a granule that the harbour's landings and snapshots are owed on the channel; a free slot
with none goes to the lagoon's core with the oldest waiting transaction (R188).
A served write leaves its bytes at the translated addresses of its spots, at an address of several spots the last one's, and changes
memory nowhere else; a served read takes the bytes of its spots and changes memory nowhere (R172, R182). A
granule that a reef engine writes takes the bytes of the operation's elements that begin in it, and no byte outside its spans changes
(R208, R210, R227). -/
def Obligations.WheelsServeMemory : Prop :=
  (∀ (ch : Nat) (bad : Bool) (s : State), s.canonical = true → ch < 656 → s.power.state = 0 →
    let w := s.wheel ch
    let own := (Sparse.get 0 w.owners w.pos).toNat
    let s1 := s.setWheel ch { w with pos := (w.pos + 1) % 256 }
    (∃ t : State, exec (.wheelSlot ch bad) s = .next t ∧ (t.wheel ch).pos = (w.pos + 1) % 256 ∧ (t.wheel ch).owners = w.owners) ∧
    (slotReserved ch w.pos = true → exec (.wheelSlot ch bad) s = .next s1) ∧
    (∀ v o x, slotReserved ch w.pos = false → bits own 13 3 = 1 →
      s1.oldest (bits own 10 3) ch (fun u => (s1.core ⟨bits own 10 3, u⟩).img.phys == 144 * bits own 9 1 + bits own 0 9) = some (v, o, x) →
      ((s.lagoon (bits own 10 3)).cfg.steady = true ∨ s1.shoaled (bits own 10 3) ch x = false) →
      exec (.wheelSlot ch bad) s = .next (s1.serve ⟨bits own 10 3, v⟩ o x)) ∧
    (∀ r, slotReserved ch w.pos = false → bits own 13 3 = 2 → s1.reefWork (bits own 10 3) ch = some r →
      exec (.wheelSlot ch bad) s = .next (s1.reefSlot ch r)) ∧
    (slotReserved ch w.pos = false → (bits own 13 3 = 3 ∨ (bits own 13 3 = 4 ∧ (s.lagoon (bits own 10 3)).cfg.steady = false)) →
      w.owed ≠ 0 → exec (.wheelSlot ch bad) s = .next (s.setWheel ch { w with pos := (w.pos + 1) % 256, owed := w.owed - 1 })) ∧
    (∀ v o x, slotReserved ch w.pos = false → bits own 13 3 = 4 → (s.lagoon (bits own 10 3)).cfg.steady = false → w.owed = 0 →
      s1.oldest (bits own 10 3) ch (fun _ => true) = some (v, o, x) → s1.shoaled (bits own 10 3) ch x = false →
      exec (.wheelSlot ch bad) s = .next (s1.serve ⟨bits own 10 3, v⟩ o x))) ∧
  ((∀ (c : CoreId) (s : State) (o : StreamOp) (t : Txn), s.canonical = true →
    let addrs := t.spots.filterMap (fun p => s.translate c.lagoon p.2)
    (t.write = false → (s.serve c o t).mem = s.mem) ∧
    (t.write = false → s.badAtom addrs = none → (s.core c).op? o.id = some o → t ∈ o.txns → ∃ o' ∈ ((s.serve c o t).core c).ops,
      ∃ t' ∈ o'.txns, o'.id = o.id ∧ t'.id = t.id ∧ t'.state = 2 ∧ t'.data = addrs.map s.readByte) ∧
    (∀ i d, t.write = true → s.badWrite addrs = none → addrs[i]? = some d → (∀ j, i < j → addrs[j]? ≠ some d) →
      (s.serve c o t).readByte d = t.data.getD i 0) ∧
    (∀ a, (∀ p ∈ t.spots, s.translate c.lagoon p.2 ≠ some a) → (s.serve c o t).readByte a = s.readByte a)) ∧
  (∀ (st g : Nat) (s : State) (r : ReefHeld) (o : ReefOut), s.canonical = true →
    (∀ a, (∀ w ∈ o.writes, ∀ d, s.reefSpan r.lagoon st (rAddr r.word w.1) w.2.length = some d → w.2 = [] ∨ a < d ∨ d + w.2.length ≤ a) →
      (s.writeGranule st r o g).readByte a = s.readByte a) ∧
    (∀ k bs d i, o.writes = [(k, bs)] → s.reefSpan r.lagoon st (rAddr r.word k) bs.length = some d → 0 < writeEsz r.word k →
      i < bs.length → (d + i / writeEsz r.word k * writeEsz r.word k) / 1024 = g →
      (s.writeGranule st r o g).readByte (d + i) = bs.getD i 0)))

/-- The stream engine's markers: a waiting QMARK enters its inbound queue with its label once entries issued before it are in and
there is room or it has reserved its entry, a waiting QMATCH pops the marker at the head of its outbound queue or stops the run (0x1302
at data, 0x1304 at another label); a CANCEL is done when none of its operations is left (R158, R198, R527). -/
def Obligations.StreamMarkers : Prop :=
  ∀ (c : CoreId) (n : Nat) (s : State), s.canonical = true → s.live c = true → n < 16 →
    (∀ o, (s.core c).ops.find? (fun p => p.kind == 4 && p.first == n) = some o → (s.core c).earlierInto o = false →
      (o.reserved ≠ 0 ∨ ((s.core c).queue n).room ≠ 0) →
      (s.core c).cancels.any (fun x => bit x.mask n && !x.ops.contains o.id) = false →
      ∃ (k' : Core) (e : QEntry) (more : List QEntry), exec (.streamQmark c n) s = .next (s.withCore c k') ∧
        (k'.queue n).entries = ((s.core c).queue n).entries ++ e :: more ∧ e.mark = some o.label) ∧
    (∀ o e rest, (s.core c).ops.find? (fun p => p.kind == 5 && p.first == n) = some o → (s.core c).earlierFrom o = false →
      ((s.core c).queue (16 + n)).entries = e :: rest → s.entered c e = true →
      (e.mark = some o.label → ∃ k' : Core, exec (.streamQmatch c n) s = .next (s.withCore c k') ∧
        (k'.queue (16 + n)).entries = rest ∧ k'.ops = (s.core c).ops.filter (fun p => p.id ≠ o.id)) ∧
      (e.mark = none → exec (.streamQmatch c n) s = .next (s.coreFault c 0x1302 (16 + n) true)) ∧
      (∀ l, e.mark = some l → l ≠ o.label → exec (.streamQmatch c n) s = .next (s.coreFault c 0x1304 (16 + n) true))) ∧
    (∃ k' : Core, exec (.cancelDiscardDone c) s = .next (s.setCore c k') ∧
      k'.cancels = (s.core c).cancels.filter (fun x => x.ops.any (fun i => ((s.core c).op? i).isSome)))

/-! ## Messages, the ferry chain and the reef -/

/-- The head of a message queue leaves it once its destination has room and the first lane of its way accepts it, and what its core
pushed before it for the same target has gone: to a core it is then in flight, to a group one copy for each receiver is, the entry
staying until the last is done, to a combining queue it is in flight as a contribution, and a reef record joins those its stack holds.
While one of these does not hold, or the entry's beat has not come (R149), nothing changes (R211, R256, R259, R260, R262, R263, R289).
A message from the source its handler names, of the handler's length, takes effect: its payload, then its tally by one where
TINC is set, then its buoy where SETB is set; a marker enters the queue alone. From another source or of another length it stops the
receiving core's run with 0x3102; at a core whose trace has ended it is discarded with the notice 0x3104 (R158, R257, R258, R268).
While it has not come to the end of its lanes it waits (R288, R292). -/
def Obligations.MessagesMove : Prop :=
  (∀ (c : CoreId) (n f : Nat) (s : State) (e : QEntry) (rest : List QEntry), s.canonical = true → n < 16 → s.sends c = true → s.marks c = [] →
    let q := (s.core c).queue (16 + n)
    let w := (Sparse.get 0 (s.core c).img.envelopes (e.env % 256)).toNat
    let d := bits w 52 9
    let h := bits w 44 8
    let sq : SeqId := (((s.core c).outst.find? (fun o => o.id == e.op)).map (·.seq)).getD .execute
    let x := s.lagoon c.lagoon
    let flies (ms : List Msg) (es : List QEntry) : Prop := ∃ t : State, exec (.messageSend c n f) s = .next t ∧
      (t.lagoon c.lagoon).msgs = x.msgs ++ ms ∧ ((t.core c).queue (16 + n)).entries = es
    let copies (ms : List Msg) (es : List QEntry) : Prop := ∃ (t : State) (sent : List Msg), exec (.messageSend c n f) s = .next t ∧
      (t.lagoon c.lagoon).msgs = x.msgs ++ sent ∧ sent.map (fun m => { m with way := 0 }) = ms ∧
      ((t.core c).queue (16 + n)).entries = es
    let stays : Prop := exec (.messageSend c n f) s = .next s
    q.entries = e :: rest → q.farEnd = 2 → e.sent = false →
    (s.entered c e = false → stays) ∧
    (s.overtakes c n e = true → stays) ∧
    (s.entered c e = true → s.overtakes c n e = false → (∀ i cls, (s.core c).fenceHolds i cls e.op = false) →
      (bits w 61 3 = 1 → (s.hasRoom c.lagoon d h e.mark.isSome = false ∨ s.laneOpen (s.lanesCore c d) e.size = false → stays) ∧
        (s.hasRoom c.lagoon d h e.mark.isSome = true → s.laneOpen (s.lanesCore c d) e.size = true →
          flies [⟨0, c.v, d, h, e, e.op, sq, false, (s.place (s.lanesCore c d) e.size).2⟩] rest)) ∧
      (∀ g, bits w 61 3 = 2 → x.groups.find? (fun y => y.num == d) = some g →
        let all := g.receivers.all (fun r => s.hasRoom c.lagoon r h e.mark.isSome && s.laneOpen (s.lanesCore c r) e.size)
        (all = false → stays) ∧
        (all = true → copies (g.receivers.map (fun r => ⟨0, c.v, r, h, e, e.op, sq, true, 0⟩))
          ({ e with sent := true } :: rest))) ∧
      (∀ p, bits w 61 3 = 3 → x.combs.find? (fun y => y.num == d) = some p → p.tkind = false → s.laneOpen (s.lanesCore c p.tcore) e.size = true →
        s.contributed c.lagoon p c.v (p.cindex c.v) < 2 →
        flies [⟨1, c.v, d, 0, e, e.op, sq, false, (s.place (s.lanesCore c p.tcore) e.size).2⟩] rest) ∧
      (∀ st, bits w 61 3 = 4 → (s.ownStacks c.lagoon)[d % 32]? = some st →
        (256 ≤ (s.stack st).recs.length ∨ s.laneOpen (s.lanesStack c st) 1 = false → stays) ∧
        (f = 0 → (s.stack st).recs.length < 256 → s.laneOpen (s.lanesStack c st) 1 = true → rOp e.first ≠ 0x30 → rReply e.first = false →
          ∃ t : State, exec (.messageSend c n f) s = .next t ∧ ((t.core c).queue (16 + n)).entries = rest ∧
            (t.stack st).recs = (s.stack st).recs ++
              [⟨c.lagoon, c.v, e.first, e.op, sq, none, [], [], (s.place (s.lanesStack c st) 1).2, none, false, []⟩])))) ∧
  (∀ (l dst src : Nat) (s : State) (m : Msg), s.canonical = true → src < 512 → dst < 512 → s.live ⟨l, dst⟩ = true →
    (s.lagoon l).msgs.find? (fun x => x.kind == 0 && x.dst == dst && x.src == src) = some m →
    let k := s.core ⟨l, dst⟩
    let h := k.handler m.handler
    let good := hAction h ≠ 0 ∧ hSrc h = src ∧ (if m.entry.mark.isSome then hAction h = 1 else hLines h = m.entry.lines.length)
    (s.home m.way = false → exec (.messageDelivery l dst src) s = .next s) ∧
    (s.home m.way = true → k.traceEnd = false → good → m.multi = false → src ≠ dst →
      ∃ t : State, exec (.messageDelivery l dst src) s = .next t ∧
        t.core ⟨l, dst⟩ = k.takeMessage m.handler m.entry ∧ (t.lagoon l).msgs = (s.lagoon l).msgs.erase m) ∧
    (hTinc h = true → m.entry.mark = none →
      ((k.takeMessage m.handler m.entry).tally (hTally h)).mt = (k.tally (hTally h)).mt + 1) ∧
    (hSetb h = true → m.entry.mark = none → ((k.takeMessage m.handler m.entry).buoy (hBuoy h)).set = true) ∧
    (s.home m.way = true → k.traceEnd = true → ∃ t : State, exec (.messageDelivery l dst src) s = .next t ∧
      t.log.head?.map (·.code) = some 0x3104) ∧
    (s.home m.way = true → k.traceEnd = false → ¬good →
      ∃ t : State, exec (.messageDelivery l dst src) s = .next t ∧ (t.lagoon l).st = .faulted))

/-- A contribution of the next contributor in CINDEX order is added to its combining queue's round, or, while others come before it,
waits in the store; one of another shape than the round's stops the run (R265, R266). -/
def Obligations.CombiningContributions : Prop :=
  ∀ (l n src : Nat) (s : State) (m : Msg) (q : CombQueue), s.canonical = true → s.live ⟨l, q.tcore⟩ = true → src < 512 →
    (s.lagoon l).msgs.find? (fun x => x.kind == 1 && x.dst == n && x.src == src) = some m → m.multi = false →
    s.home m.way = true →
    (s.lagoon l).combs.find? (fun p => p.num == n) = some q → (s.core ⟨l, q.tcore⟩).traceEnd = false →
    q.store = [] → q.cindex src < q.ncontrib →
    (q.cindex src = q.added → q.misshapen m.entry = false → q.added + 1 < q.ncontrib → ∃ t : State,
      exec (.combiningContribution l n src) s = .next t ∧ ∀ p ∈ (t.lagoon l).combs, p.num = n →
        p.added = q.added + 1 ∧ p.round = q.round ∧
        p.sum = if q.added = 0 then combElems m.entry else (combAdd m.entry.tag.toNat q.sum (combElems m.entry)).1) ∧
    (q.cindex src = q.added → q.misshapen m.entry = true → ∃ t : State,
      exec (.combiningContribution l n src) s = .next t ∧ (t.lagoon l).st = .faulted) ∧
    (q.added < q.cindex src → q.added < q.ncontrib → ∃ t : State,
      exec (.combiningContribution l n src) s = .next t ∧ ∀ p ∈ (t.lagoon l).combs,
        p.num = n → p.added = q.added ∧ p.store = [⟨q.cindex src, q.round, m.entry⟩])

/-- A stack starts an issuer's next record in the row of its operation: where R209, R210 and R212 do not refuse it, the granules of the
spans that it reads wait for the reef slots of their channels; once the last of them is read, or at once where there is none, its outcome
is what its operation gives of the bytes read, and the granules of the spans that it writes wait in their turn. A refused record ends
the run with the event of its refusal, and without a record that may start nothing changes (R204, R208 to R210, R215, R216, R221, R222,
R224).
What operations write, element by element (R208). FILL writes its constant over every element, CHECK the CRC-32C of its source
(R222), DIGEST the digest of each leaf (R221). CVT converts; ADD, MUL, SCALE and AXPBY round each step once into the computing format,
integers wrap modulo 2^32, and the result is stored in the format of span 0 (R213, R214). REDUCE_SUM takes the pairwise tree over a power
of two of elements, the target's value last, an exact sum, or the sum modulo 2^32; an empty one writes 0; REDUCE_MAX and REDUCE_MIN fold
by R81 (R215). SGDM and ADAMW follow R216, and COMBINE adds its contributions in CINDEX order (R218). `x k i` is element i of span k. -/
def Obligations.ReefOperations : Prop :=
  ((∀ (st iss : Nat) (s : State),
    let performs (i : Instr) (p : Nat → Bool) : Prop :=
      (s.reefNext st iss p = none → exec i s = .next s) ∧
      (∀ r, s.reefNext st iss p = some r →
        (∀ e, s.reefRefusal st r = some e → exec i s = .next (s.reefFault st e r)) ∧
        (s.reefRefusal st r = none → exec i s = .next (s.setStack st ((s.stack st).setRec
          (if s.readGranules st r = [] then s.reefCompute st { r with begun := true, reads := [] }
           else { r with begun := true, reads := s.readGranules st r })))))
    performs (.reefFill st iss) (· == 0x01) ∧ performs (.reefCvt st iss) (· == 0x02) ∧
    performs (.reefAdd st iss) (fun x => x == 0x03 || !reefOps.contains x) ∧ performs (.reefMul st iss) (· == 0x04) ∧
    performs (.reefScale st iss) (· == 0x05) ∧ performs (.reefAxpby st iss) (· == 0x06) ∧ performs (.reduceSum st iss) (· == 0x10) ∧
    performs (.reduceMax st iss) (· == 0x11) ∧ performs (.reduceMin st iss) (· == 0x12) ∧ performs (.reefCheck st iss) (· == 0x18) ∧
    performs (.sgdm st iss) (· == 0x20) ∧ performs (.adamw st iss) (· == 0x21) ∧ performs (.digest st iss) (· == 0x40)) ∧
  (∀ (ch g : Nat) (s : State) (r : ReefHeld), r.reads = [g] → wheelOf (1024 * g) = ch → s.readBad (ch / 32) r g = none → rOp r.word ≠ 0x30 →
    s.reefSlot ch r = s.setStack (ch / 32) ((s.stack (ch / 32)).setRec
      (s.reefCompute (ch / 32) { r with reads := [], got := Sparse.set [] r.got g (s.readBytes (1024 * g) 1024) }))) ∧
  (∀ (st k d n : Nat) (s : State) (r : ReefHeld), s.canonical = true → r.spans.find? (fun p => p.1 == k && reefReads r.word k) = some (k, n) →
    s.reefSpan r.lagoon st (rAddr r.word k) n = some d → (∀ g ∈ granulesOf d n, Sparse.get [] r.got g = s.readBytes (1024 * g) 1024) →
    s.spanBytes st r k = s.readBytes d n) ∧
  (∀ (st : Nat) (s : State) (r : ReefHeld),
    let o := reefPerform (s.runKey r.lagoon).1 (s.runKey r.lagoon).2 r.word (s.spanBytes st r)
    s.reefCompute st r = { r with out := some o, got := [], writes := if r.harbour then [] else s.writeGranules st r o })) ∧
  (∀ (k0 k1 : Nat) (w : BitVec 1024) (bytes : Nat → List Byte) (cs : List (List Nat)) (target : List Nat),
    let out := reefPerform k0 k1 w bytes
    let n := rCount w
    let elem (e : Nat) (bs : List Byte) (i : Nat) : Nat := ofBytes ((bs.drop (i * e)).take e)
    let src (k i : Nat) : Nat := elem (reefEsz (rXs w) (rFmt w k)) (bytes k) i
    let x (k i : Nat) : Val := (rFmt w k).decode (src k i)
    let fs := reefFmts w
    let int : Bool := fs.any isInt4
    let f := compF (reefComp fs)
    let p (m : Nat) : Val := fp32F.decode (rParam w m)
    let round (v : Val) : Val := (rneVal f v).1
    let r32 (v : Val) : Val := (rneVal fp32F v).1
    let fma (a b c : Val) : Val := r32 (Val.add false (Val.mul a b) c)
    let drawn (k i : Nat) : Nat := reefWord k0 k1 w k i
    let store (comp : Fmt) (k i : Nat) (v : Val) : Nat := (reefStore w comp (rFmt w k) (drawn (k - 1) i) v).1
    let holds (bs : List Byte) (e m : Nat) (v : Nat → Nat) : Prop := bs.length = m * e ∧ ∀ i, i < m → elem e bs i = v i % 2 ^ (8 * e)
    let gives (v : Nat → Nat) : Prop := ∃ bs, out.writes = [(0, bs)] ∧ holds bs (reefEsz false (rFmt w 0)) n v
    let wraps (v : Int) (i : Nat) : Nat := if rFmt w 0 = .int32 then wrapInt 32 v else store .int32 0 i (intVal (sext 32 (wrapInt 32 v)))
    let single (e v : Nat) : Prop := out.writes = [(0, toBytes e v)] ∧ out.result = v
    let old : Nat := ofBytes ((bytes 0).take (targetEsz w))
    let oldVal : Val := (rFmt w 0).decode old
    let all : List Val := (List.range n).map (x 1)
    let acc (s : Val) : Val := if rAccum w then (rneVal (compF (if rFmt w 1 = .fp64 then .fp64 else .fp32)) (Val.add false s oldVal)).1 else s
    (rOp w = 0x01 → out.writes = [(0, (List.replicate n (toBytes (reefEsz false (rFmt w 0)) (rParam w 0))).flatten)]) ∧
    (rOp w = 0x18 → out.writes = [(0, toBytes 4 (crc32c (bytes 1)))] ∧ out.result = crc32c (bytes 1)) ∧
    (rOp w = 0x40 → ∃ bs, out.writes = [(0, bs)] ∧ bs.length = 48 * leafCount (bytes 1).length ∧
      ∀ j, j < leafCount (bytes 1).length →
        (bs.drop (48 * j)).take 48 = digestBytes (leafDigest (((bytes 1).drop (2 ^ 20 * j)).take (2 ^ 20)))) ∧
    (rXs w = false →
      (rOp w = 0x02 → rFmt w 0 = .raw → (bytes 1).length = n → rFmt w 1 = .raw → out.writes = [(0, bytes 1)]) ∧
      (rOp w = 0x02 → rFmt w 0 ≠ .raw → gives (fun i =>
        ((rFmt w 0).write ((RMode.ofCode (rRmode w)).getD .rne) (drawn 0 i) (!rOvf w) (x 1 i)).1)) ∧
      (int = true → (rOp w = 0x03 → gives (fun i => wraps ((x 1 i).toInt + (x 2 i).toInt) i)) ∧
        (rOp w = 0x04 → gives (fun i => wraps ((x 1 i).toInt * (x 2 i).toInt) i))) ∧
      (int = false →
        (rOp w = 0x03 → gives (fun i => store (reefComp fs) 0 i (round (Val.add false (x 1 i) (x 2 i))))) ∧
        (rOp w = 0x04 → gives (fun i => store (reefComp fs) 0 i (round (Val.mul (x 1 i) (x 2 i))))) ∧
        (rOp w = 0x05 → gives (fun i => store (reefComp fs) 0 i (round (Val.mul (p 0) (x 1 i))))) ∧
        (rOp w = 0x06 → gives (fun i => store (reefComp fs) 0 i
          (round (Val.add false (Val.mul (p 0) (x 1 i)) (round (Val.mul (p 1) (x 2 i)))))))) ∧
      (rOp w = 0x10 → n ≠ 0 → isInt4 (rFmt w 1) = true →
        single (reefEsz false (rFmt w 0)) (wraps ((all.map Val.toInt).sum + (if rAccum w then oldVal.toInt else 0)) 0)) ∧
      (rOp w = 0x10 → n ≠ 0 → isInt4 (rFmt w 1) = false →
        let comp : Fmt := if rFmt w 1 = .fp64 then .fp64 else .fp32
        ∀ m, n ≤ 2 ^ m → 2 ^ m < 2 * n → single (reefEsz false (rFmt w 0)) (store comp 0 0
          (acc (treeSum (compF comp) 40 (all ++ List.replicate (2 ^ m - n) (.fin false 0 0))).1))) ∧
      (rOp w = 0x11 ∨ rOp w = 0x12 →
        let isMax : Bool := rOp w == 0x11
        let wd := (rFmt w 1).width
        (isInt4 (rFmt w 1) = true → single (reefEsz false (rFmt w 1)) (wrapInt wd (if isMax
          then (all.map Val.toInt).foldl max (-(2 ^ (wd - 1) : Int)) else (all.map Val.toInt).foldl min ((2 ^ (wd - 1) : Int) - 1)))) ∧
        (isInt4 (rFmt w 1) = false → n = 0 → single (reefEsz false (rFmt w 1)) (((rFmt w 1).float?.map FloatFmt.qnan).getD 0)) ∧
        (isInt4 (rFmt w 1) = false → n ≠ 0 → ∃ v, foldMM isMax all = some v ∧
          single (reefEsz false (rFmt w 1)) ((rFmt w 1).write .rne 0 false v).1)) ∧
      (rOp w = 0x20 → ∃ bw bm, out.writes = [(0, bw), (2, bm)] ∧
        let g1 (i : Nat) : Val := fma (p 2) (x 0 i) (x 1 i)
        let m' (i : Nat) : Val := fma (p 1) (x 2 i) (g1 i)
        holds bw (reefEsz false (rFmt w 0)) n (fun i => (reefStore w .fp32 (rFmt w 0) (drawn 0 i) (fma (p 0) (m' i) (x 0 i))).1) ∧
        holds bm (reefEsz false (rFmt w 2)) n (fun i => (reefStore w .fp32 (rFmt w 2) (drawn 1 i) (m' i)).1)) ∧
      (rOp w = 0x21 → ∃ bw bm bv, out.writes = [(0, bw), (2, bm), (3, bv)] ∧
        let m' (i : Nat) : Val := fma (p 1) (x 2 i) (r32 (Val.mul (p 2) (x 1 i)))
        let v' (i : Nat) : Val := fma (p 3) (x 3 i) (r32 (Val.mul (p 4) (r32 (Val.mul (x 1 i) (x 1 i)))))
        let d (i : Nat) : Val := r32 (Val.add false (reefSqrt (r32 (Val.mul (v' i) (p 6)))).1 (p 7))
        let u (i : Nat) : Val := fma (p 8) (x 0 i) (reefDiv (r32 (Val.mul (m' i) (p 5))) (d i)).1
        holds bw (reefEsz false (rFmt w 0)) n (fun i => (reefStore w .fp32 (rFmt w 0) (drawn 0 i) (fma (p 0) (u i) (x 0 i))).1) ∧
        holds bm (reefEsz false (rFmt w 2)) n (fun i => (reefStore w .fp32 (rFmt w 2) (drawn 1 i) (m' i)).1) ∧
        holds bv (reefEsz false (rFmt w 3)) n (fun i => (reefStore w .fp32 (rFmt w 3) (drawn 2 i) (v' i)).1))) ∧
    (rOp w = 0x10 → n = 0 → single (reefEsz (rXs w) (rFmt w 0)) 0) ∧
    (rOp w = 0x10 → n ≠ 0 → rXs w = true → single (reefEsz true (rFmt w 0)) (xsOut (rFmt w 0)
      (((List.range n).map (src 1)).foldl (xsTake (rFmt w 1)) (if rAccum w then old % 2 ^ 140 else 0, 0)).1).1) ∧
    (let c (i : Nat) : List Nat := cs.map (·.getD i 0)
     let es : List Byte → (Nat → Nat) → Prop := fun bs v => (reefCombine k0 k1 w target cs).writes = [(0, bs)] ∧
       holds bs (reefEsz (rXs w) (rFmt w 0)) n v
     let cf := compF (reefComp [rFmt w 0, rFmt w 1])
     (rXs w = true → ∃ bs, es bs (fun i => (xsOut (rFmt w 0) ((c i).foldl (xsTake (rFmt w 1))
       (if rAccum w then target.getD i 0 % 2 ^ 140 else 0, 0)).1).1)) ∧
     (rXs w = false → isInt4 (rFmt w 1) = true → ∃ bs, es bs (fun i =>
       wraps (((c i).map (fun e => ((rFmt w 1).decode e).toInt)).sum +
         (if rAccum w then ((rFmt w 0).decode (target.getD i 0)).toInt else 0)) i)) ∧
     (∀ first rest, rXs w = false → isInt4 (rFmt w 1) = false → rAccum w = false → cs = first :: rest → ∃ bs, es bs (fun i =>
       store (reefComp [rFmt w 0, rFmt w 1]) 0 i ((rest.map (·.getD i 0)).foldl
         (fun a e => (rneVal cf (Val.add false a ((rFmt w 1).decode e))).1) ((rFmt w 1).decode (first.getD i 0))))) ∧
     (rXs w = false → isInt4 (rFmt w 1) = false → rAccum w = true → ∃ bs, es bs (fun i =>
       store (reefComp [rFmt w 0, rFmt w 1]) 0 i ((c i).foldl
         (fun a e => (rneVal cf (Val.add false a ((rFmt w 1).decode e))).1) ((rFmt w 0).decode (target.getD i 0)))))))

/-- A COMBINE record joins its group; one whose fields differ from the opening record's is refused with 0x2203, one whose CINDEX is
taken or out of range with 0x2204; with the record that fills the group all its members start (R217, R218).
A performed record whose completion has come through its lanes leaves its stack: without REPLY its flags are ORed into REEFSTAT, with REPLY its reply record enters the queue
that it names, and it is outstanding for its core's fences no more (R212, R225, R249); a reply whose check fails twice ends the run
(R223). The harbour's own record gives its digest inside (R212, R330). -/
def Obligations.ReefGroupsAndCompletion : Prop :=
  (∀ (st iss : Nat) (s : State) (r : ReefHeld), s.canonical = true → s.reefNext st iss (· == 0x30) = some r →
    s.reefRefusal st r = none →
    let g := Sparse.get [] (s.stack st).groups (rGroup r.word)
    let opening := g.headD r
    let taken := g.any (fun x => rCindex x.word == rCindex r.word)
    let joined := s.setStack st { s.stack st with
      recs := (s.stack st).recs.erase r, groups := Sparse.set [] (s.stack st).groups (rGroup r.word) (g ++ [r]) }
    (groupKey r.word ≠ groupKey opening.word → exec (.combine st iss) s = .next (s.reefFault st 0x2203 r)) ∧
    (groupKey r.word = groupKey opening.word → (rNcontrib r.word ≤ rCindex r.word ∨ taken = true) →
      exec (.combine st iss) s = .next (s.reefFault st 0x2204 r)) ∧
    (groupKey r.word = groupKey opening.word → rCindex r.word < rNcontrib r.word → taken = false →
      (g.length + 1 < rNcontrib r.word → exec (.combine st iss) s = .next joined) ∧
      (rNcontrib r.word ≤ g.length + 1 → (g ++ [r]).any (joined.heldBack st) = false →
        (joined.stack st).recs.any (fun x => x.groups opening && x.begun && !joined.performed st x) = false →
        ∃ t : State, exec (.combine st iss) s = .next t ∧ t.mem = s.mem ∧
          ∀ x ∈ g ++ [r], ∃ y ∈ (t.stack st).recs, y.is x = true ∧ y.begun = true))) ∧
  (∀ (st iss : Nat) (s : State) (r : ReefHeld) (o : ReefOut), s.canonical = true →
    (s.stack st).recs.find? (fun x => x.issuer == iss && s.mayComplete st x && s.doneHome st x) = some r → r.out = some o →
    (iss < 512 → ∃ t : State, exec (.reefOpComplete st ⟨iss, 0⟩) s = .next t ∧ t.mem = s.mem ∧
      (t.stack st).recs = (s.stack st).recs.erase r ∧
      (t.stack st).reefstat = (if rReply r.word then (s.stack st).reefstat else (s.stack st).reefstat ||| o.flags) ∧
      (∀ x ∈ (t.core ⟨r.lagoon, iss⟩).outst, x.id ≠ r.op) ∧
      let q := (s.core ⟨r.lagoon, iss⟩).queue (rRiq r.word)
      (rReply r.word = true → (s.core ⟨r.lagoon, iss⟩).runEnded = false →
        ((t.core ⟨r.lagoon, iss⟩).queue (rRiq r.word)).entries = q.entries ++ [replyEntry q.elines (reefReply r.word o)])) ∧
    (∀ fails, iss < 512 → 2 ≤ fails → rReply r.word = true → s.runs? r.lagoon = true → ∃ t : State,
      exec (.reefOpComplete st ⟨iss, fails⟩) s = .next t ∧ (t.lagoon r.lagoon).st = .faulted) ∧
    (∀ fails, 512 ≤ iss → ∃ t : State, exec (.reefOpComplete st ⟨iss, fails⟩) s = .next t ∧ t.mem = s.mem))

/-- A physical core takes the entry its neighbour sends in the open direction, after a retry too, and a second failure of the link's
check closes the link at its sender, raises 0x2221 and ends the run (R235, R236).
After DLWIN ticks without progress, with an agent that waits all the while and nothing in flight, the detector keeps a snapshot of at most 8,192
waits and the run ends with 0x3105; before that nothing happens (R271, R273). -/
def Obligations.FerryAndDeadlock : Prop :=
  (∀ (p l n dir : Nat) (e : QEntry) (s s1 : State), s.canonical = true → s.ferryReady p = some (l, n, dir, e, s1) → p < 288 →
    (s.lagoon l).st = .running → s.power.state = 0 →
    exec (.ferryLineReceived p 0) s = .next ((s1.ferryPut p dir e).progressed l) ∧
    (∃ u : State, exec (.ferryLineReceived p 1) s = .next u ∧ u.cores = (s1.ferryPut p dir e).cores ∧
      u.ferry = (s1.ferryPut p dir e).ferry) ∧
    ∃ t : State, exec (.ferryLineReceived p 2) s = .next t ∧ (t.lagoon l).st = .faulted ∧ bit (t.physCore n).closed dir = true) ∧
  (∀ (l : Nat) (s : State), s.canonical = true →
    let x := s.lagoon l
    let due := x.st = .running ∧ x.progress + x.dlwin ≤ s.tide.count ∧
      x.waits.any (fun t => decide (t + x.dlwin ≤ s.tide.count)) = true ∧ s.waiters l ≠ [] ∧ s.inFlight l = false
    (due → ∃ (t : State) (d : DeadSnap), exec (.deadlock l) s = .next t ∧ (t.lagoon l).st = .faulted ∧
      (t.lagoon l).dead = some d ∧ d.tide = s.tide.count ∧ d.dlwin = x.dlwin ∧ d.entries.length ≤ 8192) ∧
    (¬due → exec (.deadlock l) s = .next s))


/-! ## The pilot -/

/-- The pilot's integer instructions: ADDI, ADD, LUI, LW, SW and BEQ of RV32I, register 0 unwritten; an access outside data memory or
misaligned raises 0x1306, an undefined funct3 0x1305 (R160, R161). -/
def Obligations.PilotIntegerInstructions : Prop :=
  ∀ (c : CoreId) (s : State) (w len : Nat), s.PilotAt c .plain w len → Sparse.wf 0 (s.core c).pilot.x = true →
    let p := (s.core c).pilot
    let next := BitVec.ofNat 32 (p.pc.toNat + len)
    let writes (v : Nat) : Prop := ∃ k' : Core, exec (.pilotInstruction c) s = .next (s.withCore c k') ∧ k'.pilot.pc = next ∧
      k'.pilot.instret = p.instret + 1 ∧ ∀ n, n < 32 → k'.pilot.getX n = if n ≠ 0 ∧ n = iRd w then v % 2 ^ 32 else p.getX n
    let ld := wrapInt 32 ((p.getX (iRs1 w) : Int) + immI w)
    let sd := wrapInt 32 ((p.getX (iRs1 w) : Int) + immS w)
    (iOp w = 0x13 → iF3 w = 0 → writes ((p.getX (iRs1 w) + wrapInt 32 (immI w)) % 2 ^ 32)) ∧
    (iOp w = 0x33 → iF3 w = 0 → iF7 w = 0 → writes ((p.getX (iRs1 w) + p.getX (iRs2 w)) % 2 ^ 32)) ∧
    (iOp w = 0x37 → writes (immU w)) ∧
    (iOp w = 0x03 → iF3 w = 2 → ((s.core c).inDmem ld 4 = true → writes (wrapInt 32 (sext 32 ((s.core c).dread ld 4)))) ∧
      ((s.core c).inDmem ld 4 = false → exec (.pilotInstruction c) s = .next (s.coreFault c 0x1306 ld false))) ∧
    (iOp w = 0x23 → iF3 w = 2 → (s.core c).inDmem sd 4 = true → ∃ k' : Core,
      exec (.pilotInstruction c) s = .next (s.withCore c k') ∧ k'.pilot.pc = next ∧ k'.pilot.x = p.x ∧
      k'.pilot.dmem = Sparse.setRun 0 p.dmem (sd - 0x100000) (toBytes 4 (p.getX (iRs2 w)))) ∧
    (iOp w = 0x63 → iF3 w = 0 → ∃ k' : Core, exec (.pilotInstruction c) s = .next (s.withCore c k') ∧ k'.pilot.x = p.x ∧
      k'.pilot.pc = if p.getX (iRs1 w) = p.getX (iRs2 w) then BitVec.ofNat 32 (wrapInt 32 ((p.pc.toNat : Int) + immB w)) else next) ∧
    (iOp w = 0x63 → iF3 w = 2 ∨ iF3 w = 3 → exec (.pilotInstruction c) s = .next (s.coreFault c 0x1305 0 false))

/-- WFI finishes the pilot, and with the trace ended its core's run; EBREAK halts it where a debugger at level D2 or above is attached to its lagoon and raises 0x1305
otherwise (R141, R160).
The queue extension: HQ.SUMV takes the head summary entry's lower word once it is readable, HQ.SUMH reads its upper word and
leaves it; HQ.CHOOSE adds a choice to the queues of the sequencers it names while fewer than four wait there, and waits at four, an
access choice being dropped in unified mode; the buoy forms set, clear and wait (R162, R135, R159, R241, R243). -/
def Obligations.PilotStopsAndQueues : Prop :=
  (∀ (c : CoreId) (s : State) (w len : Nat), s.canonical = true →
    (s.PilotAt c .wfi w len → ∃ t : State, exec (.wfi c) s = .next t ∧
      (t.core c).pilot.finished = true ∧ (t.core c).pilot.pc = BitVec.ofNat 32 ((s.core c).pilot.pc.toNat + len) ∧
      ((s.core c).traceEnd = true → (t.core c).stopped = true)) ∧
    (s.PilotAt c .ebreak w len →
      (2 ≤ s.debugLevel c.lagoon → exec (.ebreak c) s = .next (s.withCore c
        { s.core c with pilot := { (s.core c).pilot with halted := true } })) ∧
      (s.debugLevel c.lagoon < 2 → exec (.ebreak c) s = .next (s.coreFault c 0x1305 0 false)))) ∧
  (∀ (c : CoreId) (s : State) (w len : Nat), Sparse.wf 0 (s.core c).pilot.x = true → Sparse.wf Buoy.blank (s.core c).buoys = true →
    let k := s.core c
    let n := bits w 20 6
    let goes (i : Instr) (p : Core → Prop) : Prop := ∃ k' : Core, exec i s = .next (s.withCore c k') ∧
      k'.pilot.pc = BitVec.ofNat 32 (k.pilot.pc.toNat + len) ∧ k'.pilot.instret = k.pilot.instret + 1 ∧ p k'
    (∀ e rest, s.PilotAt c .sumv w len → k.vec.summ = e :: rest → e.readable ≤ k.clock → goes (.hqSumv c) (fun k' =>
      k'.vec.summ = rest ∧ (iRd w ≠ 0 → k'.pilot.getX (iRd w) = bits e.entry.toNat 0 32))) ∧
    (∀ e rest, s.PilotAt c .sumh w len → k.vec.summ = e :: rest → e.readable ≤ k.clock → goes (.hqSumh c) (fun k' =>
      k'.vec.summ = e :: rest ∧ (iRd w ≠ 0 → k'.pilot.getX (iRd w) = bits e.entry.toNat 32 32))) ∧
    (k.vec.summ = [] → s.PilotAt c .sumv w len → exec (.hqSumv c) s = .next s) ∧
    (k.vec.summ = [] → s.PilotAt c .sumh w len → exec (.hqSumh c) s = .next s) ∧
    (s.PilotAt c .choose w len → bits w 20 2 ≠ 0 →
      let toX := bit w 20
      let toA := bit w 21 && k.img.split
      let v := [BitVec.ofNat 32 (k.pilot.getX (iRs1 w))]
      ((toX = true → k.ex.choices.length < 4) → (toA = true → k.ac.choices.length < 4) → goes (.hqChoose c) (fun k' =>
        k'.ex.choices = k.ex.choices ++ (if toX then v else []) ∧ k'.ac.choices = k.ac.choices ++ (if toA then v else []) ∧
        k'.pilot.pushed = k.pilot.pushed + if toX then 1 else 0)) ∧
      ((toX = true ∧ 4 ≤ k.ex.choices.length) ∨ (toA = true ∧ 4 ≤ k.ac.choices.length) → exec (.hqChoose c) s = .next s)) ∧
    (s.PilotAt c .choose w len → bits w 20 2 = 0 → exec (.hqChoose c) s = .next (s.coreFault c 0x1305 0 false)) ∧
    (s.PilotAt c .buoySet w len → ((k.buoy n).set = false → goes (.hqBuoySet c) (fun k' => (k'.buoy n).set = true)) ∧
      ((k.buoy n).set = true → exec (.hqBuoySet c) s = .next s)) ∧
    (s.PilotAt c .buoyClear w len → ((k.buoy n).set = true → goes (.hqBuoyClear c) (fun k' => (k'.buoy n).set = false)) ∧
      ((k.buoy n).set = false → exec (.hqBuoyClear c) s = .next s)) ∧
    (s.PilotAt c .buoyWaitSet w len → ((k.buoy n).set = true → goes (.hqBuoyWaitSet c) (fun k' => k'.buoys = k.buoys)) ∧
      ((k.buoy n).set = false → exec (.hqBuoyWaitSet c) s = .next s)) ∧
    (s.PilotAt c .buoyWaitClear w len → ((k.buoy n).set = false → goes (.hqBuoyWaitClear c) (fun k' => k'.buoys = k.buoys)) ∧
      ((k.buoy n).set = true → exec (.hqBuoyWaitClear c) s = .next s)))

/-- A pilot write of an execute-side CSR, ARSTAT among them, is held for the next choice; a read returns the value at the beat of the
last choice once every choice has been taken; a write of any other CSR changes fflags, frm and fcsr and nothing else (R163, R164). A
write of ARSTAT that takes effect clears the flags set in the value written (R82). -/
def Obligations.PilotCsrs : Prop :=
  (∀ (c : CoreId) (s : State) (w len : Nat), Sparse.wf 0 (s.core c).pilot.x = true →
    let k := s.core c
    let n := bits w 20 12
    let held (i : Instr) : Prop :=
      ((csrReads w = true → k.sharedReady n = true) → ∃ k' : Core, exec i s = .next (s.withCore c k') ∧
        (⟨n, BitVec.ofNat 32 (csrNew k.pilot w (k.sharedValue n)), k.pilot.pushed + 1⟩ : PendCsr) ∈ k'.pilot.pend ∧
        k'.csr = k.csr ∧ k'.arstat = k.arstat) ∧
      (csrReads w = true → k.sharedReady n = false → exec i s = .next s)
    (s.PilotAt c .arstatWrite w len → held (.arstatWrite c)) ∧
    (s.PilotAt c .sharedWrite w len → held (.sharedCsrWrite c)) ∧
    (s.PilotAt c .sharedRead w len →
      (k.sharedReady n = true → ∃ k' : Core, exec (.sharedCsrRead c) s = .next (s.withCore c k') ∧
        (iRd w ≠ 0 → k'.pilot.getX (iRd w) = k.sharedValue n % 2 ^ 32)) ∧
      (k.sharedReady n = false → exec (.sharedCsrRead c) s = .next s)) ∧
    (s.PilotAt c .csrWrite w len → k.csrRead c.v (k.pilot.issueStep w) n = none →
      exec (.csrWrite c) s = .next (s.coreFault c 0x1305 0 false)) ∧
    (s.PilotAt c .csrWrite w len → ∀ old, k.csrRead c.v (k.pilot.issueStep w) n = some old →
      let v := csrNew k.pilot w old
      ∃ k' : Core, exec (.csrWrite c) s = .next (s.withCore c k') ∧ k'.csr = k.csr ∧ k'.arstat = k.arstat ∧
        k'.pilot.fcsr = if n = 0x001 then BitVec.ofNat 8 (putBits k.pilot.fcsr.toNat 0 5 v)
          else if n = 0x002 then BitVec.ofNat 8 (putBits k.pilot.fcsr.toNat 5 3 v)
          else if n = 0x003 then BitVec.ofNat 8 v else k.pilot.fcsr)) ∧
  (∀ (k : Core) (v : BitVec 32) (ord : Nat), (∀ b f, ArEvent.set b f ∈ k.arstat → b < k.beat) →
    (k.applyPend ⟨0x7C0, v, ord⟩).arNow = k.arNow &&& ~~~ BitVec.ofNat 8 v.toNat)

/-! ## Frames, events and the ends of runs -/

/-- The rows of one core (control bundles, slots, the matrix row, vector instructions, the stream engine's acceptance and markers,
the pilot) change no memory and nothing of the harbour's settings, the tide, the regions, power, the keeper and the port.
What they may change besides their core are the events, answers and run ends that R499 and R415 give them.
The cores of other lagoons keep their state through every row of a core (R29, R499).
A slot row waits with nothing changed, stops its run, or leaves its core with results on their way and nothing else of the core
changed than its row of Table 5 of spec/05 names: registers, mask registers, cache, tile memory, cubes and sequencers keep their
values until the results land (R148, R149). A pilot row that is no queue operation changes nothing but the pilot (R160).
A control bundle without slots that issues stops its run or keeps the vector engine, tile memory, the cubes, the image, the
pilot's registers and the other sequencer (R145, R147, R152, R153, R162). -/
def Obligations.CoreRowsFrame : Prop :=
  (∀ (i : Instr) (c : CoreId) (s t : State), i.coreRow? = some c → exec i s = .next t → s.coreFrame t) ∧
  (∀ (i : Instr) (c d : CoreId) (s t : State), s.canonical = true → c.v < 512 → d.v < 512 → i.coreRow? = some c →
    d.lagoon ≠ c.lagoon → exec i s = .next t → t.core d = s.core d ∧ t.lagoon d.lagoon = s.lagoon d.lagoon) ∧
  ((∀ (i : Instr) (c : CoreId) (g : Core → Core → Core) (s t : State), i.slotKeeps = some (c, g) → s.slotReady c → exec i s = .next t →
    t = s ∨ (∃ e n, t = s.coreFault c e n false) ∨ ∃ k', t = s.withCore c k' ∧ k' = g (s.slotCore c) k') ∧
  (∀ (i : Instr) (c : CoreId) (s t : State), i.pilotOnly? = some c → exec i s = .next t →
    t = s ∨ (∃ e n, t = s.coreFault c e n false) ∨ (∃ n, t = s.meetCore c 5 n) ∨
      ∃ k', t = s.withCore c k' ∧ k' = (s.core c).keepPilot k')) ∧
  (∀ (i : Instr) (c : CoreId) (q : SeqId) (p : Bundle → Bool) (k : Core) (s t : State), s.canonical = true → i.controls? = some (c, q, p) →
    p ((s.core c).bundle q) = true → s.Issuing c q k → ((s.core c).bundle q).slots = [] → exec i s = .next t →
    (∃ e n, t = s.coreFault c e n (q == .access)) ∨ (s.issueCore c q).keepsControl q (t.core c))

/-- Raising an event numbers it, writes it to the log with the tide and changes no memory, core or lagoon (R495, R499).
An event of kind F ends the run of a lagoon that is RUNNING, PAUSED or DRAINING: the lagoon becomes FAULTED, every core of its
image stops, and its run ends with the event (R269, R413, R499). A lagoon without a run keeps its state. -/
def Obligations.EventsAndFaults : Prop :=
  (∀ (s : State) (code kind arg ploc : Nat) (lag vc : Option Nat),
    let t := s.raise code kind arg ploc lag vc
    t.evno = s.evno + 1 ∧ t.log.head? = some ⟨code, kind, s.evno + 1, s.tide.count, arg, ploc, lag, vc⟩ ∧
      t.log.length ≤ max 65536 s.log.length ∧ t.mem = s.mem ∧ t.cores = s.cores ∧ t.lagoons = s.lagoons ∧ t.keeper = s.keeper) ∧
  (∀ (s : State) (code arg ploc l : Nat) (vc : Option Nat), s.canonical = true →
    let t := s.fault code arg ploc l vc
    (s.runs? l = true → (t.lagoon l).st = .faulted ∧ (∀ v, v < 512 → (s.core ⟨l, v⟩).img.used = true → (t.core ⟨l, v⟩).stopped = true) ∧
      (∀ r, (s.lagoon l).run = some r → r.ended ≠ 1 → ∃ r', (t.lagoon l).run = some r' ∧ r'.ended = 1 ∧ r'.event = code) ∧
      t.mem = s.mem) ∧
    (s.runs? l = false → t.lagoons = s.lagoons ∧ t.cores = s.cores))


/-! ## Regions, the tide and runs -/

/-- The setpoint of a region: the governor stops a region that may stop to lower its setpoint by 10 mV at 100 °C or more, the region
resumes at the new setpoint, and the third AVSBus time-out resumes it at the old one for good (R283, R284, R508). What SETMODE holds
takes effect at a program boundary (R41), where the ageing of a region raises its base setpoint by 5 mV (R282). -/
def Obligations.RegionSetpoints : Prop :=
  (∀ (r rate : Nat) (s : State), s.canonical = true → r < 18 → s.mayStop r = true → 100 ≤ (s.region r).tj → 0x14 < (s.region r).vset →
    ∃ t : State, exec (.thermalGovernorTick r rate) s = .next t ∧ (t.region r).state = 1 ∧ (t.region r).rate = rate % 65536 ∧
      (t.region r).target = some (max 0x14 ((s.region r).vset - 2)) ∧ (t.region r).lastStop = some s.tide.count) ∧
  (∀ (r v : Nat) (s : State), s.canonical = true → (s.region r).target = some v → (s.region r).state = 1 →
    (∃ t : State, exec (.regionResume r) s = .next t ∧ (t.region r).state = 0 ∧ (t.region r).vset = v ∧ (t.region r).target = none) ∧
    ((s.region r).retries < 2 → ∃ t : State, exec (.avsbusStatusTimeout r) s = .next t ∧
      (t.region r).retries = (s.region r).retries + 1 ∧ (t.region r).state = 1) ∧
    (2 ≤ (s.region r).retries → ∃ t : State, exec (.avsbusStatusTimeout r) s = .next t ∧ (t.region r).state = 0 ∧
      (t.region r).vset = (s.region r).vset ∧ (t.region r).noChange = true)) ∧
  (∀ (l aged : Nat) (h : HeldMode) (s : State), s.canonical = true → l < 8 → s.atBoundary l = true → (s.lagoon l).st ≠ .empty →
    (s.lagoon l).held = some h → ∃ t : State, exec (.programBoundary l aged) s = .next t ∧ (t.lagoon l).held = none ∧
      (t.lagoon l).dlwin = h.dlwin ∧ (t.lagoon l).cfg.pmode = h.pmode ∧ (t.lagoon l).cfg.steady = h.steady) ∧
  (∀ (l r : Nat) (s : State), s.canonical = true → l < 8 → s.atBoundary l = true → (s.lagoon l).st ≠ .empty → r < 18 →
    s.regionOwner r = some l → (s.region r).vbase < 0x24 → s.mayStop r = true → ∃ t : State,
      exec (.programBoundary l (2 ^ r)) s = .next t ∧ (t.region r).vbase = (s.region r).vbase + 1 ∧
      (t.region r).target = some ((s.region r).vset + 1) ∧ (t.region r).state = 1)

/-- Temperatures and rails: a sample is kept, one of 115 °C or more in a die that is on turns both dies off and drives THERMTRIP_N low;
a rail below 620 mV halts its region, which resumes when the rail has recovered and fails its owner's run after 1 ms (R280, R284,
R285). -/
def Obligations.TemperaturesAndRails : Prop :=
  (∀ (r : Nat) (tj : Int) (s : State), s.canonical = true → r < 18 → s.power.porst = true →
    (tj < 115 → ∃ t : State, exec (.temperatureSample r tj) s = .next t ∧ (t.region r).tj = tj ∧ (t.region r).state = (s.region r).state) ∧
    (115 ≤ tj → (s.region r).state ≠ 4 → ∃ t : State, exec (.temperatureSample r tj) s = .next t ∧
      t.power.thermtrip = true ∧ t.power.cause = 1 ∧ t.power.cw.pen = false ∧ t.power.ce.pen = false ∧
      ∀ i, i < 18 → 3 ≤ (t.region i).state)) ∧
  (∀ (r mv : Nat) (s : State), s.canonical = true → r < 18 → mv < 620 → (s.region r).state < 2 →
    ∃ t : State, exec (.railLow r mv) s = .next t ∧ (t.region r).state = 2 ∧ (t.region r).lowSince = some s.tide.count) ∧
  (∀ (r : Nat) (s : State), s.canonical = true → (s.region r).state = 2 → ∃ t : State, exec (.railRecover r) s = .next t ∧
    (t.region r).state = (if (s.region r).target.isSome then 1 else 0) ∧ (t.region r).lowSince = none) ∧
  (∀ (r l t0 : Nat) (s : State), s.canonical = true → (s.region r).state = 2 → (s.region r).lowSince = some t0 →
    (s.region r).failed = false → t0 + 1000000 < s.tide.count → s.regionOwner r = some l → s.runs? l = true →
    ∃ t : State, exec (.railFail r) s = .next t ∧ (t.lagoon l).st = .faulted ∧ (t.region r).failed = true)

/-- The tide counts one nanosecond a tick modulo 2^64, once in 10,000 ticks two or none while it slews, and the pacers of the regions
that run advance with it (R277, R300, R304); its pulse output rises where the count passes a second, once the tide
has been stepped or set, and is low until then (R305, R503). It locks after sixteen good
synchronisation messages of its domain, sends a delay request where the master asks for one, enters HOLDOVER after 2 s without a
message, steps forwards once no lagoon runs and no launch is pending, and follows the 1PPS edge (R303, R304, R305, R377). -/
def Obligations.TideMoves : Prop :=
  (∀ s : State, s.canonical = true → s.power.porst = true → ∃ t : State, exec .tideTick s = .next t ∧ t.mem = s.mem ∧
    (s.tide.slew = 0 → t.tide.count = (s.tide.count + 1) % 2 ^ 64) ∧
    (0 < s.tide.slew → s.tide.lastSlew + 10000 ≤ s.tide.count → t.tide.count = (s.tide.count + 2) % 2 ^ 64 ∧ t.tide.slew = s.tide.slew - 1) ∧
    (s.tide.slew < 0 → s.tide.lastSlew + 10000 ≤ s.tide.count → t.tide.count = s.tide.count % 2 ^ 64 ∧ t.tide.slew = s.tide.slew + 1) ∧
    (s.tide.count < s.tide.lastSlew + 10000 → t.tide.count = (s.tide.count + 1) % 2 ^ 64) ∧
    (s.tide.slew = 0 → (s.tide.count + 1) % 1000000000 = 0 → t.tide.ppsOut =
      if s.tide.stepped = true ∨ s.tide.set = true then s.tide.ppsOut + 1 else s.tide.ppsOut) ∧
    (∀ r, (s.region r).state = 0 → (t.region r).periods = (s.region r).periods + s.pace r)) ∧
  (∀ (s : State) (p : PtpMsg) (k : Nat), s.power.porst = true → s.port.link.isSome = true → s.tide.disc = true →
    p.transport < 3 → s.hears p.wire true none = true → s.tide.state = 1 ∨ s.tide.state = 3 → 15 ≤ s.tide.good →
    s.tide.lastSync = some k → s.tide.count ≤ k + 2000000000 → p.time ≤ s.tide.count + 25 → s.tide.count ≤ p.time + 25 →
    ∃ t : State, exec (.ptpSync p s.tide.domain) s = .next t ∧ t.tide.state = 2 ∧ t.tide.lastSync = some s.tide.count ∧
      t.tide.offset = (s.tide.count : Int) - p.time ∧
      t.tx.head?.map (·.toOutgoing) =
        some ⟨12, p.transport, if p.e2e then 1 else 2, toBytes 1 s.tide.domain ++ toBytes 8 s.tide.count⟩) ∧
  (∀ (s : State) (k : Nat), s.tide.lastSync = some k → s.tide.state = 2 → k + 2000000000 ≤ s.tide.count →
    ∃ t : State, exec .holdoverTimeout s = .next t ∧ t.tide.state = 3) ∧
  (∀ (s : State) (d : Int), s.tide.step = some d → s.tideFree = true → ∃ t : State, exec .deferredTideStep s = .next t ∧
    t.tide.count = (s.tide.count + d.toNat) % 2 ^ 64 ∧ t.tide.step = none ∧ t.tide.stepped = true) ∧
  (∀ s : State, s.tide.ppsOn = true → s.power.porst = true →
    (s.tide.ppsFirst = false ∨ pulseCount s.tide.count ≤ s.tide.count ∨ s.tideFree = false → ∃ t : State, exec .ppsEdge s = .next t ∧ t.tide.count = s.tide.count ∧
      t.tide.slew = (pulseCount s.tide.count : Int) - s.tide.count ∧ t.tide.ppsSeen = true) ∧
    (s.tide.ppsFirst = true → s.tide.count < pulseCount s.tide.count → s.tideFree = true → ∃ t : State, exec .ppsEdge s = .next t ∧
      t.tide.count = pulseCount s.tide.count % 2 ^ 64 ∧ t.tide.ppsFirst = false ∧ t.tide.stepped = true))

/-- A launch whose tide has come takes the next run number and starts the run, which drops the lagoon's other launches; one that
requires a lock the tide has lost is dropped with 0x4303, and one for whose power mode the image has no plan with 0x1402 (R43, R307,
R308, R357). A guard window refills the bucket of every context of its region that the lagoon runs (R354). -/
def Obligations.LaunchesAndGuard : Prop :=
  (∀ (l : Nat) (s : State) (p : Launch), s.canonical = true → (s.lagoon l).nextLaunch = some p →
    (s.lagoon l).st = .loaded → (s.lagoon l).sealed = true → p.count ≤ s.tide.count → s.power.state = 0 → s.power.move = none →
    s.power.cause = 0 →
    let drops (code : Nat) : Prop := ∃ t : State, exec (.launch l) s = .next t ∧
      (t.lagoon l).launch = (s.lagoon l).launch.erase p ∧ (t.lagoon l).st = .loaded ∧ (t.log.head?).map (·.code) = some code
    (s.planFor l = true → (p.reqlock = false ∨ s.tide.state = 2) → ∃ (t : State) (r : Run), exec (.launch l) s = .next t ∧
      t.counter 0 = s.counter 0 + 1 ∧ (t.lagoon l).run = some r ∧ r.runno = s.counter 0 ∧ r.runseed = p.runseed ∧
      (t.lagoon l).launch = [] ∧ ((t.lagoon l).st = .running ∨ (t.lagoon l).st = .faulted)) ∧
    (s.planFor l = true → p.reqlock = true → s.tide.state ≠ 2 → drops 0x4303) ∧
    (s.planFor l = false → drops 0x1402)) ∧
  (∀ (r l : Nat) (s : State), s.canonical = true → s.regionOwner r = some l → (s.region r).state = 0 → s.power.state = 0 →
    ∃ t : State, exec (.guardWindow r) s = .next t ∧
      ∀ v, v ∈ s.vcores l → s.coreRegion ⟨l, v⟩ = r → (t.core ⟨l, v⟩).guardLu = s.allowance ⟨l, v⟩)

/-- Run records: the outputs of an ended run that is ready are hashed, and once their digests have come the run gets a record that
names it (R327, R330); the builder accepts it into the open batch with its reference, and the lagoon is LOADED again (R332, R336, R413).
A batch closes when BATCHWIN has passed, and a signed batch enters the PREV chain and counter 2 (R332, R333, R457). -/
def Obligations.RunRecords : Prop :=
  (∀ (l : Nat) (s : State) (r : Run), s.canonical = true → (s.lagoon l).run = some r → (s.lagoon l).record = none →
    ((s.lagoon l).st = .faulted ∨ ((s.lagoon l).st = .draining ∧ s.outputsReady l = true)) →
    ((s.lagoon l).hashed true = true → ∃ (t : State) (q : RunRec), exec (.outputHashDone l) s = .next t ∧
      (t.lagoon l).record = some q ∧ q.runno = r.runno ∧ q.lagoon = l ∧ (t.lagoon l).prevrun = (s.lagoon l).prevrun ∧
      (s.builder.room = true → t.builder = s.builder)) ∧
    ((s.lagoon l).hashing = none → ((s.lagoon l).st = .draining → s.outputBad l = none) → ∃ t : State, exec (.outputHashDone l) s = .next t ∧
      ((t.lagoon l).record.isSome = true ∨ ∃ h, (t.lagoon l).hashing = some h ∧ h.outs = true ∧ h.got = []))) ∧
  (∀ (l : Nat) (s : State) (q : RunRec), s.canonical = true → (s.lagoon l).record = some q → (s.lagoon l).st = .draining →
    (s.lagoon l).svc = none → s.builder.room = true → s.behind l = false → s.power.cause < 2 → ∃ (t : State) (r : RunRec),
      exec (.recordAccepted l) s = .next t ∧ t.runs.head? = some r ∧ r.bytes = q.bytes ∧ r.ref.isSome = true ∧
      (t.lagoon l).run = none ∧ (t.lagoon l).record = none ∧ (t.lagoon l).st = .loaded ∧ (t.lagoon l).prevrun = q.runno) ∧
  (∀ s : State, s.builder.openRecs ≠ [] → s.builder.closed.length < 4 → s.builder.topen + s.builder.batchwin ≤ s.tide.count →
    ∃ (t : State) (b : Batch), exec .batchWindowExpiry s = .next t ∧ t.builder.openRecs = [] ∧
      t.builder.closed = s.builder.closed ++ [b] ∧ b.no = s.builder.openNo ∧ b.recs = s.builder.openRecs ∧ b.tclose = s.tide.count) ∧
  (∀ (s : State) (b : Batch) (rest : List Batch), s.canonical = true → s.builder.closed = b :: rest →
    s.power.porst = true → s.builder.stopped = false → s.reserveLeaves.keeper.leaf < 2 ^ 40 → s.sinkBacklog < 64 → s.power.cause < 2 → ∃ t : State,
      exec .batchSigned s = .next t ∧ t.counter 2 = b.no ∧
      t.builder.prev = sha384 (toBytes 192 (s.reserveLeaves.batchHeader b).toNat))


/-! ## The mailbox -/

/-- A HELLO with its 140 bytes, fewer than eight handshakes pending and nothing to refuse opens a handshake at the lowest free
session number, its keying material extracted from the exchange (R400, R401); one that R399 refuses is answered with its RESULT and
opens none; any other is dropped. CERT_GET is answered without a session, by a clear frame with the part of the certificate chain that it
names (R395, R402, R459). -/
def Obligations.HandshakesOpen : Prop :=
  ∀ (f : Frame) (s : State),
    (s.Heard f 0x01 →
      (f.body.length = 140 → s.shakes.length < 8 →
        (∀ n, s.helloRefused f = none → s.freeSession = some n → ∃ (t : State) (h : Handshake), exec (.hello f) s = .next t ∧
          t.shakes = s.shakes ++ [h] ∧ h.id = n ∧ h.scope = bodyNum f.body 129 1 ∧ h.tide = s.tide.count ∧
          h.prk = prkOf f.body h.serial ∧ t.sessions = s.sessions) ∧
        (∀ r, s.helloRefused f = some r → ∃ t : State, exec (.hello f) s = .next t ∧ t.shakes = s.shakes ∧
          t.tx.head?.map (·.toOutgoing) = some ⟨3, f.src, f.sport, BitVec.ofNat 8 r :: List.replicate 328 0⟩)) ∧
      (f.body.length ≠ 140 ∨ 8 ≤ s.shakes.length → exec (.hello f) s = .next (s.tookFrame f.wire).dropFrame)) ∧
    (s.Heard f 0x05 → 6 ≤ f.body.length → bodyNum f.body 4 2 ≠ 0 → bodyNum f.body 4 2 ≤ 1016 → ∃ t : State,
      exec (.certGet f) s = .next t ∧ t.sessions = s.sessions ∧ t.shakes = s.shakes ∧
      let part := toBytes 4 certChain.length ++ toBytes 4 (bodyNum f.body 0 4) ++ objectPart certChain (bodyNum f.body 0 4) (bodyNum f.body 4 2)
      t.tx.head?.map (·.toOutgoing) = some ⟨3, f.src, f.sport, part⟩ ∧ t.tx.head?.map (·.data) = some (clearFrame 0x06 0xFF part))

/-- A FINISH whose signature verifies under the tenant key opens the session of its handshake with the keys of the exchange; a
signature that does not, and a handshake of 1 s, discard it with 0x5503; a session without an authenticated command for 300 s ends with
0x5502 (R400, R401, R403). -/
def Obligations.SessionsOpenAndEnd : Prop :=
  (∀ (f : Frame) (s : State) (h : Handshake) (k : TenantKey), s.Heard f 0x03 →
    s.shakes.find? (fun y => y.id == frameSession f && y.peer == f.src && y.port == f.sport && y.entry == f.entry) = some h →
    s.tenantKey h.scope h.keyid = some k → (∀ y ∈ s.sessions, y.id ≠ h.id) →
    let good := f.body.length = 96 ∧ ecdsaVerify k.key (digestBytes h.th2) f.body = true
    (good → ∃ t : State, exec (.finish f) s = .next t ∧ (∀ y ∈ t.shakes, y.id ≠ h.id) ∧
      ∃ x ∈ t.sessions, x.id = h.id ∧ x.scope = h.scope ∧ x.high = 0 ∧ x.cmds = [] ∧
        x.hd = sessionKey h.prk 0x68 0x64 h.th2 ∧ x.dh = sessionKey h.prk 0x64 0x68 h.th2) ∧
    (¬good → ∃ t : State, exec (.finish f) s = .next t ∧
      t.sessions.map (·.id) = s.sessions.map (·.id) ∧ (t.log.head?).map (·.code) = some 0x5503 ∧ ∀ y ∈ t.shakes, y.id ≠ h.id)) ∧
  (∀ (n : Nat) (s : State) (h : Handshake), s.shakes.find? (fun y => y.id == n) = some h → h.tide + 1000000000 ≤ s.tide.count →
    ∃ t : State, exec (.handshakeTimeout n) s = .next t ∧ (t.log.head?).map (·.code) = some 0x5503 ∧ ∀ y ∈ t.shakes, y.id ≠ n) ∧
  (∀ (n : Nat) (s : State) (x : Session), s.session? n = some x → x.lastCmd + 300000000000 ≤ s.tide.count →
    ∃ t : State, exec (.sessionTimeout n) s = .next t ∧ (t.log.head?).map (·.code) = some 0x5502 ∧ ∀ y ∈ t.sessions, y.id ≠ n)

/-- Every mailbox command row runs the effect of its request in the state that has accepted it (R406, R409, R410, R419). -/
def Obligations.MailboxCommandsRun : Prop :=
  ∀ (i : Instr) (f : Frame) (s : State) (x : Session), i.frame? = some f → s.CommandRuns f x → i.serves (s.request f x) = true →
    exec i s = .next ((s.running f x).effect (s.request f x))

/-- The first ordered command that waits for its turn starts, unless the self-test of a unit of its lagoon or a change of the lagoon under
way holds it back (R490, R409, R414; the latter by DEDUCED 92), while which it stays as it is; one that waits on a fence runs when its ledger has reached FCOUNT and is
answered LANDING_TIMEOUT with 0x5505, not executed, when FTIMEOUT has passed first (R409, R411). -/
def Obligations.CommandsStartAndFence : Prop :=
  (∀ (n : Nat) (s : State) (x : Session) (c : Cmd), s.session? n = some x → x.firstOrdered = some c → c.phase = 0 →
    exec (.commandStart n) s = .next (s.startCmd (reqOf x c)) ∧
    (∀ st d, s.precheck (reqOf x c) = some (st, d) → s.startCmd (reqOf x c) = s.no (reqOf x c) st d) ∧
    (s.precheck (reqOf x c) = none → s.mustWait (reqOf x c) = false → s.fenceMet (reqOf x c) = true →
      s.startCmd (reqOf x c) = (s.setPhase (reqOf x c).ref 2 0).effect (reqOf x c)) ∧
    (s.precheck (reqOf x c) = none → s.mustWait (reqOf x c) = true → s.fenceMet (reqOf x c) = true → s.startCmd (reqOf x c) = s)) ∧
  (∀ (n q : Nat) (s : State) (x : Session) (c : Cmd), s.fencedCmd n q = some (x, c) →
    (s.fenceMet (reqOf x c) = true → s.mustWait (reqOf x c) = false → exec (.landingFenceMet n q) s =
      .next ((s.setPhase (reqOf x c).ref 2 0).effect (reqOf x c))) ∧
    (s.fenceMet (reqOf x c) = false → c.deadline ≤ s.tide.count → ∃ t : State, exec (.landingTimeout n q) s = .next t ∧
      (t.log.head?).map (·.code) = some 0x5505 ∧ t.lagoons = s.lagoons ∧ t.mem = s.mem))

/-- A command's answer leaves those outstanding, and its reply, with the status given, enters the session's cache and is sent, so
that a repeat of its number is answered from the cache and not executed again (R406, R407); it leaves as a protected frame under the
session's device-to-host key and next frame number (R395, R398), where the port may send it (R370). -/
def Obligations.AnswersAreCached : Prop :=
  ∀ (s : State) (r : Ref) (st d e : Nat) (res : List Byte) (x : Session), s.sessions.find? (fun y => y.handle == r.session) = some x →
    x.cmds.any (fun c => c.seq == r.seq) = true → x.high < r.seq + 4096 → (∀ y ∈ s.sessions, y.id = x.id → y = x) →
    (s.port.cfg.macsec = true → s.port.ctlOpen = true) →
    let t := s.answer r st d e res
    ∃ y, t.sessions.find? (fun z => z.handle == r.session) = some y ∧ (∀ c ∈ y.cmds, c.seq ≠ r.seq) ∧
      (⟨r.seq, s.replyBody x.scope r.op st d e res⟩ : Cached) ∈ y.cache ∧
      t.tx.head?.map (·.toOutgoing) = some ⟨1, x.id, r.seq, s.replyBody x.scope r.op st d e res⟩ ∧ y.sent = x.sent + 1 ∧
      t.tx.head?.map (·.data) = some (y.frame ⟨1, x.id, r.seq, s.replyBody x.scope r.op st d e res⟩) ∧ t.lagoons = s.lagoons ∧ t.mem = s.mem


/-- The lagoon commands that R410 does not turn away take the effect Table 8 of spec/13 gives them: CONFIGURE takes what it names,
its memory being cleared first where it is not clean, RELEASE begins the clearing, LOAD and SEAL begin their work, UNLOAD returns to
CONFIGURED, START sets a launch beside those that wait, PAUSE and STOP stop the cores, RESUME goes on, SETMODE takes effect at a boundary and is held otherwise, WAIT_RUN is answered from an accepted record
(R269, R270, R307, R413 to R415, R419). `u` is the state in which the command runs, `y` the lagoon it names. -/
def Obligations.LagoonCommands : Prop :=
  ∀ (f : Frame) (s : State) (x : Session), s.canonical = true → s.CommandRuns f x →
    let r := s.request f x
    let u := s.running f x
    let l := r.lag
    let y := u.lagoon l
    let u1 := u.applyHeld l
    u.gate r = none →
    let does (i : Instr) (op : Nat) (p : State → Prop) : Prop := r.op = op → ∃ t : State, exec i s = .next t ∧ p t
    (u.cfgRefused r.cfg = none → (∀ n ∈ ones 20 r.cfg.hbm, (u.stack n).clean = true) → (∀ n ∈ ones 16 r.cfg.chans, (u.channel n).clean = true) →
      does (.cmdConfigure f) 0x0101 (fun t => (t.lagoon l).st = .configured ∧ (t.lagoon l).cfg = r.cfg)) ∧
    (u.cfgRefused r.cfg = none → u.powerNow = 0 → (∃ n ∈ ones 20 r.cfg.hbm, (u.stack n).clean = false) →
      does (.cmdConfigure f) 0x0101 (fun t => (t.lagoon l).st = .empty ∧ (t.lagoon l).cfg = r.cfg ∧ (t.lagoon l).clearing = true ∧
        (t.lagoon l).pauseRef = some r.ref)) ∧
    (u.powerNow = 0 → y.drains = [] → u.fenced (fun q => q.owner == l) = false → does (.cmdRelease f) 0x0102 (fun t =>
      (t.lagoon l).clearing = true ∧ (t.lagoon l).pauseRef = some r.ref ∧ (t.lagoon l).pair = none ∧ ∀ q ∈ t.lrs, q.owner ≠ l)) ∧
    (u.holds l (r.arg 0 64) (r.arg 64 64) = true → u.loadCheck l (Hpi.parse (u.readBytes (r.arg 0 64) (r.arg 64 64))) = none →
      does (.cmdLoad f) 0x0103 (fun t => (t.lagoon l).pauseRef = some r.ref ∧ (t.lagoon l).sealed = false)) ∧
    does (.cmdUnload f) 0x0104 (fun t => (t.lagoon l).st = .configured) ∧
    does (.cmdSeal f) 0x0105 (fun t => (t.lagoon l).pauseRef = some r.ref ∧ t.mem = s.mem) ∧
    (y.sealed = true → u1.planFor l = true → u1.coresServe l = true →
      (r.arg 0 64 = 0 ∨ u.tide.count + 50000 ≤ r.arg 0 64) → does (.cmdStart f) 0x0106 (fun t =>
        (t.lagoon l).launch = y.launch ++ [u1.launchOf r] ∧ (t.lagoon l).st = y.st)) ∧
    (y.sealed = false → does (.cmdStart f) 0x0106 (fun t => t = u1.no r 9 0)) ∧
    does (.cmdPause f) 0x0107 (fun t => (t.lagoon l).pauseRef = some r.ref ∧ (t.lagoon l).stopTide = s.tide.count ∧
      ∀ v, v < 512 → (s.core ⟨l, v⟩).img.used = true → (t.core ⟨l, v⟩).stopped = true) ∧
    (y.st = .paused → does (.cmdResume f) 0x0108 (fun t => (t.lagoon l).st = .running ∧
      ∀ v, v < 512 → (s.core ⟨l, v⟩).img.used = true → (t.core ⟨l, v⟩).stopped = (s.core ⟨l, v⟩).runEnded)) ∧
    ((y.st = .running ∨ y.st = .paused) → y.stopping = false → does (.cmdStop f) 0x0109 (fun t => (t.lagoon l).stopping = true ∧
      (t.lagoon l).run = y.run.map (fun q => if q.ended = 0 then { q with ended := 2 } else q))) ∧
    (u.atBoundary l = true → does (.cmdSetmode f) 0x010A (fun t => (t.lagoon l).cfg.pmode = r.arg 0 2 ∧ (t.lagoon l).held = none)) ∧
    (u.atBoundary l = false → does (.cmdSetmode f) 0x010A (fun t => (t.lagoon l).cfg = y.cfg ∧
      ((t.lagoon l).held.map (·.pmode)) = some (r.arg 0 2))) ∧
    (∀ q, u.runs.find? (fun z => z.runno == r.arg 0 64 && z.lagoon == l) = some q →
      does (.cmdWaitRun f) 0x010B (fun t => t = u.ok r q.waitResults))

/-- The lagoon commands in progress complete: SEAL takes the input root, once its digests have come, and seals, PAUSE ends in PAUSED, STOP in DRAINING, LOAD in
LOADED, each with event 0x5506, and the clearing of RELEASE leaves an EMPTY lagoon whose stacks hold zeros (R270, R330, R413, R415,
R474). -/
def Obligations.LagoonCommandsComplete : Prop :=
  ∀ (l : Nat) (s : State) (q : Ref), s.canonical = true → (s.lagoon l).pauseRef = some q →
    let y := s.lagoon l
    let told (t : State) : Prop := (t.log.head?).map (fun e => (e.code, e.lagoon)) = some (0x5506, some l)
    (q.op = 0x0105 → y.st = .loaded → y.hashed false = true → ∃ t : State, exec (.sealDone l) s = .next t ∧ (t.lagoon l).sealed = true ∧
      (t.lagoon l).inroot = s.inRoot l ∧ (t.lagoon l).pauseRef = none ∧ told t) ∧
    (q.op = 0x0107 → y.st = .running → y.msgs = [] → ∃ t : State, exec (.pauseDone l) s = .next t ∧ (t.lagoon l).st = .paused ∧
      (t.lagoon l).pauseRef = none ∧ told t) ∧
    (y.stopping = true → (y.st = .running ∨ y.st = .paused) → ∃ t : State, exec (.stopDone l) s = .next t ∧
      (t.lagoon l).st = .draining ∧ (t.lagoon l).stopping = false ∧ told t) ∧
    (q.op = 0x0103 → y.run = none → y.img.isSome = true → ∃ t : State, exec (.loadDone l) s = .next t ∧ (t.lagoon l).st = .loaded ∧
      (t.lagoon l).pauseRef = none ∧ told t) ∧
    (y.clearing = true → y.run = none → y.st ≠ .empty → ∃ t : State, exec (.memoryClearingDone l) s = .next t ∧
      t.lagoon l = Lagoon.blank ∧ ∀ a, a / 2 ^ 37 ∈ s.ownStacks l → t.readByte a = 0) ∧
    (y.clearing = true → y.run = none → y.st = .empty → ∃ t : State, exec (.memoryClearingDone l) s = .next t ∧
      (t.lagoon l).st = .configured ∧ ∀ n, n ∈ s.dirtyStacks l → (t.stack n).clean = true)


/-! ## The device's other commands -/

/-- Commands of the session and of the device's settings take effect in the setting they name and leave memory and lagoons alone:
CLOSE ends the session, EVENTS sets its groups, NET, QOS, MACSEC and LIGHTHOUSE write the port's settings, which the keeper keeps,
BATCHWIN and TIDE set theirs, POWER begins its move or is answered at once (R285, R303, R304, R334, R366, R368 to R370, R388, R403,
R416, R420, R424). -/
def Obligations.SettingsCommands : Prop :=
  ∀ (f : Frame) (s : State) (x : Session), s.CommandRuns f x →
    let r := s.request f x
    let u := s.running f x
    let c := s.port.cfg
    let does (i : Instr) (p : State → Prop) : Prop :=
      i.serves r = true → ∃ t : State, exec i s = .next t ∧ t.mem = s.mem ∧ t.lagoons = s.lagoons ∧ p t
    let net (i : Instr) (n : NetCfg) : Prop := does i (fun t => t.port.cfg = n ∧ t.keeper.net = n)
    let e := r.arg 0 8 - 1
    let others := c.addrs.filter (fun p => p.1 != e)
    let taken := others.any (fun p => p.2.addr == r.addr.addr && p.2.v4 == r.addr.v4 && p.2.owner != r.addr.owner)
    let power (i : Instr) : Prop :=
      (s.side.bmcHold = none → (s.tripHolds && decide (r.arg 0 3 ≤ 1)) = false → s.power.cause = 0 → s.power.move = none →
        s.keepsFrom (r.arg 0 3) = false → s.power.state ≠ r.arg 0 3 → (s.power.hb.barred && decide (r.arg 0 3 < 3)) = false →
        does i (fun t => t.power.move = some ⟨r.arg 0 3, some r.ref⟩ ∧ t.power.state = s.power.state)) ∧
      (∀ h, s.side.bmcHold = some h → does i (fun t => t = u.no r 0x11 h))
    does (.cmdHmpNop f) (fun t => t = u.ok r []) ∧
    does (.cmdClose f) (fun t => ∀ y ∈ t.sessions, y.id ≠ x.id) ∧
    does (.cmdEvents f) (fun t => ∃ y ∈ t.sessions, y.id = x.id ∧ y.groups = r.arg 0 16) ∧
    net (.cmdNetMac f) { c with mac := r.arg 8 48 } ∧
    net (.cmdNetLinkLocal f) { c with local0 := if bit (r.arg 137 1) 0 then some (r.arg 138 12) else none } ∧
    (r.addr.owner = 0xF → net (.cmdNetAddress f) { c with addrs := others }) ∧
    (r.addr.owner ≠ 0xF → taken = false → net (.cmdNetAddress f) { c with addrs := others ++ [(e, r.addr)] }) ∧
    (r.addr.owner ≠ 0xF → taken = true → does (.cmdNetAddress f) (fun t => t = u.no r 0x0E 0)) ∧
    net (.cmdNetHmpport f) { c with hmpport := r.arg 8 16 } ∧
    net (.cmdQosPriorities f) { c with lossless := r.arg 8 8, traffic := r.arg 16 24 } ∧
    net (.cmdQosDscpMap f) { c with dscp := r.arg 8 192 } ∧
    net (.cmdQosPfcwd f) { c with pfcwd := r.arg 8 32 } ∧
    net (.cmdMacsecEnable f) { c with macsec := bit (r.arg 8 1) 0, replay := r.arg 16 24 } ∧
    net (.cmdMacsecCak f) { c with cak := some ((r.args.drop 2).take 32, (r.args.drop 34).take (r.arg 8 8)) } ∧
    net (.cmdLighthouse f) { c with lhcfg := r.arg 17 15 * 2 ^ 17 + r.arg 0 14, lhetype := r.arg 32 16, lhport := r.arg 48 16 } ∧
    does (.cmdBatchwin f) (fun t => t.builder = { s.builder with batchwin := r.arg 0 64 }) ∧
    (bit (r.arg 9 1) 0 = false → does (.cmdTide f) (fun t => t.tide.count = s.tide.count ∧ t.tide.disc = bit (r.arg 0 1) 0 ∧
      t.tide.domain = r.arg 1 7 ∧ t.tide.ppsOn = bit (r.arg 8 1) 0)) ∧
    (bit (r.arg 9 1) 0 = true → 16 ≤ r.alen → s.tide.state = 0 → s.tideFree = true → s.tide.count ≤ r.arg 64 64 →
      does (.cmdTide f) (fun t => t.tide.count = r.arg 64 64 ∧ t.tide.set = true)) ∧
    power (.cmdPowerP0 f) ∧ power (.cmdPowerP1 f) ∧ power (.cmdPowerP2 f) ∧ power (.cmdPowerP3 f)

/-- The commands over objects, sinks, batches, queue pairs, landing regions, packages and tenant keys do what Tables 8 and 10 of
spec/13 say: READ answers a part of the object, XFER posts it on the queue pair, SINK and SINK_ACK keep the owner's sink, FLUSH closes
the open batch, PATH answers the sibling path, QP_CREATE takes the lowest number free, LR_REGISTER gives an R_Key that no region has
(R371 to R373, R399, R403, R419, R421, R422, R458, R462). -/
def Obligations.ObjectCommands : Prop :=
  ∀ (f : Frame) (s : State) (x : Session), s.CommandRuns f x →
    let r := s.request f x
    let u := s.running f x
    let does (i : Instr) (p : State → Prop) : Prop := i.serves r = true → ∃ t : State, exec i s = .next t ∧ p t
    let key : TenantKey := ⟨r.arg 0 8, (r.args.drop 2).take 97⟩
    (∀ b, u.object r.scope r.lag (r.arg 0 8) (r.arg 64 64) = .bytes b →
      does (.cmdRead f) (fun t => t = u.ok r (objectPart b (r.arg 128 32) (r.arg 160 10))) ∧
      (∀ q, s.qp? (r.arg 192 16) = some q → q.owner = r.owner → q.state = 0 → objectPart b (r.arg 128 32) (r.arg 160 32) ≠ [] →
        does (.cmdXfer f) (fun t => ∃ (w : Work) (p : QPair), t.qp? q.qpn = some p ∧ p.work = q.work ++ [w] ∧
          w.bytes = objectPart b (r.arg 128 32) (r.arg 160 32) ∧ w.rkey = r.arg 224 32 ∧ w.remote = r.arg 256 64 ∧ w.ref = some r.ref ∧
          w.reply = u.replyBody r.scope r.op 0 0 0 (toBytes 4 (objectPart b (r.arg 128 32) (r.arg 160 32)).length)))) ∧
    (r.arg 160 16 = 0 → does (.cmdSink f) (fun t => t.sinks = s.sinks.filter (fun k => k.owner != r.owner))) ∧
    (∀ q, r.arg 160 16 ≠ 0 → s.qp? (r.arg 0 16) = some q → q.owner = r.owner → does (.cmdSink f) (fun t => ∃ k ∈ t.sinks,
      k.owner = r.owner ∧ k.qpn = q.qpn ∧ k.rkey = r.arg 32 32 ∧ k.base = r.arg 64 64 ∧ k.slot = r.arg 128 32 ∧ k.slots = r.arg 160 16)) ∧
    (∀ k, s.sink? r.owner = some k →
      (k.acked ≤ r.arg 0 32 → r.arg 0 32 ≤ k.used → does (.cmdSinkAck f) (fun t => ∃ p, t.sink? r.owner = some p ∧
        p.acked = r.arg 0 32 ∧ k.used ≤ p.used)) ∧
      (r.arg 0 32 < k.acked ∨ k.used < r.arg 0 32 → does (.cmdSinkAck f) (fun t => t = u.no r 6 32))) ∧
    (s.builder.openRecs = [] → does (.cmdFlush f) (fun t => t = u.ok r (toBytes 8 0))) ∧
    (s.builder.openRecs ≠ [] → s.builder.closed.length < 4 → does (.cmdFlush f) (fun t => t.builder.openRecs = [] ∧
      ∃ b : Batch, t.builder.closed = s.builder.closed ++ [b] ∧ b.no = s.builder.openNo ∧ b.recs = s.builder.openRecs)) ∧
    (s.builder.openRecs ≠ [] → 4 ≤ s.builder.closed.length → does (.cmdFlush f) (fun t => t.builder.flushes = s.builder.flushes ++ [r.ref] ∧
      t.builder.openRecs = s.builder.openRecs ∧ t.tx = s.tx)) ∧
    (∀ b q, (s.builder.signed ++ s.builder.closed).find? (fun b => b.no == r.arg 0 64) = some b → b.recs[r.arg 64 32]? = some q →
      scopeSees r.scope q.lagoon = true → does (.cmdPath f) (fun t =>
        let sib := siblings 17 (b.recs.map RunRec.leaf) (r.arg 64 32)
        t = u.ok r (digestBytes q.leaf ++ [BitVec.ofNat 8 sib.length] ++ sib.flatMap digestBytes))) ∧
    (∀ n, (List.range 4096).find? (fun n => (s.qp? (n + 1)).isNone) = some n → does (.cmdQpCreate f) (fun t => ∃ q : QPair,
      t.qps = s.qps ++ [q] ∧ q.qpn = n + 1 ∧ q.owner = r.owner ∧ q.rqpn = r.arg 136 24 ∧ q.spsn = r.arg 168 24 ∧ q.rpsn = r.arg 200 24 ∧
      q.state = 0 ∧ q.work = [])) ∧
    (∀ q, s.qp? (r.arg 0 16) = some q → q.owner = r.owner →
      let used := s.sinks.any (fun k => k.qpn == q.qpn) ||
        (List.range 8).any (fun l => ((s.lagoon l).svc.map (fun v => v.qpns.contains q.qpn)).getD false)
      (used = false → does (.cmdQpDestroy f) (fun t => ∀ y ∈ t.qps, y.qpn ≠ q.qpn)) ∧
      (used = true → does (.cmdQpDestroy f) (fun t => t = u.no r 0x0E 0))) ∧
    (∀ n, u.holds r.owner (r.arg 0 64) (r.arg 64 64) = true → (List.range 256).find? (fun i => (s.lr? i).isNone) = some n →
      does (.cmdLrRegister f) (fun t => ∃ y : LandReg, t.lrs = s.lrs ++ [y] ∧ y.idx = n ∧ y.addr = r.arg 0 64 ∧ y.len = r.arg 64 64 ∧
        y.owner = r.owner ∧ y.ledger = 0 ∧ (s.lrs.length ≤ 256 → ∀ z ∈ s.lrs, z.rkey ≠ y.rkey))) ∧
    (∀ y, s.lr? (r.arg 0 8) = some y → y.owner = r.owner →
      (u.fenced (fun z => z.idx == y.idx) = false →
        does (.cmdLrDeregister f) (fun t => t.lrs = s.lrs.filter (fun z => z.idx != y.idx))) ∧
      (u.fenced (fun z => z.idx == y.idx) = true → does (.cmdLrDeregister f) (fun t => t = u.no r 0x0E 0))) ∧
    (u.holds r.owner (r.arg 0 64) (r.arg 64 64) = true → u.awake (r.arg 0 64) (r.arg 64 64) = true →
      let bs := s.readBytes (r.arg 0 64) (r.arg 64 64)
      (packFail bs = none → packOk bs = true → does (.cmdLibPut f) (fun t => ∃ p ∈ t.libs, p.bytes = bs ∧ p.triple = packTriple bs ∧
        p.digest = sha384 bs)) ∧
      (∀ d, packFail bs = some d → does (.cmdLibPut f) (fun t => t.libs = s.libs ∧ (t.log.head?).map (·.code) = some 0x6105))) ∧
    (s.keeper.tkeys.contains key = false → (s.keeper.tkeys.filter (fun y => y.scope == key.scope)).length < 8 →
      does (.cmdTenantKeyInstall f) (fun t => t.keeper.tkeys = s.keeper.tkeys ++ [key])) ∧
    (s.keeper.tkeys.contains key = true → (key.scope = 0 → (s.keeper.tkeys.filter (fun y => y.scope == 0)).length ≠ 1) →
      does (.cmdTenantKeyRemove f) (fun t => t.keeper.tkeys = s.keeper.tkeys.filter (fun y => y != key) ∧
        ∀ y ∈ t.sessions, ¬(y.scope = key.scope ∧ y.keyid = keyId key.key)))

/-- ATTEST answers the signed report; a debug token opens its session once TOKSEQ is committed, and a refused one raises 0x6303 and
opens none; LIFECYCLE makes only the moves of Table 5 of spec/15, with an authorisation, and RETURNED ends every session, queue pair,
landing region and sink and leaves the wipe pending, which zeroes memory (R466, R468, R470 to R472, R477 to R479). -/
def Obligations.SecurityAndLifecycle : Prop :=
  (∀ (f : Frame) (s : State) (x : Session), s.CommandRuns f x →
    let r := s.request f x
    let u := s.running f x
    let does (i : Instr) (p : State → Prop) : Prop := i.serves r = true → ∃ t : State, exec i s = .next t ∧ p t
    let b := s.readBytes (r.arg 0 64) (r.arg 64 32)
    let h := tokenHead b
    let code := u.tokenCode b (fun sc => r.scope == 0 || sc == r.owner) (s.keeper.life == 1 || s.keeper.life == 2)
    let v := u.stopAll 4 (some r.ref)
    does (.cmdAttest f) (fun t =>
      t = u.ok r (u.report r.reportOn (r.arg 0 256) ++ s.keeper.signE (u.report r.reportOn (r.arg 0 256)))) ∧
    (u.holds r.owner (r.arg 0 64) (r.arg 64 32) = true → u.awake (r.arg 0 64) (r.arg 64 32) = true →
      (code = none → does (.cmdDebugOpen f) (fun t => t.counter 4 = tokSeq h ∧ ∃ d ∈ t.dbgs, d.scope = tokScope h ∧
        d.level = tokLevel h ∧ d.via = some r.sid ∧ d.deadline = s.tide.count + bits h 544 32 * 1000000000)) ∧
      (∀ n, code = some n → does (.cmdDebugOpen f) (fun t => t.dbgs = s.dbgs ∧ t.counter 4 = s.counter 4 ∧
        (t.log.head?).map (·.code) = some 0x6303))) ∧
    (s.dbgs.any (fun d => d.via == some r.sid) = true → does (.cmdDebugClose f) (fun t => ∀ d ∈ t.dbgs, d.via ≠ some r.sid)) ∧
    (s.dbgs.any (fun d => d.via == some r.sid) = false → does (.cmdDebugClose f) (fun t => t = u.no r 0x0F 0)) ∧
    (¬(r.arg 0 2 = 2 ∧ s.keeper.life = 1) → does (.cmdLifecycleDeploy f) (fun t => t = u.no r 0x12 s.keeper.life)) ∧
    (r.arg 0 2 = 2 → s.keeper.life = 1 → u.powerNow < 2 →
      (s.authorised 2 ((r.args.drop 8).take 96) = true → does (.cmdLifecycleDeploy f) (fun t => t.keeper.life = 2 ∧
        ∀ d ∈ t.dbgs, d.level ≠ 3)) ∧
      (s.authorised 2 ((r.args.drop 8).take 96) = false → does (.cmdLifecycleDeploy f) (fun t => t = u.no r 6 40))) ∧
    ((s.keeper.life = 1 ∨ s.keeper.life = 2) → u.powerNow = 0 → s.authorised 3 ((r.args.drop 8).take 96) = true →
      (v.allRecorded = true → v.allSigned = true → does (.cmdLifecycleReturn f) (fun t => t.keeper.life = 3 ∧ t.keeper.wipe = true ∧
        t.keeper.tkeys = [] ∧ t.sessions = [] ∧ t.dbgs = [] ∧ t.qps = [] ∧ t.lrs = [] ∧ t.sinks = [])) ∧
      (v.allRecorded = false → does (.cmdLifecycleReturn f) (fun t => t.keeper.life = s.keeper.life ∧ t.power.cause = 4)))) ∧
  (∀ s : State, s.keeper.wipe = true → s.power.porst = true → ∃ t : State, exec .wipeDone s = .next t ∧ t.keeper.wipe = false ∧
    t.mem = [] ∧ t.cores = [] ∧ t.lagoons = [] ∧ t.runs = [] ∧ t.counter 7 = s.counter 7 + 1) ∧
  (∀ (n : Nat) (s : State), s.dbgs.any (fun d => d.scope == n && decide (d.deadline ≤ s.tide.count)) = true → ∃ t : State,
    exec (.debugSessionExpiry n) s = .next t ∧ ∀ d ∈ t.dbgs, d.scope ≠ n)

/-- Snapshots, drains, restores, pairings and comparisons keep what spec/14 says in the lagoon they name, and the decision service's
commands, windows and batches move it through spec/13's life (R425, R426, R428 to R430, R434, R435, R441, R446 to R452). -/
def Obligations.CheckpointsAndService : Prop :=
  (∀ (f : Frame) (s : State) (x : Session), s.canonical = true → s.CommandRuns f x →
    let r := s.request f x
    let u := s.running f x
    let l := r.lag
    let y := s.lagoon l
    let feed := r.arg 384 6
    let fdom := (r.args.drop 64).take 64
    let does (i : Instr) (p : State → Prop) : Prop := i.serves r = true → ∃ t : State, exec i s = .next t ∧ p t
    (u.gate r = none →
      (u.quiet l = false ∨ u.snapCheck l (r.arg 0 64) = none → does (.cmdCkSnapshot f) (fun t => t.mem = s.mem ∧
        ∃ w, (t.lagoon l).snap = some w ∧ w.ref = r.ref ∧ w.area = r.arg 0 64 ∧ w.dcur = r.arg 64 32)) ∧
      (∀ q, s.qp? (r.arg 0 16) = some q → q.owner = r.owner → u.ddrArea l (r.arg 128 64) (r.arg 192 64) = true → y.drains = [] →
        q.state = 0 → s.power.state ≠ 3 → does (.cmdCkDrain f) (fun t => ∃ d, (t.lagoon l).drains = [d] ∧ d.ref = r.ref ∧
          d.src = r.arg 128 64 ∧ d.len = r.arg 192 64 ∧ (0 < r.arg 192 64 → d.root = none ∧ d.todo = granulesOf d.src d.len))) ∧
      (u.ddrArea l (r.arg 0 64) (r.arg 64 64) = true → 2 * mib ≤ r.arg 64 64 →
        let area := u.readProg l (r.arg 0 64) (r.arg 64 64)
        let root := merkleRoot (area.drop mib)
        (root.toNat ≠ r.arg 128 384 → does (.cmdCkRestore f) (fun t => t.lagoons = s.lagoons ∧ t.mem = s.mem ∧
          (t.log.head?).map (·.code) = some 0x8201)) ∧
        (∀ im, root.toNat = r.arg 128 384 → y.img = some im → restoreFail im area root = none → does (.cmdCkRestore f) (fun t =>
          (t.lagoon l).sealed = false ∧ ∃ w, (t.lagoon l).restore = some w ∧ w.root = root ∧ w.area = r.arg 0 64))) ∧
      (s.correlated feed fdom = false ∨ r.arg 390 1 ≠ 0 → does (.cmdPair f) (fun t =>
        (t.lagoon l).pair = some ⟨r.arg 0 384, feed, fdom, s.correlated feed fdom⟩)) ∧
      (s.correlated feed fdom = true → r.arg 390 1 = 0 → does (.cmdPair f) (fun t => t.lagoons = s.lagoons ∧
        (t.log.head?).map (·.code) = some 0x8302)) ∧
      (y.pair = none ∨ y.root = none → does (.cmdCompare f) (fun t => t = u.no r 0x0F 0)) ∧
      (∀ k, y.pair.isSome = true → y.root = some k →
        (k.root.toNat = r.arg 0 384 → does (.cmdCompare f) (fun t => (t.lagoon l).unproven = false ∧
          (t.log.head?).map (·.code) = some 0x8303 ∧ (t.tx.head?).map (fun (y : TxItem) => (y.body.take 2, y.body.drop 32)) = some ([0, 0], [1]))) ∧
        (k.root.toNat ≠ r.arg 0 384 → does (.cmdCompare f) (fun t => t.lagoons = s.lagoons ∧
          (t.log.head?).map (·.code) = some 0x8304 ∧
          (t.tx.head?).map (fun (y : TxItem) => (y.body.take 2, y.body.drop 32)) = some ([0x18, 0], [0])))) ∧
      (∀ im, let a := u.applyHeld l
        let v := r.service s.tide.count
        (a.lagoon l).img = some im → (a.lagoon l).launch = [] → (a.lagoon l).run = none → (svcIn im v.b v.rowin).isSome = true →
        (svcOut im v.b v.rowout).isSome = true → v.qpns.any (fun n => ((s.qp? n).map (·.owner)) != some l) = false →
        a.planFor l = true → a.coresServe l = true → does (.cmdSvcStart f) (fun t => (t.lagoon l).svc = some v))) ∧
    (y.svc = none → does (.cmdSvcStop f) (fun t => t = u.ok r [])) ∧
    (∀ v, y.svc = some v → v.stopping = none → v.current = [] → v.later = [] → v.closed = [] → v.active = none →
      s.builder.unsigned = [] → does (.cmdSvcStop f) (fun t => (t.lagoon l).svc = none)) ∧
    ((s.lagoon r.owner).svc = none → does (.cmdDecide f) (fun t => t = u.no r 0x1B 0)) ∧
    (∀ v, (s.lagoon r.owner).svc = some v → v.stopping = none → (s.lagoon r.owner).st ≠ .configured → r.arg 64 10 = v.rowin → 16 + v.rowin ≤ r.alen →
      does (.cmdDecide f) (fun t => ∃ q, (t.lagoon r.owner).svc = some (v.join s.tide.count q) ∧ q.reqid = r.arg 0 64 ∧
        q.row = (r.args.drop 16).take v.rowin))) ∧
  (∀ (l : Nat) (s : State), s.canonical = true →
    (∀ w im k, (s.lagoon l).snap = some w → (s.lagoon l).img = some im → s.quiet l = true →
      (w.half = 0 → s.snapCheck l w.area = none) → s.committed l im.nstk = some k → ∃ t : State, exec (.ckSnapshotDone l) s = .next t ∧
        (t.lagoon l).snap = none ∧ ∃ q, (t.lagoon l).root = some q ∧ q.kind = 1 ∧ q.dcur = w.dcur) ∧
    (∀ d root, (s.lagoon l).drains = [d] → d.root = some root → s.qps.any (fun q => q.work.any (fun w => w.drain == some l)) = false →
      s.power.state ≠ 3 → ∃ t : State, exec (.ckDrainDone l) s = .next t ∧ (t.lagoon l).drains = [] ∧
        (t.log.head?).map (·.code) = some 0x8111) ∧
    (∀ w, (s.lagoon l).restore = some w → ∃ t : State, exec (.ckRestored l) s = .next t ∧ (t.lagoon l).restore = none ∧
      (t.lagoon l).unproven = true ∧ ∃ q, (t.lagoon l).root = some q ∧ q.root = w.root ∧ q.dcur = w.dcur) ∧
    (∀ v, (s.lagoon l).svc = some v → v.stopping = none → (v.window + 1) * v.w ≤ s.tide.count → ∃ (t : State) (p : Service),
      exec (.decisionWindowClose l) s = .next t ∧ (t.lagoon l).svc = some p ∧ p.window = (v.roll s.tide.count).window ∧
      p.current = (v.roll s.tide.count).current) ∧
    (∀ v b rest, let a := s.applyHeld l
      (a.lagoon l).svc = some v → v.closed = b :: rest → a.svcFree l v = true →
      (v.sealing = true → (a.lagoon l).hashed false = true → ∃ (t : State) (q : Service), exec (.batchRunStart l) s = .next t ∧
        (t.lagoon l).run.isSome = true ∧ (t.lagoon l).svc = some q ∧ q.closed = rest ∧ q.active.isSome = true ∧ q.sealing = false) ∧
      (∀ im p, v.sealing = false → (a.lagoon l).img = some im → svcIn im v.b v.rowin = some p →
        ((a.writeBatch l).lagoon l).hashed false = false → ∃ (t : State) (q : Service), exec (.batchRunStart l) s = .next t ∧
          t.mem = (a.putProg l p.start (v.inputBytes b.reqs)).mem ∧ (t.lagoon l).svc = some q ∧ q.closed = v.closed ∧ q.sealing = true)))


/-! ## The ports -/

/-- The Ethernet port trains to the first width whose lanes all came up, answers the network frames for its own addresses, follows
the peer's pauses, opens its controlled port by key agreement, and the lighthouse takes a snapshot for each probe it accepts and sends
its reply, with the probe's VLAN ID, when due; a frame over 9,216 bytes is dropped as oversize, and one that does not pass is dropped
and counted (R364, R365, R367, R369, R370, R377, R378, R385, R393). -/
def Obligations.PortRows : Prop :=
  ∀ s : State,
    let does (i : Instr) (p : State → Prop) : Prop := ∃ t : State, exec i s = .next t ∧ t.mem = s.mem ∧ t.lagoons = s.lagoons ∧ p t
    let replies (i : Instr) (e : Option Nat) (x : Outgoing) : Prop := does i (fun t => ∃ h : TxHdr, t.tx = ⟨x, h, []⟩ :: s.tx ∧ h.hop = 64 ∧
      h.df = true ∧ h.vlan = e.bind s.entryVlan ∧ h.src = e.bind s.entryAddr)
    let drops (i : Instr) : Prop := does i (fun t => t.tx = s.tx ∧ t.port.dropped = s.port.dropped + 1)
    let raised (t : State) (code : Nat) : Prop := (t.log.head?).map (·.code) = some code
    (∀ lanes w m, s.power.porst = true → s.boot.step4 = true → s.side.offReady = false → s.port.link = none →
      (linkWidths s.straps.linkMode).find? (fun w => lanes &&& w.2 == w.2) = some (w, m) →
      does (.linkUp lanes) (fun t => t.port.link = some w ∧ t.port.lanes = m ∧
        raised t (if ((linkWidths s.straps.linkMode).head?).map Prod.fst = some w then 0x5101 else 0x5103))) ∧
    (∀ w, s.port.link = some w →
      does .linkDown (fun t => t.port.link = none ∧ t.port.paused = [] ∧ raised t 0x5102) ∧
      does .fecDegraded (fun t => t.port = s.port ∧ raised t 0x5104) ∧
      (∀ n, n < 8 → does (.pauseFrame n true) (fun t => ∃ p ∈ t.port.paused, p.prio = n) ∧
        does (.pauseFrame n false) (fun t => ∀ p ∈ t.port.paused, p.prio ≠ n))) ∧
    (∀ n p, s.port.paused.find? (fun p => p.prio == n) = some p → p.raised = false →
      p.since + s.port.cfg.pfcwd * 1000000 < s.tide.count →
      does (.pfcHold n) (fun t => raised t 0x5106 ∧ ∀ q ∈ t.port.paused, q.prio = n → q.raised = true)) ∧
    (∀ m : Mka, s.port.cfg.macsec = true → s.port.cfg.cak.isSome = true → s.power.porst = true → m.valid = true → m.live = true →
      does (.mkaFrame m) (fun t => t.port.ctlOpen = true ∧ (t.port.sas.head?).map (·.an) = some (m.an % 4) ∧
        (t.port.txSas.head?).map (·.an) = some (m.an % 4) ∧ (s.port.sas.length ≤ 2 → t.port.sas.length ≤ 2) ∧
        (s.port.txSas.length ≤ 2 → t.port.txSas.length ≤ 2))) ∧
    (s.port.cfg.macsec = true → s.port.ctlOpen = false → ∀ x : Outgoing, txSecure s.port.cfg x.kind = true → s.send x = s) ∧
    (s.port.cfg.macsec = true → s.port.ctlOpen = true →
      does .macsecPeerLost (fun t => t.port.ctlOpen = false ∧ t.port.sas = [] ∧ t.port.txSas = [] ∧
        raised t 0x5105)) ∧
    (∀ p : NetFrame, s.netUp = true →
      (∀ e, s.entryOf p.target p.wire.v4 = some e → s.hears p.wire false (some e) = true →
        (e ≠ 0 → replies (.echoRequest p) (some e) ⟨6, p.peer, if p.wire.v4 then 0 else 0x81, p.body⟩) ∧
        (e = 0 → drops (.echoRequest p)) ∧
        (p.wire.v4 = false → replies (.neighbourSolicitation p) (some e) ⟨6, p.peer, 0x88, toBytes 16 p.target ++ toBytes 6 s.macAddr⟩) ∧
        (p.wire.v4 = true → replies (.arpRequest p) (some e) ⟨6, p.peer, 2, toBytes 4 p.target ++ toBytes 6 s.macAddr⟩)) ∧
      (s.entryOf p.target p.wire.v4 = none → 64 ≤ p.wire.len → p.wire.len ≤ 9216 →
        drops (.echoRequest p) ∧ drops (.neighbourSolicitation p) ∧ drops (.arpRequest p)) ∧
      (9216 < p.wire.len → ∀ i ∈ [Instr.echoRequest p, .neighbourSolicitation p, .neighbourAdvertisement p, .arpRequest p, .arpReply p],
        does i (fun t => t.tx = s.tx ∧ t.port.oversize = s.port.oversize + 1)) ∧
      (s.hears p.wire false none = true →
        (p.wire.v4 = false → does (.neighbourAdvertisement p) (fun t => t.port.resolved.head? = some (p.target, p.mac) ∧
          ∀ y ∈ t.port.resolved, y.1 = p.target → y.2 = p.mac)) ∧
        (p.wire.v4 = true → does (.arpReply p) (fun t => t.port.resolved.head? = some (p.target, p.mac) ∧
          ∀ y ∈ t.port.resolved, y.1 = p.target → y.2 = p.mac)))) ∧
    (∀ p : NetFrame, s.power.porst = true → s.side.offReady = false → s.port.link.isSome = true → s.hears p.wire true none = true →
      replies (.peerDelayRequest p) none ⟨12, p.peer, 3, toBytes 8 s.tide.count ++ toBytes 8 s.tide.count ++ p.body⟩) ∧
    (∀ (p : Probe) (w : Nat), s.power.porst = true → s.side.offReady = false → s.port.link = some w →
      s.hears p.wire (lhMode s.port.cfg == 1) (if p.l2 then none else some p.entry) = true →
      (s.lhAccepts p = false → does (.lighthouseProbe p) (fun t => t.port.lhReplies = s.port.lhReplies ∧
        t.port.lhDrops = s.port.lhDrops + 1)) ∧
      (s.lhAccepts p = true → (∀ n, s.port.lastProbe = some n → n + lhGap s.port.cfg ≤ s.tide.count) →
        does (.lighthouseProbe p) (fun t => t.port.lastProbe = some s.tide.count ∧ ∃ q, t.port.lhReplies = s.port.lhReplies ++ [q] ∧
          q.rxtide = s.tide.count ∧ q.due = s.tide.count + (if w = 400 then 240 else 180) ∧ q.payload = s.lhPayload p.word ∧
          q.vlan = frameVlan p.wire ∧ q.entry = p.entry))) ∧
    (∀ (r : LhReply) (rest : List LhReply), s.port.lhReplies = r :: rest → s.port.link.isSome = true → r.due ≤ s.tide.count →
      s.tide.count ≤ r.due + 1000 → s.port.paused.any (fun p => p.prio == lhPri s.port.cfg) = false →
      (s.port.cfg.macsec = true → lhMode s.port.cfg ≠ 1 → s.port.ctlOpen = true) →
      does .lighthouseReply (fun t => t.port.lhReplies = rest ∧ ∃ x : TxItem, t.tx = x :: s.tx ∧ x.kind = 4 ∧ x.hdr.vlan = r.vlan ∧
        x.hdr.prio = lhPri s.port.cfg ∧ x.dest = (if r.l2 then r.mac else r.peer) ∧ x.hdr.swap = some (r.mac, r.dport) ∧
        (r.l2 = false → x.hdr.src = s.entryAddr r.entry ∧ x.hdr.port = some r.dport ∧ x.num = r.sport) ∧
        x.body = toBytes 96 (r.payload.toNat + (if r.due + 4 < s.tide.count then 2 ^ 25 else 0))))

/-- A RoCEv2 request in order lands in, or is served from, its landing region; a WRITE writes exactly its bytes and adds them to the
ledger, and a request that no region admits writes nothing, raises 0x5301 and is answered with a NAK; acknowledgements, timeouts and
congestion notifications move the queue pair's requests (R371 to R376). -/
def Obligations.RoceRows : Prop :=
  (∀ (p : Packet) (s : State) (q : QPair), s.canonical = true → s.hears p.wire false (some p.entry) = true → s.packetQp p = some q →
    let u := (s.tookFrame p.wire).notifyCe q p
    let sent (t : State) : Option Outgoing := (t.tx.head?).map (·.toOutgoing)
    let does (i : Instr) (g : State → Prop) : Prop := ∃ t : State, exec i s = .next t ∧ g t
    let moved (t : State) (n : Nat) : Prop := ∃ y, t.qp? q.qpn = some y ∧ y.rpsn = n % 2 ^ 24
    (p.ce = true → ∀ i ∈ [Instr.roceWrite p, .roceRead p, .roceSend p], does i (fun t => ∃ x ∈ t.tx, x.toOutgoing = ⟨11, q.qpn, 0, [0x81]⟩)) ∧
    does (.cnpReceived p) (fun t => t.mem = s.mem ∧ ∃ y, t.qp? q.qpn = some y ∧ y.rate < max 1 q.rate ∧ y.work = q.work) ∧
    (p.rc = false → ∀ i ∈ [Instr.roceWrite p, .roceRead p, .roceSend p], exec i s = .next (u.send ⟨5, q.qpn, p.psn, [0xE1]⟩)) ∧
    (p.rc = true → p.psn % 2 ^ 24 = q.rpsn →
      (∀ r, p.bytes.length = p.len → p.len ≤ q.mtuBytes → s.lrFor q p true = some r → does (.roceWrite p) (fun t =>
        (∀ i, i < p.len → some (t.readByte (p.addr + i)) = p.bytes[i]?) ∧
        (∀ a, a < p.addr ∨ p.addr + p.len ≤ a → t.readByte a = s.readByte a) ∧ moved t (q.rpsn + 1) ∧
        (∃ y, t.lr? r.idx = some y ∧ y.ledger = r.ledger + p.len) ∧ sent t = some ⟨5, q.qpn, p.psn, [0x11]⟩)) ∧
      (p.bytes.length = p.len → p.len ≤ q.mtuBytes → s.lrFor q p true = none → does (.roceWrite p) (fun t => t.mem = s.mem ∧
        t.qps = s.qps ∧ (t.log.head?).map (·.code) = some 0x5301 ∧ sent t = some ⟨5, q.qpn, p.psn, [0xE2]⟩)) ∧
      (∀ r, s.lrFor q p false = some r → does (.roceRead p) (fun t => t.mem = s.mem ∧ moved t (q.rpsn + q.packets p.len) ∧
        sent t = some ⟨5, q.qpn, p.psn, s.readBytes p.addr p.len⟩)) ∧
      (((s.lagoon q.owner).svc.map (fun v => v.qpns.contains q.qpn)).getD false = true → q.owner < 8 →
        does (.roceSend p) (fun t => t.mem = s.mem ∧ moved t (q.rpsn + 1))) ∧
      (((s.lagoon q.owner).svc.map (fun v => v.qpns.contains q.qpn)).getD false = false ∨ 8 ≤ q.owner →
        does (.roceSend p) (fun t => t = u.send ⟨5, q.qpn, p.psn, [0xE1]⟩))) ∧
    (∀ (w : Work) (rest : List Work) (r : LandReg), q.work = w :: rest → w.lr.bind s.lr? = some r → p.psn % 2 ^ 24 = w.psn →
      p.bytes.length ≤ w.bytes.length → s.lrAwake r = true → does (.roceReadResponse p) (fun t =>
        (∀ i, i < p.bytes.length → some (t.readByte (r.addr + w.remote + i)) = p.bytes[i]?) ∧
        ∀ a, a < r.addr + w.remote ∨ r.addr + w.remote + p.bytes.length ≤ a → t.readByte a = s.readByte a)) ∧
    (∀ (w : Work) (rest : List Work), q.work = w :: rest → w.lr = none →
      (p.syn = 0 → psnDist (w.psn + q.packets w.bytes.length - 1) p.psn < 2 ^ 23 → does (.roceAck p) (fun t => ∃ y, t.qp? q.qpn = some y ∧
        y.retries = 0 ∧ y.work.length ≤ rest.length)) ∧
      (p.syn = 0 → 2 ^ 23 ≤ psnDist (w.psn + q.packets w.bytes.length - 1) p.psn → does (.roceAck p) (fun t => ∃ y, t.qp? q.qpn = some y ∧
        y.work = q.work)) ∧
      (p.syn = 1 → q.rnr < 7 → 2 ^ 23 ≤ psnDist (w.psn + q.packets w.bytes.length - 1) (p.psn + 2 ^ 24 - 1) → does (.roceAck p) (fun t =>
        t.tx.length = s.tx.length + q.work.length ∧ ∃ y, t.qp? q.qpn = some y ∧ y.rnr = q.rnr + 1 ∧ y.work = q.work)) ∧
      (3 ≤ p.syn → does (.roceAck p) (fun t => ∃ y, t.qp? q.qpn = some y ∧ y.state = 1 ∧ y.work = [])))) ∧
  (∀ (n : Nat) (s : State) (q : QPair), s.qp? n = some q → q.state = 0 →
    (q.work ≠ [] → s.power.porst = true → (s.port.cfg.macsec = true → s.port.ctlOpen = true) →
      (s.tide.count < q.timer + q.timeout * 1000 → exec (.roceAckTimeout n) s = .next s) ∧
      (q.timer + q.timeout * 1000 ≤ s.tide.count → q.retries < 7 → ∃ (t : State) (y : QPair), exec (.roceAckTimeout n) s = .next t ∧ t.qp? n = some y ∧ y.retries = q.retries + 1 ∧
        y.work = q.work ∧ y.timer = s.tide.count ∧ t.tx.length = s.tx.length + q.work.length) ∧
      (q.timer + q.timeout * 1000 ≤ s.tide.count → 7 ≤ q.retries → ∃ (t : State) (y : QPair), exec (.roceAckTimeout n) s = .next t ∧ t.qp? n = some y ∧ y.state = 1 ∧ y.work = [])))

/-- The sideband port takes its addresses, answers the BMC's reads, stages and activates firmware only where both signatures pass,
and the BMC's requests hold the device until it releases it (R286, R381, R389 to R392, R518, R521). -/
def Obligations.SidebandRows : Prop :=
  ∀ s : State,
    let does (i : Instr) (p : State → Prop) : Prop := ∃ t : State, exec i s = .next t ∧ p t
    let replies (i : Instr) (kind : Nat) (b : List Byte) : Prop := does i (fun t => t = s.send ⟨7, s.side.eid.getD 0, kind, b⟩)
    (∀ a, s.power.porst = true → does (.i3cDynamicAddress a) (fun t => t.side = { s.side with dyn := some (a % 128) } ∧
      (t.tx.head?).map (·.toOutgoing) = some ⟨7, 0, 1, toBytes 6 s.i3cId⟩)) ∧
    (∀ a, s.power.porst = true → s.side.dyn.isSome = true →
      does (.endpointIdAssignment a) (fun t => t.side = { s.side with eid := some (a % 256) })) ∧
    (s.sideUp = true →
      (∀ n, replies (.pldmBaseQuery n) 0x100 (Config.pldmBase n)) ∧
      (∀ n v, n < 63 → replies (.pldmSensorRead n v) (0x200 + n) (toBytes 4 (wrapInt 32 (s.sensor n v)))) ∧
      replies .pldmFruRead 0x400 (toBytes 1 s.keeper.grade ++ toBytes 1 s.keeper.stepping ++ toBytes 1 s.keeper.lid ++
        toBytes 1 s.straps.slot ++ toBytes 8 s.keeper.serial ++ digestBytes devId) ∧
      (∀ n, n < 18 → replies (.oemReadRgnstat n) (0x3F00 + n) (toBytes 8 (s.region n).stat)) ∧
      replies .oemReadHealth 0x3F20 (toBytes 4 s.health) ∧
      (∀ ver bs, s.updates = true → bs ≠ [] → bs.length ≤ 64 * 2 ^ 20 →
        let f := firmwareOf ver bs
        (f.passes = true → does (.pldmFirmwareUpdate false ver bs) (fun t => t.boot.staged = some f ∧
          (if s.straps.bootSrc = 1 then t.boot.copyA = some f ∧ t.boot.copyB = s.boot.copyB
            else t.boot.copyB = some f ∧ t.boot.copyA = s.boot.copyA))) ∧
        (f.passes = false → does (.pldmFirmwareUpdate false ver bs) (fun t => t.boot.staged = none ∧
          (t.tx.head?).map (·.toOutgoing) = some ⟨7, s.side.eid.getD 0, 0x500, [1]⟩))) ∧
      (∀ ver bs, s.boot.step4 = true → s.side.offReady = false →
        (packFail bs = none → packOk bs = true → does (.pldmFirmwareUpdate true ver bs) (fun t => ∃ p ∈ t.libs, p.bytes = bs ∧
          p.flash = true)) ∧
        ((packFail bs).isSome = true → does (.pldmFirmwareUpdate true ver bs) (fun t => t.libs = s.libs ∧
          (t.log.head?).map (·.code) = some 0x6105))) ∧
      (∀ f, s.boot.staged = some f → s.updates = true → does .pldmFirmwareActivate (fun t => t.boot.staged = none ∧
        (if s.straps.bootSrc = 1 then t.boot.copyB = some f else t.boot.copyA = some f)))) ∧
    (s.power.porst = true → s.side.offReady = false →
      (s.boot.ready = true → does .bmcRequestP3 (fun t => t.side.bmcHold = some 3) ∧
        does .bmcRequestOff (fun t => t.side.bmcHold = some 4)) ∧
      (s.boot.ready = false → does .bmcRequestP3 (fun t => t.side.pending = some 3 ∧ t.power = s.power) ∧
        does .bmcRequestOff (fun t => t.side.pending = some 4 ∧ t.power = s.power))) ∧
    (s.side.offReady = true → exec .bmcRelease s = .next (s.resetDevice true)) ∧
    (s.side.offReady = false → does .bmcRelease (fun t => t.side.bmcHold = none ∧ t.side.pending = none ∧ t.lagoons = s.lagoons ∧
      t.power.state = s.power.state))

/-- The JTAG port shifts out its status registers, takes tokens, provisions a BLANK part once, loads firmware only while the keeper
waits for it, and its debug accesses act as Table 11 of spec/15 replies where a session of the scope selected has the level (R461, R468,
R469, R471, R476 to R482). -/
def Obligations.JtagRows : Prop :=
  (∀ s : State, s.jtag.trst = true → ∀ (n : Nat) (d : List Bool) (bs : List Byte) (p : BitVec 1408) (w : BitVec 128),
    ∀ i ∈ [Instr.extest d, .samplePreload d, .idcode, .bypass, .tokstat, .provstat, .fwstat, .dbgsel n, .token bs, .dbgend n, .provision p,
      .fwload n bs, .dbgaccState w, .dbgaccCoreMemory w, .dbgaccProgramAddress w, .dbgaccObject w, .dbgaccHaltSequencer w,
      .dbgaccStepSequencer w, .dbgaccResumeSequencer w, .dbgaccHaltPilot w, .dbgaccStepPilot w, .dbgaccResumePilot w], exec i s = .next s) ∧
  (∀ s : State, s.jtag.trst = false →
    let does (i : Instr) (p : State → Prop) : Prop := ∃ t : State, exec i s = .next t ∧ t.mem = s.mem ∧ p t
    let shows (i : Instr) (ir n v : Nat) : Prop := does i (fun t => t.jtag.ir = ir ∧ ∃ h : TxHdr, t.tx = ⟨⟨10, ir, 0, toBytes n v⟩, h, []⟩ :: s.tx)
    let passes (i : Instr) (ir : Nat) : Prop := does i (fun t => t.jtag.ir = ir ∧ t.jtag.dr = [false] ∧ t.keeper = s.keeper)
    shows .idcode 0x01 4 s.idcode ∧ shows .tokstat 0x11 2 s.jtag.tokstat ∧ shows .provstat 0x15 1 s.jtag.provstat ∧
    shows .fwstat 0x17 1 s.boot.fwstat ∧ passes .bypass 0xFF ∧
    (∀ n, does (.dbgsel n) (fun t => t.jtag.sel = n % 256)) ∧
    (∀ d, does (.samplePreload d) (fun t => t.jtag.dr = d)) ∧
    (∀ d, s.unowned = true → does (.extest d) (fun t => t.jtag.dr = d)) ∧
    (∀ d, s.unowned = false → passes (.extest d) 0x00) ∧
    (∀ bs, s.unowned = false → passes (.token bs) 0x10) ∧
    (∀ bs, s.unowned = true → s.boot.step4 = true → s.keeper.wipe = false →
      let h := tokenHead bs
      let code := s.tokenCode bs (fun _ => true) (bit h 49)
      (∀ n, code = some n → does (.token bs) (fun t => t.jtag.tokstat = n ∧ t.dbgs = s.dbgs)) ∧
      (code = none → tokBlank h = true → does (.token bs) (fun t => t.jtag.tokstat = 0 ∧ t.keeper.life = 0 ∧ t.dbgs = [])) ∧
      (code = none → tokBlank h = false → does (.token bs) (fun t => t.jtag.tokstat = tokLevel h * 256 ∧ t.counter 4 = tokSeq h ∧
        ∃ d ∈ t.dbgs, d.scope = tokScope h ∧ d.level = tokLevel h ∧ d.via = none))) ∧
    (∀ n, s.dbgs.any (fun d => d.scope == n && d.via.isNone) = true → does (.dbgend n) (fun t =>
      ∀ d ∈ t.dbgs, ¬(d.scope = n ∧ d.via = none))) ∧
    (∀ d : BitVec 1408, s.power.porst = true → s.boot.held = false →
      (s.keeper.life ≠ 0 → does (.provision d) (fun t => t.jtag.provstat = 1 ∧ t.keeper = s.keeper)) ∧
      (s.keeper.life = 0 → provFail d.toNat = none → does (.provision d) (fun t => t.jtag.provstat = 0 ∧ t.keeper.life = 1 ∧
        t.keeper.prov = some (provRec d.toNat) ∧ t.keeper.tkeys = [⟨0, (provRec d.toNat).key⟩] ∧ t.builder.prev = 0))) ∧
    (∀ ver bs, s.boot.waitFw = false ∨ s.unowned = false → passes (.fwload ver bs) 0x16) ∧
    (∀ ver bs b, s.boot.waitFw = true → s.unowned = true → s.boot.start = some b →
      (fwCode bs = 0 → ∃ t : State, exec (.fwload ver bs) s = .next t ∧ t.boot.running = some (firmwareOf ver bs) ∧
        t.boot.waitFw = false ∧ t.boot.step4 = true) ∧
      (fwCode bs ≠ 0 → does (.fwload ver bs) (fun t => t.boot.running = s.boot.running ∧ t.boot.fwstat = fwCode bs ∧
        (t.log.head?).map (·.code) = some 0x6101)))) ∧
  (∀ (w : BitVec 128) (s : State) (d : Debug), s.canonical = true → s.jtag.trst = false → s.selected = some d →
    (d.scope = 0xFF ∨ d.scope = dLag w) →
    let c := s.core (dCore w)
    let z := s.debugCore (dCore w)
    let k := z.core (dCore w)
    let sel := dOff w / 2 ^ 40
    let off := dOff w % 2 ^ 40
    let level := s.debugLevel (dLag w)
    let does (i : Instr) (p : State → Prop) : Prop := ∃ t : State, exec i s = .next t ∧ p t
    let control (i : Instr) (n : Nat) (p : State → Prop) : Prop := dSpace w = 4 → dOff w = n → dWrite w = true → 2 ≤ level →
      s.reaches w = true → does i (fun t => t.jtag.result = dbgResult w (some (dData w)) ∧ p t)
    (∀ v lv, dSpace w = 0 → s.reaches w = true → (k.stateItem (dCore w).v (dOff w)).or (z.debugItem (dCore w) (dOff w)) = some (lv, v) →
      (dWrite w = false → lv ≤ level → 1 ≤ level → does (.dbgaccState w) (fun t => t.jtag.result = dbgResult w (some v) ∧
        t.cores = s.cores ∧ t.lagoons = s.lagoons)) ∧
      (dWrite w = true → 3 ≤ level → does (.dbgaccState w) (fun t => t.core (dCore w) = k.putState (dOff w) (dData w)))) ∧
    (dSpace w = 1 → 3 ≤ level → s.reaches w = true → off + 4 ≤ k.memSize sel →
      (dWrite w = true → does (.dbgaccCoreMemory w) (fun t =>
        sel ≠ 9 → t.core (dCore w) = ((List.range 4).map (fun k => (off + k, byteAt (dData w) k))).foldl (k.putMem sel) k)) ∧
      (dWrite w = false → does (.dbgaccCoreMemory w) (fun t => t.cores = s.cores ∧ ∃ v, t.jtag.result = dbgResult w (some v) ∧
        ∀ j, j < 4 → bits v (8 * j) 8 = (if sel = 9 then s.storeByte (dCore w) (off + j) else k.memByte sel (off + j)).toNat))) ∧
    (dSpace w = 2 → 3 ≤ level → s.owned (dLag w) (dOff w) (dOff w + 3) = true → s.power.state < 2 →
      (dWrite w = true → does (.dbgaccProgramAddress w) (fun t =>
        t.mem = (s.writeProg (dLag w) (dOff w) (toBytes 4 (dData w))).mem)) ∧
      (dWrite w = false → does (.dbgaccProgramAddress w) (fun t => t.mem = s.mem ∧
        t.jtag.result = dbgResult w (some (ofBytes (s.readProg (dLag w) (dOff w) 4)))))) ∧
    (dSpace w = 2 → 3 ≤ level → s.owned (dLag w) (dOff w) (dOff w + 3) = false → s.power.state < 2 → s.unowned = true → dLag w = 0 →
      s.fitted (dOff w) = true → s.fitted (dOff w + 3) = true →
      (dWrite w = true → does (.dbgaccProgramAddress w) (fun t => t.mem = (s.writeBytes (dOff w) (toBytes 4 (dData w))).mem)) ∧
      (dWrite w = false → does (.dbgaccProgramAddress w) (fun t => t.mem = s.mem ∧
        t.jtag.result = dbgResult w (some (ofBytes (s.readBytes (dOff w) 4)))))) ∧
    (∀ b, dSpace w = 3 → 1 ≤ level → dWrite w = false → bits (dOff w) 0 24 < b.length →
      s.object (if s.jtag.sel = 0xFF then 0 else 0x10 + s.jtag.sel)
        (if bits (dOff w) 40 8 = 4 ∨ bits (dOff w) 40 8 = 5 then dLag w else 0xFF) (bits (dOff w) 40 8) (bits (dOff w) 24 16) = .bytes b →
      does (.dbgaccObject w) (fun t => t.jtag.result = dbgResult w (some (ofBytes (objectPart b (bits (dOff w) 0 24) 4))) ∧
        t.mem = s.mem ∧ t.cores = s.cores)) ∧
    control (.dbgaccHaltSequencer w) 0 (fun t => t.core (dCore w) = c.haltX true) ∧
    control (.dbgaccStepSequencer w) 1 (fun t => c.ex.halted = true → (t.core (dCore w)).ex.halted = true) ∧
    control (.dbgaccResumeSequencer w) 2 (fun t => t.core (dCore w) = c.haltX false) ∧
    control (.dbgaccHaltPilot w) 3 (fun t => t.core (dCore w) = c.haltP true) ∧
    control (.dbgaccStepPilot w) 4 (fun t => c.pilot.halted = true → (t.core (dCore w)).pilot.halted = true) ∧
    control (.dbgaccResumePilot w) 5 (fun t => t.core (dCore w) = c.haltP false))


/-! ## Power, start-up and reliability -/

/-- A reset empties what is volatile and keeps MRAM, counters and boot flash; start-up samples the straps, counts itself, runs the
first firmware copy that passes and ends ready, or holds the device in P3; power-good signals and entries into power states do what
R416, R417, R483, R509 and R510 say, and a lost reference changes nothing until the next reset (R302, R455, R460, R511, R520). -/
def Obligations.PowerAndStartUp : Prop :=
  (∀ (s t : State), (exec .porstFall s = .next t ∨ exec .supplyFailure s = .next t) → t.mem = [] ∧ t.cores = [] ∧ t.lagoons = [] ∧
    t.sessions = [] ∧ t.qps = [] ∧ t.lrs = [] ∧ t.dbgs = [] ∧ t.power.porst = false ∧ t.boot.ready = false ∧
    t.keeper.counters = s.keeper.counters ∧ t.keeper.life = s.keeper.life ∧ t.keeper.tkeys = s.keeper.tkeys ∧
    t.boot.copyA = s.boot.copyA ∧ t.boot.copyB = s.boot.copyB ∧ t.port.cfg = s.keeper.net) ∧
  (∀ s : State, (∃ t, exec .porstFall s = .next t) ∧ (∃ t, exec .supplyFailure s = .next t) ∧ exec .referenceLost s = .next s) ∧
  (∀ (b : StartUp) (s : State), s.power.porst = false →
    (b.puf = false → ∃ t : State, exec (.porstRelease b) s = .next t ∧ t.boot.held = true ∧ t.power.state = 3 ∧
      t.counter 6 = s.counter 6 + 1 ∧ (t.log.head?).map (·.code) = some 0x6103) ∧
    (∀ f, b.puf = true → b.badItems = [] → b.pgHb = true → b.pgCw = true → b.pgCe = true → s.keeper.wipe = false → b.bootSrc % 4 = 0 →
      s.boot.selfReset = false → s.boot.copyA = some f → f.passes = true → ∃ t : State, exec (.porstRelease b) s = .next t ∧
        t.power.porst = true ∧ t.boot.ready = true ∧ t.boot.running = some f ∧ t.counter 6 = s.counter 6 + 1 ∧
        t.straps = ⟨b.feed % 64, b.slot % 256, 0, b.linkMode % 4⟩ ∧ t.jtag.trst = b.trst ∧ t.keeper.secret.isSome = true)) ∧
  (∀ (n : Nat) (s : State), n < 3 → (s.power.group n).pen = true →
    ((s.power.group n).pgood = false → ∃ t : State, exec (.pgoodAsserted n) s = .next t ∧ (t.power.group n).pgood = true ∧
      t.lagoons = s.lagoons ∧ ∀ m r, n = 0 → s.power.move = some m → m.target ≤ 1 → s.power.cw.pen = false → s.power.cw.barred = false →
        Sparse.wf Region.blank s.regions = true → r < 9 → t.power.cw.pen = true ∧ (t.region r).vset = (s.region r).vbase) ∧
    ∃ t : State, exec (.pgoodFail n) s = .next t ∧ (t.power.group n).barred = true ∧ (t.power.group n).pen = false ∧
      (n = 0 → t.power.state = 3)) ∧
  (∀ s : State, s.power.porst = true → s.boot.ready = true → s.side.offReady = false →
    (∀ m, s.power.cause = 0 → s.power.move = some m → (s.power.state < m.target → m.target ≤ 1 ∨ s.memBusy = false) →
      (m.target ≤ s.power.state → s.groupsFor m.target = true) → ∃ t : State, exec .powerStateEntered s = .next t ∧
        t.power.state = m.target ∧ t.power.move = none) ∧
    (s.allRecorded = true → s.memBusy = false →
      (s.power.cause = 1 → ∃ t : State, exec .powerStateEntered s = .next t ∧ t.power.state = 2 ∧ t.power.cause = 0) ∧
      (s.power.cause = 2 → s.allSigned = true → ∃ t : State, exec .powerStateEntered s = .next t ∧ t.power.state = 3 ∧
        t.power.cause = 0) ∧
      (s.power.cause = 3 → s.allSigned = true → ∃ t : State, exec .powerStateEntered s = .next t ∧ t.power.state = 3 ∧
        t.side.offReady = true ∧ t.port.link = none ∧ t.sessions = []))) ∧
  (∀ (s t : State) (l : Nat), s.canonical = true → l < 8 → (s.lagoon l).st = .loaded ∨ (s.lagoon l).st = .faulted →
    exec .powerStateEntered s = .next t → s.power.state < t.power.state → 2 ≤ t.power.state → (t.lagoon l).st = .configured)

/-- Errors are counted where they lie and raise their events; one that an access of a run meets ends the run, one that a scrub or a
test meets marks its word, and a later bundle or A tile that meets a marked word ends the run; self-tests class an error as passing or lasting, a lasting one is replaced by a spare, and the logbook
counts powered seconds and is committed (R487 to R492, R496, R497). -/
def Obligations.ReliabilityRows : Prop :=
  ∀ s : State, s.power.porst = true →
    let does (i : Instr) (p : State → Prop) : Prop := ∃ t : State, exec i s = .next t ∧ t.mem = s.mem ∧ p t
    let head (t : State) : Option Nat := (t.log.head?).map (·.code)
    (∀ e : ErrAt,
      (s.rel.log.errs.length < 4096 ∨ s.rel.log.errs.any (fun x => x.isFor e.ploc e.unit e.subidx) = true →
        does (.errorCorrected e) (fun t => t.lagoons = s.lagoons ∧
          ∃ x ∈ t.rel.log.errs, x.isFor e.ploc e.unit e.subidx = true ∧ x.word = e.word ∧ x.bit = e.bit)) ∧
      (e.unit = 0x38 → ∀ n, ∃ t : State, exec (.errorUncorrectable e n) s = .next t ∧ t.power.porst = false ∧ t.lagoons = []) ∧
      (e.unit = 0x22 → ∀ n, (n = 0 ∨ s.scrubs e = false) → does (.errorUncorrectable e n) (fun t => t.lagoons = s.lagoons ∧ head t = some 0x2211)) ∧
      (e.unit = 0x39 → ∀ n, (n = 0 ∨ s.scrubs e = false) → does (.errorUncorrectable e n) (fun t => t.lagoons = s.lagoons ∧ head t = some 0x6104)) ∧
      (s.scrubs e = true → ∀ n, n ≠ 0 → exec (.errorUncorrectable e n) s = .next s) ∧
      (e.unit ∉ [0x22, 0x38, 0x39] → (e.unit < 0x30 ∨ 0x33 < e.unit) → s.plocLagoon e.ploc = none →
        ∀ n, does (.errorUncorrectable e n) (fun t => t.lagoons = s.lagoons ∧ head t = some 0x7102)) ∧
      (∀ l, e.unit ∉ [0x22, 0x38, 0x39] → (e.unit < 0x30 ∨ 0x33 < e.unit) → s.plocLagoon e.ploc = some l →
        (s.runs? l = true → does (.errorUncorrectable e 0) (fun t => (t.lagoon l).st = .faulted)) ∧
        (∀ n, n ≠ 0 → s.scrubs e = false → does (.errorUncorrectable e n) (fun t => t.lagoons = s.lagoons ∧ head t = some 0x7102 ∧
          ((e.unit = 0x20 ∨ e.unit = 0x28) → e.addr / 64 ∈ t.rel.bad))))) ∧
    (∀ a n, slotReserved (wheelOf a) (s.wheel (wheelOf a)).pos = false → exec (.scrub a n) s = .next s) ∧
    (∀ a o, s.power.state ≤ 1 → s.addrOwner a = some o → slotReserved (wheelOf a) (s.wheel (wheelOf a)).pos = true →
      does (.scrub a 1) (fun t => t.lagoons = s.lagoons ∧ t.rel.bad = s.rel.bad) ∧
      does (.scrub a 2) (fun t => t.lagoons = s.lagoons ∧ a / 64 ∈ t.rel.bad ∧ head t = some 0x7102) ∧
      exec (.scrub a 0) s = .next s) ∧
    (∀ n x, s.rel.tests[n]? = some x → s.unitFree x.unit x.ploc = true →
      (x.classed = true → ∀ b, does (.targetedSelfTest n b) (fun t => t.rel.tests = s.rel.tests.eraseIdx n ∧ t.log = s.log)) ∧
      (x.classed = false →
        does (.targetedSelfTest n true) (fun t => t.rel.tests = s.rel.tests.eraseIdx n ∧ head t = some 0x7201) ∧
        does (.targetedSelfTest n false) (fun t => t.rel.tests = s.rel.tests.eraseIdx n ∧ head t = some 0x7202))) ∧
    (∀ c i, s.canonical = true → s.issues c = true → i < ((s.core c).bundle .execute).size →
      s.badWord c 3 (((s.core c).seq .execute).addr + i) = true → isCop .nop ((s.core c).bundle .execute) = true →
      does (.nop c .execute) (fun t => (t.lagoon c.lagoon).st = .faulted)) ∧
    (∀ c w x, s.canonical = true → s.issues c = true → (s.core c).ex.halted = false →
      s.met c (fun k => k.landDue.charged (.matrix w) (k.landDue.issueMatrix (effMatrix k.landDue k.landDue.ex w))) = some x →
      does (.aTileIssue c w) (fun t => (t.lagoon c.lagoon).st = .faulted)) ∧
    (∀ n x, s.rel.substs[n]? = some x → s.unitFree x.unit x.ploc = true →
      (x.kind = 9 → does (.spareSubstituted n true) (fun t => t.rel.substs = s.rel.substs.eraseIdx n ∧ head t = some 0x7301 ∧
        t.keeper.spares = s.keeper.spares ++ [(9, x.ploc)])) ∧
      (x.kind = 6 ∨ x.kind = 7 →
        let place := if x.kind = 7 then x.ploc * 256 else x.ploc * 256 + x.subidx % 256
        let most := if x.kind = 7 then 8 else 4
        (s.spent x.kind place < most →
          does (.spareSubstituted n true) (fun t => t.rel.substs = s.rel.substs.eraseIdx n ∧ head t = some 0x7301 ∧
            t.spent x.kind place = s.spent x.kind place + 1) ∧
          does (.spareSubstituted n false) (fun t => t.rel.substs = s.rel.substs ∧ t.spent x.kind place = s.spent x.kind place + 1)) ∧
        (most ≤ s.spent x.kind place → bits x.ploc 12 4 = 6 →
          ∀ b, does (.spareSubstituted n b) (fun t => t.rel.substs = s.rel.substs.eraseIdx n ∧ (t.stack (bits x.ploc 6 5)).worn = true)))) ∧
    (∀ ts, does (.logbookSecond ts) (fun t => t.rel.log.seconds = min (2 ^ 64 - 1) (s.rel.log.seconds + 1) ∧ t.lagoons = s.lagoons ∧
      t.keeper = s.keeper)) ∧
    (s.boot.ready = true → s.rel.lastCk + 900000000000 ≤ s.tide.count → does .logbookCommit (fun t =>
      t.counter 5 = s.counter 5 + 1 ∧ t.rel.slots.head? = some (s.counter 5 + 1, s.rel.log) ∧ t.rel.slots.length ≤ 2 ∧
      t.rel.lastCk = s.tide.count))
end

