-- ==== Sys2Proof/Laws/Sparse.lean ====
section
/-! SUPPORT. Laws of sparse arrays: a read after a write, and the canonical form that every operation keeps. -/

namespace Sys2Proof

variable {α : Type} [DecidableEq α] {d : α}

theorem Sparse.wfFrom_mono {m : Sparse α} {a b : Nat} (h : a ≤ b) (hm : Sparse.wfFrom d b m = true) : Sparse.wfFrom d a m = true := by
  cases m with
  | nil => rfl
  | cons p m =>
    simp only [Sparse.wfFrom, Bool.and_eq_true, decide_eq_true_eq] at hm ⊢
    exact ⟨⟨by omega, hm.1.2⟩, hm.2⟩

theorem Sparse.get_of_wfFrom {m : Sparse α} {a i : Nat} (hm : Sparse.wfFrom d a m = true) (h : i < a) : Sparse.get d m i = d := by
  induction m generalizing a with
  | nil => rfl
  | cons p m ih =>
    simp only [Sparse.wfFrom, Bool.and_eq_true, decide_eq_true_eq] at hm
    rw [Sparse.get, if_neg (by omega)]
    exact ih hm.2 (by omega)

theorem Sparse.wfFrom_set {m : Sparse α} {a i : Nat} {x : α} (hm : Sparse.wfFrom d a m = true) (h : a ≤ i) :
    Sparse.wfFrom d a (Sparse.set d m i x) = true := by
  induction m generalizing a with
  | nil => by_cases hx : x = d <;> simp [Sparse.set, Sparse.wfFrom, hx, h]
  | cons p m ih =>
    obtain ⟨k, v⟩ := p
    have hm' := hm
    simp only [Sparse.wfFrom, Bool.and_eq_true, decide_eq_true_eq] at hm'
    simp only [Sparse.set]
    split
    · split
      · exact hm
      · simp only [Sparse.wfFrom, Bool.and_eq_true, decide_eq_true_eq]
        exact ⟨⟨h, ‹_›⟩, ⟨by omega, hm'.1.2⟩, hm'.2⟩
    · split
      · split
        · exact Sparse.wfFrom_mono (by omega) hm'.2
        · simp only [Sparse.wfFrom, Bool.and_eq_true, decide_eq_true_eq]
          exact ⟨⟨hm'.1.1, ‹_›⟩, hm'.2⟩
      · simp only [Sparse.wfFrom, Bool.and_eq_true, decide_eq_true_eq]
        exact ⟨hm'.1, ih hm'.2 (by omega)⟩

theorem Sparse.wf_set {m : Sparse α} (i : Nat) (x : α) (hm : Sparse.wf d m = true) : Sparse.wf d (Sparse.set d m i x) = true :=
  Sparse.wfFrom_set hm (Nat.zero_le i)

theorem Sparse.wf_setRun {m : Sparse α} (i : Nat) (xs : List α) (hm : Sparse.wf d m = true) :
    Sparse.wf d (Sparse.setRun d m i xs) = true := by
  induction xs generalizing m i with
  | nil => exact hm
  | cons x xs ih => exact ih (i + 1) (Sparse.wf_set i x hm)

theorem Sparse.wfFrom_filter {m : Sparse α} {a : Nat} (p : Nat × α → Bool) (hm : Sparse.wfFrom d a m = true) :
    Sparse.wfFrom d a (m.filter p) = true := by
  induction m generalizing a with
  | nil => rfl
  | cons e m ih =>
    obtain ⟨k, v⟩ := e
    simp only [Sparse.wfFrom, Bool.and_eq_true, decide_eq_true_eq] at hm
    rw [List.filter_cons]
    split
    · simp only [Sparse.wfFrom, Bool.and_eq_true, decide_eq_true_eq]; exact ⟨hm.1, ih hm.2⟩
    · exact Sparse.wfFrom_mono (by omega) (ih hm.2)

theorem Sparse.wf_filter {m : Sparse α} (p : Nat × α → Bool) (hm : Sparse.wf d m = true) : Sparse.wf d (m.filter p) = true :=
  Sparse.wfFrom_filter p hm

/-- Changing entries in place and dropping those that became the default keeps the canonical form. -/
theorem Sparse.wf_mapFilter {m : Sparse α} (f : Nat × α → α) (hm : Sparse.wf d m = true) :
    Sparse.wf d ((m.map (fun e => (e.1, f e))).filter (fun e => decide (e.2 ≠ d))) = true := by
  suffices ∀ a, Sparse.wfFrom d a m = true →
      Sparse.wfFrom d a ((m.map (fun e => (e.1, f e))).filter (fun e => decide (e.2 ≠ d))) = true from this 0 hm
  clear hm
  intro a
  induction m generalizing a with
  | nil => intro _; rfl
  | cons e m ih =>
    intro hm
    simp only [Sparse.wfFrom, Bool.and_eq_true, decide_eq_true_eq] at hm
    rw [List.map_cons, List.filter_cons]
    split
    · rename_i h
      simp only [Sparse.wfFrom, Bool.and_eq_true, decide_eq_true_eq] at h ⊢
      exact ⟨⟨hm.1.1, h⟩, ih _ hm.2⟩
    · exact Sparse.wfFrom_mono (by omega) (ih _ hm.2)

/-- What holds of every entry still holds after a write of a value it holds of. -/
theorem Sparse.all_set {m : Sparse α} (p : α → Bool) {i : Nat} {x : α} (hm : m.all (fun e => p e.2) = true) (hx : p x = true) :
    (Sparse.set d m i x).all (fun e => p e.2) = true := by
  induction m with
  | nil => by_cases h : x = d <;> simp [Sparse.set, h]; exact hx
  | cons e m ih =>
    obtain ⟨k, v⟩ := e
    rw [List.all_cons, Bool.and_eq_true] at hm
    simp only [Sparse.set]
    split
    · split
      · rw [List.all_cons, Bool.and_eq_true]; exact hm
      · rw [List.all_cons, List.all_cons, Bool.and_eq_true, Bool.and_eq_true]; exact ⟨hx, hm⟩
    · split
      · split
        · exact hm.2
        · rw [List.all_cons, Bool.and_eq_true]; exact ⟨hx, hm.2⟩
      · rw [List.all_cons, Bool.and_eq_true]; exact ⟨hm.1, ih hm.2⟩

omit [DecidableEq α] in
/-- What holds of every entry and of the default holds of a read. -/
theorem Sparse.get_all {m : Sparse α} (p : α → Bool) (hm : m.all (fun e => p e.2) = true) (hd : p d = true) (i : Nat) :
    p (Sparse.get d m i) = true := by
  induction m with
  | nil => exact hd
  | cons e m ih =>
    obtain ⟨k, v⟩ := e
    rw [List.all_cons, Bool.and_eq_true] at hm
    simp only [Sparse.get]
    split
    · exact hm.1
    · exact ih hm.2

/-- A read after a write. -/
theorem Sparse.get_set {m : Sparse α} (i j : Nat) (x : α) (hm : Sparse.wf d m = true) :
    Sparse.get d (Sparse.set d m i x) j = if j = i then x else Sparse.get d m j := by
  suffices ∀ a, Sparse.wfFrom d a m = true → Sparse.get d (Sparse.set d m i x) j = if j = i then x else Sparse.get d m j from this 0 hm
  clear hm
  induction m with
  | nil => intro a _; by_cases hx : x = d <;> simp [Sparse.set, Sparse.get, hx]
  | cons e m ih =>
    obtain ⟨k, v⟩ := e
    intro a hm
    simp only [Sparse.wfFrom, Bool.and_eq_true, decide_eq_true_eq] at hm
    have hlow : ∀ y, y < k + 1 → Sparse.get d m y = d := fun y hy => Sparse.get_of_wfFrom hm.2 hy
    simp only [Sparse.set]
    split
    · split
      · rename_i h1 hx
        by_cases h : j = i
        · subst h; rw [if_pos rfl, hx]; simp [Sparse.get, show j ≠ k by omega, hlow j (by omega)]
        · simp [h]
      · simp [Sparse.get]
    · split
      · rename_i h1 h2
        subst h2
        split
        · rename_i hx
          by_cases h : j = i
          · subst h; simp [hx, hlow j (by omega)]
          · simp [Sparse.get, h]
        · by_cases h : j = i <;> simp [Sparse.get, h]
      · rename_i h1 h2
        by_cases h : j = k
        · subst h; simp [Sparse.get]; intro hh; omega
        · simp [Sparse.get, h, ih (k + 1) hm.2]

@[simp] theorem Sparse.get_set_same {m : Sparse α} (i : Nat) (x : α) (hm : Sparse.wf d m = true) :
    Sparse.get d (Sparse.set d m i x) i = x := by simp [Sparse.get_set _ _ _ hm]

theorem Sparse.get_set_other {m : Sparse α} {i j : Nat} (x : α) (hm : Sparse.wf d m = true) (h : j ≠ i) :
    Sparse.get d (Sparse.set d m i x) j = Sparse.get d m j := by simp [Sparse.get_set _ _ _ hm, h]

/-- A read after a run of writes. -/
theorem Sparse.get_setRun {m : Sparse α} (i j : Nat) (xs : List α) (hm : Sparse.wf d m = true) :
    Sparse.get d (Sparse.setRun d m i xs) j = if i ≤ j then (xs[j - i]?).getD (Sparse.get d m j) else Sparse.get d m j := by
  induction xs generalizing m i with
  | nil => simp [Sparse.setRun]
  | cons x xs ih =>
    rw [Sparse.setRun, ih (i + 1) (Sparse.wf_set i x hm), Sparse.get_set _ _ _ hm]
    by_cases h : j = i
    · subst h; simp
    · by_cases h1 : i ≤ j
      · have h2 : i + 1 ≤ j := by omega
        obtain ⟨n, rfl⟩ : ∃ n, j = i + 1 + n := ⟨j - (i + 1), by omega⟩
        have e1 : i + 1 + n - i = n + 1 := by omega
        simp [h1, h, e1]
      · simp [h1, h, show ¬ i + 1 ≤ j from by omega]

/-- What filtering by keys leaves of a read. -/
theorem Sparse.get_filter {m : Sparse α} (p : Nat → Bool) (j : Nat) (hm : Sparse.wf d m = true) :
    Sparse.get d (m.filter (fun e => p e.1)) j = if p j then Sparse.get d m j else d := by
  suffices ∀ a, Sparse.wfFrom d a m = true → Sparse.get d (m.filter (fun e => p e.1)) j = if p j then Sparse.get d m j else d from
    this 0 hm
  clear hm
  induction m with
  | nil => intro a _; simp [Sparse.get]
  | cons e m ih =>
    obtain ⟨k, v⟩ := e
    intro a hm
    simp only [Sparse.wfFrom, Bool.and_eq_true, decide_eq_true_eq] at hm
    have hlow : Sparse.get d m k = d := Sparse.get_of_wfFrom hm.2 (by omega)
    have ih' := ih _ hm.2
    rw [List.filter_cons]
    by_cases hk : p k = true
    · by_cases hj : j = k
      · subst hj; simp [hk, Sparse.get]
      · simp [hk, Sparse.get, hj, ih']
    · by_cases hj : j = k
      · subst hj; simp [hk, ih']
      · simp [hk, Sparse.get, hj, ih']

/-- Two canonical arrays that read the same are the same data. -/
theorem Sparse.ext_of_wf {m n : Sparse α} (hm : Sparse.wf d m = true) (hn : Sparse.wf d n = true)
    (h : ∀ i, Sparse.get d m i = Sparse.get d n i) : m = n := by
  suffices ∀ a (m n : Sparse α), Sparse.wfFrom d a m = true → Sparse.wfFrom d a n = true →
      (∀ i, Sparse.get d m i = Sparse.get d n i) → m = n from this 0 m n hm hn h
  clear hm hn h m n
  intro a m
  induction m generalizing a with
  | nil =>
    intro n _ hn h
    cases n with
    | nil => rfl
    | cons e n =>
      simp only [Sparse.wfFrom, Bool.and_eq_true, decide_eq_true_eq] at hn
      have := h e.1
      simp [Sparse.get] at this
      exact absurd this.symm hn.1.2
  | cons e m ih =>
    obtain ⟨k, v⟩ := e
    intro n hm hn h
    simp only [Sparse.wfFrom, Bool.and_eq_true, decide_eq_true_eq] at hm
    cases n with
    | nil => have := h k; simp [Sparse.get] at this; exact absurd this hm.1.2
    | cons f n =>
      obtain ⟨k', v'⟩ := f
      simp only [Sparse.wfFrom, Bool.and_eq_true, decide_eq_true_eq] at hn
      have hkk : k = k' := by
        rcases Nat.lt_trichotomy k k' with hlt | heq | hgt
        · have := h k
          simp only [Sparse.get, if_pos trivial, if_neg (Nat.ne_of_lt hlt)] at this
          rw [Sparse.get_of_wfFrom hn.2 (by omega)] at this
          exact absurd this hm.1.2
        · exact heq
        · have := h k'
          simp only [Sparse.get, if_pos trivial, if_neg (Nat.ne_of_lt hgt)] at this
          rw [Sparse.get_of_wfFrom hm.2 (by omega)] at this
          exact absurd this.symm hn.1.2
      subst hkk
      have hvv : v = v' := by have := h k; simpa [Sparse.get] using this
      subst hvv
      congr 1
      refine ih _ _ hm.2 hn.2 (fun i => ?_)
      by_cases hi : i = k
      · subst hi; rw [Sparse.get_of_wfFrom hm.2 (by omega), Sparse.get_of_wfFrom hn.2 (by omega)]
      · have := h i; simpa [Sparse.get, hi] using this

end Sys2Proof
end

