-- ==== Sys2Proof/Laws/State.lean ====
section
/-! SUPPORT. What each small update of the state leaves unchanged, field by field, and what a read of the array it changes
gives after it. -/

namespace Sys2Proof.Machine

variable (s : State)

/-! ### setCore -/

@[simp] theorem State.setCore_pending (c : CoreId) (k : Core) : (s.setCore c k).pending = s.pending := rfl
@[simp] theorem State.setCore_fresh (c : CoreId) (k : Core) : (s.setCore c k).fresh = s.fresh := rfl
@[simp] theorem State.setCore_tx (c : CoreId) (k : Core) : (s.setCore c k).tx = s.tx := rfl
@[simp] theorem State.setCore_lagoons (c : CoreId) (k : Core) : (s.setCore c k).lagoons = s.lagoons := rfl
@[simp] theorem State.setCore_mem (c : CoreId) (k : Core) : (s.setCore c k).mem = s.mem := rfl
@[simp] theorem State.setCore_hbm (c : CoreId) (k : Core) : (s.setCore c k).hbm = s.hbm := rfl
@[simp] theorem State.setCore_wheels (c : CoreId) (k : Core) : (s.setCore c k).wheels = s.wheels := rfl
@[simp] theorem State.setCore_ddr (c : CoreId) (k : Core) : (s.setCore c k).ddr = s.ddr := rfl
@[simp] theorem State.setCore_regions (c : CoreId) (k : Core) : (s.setCore c k).regions = s.regions := rfl
@[simp] theorem State.setCore_phys (c : CoreId) (k : Core) : (s.setCore c k).phys = s.phys := rfl
@[simp] theorem State.setCore_straits (c : CoreId) (k : Core) : (s.setCore c k).straits = s.straits := rfl
@[simp] theorem State.setCore_causeway (c : CoreId) (k : Core) : (s.setCore c k).causeway = s.causeway := rfl
@[simp] theorem State.setCore_ferry (c : CoreId) (k : Core) : (s.setCore c k).ferry = s.ferry := rfl
@[simp] theorem State.setCore_fabric (c : CoreId) (k : Core) : (s.setCore c k).fabric = s.fabric := rfl
@[simp] theorem State.setCore_tide (c : CoreId) (k : Core) : (s.setCore c k).tide = s.tide := rfl
@[simp] theorem State.setCore_power (c : CoreId) (k : Core) : (s.setCore c k).power = s.power := rfl
@[simp] theorem State.setCore_straps (c : CoreId) (k : Core) : (s.setCore c k).straps = s.straps := rfl
@[simp] theorem State.setCore_sessions (c : CoreId) (k : Core) : (s.setCore c k).sessions = s.sessions := rfl
@[simp] theorem State.setCore_shakes (c : CoreId) (k : Core) : (s.setCore c k).shakes = s.shakes := rfl
@[simp] theorem State.setCore_lrs (c : CoreId) (k : Core) : (s.setCore c k).lrs = s.lrs := rfl
@[simp] theorem State.setCore_qps (c : CoreId) (k : Core) : (s.setCore c k).qps = s.qps := rfl
@[simp] theorem State.setCore_sinks (c : CoreId) (k : Core) : (s.setCore c k).sinks = s.sinks := rfl
@[simp] theorem State.setCore_libs (c : CoreId) (k : Core) : (s.setCore c k).libs = s.libs := rfl
@[simp] theorem State.setCore_builder (c : CoreId) (k : Core) : (s.setCore c k).builder = s.builder := rfl
@[simp] theorem State.setCore_runs (c : CoreId) (k : Core) : (s.setCore c k).runs = s.runs := rfl
@[simp] theorem State.setCore_port (c : CoreId) (k : Core) : (s.setCore c k).port = s.port := rfl
@[simp] theorem State.setCore_side (c : CoreId) (k : Core) : (s.setCore c k).side = s.side := rfl
@[simp] theorem State.setCore_keeper (c : CoreId) (k : Core) : (s.setCore c k).keeper = s.keeper := rfl
@[simp] theorem State.setCore_boot (c : CoreId) (k : Core) : (s.setCore c k).boot = s.boot := rfl
@[simp] theorem State.setCore_dbgs (c : CoreId) (k : Core) : (s.setCore c k).dbgs = s.dbgs := rfl
@[simp] theorem State.setCore_jtag (c : CoreId) (k : Core) : (s.setCore c k).jtag = s.jtag := rfl
@[simp] theorem State.setCore_rel (c : CoreId) (k : Core) : (s.setCore c k).rel = s.rel := rfl
@[simp] theorem State.setCore_log (c : CoreId) (k : Core) : (s.setCore c k).log = s.log := rfl
@[simp] theorem State.setCore_evno (c : CoreId) (k : Core) : (s.setCore c k).evno = s.evno := rfl
@[simp] theorem State.setCore_degraded (c : CoreId) (k : Core) : (s.setCore c k).degraded = s.degraded := rfl
@[simp] theorem State.setCore_stamp (c : CoreId) (k : Core) : (s.setCore c k).stamp = s.stamp := rfl

/-! ### setLagoon -/

@[simp] theorem State.setLagoon_pending (l : Nat) (x : Lagoon) : (s.setLagoon l x).pending = s.pending := rfl
@[simp] theorem State.setLagoon_fresh (l : Nat) (x : Lagoon) : (s.setLagoon l x).fresh = s.fresh := rfl
@[simp] theorem State.setLagoon_tx (l : Nat) (x : Lagoon) : (s.setLagoon l x).tx = s.tx := rfl
@[simp] theorem State.setLagoon_cores (l : Nat) (x : Lagoon) : (s.setLagoon l x).cores = s.cores := rfl
@[simp] theorem State.setLagoon_mem (l : Nat) (x : Lagoon) : (s.setLagoon l x).mem = s.mem := rfl
@[simp] theorem State.setLagoon_hbm (l : Nat) (x : Lagoon) : (s.setLagoon l x).hbm = s.hbm := rfl
@[simp] theorem State.setLagoon_wheels (l : Nat) (x : Lagoon) : (s.setLagoon l x).wheels = s.wheels := rfl
@[simp] theorem State.setLagoon_ddr (l : Nat) (x : Lagoon) : (s.setLagoon l x).ddr = s.ddr := rfl
@[simp] theorem State.setLagoon_regions (l : Nat) (x : Lagoon) : (s.setLagoon l x).regions = s.regions := rfl
@[simp] theorem State.setLagoon_phys (l : Nat) (x : Lagoon) : (s.setLagoon l x).phys = s.phys := rfl
@[simp] theorem State.setLagoon_straits (l : Nat) (x : Lagoon) : (s.setLagoon l x).straits = s.straits := rfl
@[simp] theorem State.setLagoon_causeway (l : Nat) (x : Lagoon) : (s.setLagoon l x).causeway = s.causeway := rfl
@[simp] theorem State.setLagoon_ferry (l : Nat) (x : Lagoon) : (s.setLagoon l x).ferry = s.ferry := rfl
@[simp] theorem State.setLagoon_fabric (l : Nat) (x : Lagoon) : (s.setLagoon l x).fabric = s.fabric := rfl
@[simp] theorem State.setLagoon_tide (l : Nat) (x : Lagoon) : (s.setLagoon l x).tide = s.tide := rfl
@[simp] theorem State.setLagoon_power (l : Nat) (x : Lagoon) : (s.setLagoon l x).power = s.power := rfl
@[simp] theorem State.setLagoon_straps (l : Nat) (x : Lagoon) : (s.setLagoon l x).straps = s.straps := rfl
@[simp] theorem State.setLagoon_sessions (l : Nat) (x : Lagoon) : (s.setLagoon l x).sessions = s.sessions := rfl
@[simp] theorem State.setLagoon_shakes (l : Nat) (x : Lagoon) : (s.setLagoon l x).shakes = s.shakes := rfl
@[simp] theorem State.setLagoon_lrs (l : Nat) (x : Lagoon) : (s.setLagoon l x).lrs = s.lrs := rfl
@[simp] theorem State.setLagoon_qps (l : Nat) (x : Lagoon) : (s.setLagoon l x).qps = s.qps := rfl
@[simp] theorem State.setLagoon_sinks (l : Nat) (x : Lagoon) : (s.setLagoon l x).sinks = s.sinks := rfl
@[simp] theorem State.setLagoon_libs (l : Nat) (x : Lagoon) : (s.setLagoon l x).libs = s.libs := rfl
@[simp] theorem State.setLagoon_builder (l : Nat) (x : Lagoon) : (s.setLagoon l x).builder = s.builder := rfl
@[simp] theorem State.setLagoon_runs (l : Nat) (x : Lagoon) : (s.setLagoon l x).runs = s.runs := rfl
@[simp] theorem State.setLagoon_port (l : Nat) (x : Lagoon) : (s.setLagoon l x).port = s.port := rfl
@[simp] theorem State.setLagoon_side (l : Nat) (x : Lagoon) : (s.setLagoon l x).side = s.side := rfl
@[simp] theorem State.setLagoon_keeper (l : Nat) (x : Lagoon) : (s.setLagoon l x).keeper = s.keeper := rfl
@[simp] theorem State.setLagoon_boot (l : Nat) (x : Lagoon) : (s.setLagoon l x).boot = s.boot := rfl
@[simp] theorem State.setLagoon_dbgs (l : Nat) (x : Lagoon) : (s.setLagoon l x).dbgs = s.dbgs := rfl
@[simp] theorem State.setLagoon_jtag (l : Nat) (x : Lagoon) : (s.setLagoon l x).jtag = s.jtag := rfl
@[simp] theorem State.setLagoon_rel (l : Nat) (x : Lagoon) : (s.setLagoon l x).rel = s.rel := rfl
@[simp] theorem State.setLagoon_log (l : Nat) (x : Lagoon) : (s.setLagoon l x).log = s.log := rfl
@[simp] theorem State.setLagoon_evno (l : Nat) (x : Lagoon) : (s.setLagoon l x).evno = s.evno := rfl
@[simp] theorem State.setLagoon_degraded (l : Nat) (x : Lagoon) : (s.setLagoon l x).degraded = s.degraded := rfl
@[simp] theorem State.setLagoon_stamp (l : Nat) (x : Lagoon) : (s.setLagoon l x).stamp = s.stamp := rfl

/-! ### setStack -/

@[simp] theorem State.setStack_pending (n : Nat) (x : Stack) : (s.setStack n x).pending = s.pending := rfl
@[simp] theorem State.setStack_fresh (n : Nat) (x : Stack) : (s.setStack n x).fresh = s.fresh := rfl
@[simp] theorem State.setStack_tx (n : Nat) (x : Stack) : (s.setStack n x).tx = s.tx := rfl
@[simp] theorem State.setStack_cores (n : Nat) (x : Stack) : (s.setStack n x).cores = s.cores := rfl
@[simp] theorem State.setStack_lagoons (n : Nat) (x : Stack) : (s.setStack n x).lagoons = s.lagoons := rfl
@[simp] theorem State.setStack_mem (n : Nat) (x : Stack) : (s.setStack n x).mem = s.mem := rfl
@[simp] theorem State.setStack_wheels (n : Nat) (x : Stack) : (s.setStack n x).wheels = s.wheels := rfl
@[simp] theorem State.setStack_ddr (n : Nat) (x : Stack) : (s.setStack n x).ddr = s.ddr := rfl
@[simp] theorem State.setStack_regions (n : Nat) (x : Stack) : (s.setStack n x).regions = s.regions := rfl
@[simp] theorem State.setStack_phys (n : Nat) (x : Stack) : (s.setStack n x).phys = s.phys := rfl
@[simp] theorem State.setStack_straits (n : Nat) (x : Stack) : (s.setStack n x).straits = s.straits := rfl
@[simp] theorem State.setStack_causeway (n : Nat) (x : Stack) : (s.setStack n x).causeway = s.causeway := rfl
@[simp] theorem State.setStack_ferry (n : Nat) (x : Stack) : (s.setStack n x).ferry = s.ferry := rfl
@[simp] theorem State.setStack_fabric (n : Nat) (x : Stack) : (s.setStack n x).fabric = s.fabric := rfl
@[simp] theorem State.setStack_tide (n : Nat) (x : Stack) : (s.setStack n x).tide = s.tide := rfl
@[simp] theorem State.setStack_power (n : Nat) (x : Stack) : (s.setStack n x).power = s.power := rfl
@[simp] theorem State.setStack_straps (n : Nat) (x : Stack) : (s.setStack n x).straps = s.straps := rfl
@[simp] theorem State.setStack_sessions (n : Nat) (x : Stack) : (s.setStack n x).sessions = s.sessions := rfl
@[simp] theorem State.setStack_shakes (n : Nat) (x : Stack) : (s.setStack n x).shakes = s.shakes := rfl
@[simp] theorem State.setStack_lrs (n : Nat) (x : Stack) : (s.setStack n x).lrs = s.lrs := rfl
@[simp] theorem State.setStack_qps (n : Nat) (x : Stack) : (s.setStack n x).qps = s.qps := rfl
@[simp] theorem State.setStack_sinks (n : Nat) (x : Stack) : (s.setStack n x).sinks = s.sinks := rfl
@[simp] theorem State.setStack_libs (n : Nat) (x : Stack) : (s.setStack n x).libs = s.libs := rfl
@[simp] theorem State.setStack_builder (n : Nat) (x : Stack) : (s.setStack n x).builder = s.builder := rfl
@[simp] theorem State.setStack_runs (n : Nat) (x : Stack) : (s.setStack n x).runs = s.runs := rfl
@[simp] theorem State.setStack_port (n : Nat) (x : Stack) : (s.setStack n x).port = s.port := rfl
@[simp] theorem State.setStack_side (n : Nat) (x : Stack) : (s.setStack n x).side = s.side := rfl
@[simp] theorem State.setStack_keeper (n : Nat) (x : Stack) : (s.setStack n x).keeper = s.keeper := rfl
@[simp] theorem State.setStack_boot (n : Nat) (x : Stack) : (s.setStack n x).boot = s.boot := rfl
@[simp] theorem State.setStack_dbgs (n : Nat) (x : Stack) : (s.setStack n x).dbgs = s.dbgs := rfl
@[simp] theorem State.setStack_jtag (n : Nat) (x : Stack) : (s.setStack n x).jtag = s.jtag := rfl
@[simp] theorem State.setStack_rel (n : Nat) (x : Stack) : (s.setStack n x).rel = s.rel := rfl
@[simp] theorem State.setStack_log (n : Nat) (x : Stack) : (s.setStack n x).log = s.log := rfl
@[simp] theorem State.setStack_evno (n : Nat) (x : Stack) : (s.setStack n x).evno = s.evno := rfl
@[simp] theorem State.setStack_degraded (n : Nat) (x : Stack) : (s.setStack n x).degraded = s.degraded := rfl
@[simp] theorem State.setStack_stamp (n : Nat) (x : Stack) : (s.setStack n x).stamp = s.stamp := rfl

/-! ### setWheel -/

@[simp] theorem State.setWheel_pending (n : Nat) (x : Wheel) : (s.setWheel n x).pending = s.pending := rfl
@[simp] theorem State.setWheel_fresh (n : Nat) (x : Wheel) : (s.setWheel n x).fresh = s.fresh := rfl
@[simp] theorem State.setWheel_tx (n : Nat) (x : Wheel) : (s.setWheel n x).tx = s.tx := rfl
@[simp] theorem State.setWheel_cores (n : Nat) (x : Wheel) : (s.setWheel n x).cores = s.cores := rfl
@[simp] theorem State.setWheel_lagoons (n : Nat) (x : Wheel) : (s.setWheel n x).lagoons = s.lagoons := rfl
@[simp] theorem State.setWheel_mem (n : Nat) (x : Wheel) : (s.setWheel n x).mem = s.mem := rfl
@[simp] theorem State.setWheel_hbm (n : Nat) (x : Wheel) : (s.setWheel n x).hbm = s.hbm := rfl
@[simp] theorem State.setWheel_ddr (n : Nat) (x : Wheel) : (s.setWheel n x).ddr = s.ddr := rfl
@[simp] theorem State.setWheel_regions (n : Nat) (x : Wheel) : (s.setWheel n x).regions = s.regions := rfl
@[simp] theorem State.setWheel_phys (n : Nat) (x : Wheel) : (s.setWheel n x).phys = s.phys := rfl
@[simp] theorem State.setWheel_straits (n : Nat) (x : Wheel) : (s.setWheel n x).straits = s.straits := rfl
@[simp] theorem State.setWheel_causeway (n : Nat) (x : Wheel) : (s.setWheel n x).causeway = s.causeway := rfl
@[simp] theorem State.setWheel_ferry (n : Nat) (x : Wheel) : (s.setWheel n x).ferry = s.ferry := rfl
@[simp] theorem State.setWheel_fabric (n : Nat) (x : Wheel) : (s.setWheel n x).fabric = s.fabric := rfl
@[simp] theorem State.setWheel_tide (n : Nat) (x : Wheel) : (s.setWheel n x).tide = s.tide := rfl
@[simp] theorem State.setWheel_power (n : Nat) (x : Wheel) : (s.setWheel n x).power = s.power := rfl
@[simp] theorem State.setWheel_straps (n : Nat) (x : Wheel) : (s.setWheel n x).straps = s.straps := rfl
@[simp] theorem State.setWheel_sessions (n : Nat) (x : Wheel) : (s.setWheel n x).sessions = s.sessions := rfl
@[simp] theorem State.setWheel_shakes (n : Nat) (x : Wheel) : (s.setWheel n x).shakes = s.shakes := rfl
@[simp] theorem State.setWheel_lrs (n : Nat) (x : Wheel) : (s.setWheel n x).lrs = s.lrs := rfl
@[simp] theorem State.setWheel_qps (n : Nat) (x : Wheel) : (s.setWheel n x).qps = s.qps := rfl
@[simp] theorem State.setWheel_sinks (n : Nat) (x : Wheel) : (s.setWheel n x).sinks = s.sinks := rfl
@[simp] theorem State.setWheel_libs (n : Nat) (x : Wheel) : (s.setWheel n x).libs = s.libs := rfl
@[simp] theorem State.setWheel_builder (n : Nat) (x : Wheel) : (s.setWheel n x).builder = s.builder := rfl
@[simp] theorem State.setWheel_runs (n : Nat) (x : Wheel) : (s.setWheel n x).runs = s.runs := rfl
@[simp] theorem State.setWheel_port (n : Nat) (x : Wheel) : (s.setWheel n x).port = s.port := rfl
@[simp] theorem State.setWheel_side (n : Nat) (x : Wheel) : (s.setWheel n x).side = s.side := rfl
@[simp] theorem State.setWheel_keeper (n : Nat) (x : Wheel) : (s.setWheel n x).keeper = s.keeper := rfl
@[simp] theorem State.setWheel_boot (n : Nat) (x : Wheel) : (s.setWheel n x).boot = s.boot := rfl
@[simp] theorem State.setWheel_dbgs (n : Nat) (x : Wheel) : (s.setWheel n x).dbgs = s.dbgs := rfl
@[simp] theorem State.setWheel_jtag (n : Nat) (x : Wheel) : (s.setWheel n x).jtag = s.jtag := rfl
@[simp] theorem State.setWheel_rel (n : Nat) (x : Wheel) : (s.setWheel n x).rel = s.rel := rfl
@[simp] theorem State.setWheel_log (n : Nat) (x : Wheel) : (s.setWheel n x).log = s.log := rfl
@[simp] theorem State.setWheel_evno (n : Nat) (x : Wheel) : (s.setWheel n x).evno = s.evno := rfl
@[simp] theorem State.setWheel_degraded (n : Nat) (x : Wheel) : (s.setWheel n x).degraded = s.degraded := rfl
@[simp] theorem State.setWheel_stamp (n : Nat) (x : Wheel) : (s.setWheel n x).stamp = s.stamp := rfl

/-! ### setChannel -/

@[simp] theorem State.setChannel_pending (n : Nat) (x : Ddr) : (s.setChannel n x).pending = s.pending := rfl
@[simp] theorem State.setChannel_fresh (n : Nat) (x : Ddr) : (s.setChannel n x).fresh = s.fresh := rfl
@[simp] theorem State.setChannel_tx (n : Nat) (x : Ddr) : (s.setChannel n x).tx = s.tx := rfl
@[simp] theorem State.setChannel_cores (n : Nat) (x : Ddr) : (s.setChannel n x).cores = s.cores := rfl
@[simp] theorem State.setChannel_lagoons (n : Nat) (x : Ddr) : (s.setChannel n x).lagoons = s.lagoons := rfl
@[simp] theorem State.setChannel_mem (n : Nat) (x : Ddr) : (s.setChannel n x).mem = s.mem := rfl
@[simp] theorem State.setChannel_hbm (n : Nat) (x : Ddr) : (s.setChannel n x).hbm = s.hbm := rfl
@[simp] theorem State.setChannel_wheels (n : Nat) (x : Ddr) : (s.setChannel n x).wheels = s.wheels := rfl
@[simp] theorem State.setChannel_regions (n : Nat) (x : Ddr) : (s.setChannel n x).regions = s.regions := rfl
@[simp] theorem State.setChannel_phys (n : Nat) (x : Ddr) : (s.setChannel n x).phys = s.phys := rfl
@[simp] theorem State.setChannel_straits (n : Nat) (x : Ddr) : (s.setChannel n x).straits = s.straits := rfl
@[simp] theorem State.setChannel_causeway (n : Nat) (x : Ddr) : (s.setChannel n x).causeway = s.causeway := rfl
@[simp] theorem State.setChannel_ferry (n : Nat) (x : Ddr) : (s.setChannel n x).ferry = s.ferry := rfl
@[simp] theorem State.setChannel_fabric (n : Nat) (x : Ddr) : (s.setChannel n x).fabric = s.fabric := rfl
@[simp] theorem State.setChannel_tide (n : Nat) (x : Ddr) : (s.setChannel n x).tide = s.tide := rfl
@[simp] theorem State.setChannel_power (n : Nat) (x : Ddr) : (s.setChannel n x).power = s.power := rfl
@[simp] theorem State.setChannel_straps (n : Nat) (x : Ddr) : (s.setChannel n x).straps = s.straps := rfl
@[simp] theorem State.setChannel_sessions (n : Nat) (x : Ddr) : (s.setChannel n x).sessions = s.sessions := rfl
@[simp] theorem State.setChannel_shakes (n : Nat) (x : Ddr) : (s.setChannel n x).shakes = s.shakes := rfl
@[simp] theorem State.setChannel_lrs (n : Nat) (x : Ddr) : (s.setChannel n x).lrs = s.lrs := rfl
@[simp] theorem State.setChannel_qps (n : Nat) (x : Ddr) : (s.setChannel n x).qps = s.qps := rfl
@[simp] theorem State.setChannel_sinks (n : Nat) (x : Ddr) : (s.setChannel n x).sinks = s.sinks := rfl
@[simp] theorem State.setChannel_libs (n : Nat) (x : Ddr) : (s.setChannel n x).libs = s.libs := rfl
@[simp] theorem State.setChannel_builder (n : Nat) (x : Ddr) : (s.setChannel n x).builder = s.builder := rfl
@[simp] theorem State.setChannel_runs (n : Nat) (x : Ddr) : (s.setChannel n x).runs = s.runs := rfl
@[simp] theorem State.setChannel_port (n : Nat) (x : Ddr) : (s.setChannel n x).port = s.port := rfl
@[simp] theorem State.setChannel_side (n : Nat) (x : Ddr) : (s.setChannel n x).side = s.side := rfl
@[simp] theorem State.setChannel_keeper (n : Nat) (x : Ddr) : (s.setChannel n x).keeper = s.keeper := rfl
@[simp] theorem State.setChannel_boot (n : Nat) (x : Ddr) : (s.setChannel n x).boot = s.boot := rfl
@[simp] theorem State.setChannel_dbgs (n : Nat) (x : Ddr) : (s.setChannel n x).dbgs = s.dbgs := rfl
@[simp] theorem State.setChannel_jtag (n : Nat) (x : Ddr) : (s.setChannel n x).jtag = s.jtag := rfl
@[simp] theorem State.setChannel_rel (n : Nat) (x : Ddr) : (s.setChannel n x).rel = s.rel := rfl
@[simp] theorem State.setChannel_log (n : Nat) (x : Ddr) : (s.setChannel n x).log = s.log := rfl
@[simp] theorem State.setChannel_evno (n : Nat) (x : Ddr) : (s.setChannel n x).evno = s.evno := rfl
@[simp] theorem State.setChannel_degraded (n : Nat) (x : Ddr) : (s.setChannel n x).degraded = s.degraded := rfl
@[simp] theorem State.setChannel_stamp (n : Nat) (x : Ddr) : (s.setChannel n x).stamp = s.stamp := rfl

/-! ### setRegion -/

@[simp] theorem State.setRegion_pending (n : Nat) (x : Region) : (s.setRegion n x).pending = s.pending := rfl
@[simp] theorem State.setRegion_fresh (n : Nat) (x : Region) : (s.setRegion n x).fresh = s.fresh := rfl
@[simp] theorem State.setRegion_tx (n : Nat) (x : Region) : (s.setRegion n x).tx = s.tx := rfl
@[simp] theorem State.setRegion_cores (n : Nat) (x : Region) : (s.setRegion n x).cores = s.cores := rfl
@[simp] theorem State.setRegion_lagoons (n : Nat) (x : Region) : (s.setRegion n x).lagoons = s.lagoons := rfl
@[simp] theorem State.setRegion_mem (n : Nat) (x : Region) : (s.setRegion n x).mem = s.mem := rfl
@[simp] theorem State.setRegion_hbm (n : Nat) (x : Region) : (s.setRegion n x).hbm = s.hbm := rfl
@[simp] theorem State.setRegion_wheels (n : Nat) (x : Region) : (s.setRegion n x).wheels = s.wheels := rfl
@[simp] theorem State.setRegion_ddr (n : Nat) (x : Region) : (s.setRegion n x).ddr = s.ddr := rfl
@[simp] theorem State.setRegion_phys (n : Nat) (x : Region) : (s.setRegion n x).phys = s.phys := rfl
@[simp] theorem State.setRegion_straits (n : Nat) (x : Region) : (s.setRegion n x).straits = s.straits := rfl
@[simp] theorem State.setRegion_causeway (n : Nat) (x : Region) : (s.setRegion n x).causeway = s.causeway := rfl
@[simp] theorem State.setRegion_ferry (n : Nat) (x : Region) : (s.setRegion n x).ferry = s.ferry := rfl
@[simp] theorem State.setRegion_fabric (n : Nat) (x : Region) : (s.setRegion n x).fabric = s.fabric := rfl
@[simp] theorem State.setRegion_tide (n : Nat) (x : Region) : (s.setRegion n x).tide = s.tide := rfl
@[simp] theorem State.setRegion_power (n : Nat) (x : Region) : (s.setRegion n x).power = s.power := rfl
@[simp] theorem State.setRegion_straps (n : Nat) (x : Region) : (s.setRegion n x).straps = s.straps := rfl
@[simp] theorem State.setRegion_sessions (n : Nat) (x : Region) : (s.setRegion n x).sessions = s.sessions := rfl
@[simp] theorem State.setRegion_shakes (n : Nat) (x : Region) : (s.setRegion n x).shakes = s.shakes := rfl
@[simp] theorem State.setRegion_lrs (n : Nat) (x : Region) : (s.setRegion n x).lrs = s.lrs := rfl
@[simp] theorem State.setRegion_qps (n : Nat) (x : Region) : (s.setRegion n x).qps = s.qps := rfl
@[simp] theorem State.setRegion_sinks (n : Nat) (x : Region) : (s.setRegion n x).sinks = s.sinks := rfl
@[simp] theorem State.setRegion_libs (n : Nat) (x : Region) : (s.setRegion n x).libs = s.libs := rfl
@[simp] theorem State.setRegion_builder (n : Nat) (x : Region) : (s.setRegion n x).builder = s.builder := rfl
@[simp] theorem State.setRegion_runs (n : Nat) (x : Region) : (s.setRegion n x).runs = s.runs := rfl
@[simp] theorem State.setRegion_port (n : Nat) (x : Region) : (s.setRegion n x).port = s.port := rfl
@[simp] theorem State.setRegion_side (n : Nat) (x : Region) : (s.setRegion n x).side = s.side := rfl
@[simp] theorem State.setRegion_keeper (n : Nat) (x : Region) : (s.setRegion n x).keeper = s.keeper := rfl
@[simp] theorem State.setRegion_boot (n : Nat) (x : Region) : (s.setRegion n x).boot = s.boot := rfl
@[simp] theorem State.setRegion_dbgs (n : Nat) (x : Region) : (s.setRegion n x).dbgs = s.dbgs := rfl
@[simp] theorem State.setRegion_jtag (n : Nat) (x : Region) : (s.setRegion n x).jtag = s.jtag := rfl
@[simp] theorem State.setRegion_rel (n : Nat) (x : Region) : (s.setRegion n x).rel = s.rel := rfl
@[simp] theorem State.setRegion_log (n : Nat) (x : Region) : (s.setRegion n x).log = s.log := rfl
@[simp] theorem State.setRegion_evno (n : Nat) (x : Region) : (s.setRegion n x).evno = s.evno := rfl
@[simp] theorem State.setRegion_degraded (n : Nat) (x : Region) : (s.setRegion n x).degraded = s.degraded := rfl
@[simp] theorem State.setRegion_stamp (n : Nat) (x : Region) : (s.setRegion n x).stamp = s.stamp := rfl

/-! ### setPhys -/

@[simp] theorem State.setPhys_pending (n : Nat) (x : Phys) : (s.setPhys n x).pending = s.pending := rfl
@[simp] theorem State.setPhys_fresh (n : Nat) (x : Phys) : (s.setPhys n x).fresh = s.fresh := rfl
@[simp] theorem State.setPhys_tx (n : Nat) (x : Phys) : (s.setPhys n x).tx = s.tx := rfl
@[simp] theorem State.setPhys_cores (n : Nat) (x : Phys) : (s.setPhys n x).cores = s.cores := rfl
@[simp] theorem State.setPhys_lagoons (n : Nat) (x : Phys) : (s.setPhys n x).lagoons = s.lagoons := rfl
@[simp] theorem State.setPhys_mem (n : Nat) (x : Phys) : (s.setPhys n x).mem = s.mem := rfl
@[simp] theorem State.setPhys_hbm (n : Nat) (x : Phys) : (s.setPhys n x).hbm = s.hbm := rfl
@[simp] theorem State.setPhys_wheels (n : Nat) (x : Phys) : (s.setPhys n x).wheels = s.wheels := rfl
@[simp] theorem State.setPhys_ddr (n : Nat) (x : Phys) : (s.setPhys n x).ddr = s.ddr := rfl
@[simp] theorem State.setPhys_regions (n : Nat) (x : Phys) : (s.setPhys n x).regions = s.regions := rfl
@[simp] theorem State.setPhys_straits (n : Nat) (x : Phys) : (s.setPhys n x).straits = s.straits := rfl
@[simp] theorem State.setPhys_causeway (n : Nat) (x : Phys) : (s.setPhys n x).causeway = s.causeway := rfl
@[simp] theorem State.setPhys_ferry (n : Nat) (x : Phys) : (s.setPhys n x).ferry = s.ferry := rfl
@[simp] theorem State.setPhys_fabric (n : Nat) (x : Phys) : (s.setPhys n x).fabric = s.fabric := rfl
@[simp] theorem State.setPhys_tide (n : Nat) (x : Phys) : (s.setPhys n x).tide = s.tide := rfl
@[simp] theorem State.setPhys_power (n : Nat) (x : Phys) : (s.setPhys n x).power = s.power := rfl
@[simp] theorem State.setPhys_straps (n : Nat) (x : Phys) : (s.setPhys n x).straps = s.straps := rfl
@[simp] theorem State.setPhys_sessions (n : Nat) (x : Phys) : (s.setPhys n x).sessions = s.sessions := rfl
@[simp] theorem State.setPhys_shakes (n : Nat) (x : Phys) : (s.setPhys n x).shakes = s.shakes := rfl
@[simp] theorem State.setPhys_lrs (n : Nat) (x : Phys) : (s.setPhys n x).lrs = s.lrs := rfl
@[simp] theorem State.setPhys_qps (n : Nat) (x : Phys) : (s.setPhys n x).qps = s.qps := rfl
@[simp] theorem State.setPhys_sinks (n : Nat) (x : Phys) : (s.setPhys n x).sinks = s.sinks := rfl
@[simp] theorem State.setPhys_libs (n : Nat) (x : Phys) : (s.setPhys n x).libs = s.libs := rfl
@[simp] theorem State.setPhys_builder (n : Nat) (x : Phys) : (s.setPhys n x).builder = s.builder := rfl
@[simp] theorem State.setPhys_runs (n : Nat) (x : Phys) : (s.setPhys n x).runs = s.runs := rfl
@[simp] theorem State.setPhys_port (n : Nat) (x : Phys) : (s.setPhys n x).port = s.port := rfl
@[simp] theorem State.setPhys_side (n : Nat) (x : Phys) : (s.setPhys n x).side = s.side := rfl
@[simp] theorem State.setPhys_keeper (n : Nat) (x : Phys) : (s.setPhys n x).keeper = s.keeper := rfl
@[simp] theorem State.setPhys_boot (n : Nat) (x : Phys) : (s.setPhys n x).boot = s.boot := rfl
@[simp] theorem State.setPhys_dbgs (n : Nat) (x : Phys) : (s.setPhys n x).dbgs = s.dbgs := rfl
@[simp] theorem State.setPhys_jtag (n : Nat) (x : Phys) : (s.setPhys n x).jtag = s.jtag := rfl
@[simp] theorem State.setPhys_rel (n : Nat) (x : Phys) : (s.setPhys n x).rel = s.rel := rfl
@[simp] theorem State.setPhys_log (n : Nat) (x : Phys) : (s.setPhys n x).log = s.log := rfl
@[simp] theorem State.setPhys_evno (n : Nat) (x : Phys) : (s.setPhys n x).evno = s.evno := rfl
@[simp] theorem State.setPhys_degraded (n : Nat) (x : Phys) : (s.setPhys n x).degraded = s.degraded := rfl
@[simp] theorem State.setPhys_stamp (n : Nat) (x : Phys) : (s.setPhys n x).stamp = s.stamp := rfl

/-! ### mapCores -/

@[simp] theorem State.mapCores_pending (l : Nat) (f : Core → Core) : (s.mapCores l f).pending = s.pending := rfl
@[simp] theorem State.mapCores_fresh (l : Nat) (f : Core → Core) : (s.mapCores l f).fresh = s.fresh := rfl
@[simp] theorem State.mapCores_tx (l : Nat) (f : Core → Core) : (s.mapCores l f).tx = s.tx := rfl
@[simp] theorem State.mapCores_lagoons (l : Nat) (f : Core → Core) : (s.mapCores l f).lagoons = s.lagoons := rfl
@[simp] theorem State.mapCores_mem (l : Nat) (f : Core → Core) : (s.mapCores l f).mem = s.mem := rfl
@[simp] theorem State.mapCores_hbm (l : Nat) (f : Core → Core) : (s.mapCores l f).hbm = s.hbm := rfl
@[simp] theorem State.mapCores_wheels (l : Nat) (f : Core → Core) : (s.mapCores l f).wheels = s.wheels := rfl
@[simp] theorem State.mapCores_ddr (l : Nat) (f : Core → Core) : (s.mapCores l f).ddr = s.ddr := rfl
@[simp] theorem State.mapCores_regions (l : Nat) (f : Core → Core) : (s.mapCores l f).regions = s.regions := rfl
@[simp] theorem State.mapCores_phys (l : Nat) (f : Core → Core) : (s.mapCores l f).phys = s.phys := rfl
@[simp] theorem State.mapCores_straits (l : Nat) (f : Core → Core) : (s.mapCores l f).straits = s.straits := rfl
@[simp] theorem State.mapCores_causeway (l : Nat) (f : Core → Core) : (s.mapCores l f).causeway = s.causeway := rfl
@[simp] theorem State.mapCores_ferry (l : Nat) (f : Core → Core) : (s.mapCores l f).ferry = s.ferry := rfl
@[simp] theorem State.mapCores_fabric (l : Nat) (f : Core → Core) : (s.mapCores l f).fabric = s.fabric := rfl
@[simp] theorem State.mapCores_tide (l : Nat) (f : Core → Core) : (s.mapCores l f).tide = s.tide := rfl
@[simp] theorem State.mapCores_power (l : Nat) (f : Core → Core) : (s.mapCores l f).power = s.power := rfl
@[simp] theorem State.mapCores_straps (l : Nat) (f : Core → Core) : (s.mapCores l f).straps = s.straps := rfl
@[simp] theorem State.mapCores_sessions (l : Nat) (f : Core → Core) : (s.mapCores l f).sessions = s.sessions := rfl
@[simp] theorem State.mapCores_shakes (l : Nat) (f : Core → Core) : (s.mapCores l f).shakes = s.shakes := rfl
@[simp] theorem State.mapCores_lrs (l : Nat) (f : Core → Core) : (s.mapCores l f).lrs = s.lrs := rfl
@[simp] theorem State.mapCores_qps (l : Nat) (f : Core → Core) : (s.mapCores l f).qps = s.qps := rfl
@[simp] theorem State.mapCores_sinks (l : Nat) (f : Core → Core) : (s.mapCores l f).sinks = s.sinks := rfl
@[simp] theorem State.mapCores_libs (l : Nat) (f : Core → Core) : (s.mapCores l f).libs = s.libs := rfl
@[simp] theorem State.mapCores_builder (l : Nat) (f : Core → Core) : (s.mapCores l f).builder = s.builder := rfl
@[simp] theorem State.mapCores_runs (l : Nat) (f : Core → Core) : (s.mapCores l f).runs = s.runs := rfl
@[simp] theorem State.mapCores_port (l : Nat) (f : Core → Core) : (s.mapCores l f).port = s.port := rfl
@[simp] theorem State.mapCores_side (l : Nat) (f : Core → Core) : (s.mapCores l f).side = s.side := rfl
@[simp] theorem State.mapCores_keeper (l : Nat) (f : Core → Core) : (s.mapCores l f).keeper = s.keeper := rfl
@[simp] theorem State.mapCores_boot (l : Nat) (f : Core → Core) : (s.mapCores l f).boot = s.boot := rfl
@[simp] theorem State.mapCores_dbgs (l : Nat) (f : Core → Core) : (s.mapCores l f).dbgs = s.dbgs := rfl
@[simp] theorem State.mapCores_jtag (l : Nat) (f : Core → Core) : (s.mapCores l f).jtag = s.jtag := rfl
@[simp] theorem State.mapCores_rel (l : Nat) (f : Core → Core) : (s.mapCores l f).rel = s.rel := rfl
@[simp] theorem State.mapCores_log (l : Nat) (f : Core → Core) : (s.mapCores l f).log = s.log := rfl
@[simp] theorem State.mapCores_evno (l : Nat) (f : Core → Core) : (s.mapCores l f).evno = s.evno := rfl
@[simp] theorem State.mapCores_degraded (l : Nat) (f : Core → Core) : (s.mapCores l f).degraded = s.degraded := rfl
@[simp] theorem State.mapCores_stamp (l : Nat) (f : Core → Core) : (s.mapCores l f).stamp = s.stamp := rfl

/-! ### writeByte -/

@[simp] theorem State.writeByte_pending (a : Nat) (b : Byte) : (s.writeByte a b).pending = s.pending := rfl
@[simp] theorem State.writeByte_fresh (a : Nat) (b : Byte) : (s.writeByte a b).fresh = s.fresh := rfl
@[simp] theorem State.writeByte_tx (a : Nat) (b : Byte) : (s.writeByte a b).tx = s.tx := rfl
@[simp] theorem State.writeByte_cores (a : Nat) (b : Byte) : (s.writeByte a b).cores = s.cores := rfl
@[simp] theorem State.writeByte_lagoons (a : Nat) (b : Byte) : (s.writeByte a b).lagoons = s.lagoons := rfl
@[simp] theorem State.writeByte_hbm (a : Nat) (b : Byte) : (s.writeByte a b).hbm = s.hbm := rfl
@[simp] theorem State.writeByte_wheels (a : Nat) (b : Byte) : (s.writeByte a b).wheels = s.wheels := rfl
@[simp] theorem State.writeByte_ddr (a : Nat) (b : Byte) : (s.writeByte a b).ddr = s.ddr := rfl
@[simp] theorem State.writeByte_regions (a : Nat) (b : Byte) : (s.writeByte a b).regions = s.regions := rfl
@[simp] theorem State.writeByte_phys (a : Nat) (b : Byte) : (s.writeByte a b).phys = s.phys := rfl
@[simp] theorem State.writeByte_straits (a : Nat) (b : Byte) : (s.writeByte a b).straits = s.straits := rfl
@[simp] theorem State.writeByte_causeway (a : Nat) (b : Byte) : (s.writeByte a b).causeway = s.causeway := rfl
@[simp] theorem State.writeByte_ferry (a : Nat) (b : Byte) : (s.writeByte a b).ferry = s.ferry := rfl
@[simp] theorem State.writeByte_fabric (a : Nat) (b : Byte) : (s.writeByte a b).fabric = s.fabric := rfl
@[simp] theorem State.writeByte_tide (a : Nat) (b : Byte) : (s.writeByte a b).tide = s.tide := rfl
@[simp] theorem State.writeByte_power (a : Nat) (b : Byte) : (s.writeByte a b).power = s.power := rfl
@[simp] theorem State.writeByte_straps (a : Nat) (b : Byte) : (s.writeByte a b).straps = s.straps := rfl
@[simp] theorem State.writeByte_sessions (a : Nat) (b : Byte) : (s.writeByte a b).sessions = s.sessions := rfl
@[simp] theorem State.writeByte_shakes (a : Nat) (b : Byte) : (s.writeByte a b).shakes = s.shakes := rfl
@[simp] theorem State.writeByte_lrs (a : Nat) (b : Byte) : (s.writeByte a b).lrs = s.lrs := rfl
@[simp] theorem State.writeByte_qps (a : Nat) (b : Byte) : (s.writeByte a b).qps = s.qps := rfl
@[simp] theorem State.writeByte_sinks (a : Nat) (b : Byte) : (s.writeByte a b).sinks = s.sinks := rfl
@[simp] theorem State.writeByte_libs (a : Nat) (b : Byte) : (s.writeByte a b).libs = s.libs := rfl
@[simp] theorem State.writeByte_builder (a : Nat) (b : Byte) : (s.writeByte a b).builder = s.builder := rfl
@[simp] theorem State.writeByte_runs (a : Nat) (b : Byte) : (s.writeByte a b).runs = s.runs := rfl
@[simp] theorem State.writeByte_port (a : Nat) (b : Byte) : (s.writeByte a b).port = s.port := rfl
@[simp] theorem State.writeByte_side (a : Nat) (b : Byte) : (s.writeByte a b).side = s.side := rfl
@[simp] theorem State.writeByte_keeper (a : Nat) (b : Byte) : (s.writeByte a b).keeper = s.keeper := rfl
@[simp] theorem State.writeByte_boot (a : Nat) (b : Byte) : (s.writeByte a b).boot = s.boot := rfl
@[simp] theorem State.writeByte_dbgs (a : Nat) (b : Byte) : (s.writeByte a b).dbgs = s.dbgs := rfl
@[simp] theorem State.writeByte_jtag (a : Nat) (b : Byte) : (s.writeByte a b).jtag = s.jtag := rfl
@[simp] theorem State.writeByte_rel (a : Nat) (b : Byte) : (s.writeByte a b).rel = s.rel := rfl
@[simp] theorem State.writeByte_log (a : Nat) (b : Byte) : (s.writeByte a b).log = s.log := rfl
@[simp] theorem State.writeByte_evno (a : Nat) (b : Byte) : (s.writeByte a b).evno = s.evno := rfl
@[simp] theorem State.writeByte_degraded (a : Nat) (b : Byte) : (s.writeByte a b).degraded = s.degraded := rfl
@[simp] theorem State.writeByte_stamp (a : Nat) (b : Byte) : (s.writeByte a b).stamp = s.stamp := rfl

/-! ### writeBytes -/

@[simp] theorem State.writeBytes_pending (a : Nat) (bs : List Byte) : (s.writeBytes a bs).pending = s.pending := rfl
@[simp] theorem State.writeBytes_fresh (a : Nat) (bs : List Byte) : (s.writeBytes a bs).fresh = s.fresh := rfl
@[simp] theorem State.writeBytes_tx (a : Nat) (bs : List Byte) : (s.writeBytes a bs).tx = s.tx := rfl
@[simp] theorem State.writeBytes_cores (a : Nat) (bs : List Byte) : (s.writeBytes a bs).cores = s.cores := rfl
@[simp] theorem State.writeBytes_lagoons (a : Nat) (bs : List Byte) : (s.writeBytes a bs).lagoons = s.lagoons := rfl
@[simp] theorem State.writeBytes_hbm (a : Nat) (bs : List Byte) : (s.writeBytes a bs).hbm = s.hbm := rfl
@[simp] theorem State.writeBytes_wheels (a : Nat) (bs : List Byte) : (s.writeBytes a bs).wheels = s.wheels := rfl
@[simp] theorem State.writeBytes_ddr (a : Nat) (bs : List Byte) : (s.writeBytes a bs).ddr = s.ddr := rfl
@[simp] theorem State.writeBytes_regions (a : Nat) (bs : List Byte) : (s.writeBytes a bs).regions = s.regions := rfl
@[simp] theorem State.writeBytes_phys (a : Nat) (bs : List Byte) : (s.writeBytes a bs).phys = s.phys := rfl
@[simp] theorem State.writeBytes_straits (a : Nat) (bs : List Byte) : (s.writeBytes a bs).straits = s.straits := rfl
@[simp] theorem State.writeBytes_causeway (a : Nat) (bs : List Byte) : (s.writeBytes a bs).causeway = s.causeway := rfl
@[simp] theorem State.writeBytes_ferry (a : Nat) (bs : List Byte) : (s.writeBytes a bs).ferry = s.ferry := rfl
@[simp] theorem State.writeBytes_fabric (a : Nat) (bs : List Byte) : (s.writeBytes a bs).fabric = s.fabric := rfl
@[simp] theorem State.writeBytes_tide (a : Nat) (bs : List Byte) : (s.writeBytes a bs).tide = s.tide := rfl
@[simp] theorem State.writeBytes_power (a : Nat) (bs : List Byte) : (s.writeBytes a bs).power = s.power := rfl
@[simp] theorem State.writeBytes_straps (a : Nat) (bs : List Byte) : (s.writeBytes a bs).straps = s.straps := rfl
@[simp] theorem State.writeBytes_sessions (a : Nat) (bs : List Byte) : (s.writeBytes a bs).sessions = s.sessions := rfl
@[simp] theorem State.writeBytes_shakes (a : Nat) (bs : List Byte) : (s.writeBytes a bs).shakes = s.shakes := rfl
@[simp] theorem State.writeBytes_lrs (a : Nat) (bs : List Byte) : (s.writeBytes a bs).lrs = s.lrs := rfl
@[simp] theorem State.writeBytes_qps (a : Nat) (bs : List Byte) : (s.writeBytes a bs).qps = s.qps := rfl
@[simp] theorem State.writeBytes_sinks (a : Nat) (bs : List Byte) : (s.writeBytes a bs).sinks = s.sinks := rfl
@[simp] theorem State.writeBytes_libs (a : Nat) (bs : List Byte) : (s.writeBytes a bs).libs = s.libs := rfl
@[simp] theorem State.writeBytes_builder (a : Nat) (bs : List Byte) : (s.writeBytes a bs).builder = s.builder := rfl
@[simp] theorem State.writeBytes_runs (a : Nat) (bs : List Byte) : (s.writeBytes a bs).runs = s.runs := rfl
@[simp] theorem State.writeBytes_port (a : Nat) (bs : List Byte) : (s.writeBytes a bs).port = s.port := rfl
@[simp] theorem State.writeBytes_side (a : Nat) (bs : List Byte) : (s.writeBytes a bs).side = s.side := rfl
@[simp] theorem State.writeBytes_keeper (a : Nat) (bs : List Byte) : (s.writeBytes a bs).keeper = s.keeper := rfl
@[simp] theorem State.writeBytes_boot (a : Nat) (bs : List Byte) : (s.writeBytes a bs).boot = s.boot := rfl
@[simp] theorem State.writeBytes_dbgs (a : Nat) (bs : List Byte) : (s.writeBytes a bs).dbgs = s.dbgs := rfl
@[simp] theorem State.writeBytes_jtag (a : Nat) (bs : List Byte) : (s.writeBytes a bs).jtag = s.jtag := rfl
@[simp] theorem State.writeBytes_rel (a : Nat) (bs : List Byte) : (s.writeBytes a bs).rel = s.rel := rfl
@[simp] theorem State.writeBytes_log (a : Nat) (bs : List Byte) : (s.writeBytes a bs).log = s.log := rfl
@[simp] theorem State.writeBytes_evno (a : Nat) (bs : List Byte) : (s.writeBytes a bs).evno = s.evno := rfl
@[simp] theorem State.writeBytes_degraded (a : Nat) (bs : List Byte) : (s.writeBytes a bs).degraded = s.degraded := rfl
@[simp] theorem State.writeBytes_stamp (a : Nat) (bs : List Byte) : (s.writeBytes a bs).stamp = s.stamp := rfl

/-! ### zeroRange -/

@[simp] theorem State.zeroRange_pending (lo hi : Nat) : (s.zeroRange lo hi).pending = s.pending := rfl
@[simp] theorem State.zeroRange_fresh (lo hi : Nat) : (s.zeroRange lo hi).fresh = s.fresh := rfl
@[simp] theorem State.zeroRange_tx (lo hi : Nat) : (s.zeroRange lo hi).tx = s.tx := rfl
@[simp] theorem State.zeroRange_cores (lo hi : Nat) : (s.zeroRange lo hi).cores = s.cores := rfl
@[simp] theorem State.zeroRange_lagoons (lo hi : Nat) : (s.zeroRange lo hi).lagoons = s.lagoons := rfl
@[simp] theorem State.zeroRange_hbm (lo hi : Nat) : (s.zeroRange lo hi).hbm = s.hbm := rfl
@[simp] theorem State.zeroRange_wheels (lo hi : Nat) : (s.zeroRange lo hi).wheels = s.wheels := rfl
@[simp] theorem State.zeroRange_ddr (lo hi : Nat) : (s.zeroRange lo hi).ddr = s.ddr := rfl
@[simp] theorem State.zeroRange_regions (lo hi : Nat) : (s.zeroRange lo hi).regions = s.regions := rfl
@[simp] theorem State.zeroRange_phys (lo hi : Nat) : (s.zeroRange lo hi).phys = s.phys := rfl
@[simp] theorem State.zeroRange_straits (lo hi : Nat) : (s.zeroRange lo hi).straits = s.straits := rfl
@[simp] theorem State.zeroRange_causeway (lo hi : Nat) : (s.zeroRange lo hi).causeway = s.causeway := rfl
@[simp] theorem State.zeroRange_ferry (lo hi : Nat) : (s.zeroRange lo hi).ferry = s.ferry := rfl
@[simp] theorem State.zeroRange_fabric (lo hi : Nat) : (s.zeroRange lo hi).fabric = s.fabric := rfl
@[simp] theorem State.zeroRange_tide (lo hi : Nat) : (s.zeroRange lo hi).tide = s.tide := rfl
@[simp] theorem State.zeroRange_power (lo hi : Nat) : (s.zeroRange lo hi).power = s.power := rfl
@[simp] theorem State.zeroRange_straps (lo hi : Nat) : (s.zeroRange lo hi).straps = s.straps := rfl
@[simp] theorem State.zeroRange_sessions (lo hi : Nat) : (s.zeroRange lo hi).sessions = s.sessions := rfl
@[simp] theorem State.zeroRange_shakes (lo hi : Nat) : (s.zeroRange lo hi).shakes = s.shakes := rfl
@[simp] theorem State.zeroRange_lrs (lo hi : Nat) : (s.zeroRange lo hi).lrs = s.lrs := rfl
@[simp] theorem State.zeroRange_qps (lo hi : Nat) : (s.zeroRange lo hi).qps = s.qps := rfl
@[simp] theorem State.zeroRange_sinks (lo hi : Nat) : (s.zeroRange lo hi).sinks = s.sinks := rfl
@[simp] theorem State.zeroRange_libs (lo hi : Nat) : (s.zeroRange lo hi).libs = s.libs := rfl
@[simp] theorem State.zeroRange_builder (lo hi : Nat) : (s.zeroRange lo hi).builder = s.builder := rfl
@[simp] theorem State.zeroRange_runs (lo hi : Nat) : (s.zeroRange lo hi).runs = s.runs := rfl
@[simp] theorem State.zeroRange_port (lo hi : Nat) : (s.zeroRange lo hi).port = s.port := rfl
@[simp] theorem State.zeroRange_side (lo hi : Nat) : (s.zeroRange lo hi).side = s.side := rfl
@[simp] theorem State.zeroRange_keeper (lo hi : Nat) : (s.zeroRange lo hi).keeper = s.keeper := rfl
@[simp] theorem State.zeroRange_boot (lo hi : Nat) : (s.zeroRange lo hi).boot = s.boot := rfl
@[simp] theorem State.zeroRange_dbgs (lo hi : Nat) : (s.zeroRange lo hi).dbgs = s.dbgs := rfl
@[simp] theorem State.zeroRange_jtag (lo hi : Nat) : (s.zeroRange lo hi).jtag = s.jtag := rfl
@[simp] theorem State.zeroRange_rel (lo hi : Nat) : (s.zeroRange lo hi).rel = s.rel := rfl
@[simp] theorem State.zeroRange_log (lo hi : Nat) : (s.zeroRange lo hi).log = s.log := rfl
@[simp] theorem State.zeroRange_evno (lo hi : Nat) : (s.zeroRange lo hi).evno = s.evno := rfl
@[simp] theorem State.zeroRange_degraded (lo hi : Nat) : (s.zeroRange lo hi).degraded = s.degraded := rfl
@[simp] theorem State.zeroRange_stamp (lo hi : Nat) : (s.zeroRange lo hi).stamp = s.stamp := rfl

/-! ### clearStack -/

@[simp] theorem State.clearStack_pending (n : Nat) : (s.clearStack n).pending = s.pending := rfl
@[simp] theorem State.clearStack_fresh (n : Nat) : (s.clearStack n).fresh = s.fresh := rfl
@[simp] theorem State.clearStack_tx (n : Nat) : (s.clearStack n).tx = s.tx := rfl
@[simp] theorem State.clearStack_cores (n : Nat) : (s.clearStack n).cores = s.cores := rfl
@[simp] theorem State.clearStack_lagoons (n : Nat) : (s.clearStack n).lagoons = s.lagoons := rfl
@[simp] theorem State.clearStack_wheels (n : Nat) : (s.clearStack n).wheels = s.wheels := rfl
@[simp] theorem State.clearStack_ddr (n : Nat) : (s.clearStack n).ddr = s.ddr := rfl
@[simp] theorem State.clearStack_regions (n : Nat) : (s.clearStack n).regions = s.regions := rfl
@[simp] theorem State.clearStack_phys (n : Nat) : (s.clearStack n).phys = s.phys := rfl
@[simp] theorem State.clearStack_straits (n : Nat) : (s.clearStack n).straits = s.straits := rfl
@[simp] theorem State.clearStack_causeway (n : Nat) : (s.clearStack n).causeway = s.causeway := rfl
@[simp] theorem State.clearStack_ferry (n : Nat) : (s.clearStack n).ferry = s.ferry := rfl
@[simp] theorem State.clearStack_fabric (n : Nat) : (s.clearStack n).fabric = s.fabric := rfl
@[simp] theorem State.clearStack_tide (n : Nat) : (s.clearStack n).tide = s.tide := rfl
@[simp] theorem State.clearStack_power (n : Nat) : (s.clearStack n).power = s.power := rfl
@[simp] theorem State.clearStack_straps (n : Nat) : (s.clearStack n).straps = s.straps := rfl
@[simp] theorem State.clearStack_sessions (n : Nat) : (s.clearStack n).sessions = s.sessions := rfl
@[simp] theorem State.clearStack_shakes (n : Nat) : (s.clearStack n).shakes = s.shakes := rfl
@[simp] theorem State.clearStack_lrs (n : Nat) : (s.clearStack n).lrs = s.lrs := rfl
@[simp] theorem State.clearStack_qps (n : Nat) : (s.clearStack n).qps = s.qps := rfl
@[simp] theorem State.clearStack_sinks (n : Nat) : (s.clearStack n).sinks = s.sinks := rfl
@[simp] theorem State.clearStack_libs (n : Nat) : (s.clearStack n).libs = s.libs := rfl
@[simp] theorem State.clearStack_builder (n : Nat) : (s.clearStack n).builder = s.builder := rfl
@[simp] theorem State.clearStack_runs (n : Nat) : (s.clearStack n).runs = s.runs := rfl
@[simp] theorem State.clearStack_port (n : Nat) : (s.clearStack n).port = s.port := rfl
@[simp] theorem State.clearStack_side (n : Nat) : (s.clearStack n).side = s.side := rfl
@[simp] theorem State.clearStack_keeper (n : Nat) : (s.clearStack n).keeper = s.keeper := rfl
@[simp] theorem State.clearStack_boot (n : Nat) : (s.clearStack n).boot = s.boot := rfl
@[simp] theorem State.clearStack_dbgs (n : Nat) : (s.clearStack n).dbgs = s.dbgs := rfl
@[simp] theorem State.clearStack_jtag (n : Nat) : (s.clearStack n).jtag = s.jtag := rfl
@[simp] theorem State.clearStack_log (n : Nat) : (s.clearStack n).log = s.log := rfl
@[simp] theorem State.clearStack_evno (n : Nat) : (s.clearStack n).evno = s.evno := rfl
@[simp] theorem State.clearStack_degraded (n : Nat) : (s.clearStack n).degraded = s.degraded := rfl
@[simp] theorem State.clearStack_stamp (n : Nat) : (s.clearStack n).stamp = s.stamp := rfl

/-! ### clearChan -/

@[simp] theorem State.clearChan_pending (n : Nat) : (s.clearChan n).pending = s.pending := rfl
@[simp] theorem State.clearChan_fresh (n : Nat) : (s.clearChan n).fresh = s.fresh := rfl
@[simp] theorem State.clearChan_tx (n : Nat) : (s.clearChan n).tx = s.tx := rfl
@[simp] theorem State.clearChan_cores (n : Nat) : (s.clearChan n).cores = s.cores := rfl
@[simp] theorem State.clearChan_lagoons (n : Nat) : (s.clearChan n).lagoons = s.lagoons := rfl
@[simp] theorem State.clearChan_hbm (n : Nat) : (s.clearChan n).hbm = s.hbm := rfl
@[simp] theorem State.clearChan_wheels (n : Nat) : (s.clearChan n).wheels = s.wheels := rfl
@[simp] theorem State.clearChan_regions (n : Nat) : (s.clearChan n).regions = s.regions := rfl
@[simp] theorem State.clearChan_phys (n : Nat) : (s.clearChan n).phys = s.phys := rfl
@[simp] theorem State.clearChan_straits (n : Nat) : (s.clearChan n).straits = s.straits := rfl
@[simp] theorem State.clearChan_causeway (n : Nat) : (s.clearChan n).causeway = s.causeway := rfl
@[simp] theorem State.clearChan_ferry (n : Nat) : (s.clearChan n).ferry = s.ferry := rfl
@[simp] theorem State.clearChan_fabric (n : Nat) : (s.clearChan n).fabric = s.fabric := rfl
@[simp] theorem State.clearChan_tide (n : Nat) : (s.clearChan n).tide = s.tide := rfl
@[simp] theorem State.clearChan_power (n : Nat) : (s.clearChan n).power = s.power := rfl
@[simp] theorem State.clearChan_straps (n : Nat) : (s.clearChan n).straps = s.straps := rfl
@[simp] theorem State.clearChan_sessions (n : Nat) : (s.clearChan n).sessions = s.sessions := rfl
@[simp] theorem State.clearChan_shakes (n : Nat) : (s.clearChan n).shakes = s.shakes := rfl
@[simp] theorem State.clearChan_lrs (n : Nat) : (s.clearChan n).lrs = s.lrs := rfl
@[simp] theorem State.clearChan_qps (n : Nat) : (s.clearChan n).qps = s.qps := rfl
@[simp] theorem State.clearChan_sinks (n : Nat) : (s.clearChan n).sinks = s.sinks := rfl
@[simp] theorem State.clearChan_libs (n : Nat) : (s.clearChan n).libs = s.libs := rfl
@[simp] theorem State.clearChan_builder (n : Nat) : (s.clearChan n).builder = s.builder := rfl
@[simp] theorem State.clearChan_runs (n : Nat) : (s.clearChan n).runs = s.runs := rfl
@[simp] theorem State.clearChan_port (n : Nat) : (s.clearChan n).port = s.port := rfl
@[simp] theorem State.clearChan_side (n : Nat) : (s.clearChan n).side = s.side := rfl
@[simp] theorem State.clearChan_keeper (n : Nat) : (s.clearChan n).keeper = s.keeper := rfl
@[simp] theorem State.clearChan_boot (n : Nat) : (s.clearChan n).boot = s.boot := rfl
@[simp] theorem State.clearChan_dbgs (n : Nat) : (s.clearChan n).dbgs = s.dbgs := rfl
@[simp] theorem State.clearChan_jtag (n : Nat) : (s.clearChan n).jtag = s.jtag := rfl
@[simp] theorem State.clearChan_log (n : Nat) : (s.clearChan n).log = s.log := rfl
@[simp] theorem State.clearChan_evno (n : Nat) : (s.clearChan n).evno = s.evno := rfl
@[simp] theorem State.clearChan_degraded (n : Nat) : (s.clearChan n).degraded = s.degraded := rfl
@[simp] theorem State.clearChan_stamp (n : Nat) : (s.clearChan n).stamp = s.stamp := rfl

/-! ### setCounter -/

@[simp] theorem State.setCounter_pending (n v : Nat) : (s.setCounter n v).pending = s.pending := rfl
@[simp] theorem State.setCounter_fresh (n v : Nat) : (s.setCounter n v).fresh = s.fresh := rfl
@[simp] theorem State.setCounter_tx (n v : Nat) : (s.setCounter n v).tx = s.tx := rfl
@[simp] theorem State.setCounter_cores (n v : Nat) : (s.setCounter n v).cores = s.cores := rfl
@[simp] theorem State.setCounter_lagoons (n v : Nat) : (s.setCounter n v).lagoons = s.lagoons := rfl
@[simp] theorem State.setCounter_mem (n v : Nat) : (s.setCounter n v).mem = s.mem := rfl
@[simp] theorem State.setCounter_hbm (n v : Nat) : (s.setCounter n v).hbm = s.hbm := rfl
@[simp] theorem State.setCounter_wheels (n v : Nat) : (s.setCounter n v).wheels = s.wheels := rfl
@[simp] theorem State.setCounter_ddr (n v : Nat) : (s.setCounter n v).ddr = s.ddr := rfl
@[simp] theorem State.setCounter_regions (n v : Nat) : (s.setCounter n v).regions = s.regions := rfl
@[simp] theorem State.setCounter_phys (n v : Nat) : (s.setCounter n v).phys = s.phys := rfl
@[simp] theorem State.setCounter_straits (n v : Nat) : (s.setCounter n v).straits = s.straits := rfl
@[simp] theorem State.setCounter_causeway (n v : Nat) : (s.setCounter n v).causeway = s.causeway := rfl
@[simp] theorem State.setCounter_ferry (n v : Nat) : (s.setCounter n v).ferry = s.ferry := rfl
@[simp] theorem State.setCounter_fabric (n v : Nat) : (s.setCounter n v).fabric = s.fabric := rfl
@[simp] theorem State.setCounter_tide (n v : Nat) : (s.setCounter n v).tide = s.tide := rfl
@[simp] theorem State.setCounter_power (n v : Nat) : (s.setCounter n v).power = s.power := rfl
@[simp] theorem State.setCounter_straps (n v : Nat) : (s.setCounter n v).straps = s.straps := rfl
@[simp] theorem State.setCounter_sessions (n v : Nat) : (s.setCounter n v).sessions = s.sessions := rfl
@[simp] theorem State.setCounter_shakes (n v : Nat) : (s.setCounter n v).shakes = s.shakes := rfl
@[simp] theorem State.setCounter_lrs (n v : Nat) : (s.setCounter n v).lrs = s.lrs := rfl
@[simp] theorem State.setCounter_qps (n v : Nat) : (s.setCounter n v).qps = s.qps := rfl
@[simp] theorem State.setCounter_sinks (n v : Nat) : (s.setCounter n v).sinks = s.sinks := rfl
@[simp] theorem State.setCounter_libs (n v : Nat) : (s.setCounter n v).libs = s.libs := rfl
@[simp] theorem State.setCounter_builder (n v : Nat) : (s.setCounter n v).builder = s.builder := rfl
@[simp] theorem State.setCounter_runs (n v : Nat) : (s.setCounter n v).runs = s.runs := rfl
@[simp] theorem State.setCounter_port (n v : Nat) : (s.setCounter n v).port = s.port := rfl
@[simp] theorem State.setCounter_side (n v : Nat) : (s.setCounter n v).side = s.side := rfl
@[simp] theorem State.setCounter_boot (n v : Nat) : (s.setCounter n v).boot = s.boot := rfl
@[simp] theorem State.setCounter_dbgs (n v : Nat) : (s.setCounter n v).dbgs = s.dbgs := rfl
@[simp] theorem State.setCounter_jtag (n v : Nat) : (s.setCounter n v).jtag = s.jtag := rfl
@[simp] theorem State.setCounter_rel (n v : Nat) : (s.setCounter n v).rel = s.rel := rfl
@[simp] theorem State.setCounter_log (n v : Nat) : (s.setCounter n v).log = s.log := rfl
@[simp] theorem State.setCounter_evno (n v : Nat) : (s.setCounter n v).evno = s.evno := rfl
@[simp] theorem State.setCounter_degraded (n v : Nat) : (s.setCounter n v).degraded = s.degraded := rfl
@[simp] theorem State.setCounter_stamp (n v : Nat) : (s.setCounter n v).stamp = s.stamp := rfl

/-! ### setSession -/

@[simp] theorem State.setSession_pending (x : Session) : (s.setSession x).pending = s.pending := rfl
@[simp] theorem State.setSession_fresh (x : Session) : (s.setSession x).fresh = s.fresh := rfl
@[simp] theorem State.setSession_tx (x : Session) : (s.setSession x).tx = s.tx := rfl
@[simp] theorem State.setSession_cores (x : Session) : (s.setSession x).cores = s.cores := rfl
@[simp] theorem State.setSession_lagoons (x : Session) : (s.setSession x).lagoons = s.lagoons := rfl
@[simp] theorem State.setSession_mem (x : Session) : (s.setSession x).mem = s.mem := rfl
@[simp] theorem State.setSession_hbm (x : Session) : (s.setSession x).hbm = s.hbm := rfl
@[simp] theorem State.setSession_wheels (x : Session) : (s.setSession x).wheels = s.wheels := rfl
@[simp] theorem State.setSession_ddr (x : Session) : (s.setSession x).ddr = s.ddr := rfl
@[simp] theorem State.setSession_regions (x : Session) : (s.setSession x).regions = s.regions := rfl
@[simp] theorem State.setSession_phys (x : Session) : (s.setSession x).phys = s.phys := rfl
@[simp] theorem State.setSession_straits (x : Session) : (s.setSession x).straits = s.straits := rfl
@[simp] theorem State.setSession_causeway (x : Session) : (s.setSession x).causeway = s.causeway := rfl
@[simp] theorem State.setSession_ferry (x : Session) : (s.setSession x).ferry = s.ferry := rfl
@[simp] theorem State.setSession_fabric (x : Session) : (s.setSession x).fabric = s.fabric := rfl
@[simp] theorem State.setSession_tide (x : Session) : (s.setSession x).tide = s.tide := rfl
@[simp] theorem State.setSession_power (x : Session) : (s.setSession x).power = s.power := rfl
@[simp] theorem State.setSession_straps (x : Session) : (s.setSession x).straps = s.straps := rfl
@[simp] theorem State.setSession_shakes (x : Session) : (s.setSession x).shakes = s.shakes := rfl
@[simp] theorem State.setSession_lrs (x : Session) : (s.setSession x).lrs = s.lrs := rfl
@[simp] theorem State.setSession_qps (x : Session) : (s.setSession x).qps = s.qps := rfl
@[simp] theorem State.setSession_sinks (x : Session) : (s.setSession x).sinks = s.sinks := rfl
@[simp] theorem State.setSession_libs (x : Session) : (s.setSession x).libs = s.libs := rfl
@[simp] theorem State.setSession_builder (x : Session) : (s.setSession x).builder = s.builder := rfl
@[simp] theorem State.setSession_runs (x : Session) : (s.setSession x).runs = s.runs := rfl
@[simp] theorem State.setSession_port (x : Session) : (s.setSession x).port = s.port := rfl
@[simp] theorem State.setSession_side (x : Session) : (s.setSession x).side = s.side := rfl
@[simp] theorem State.setSession_keeper (x : Session) : (s.setSession x).keeper = s.keeper := rfl
@[simp] theorem State.setSession_boot (x : Session) : (s.setSession x).boot = s.boot := rfl
@[simp] theorem State.setSession_dbgs (x : Session) : (s.setSession x).dbgs = s.dbgs := rfl
@[simp] theorem State.setSession_jtag (x : Session) : (s.setSession x).jtag = s.jtag := rfl
@[simp] theorem State.setSession_rel (x : Session) : (s.setSession x).rel = s.rel := rfl
@[simp] theorem State.setSession_log (x : Session) : (s.setSession x).log = s.log := rfl
@[simp] theorem State.setSession_evno (x : Session) : (s.setSession x).evno = s.evno := rfl
@[simp] theorem State.setSession_degraded (x : Session) : (s.setSession x).degraded = s.degraded := rfl
@[simp] theorem State.setSession_stamp (x : Session) : (s.setSession x).stamp = s.stamp := rfl

/-! ### sendVia -/

@[simp] theorem State.sendVia_pending (e : Option Nat) (x : Outgoing) : (s.sendVia e x).pending = s.pending := rfl
@[simp] theorem State.sendVia_fresh (e : Option Nat) (x : Outgoing) : (s.sendVia e x).fresh = s.fresh := rfl
@[simp] theorem State.sendVia_cores (e : Option Nat) (x : Outgoing) : (s.sendVia e x).cores = s.cores := rfl
@[simp] theorem State.sendVia_lagoons (e : Option Nat) (x : Outgoing) : (s.sendVia e x).lagoons = s.lagoons := rfl
@[simp] theorem State.sendVia_mem (e : Option Nat) (x : Outgoing) : (s.sendVia e x).mem = s.mem := rfl
@[simp] theorem State.sendVia_hbm (e : Option Nat) (x : Outgoing) : (s.sendVia e x).hbm = s.hbm := rfl
@[simp] theorem State.sendVia_wheels (e : Option Nat) (x : Outgoing) : (s.sendVia e x).wheels = s.wheels := rfl
@[simp] theorem State.sendVia_ddr (e : Option Nat) (x : Outgoing) : (s.sendVia e x).ddr = s.ddr := rfl
@[simp] theorem State.sendVia_regions (e : Option Nat) (x : Outgoing) : (s.sendVia e x).regions = s.regions := rfl
@[simp] theorem State.sendVia_phys (e : Option Nat) (x : Outgoing) : (s.sendVia e x).phys = s.phys := rfl
@[simp] theorem State.sendVia_straits (e : Option Nat) (x : Outgoing) : (s.sendVia e x).straits = s.straits := rfl
@[simp] theorem State.sendVia_causeway (e : Option Nat) (x : Outgoing) : (s.sendVia e x).causeway = s.causeway := rfl
@[simp] theorem State.sendVia_ferry (e : Option Nat) (x : Outgoing) : (s.sendVia e x).ferry = s.ferry := rfl
@[simp] theorem State.sendVia_fabric (e : Option Nat) (x : Outgoing) : (s.sendVia e x).fabric = s.fabric := rfl
@[simp] theorem State.sendVia_tide (e : Option Nat) (x : Outgoing) : (s.sendVia e x).tide = s.tide := rfl
@[simp] theorem State.sendVia_power (e : Option Nat) (x : Outgoing) : (s.sendVia e x).power = s.power := rfl
@[simp] theorem State.sendVia_straps (e : Option Nat) (x : Outgoing) : (s.sendVia e x).straps = s.straps := rfl
@[simp] theorem State.sendVia_sessions (e : Option Nat) (x : Outgoing) : (s.sendVia e x).sessions = s.sessions := rfl
@[simp] theorem State.sendVia_shakes (e : Option Nat) (x : Outgoing) : (s.sendVia e x).shakes = s.shakes := rfl
@[simp] theorem State.sendVia_lrs (e : Option Nat) (x : Outgoing) : (s.sendVia e x).lrs = s.lrs := rfl
@[simp] theorem State.sendVia_qps (e : Option Nat) (x : Outgoing) : (s.sendVia e x).qps = s.qps := rfl
@[simp] theorem State.sendVia_sinks (e : Option Nat) (x : Outgoing) : (s.sendVia e x).sinks = s.sinks := rfl
@[simp] theorem State.sendVia_libs (e : Option Nat) (x : Outgoing) : (s.sendVia e x).libs = s.libs := rfl
@[simp] theorem State.sendVia_builder (e : Option Nat) (x : Outgoing) : (s.sendVia e x).builder = s.builder := rfl
@[simp] theorem State.sendVia_runs (e : Option Nat) (x : Outgoing) : (s.sendVia e x).runs = s.runs := rfl
@[simp] theorem State.sendVia_port (e : Option Nat) (x : Outgoing) : (s.sendVia e x).port = s.port := rfl
@[simp] theorem State.sendVia_side (e : Option Nat) (x : Outgoing) : (s.sendVia e x).side = s.side := rfl
@[simp] theorem State.sendVia_keeper (e : Option Nat) (x : Outgoing) : (s.sendVia e x).keeper = s.keeper := rfl
@[simp] theorem State.sendVia_boot (e : Option Nat) (x : Outgoing) : (s.sendVia e x).boot = s.boot := rfl
@[simp] theorem State.sendVia_dbgs (e : Option Nat) (x : Outgoing) : (s.sendVia e x).dbgs = s.dbgs := rfl
@[simp] theorem State.sendVia_jtag (e : Option Nat) (x : Outgoing) : (s.sendVia e x).jtag = s.jtag := rfl
@[simp] theorem State.sendVia_rel (e : Option Nat) (x : Outgoing) : (s.sendVia e x).rel = s.rel := rfl
@[simp] theorem State.sendVia_log (e : Option Nat) (x : Outgoing) : (s.sendVia e x).log = s.log := rfl
@[simp] theorem State.sendVia_evno (e : Option Nat) (x : Outgoing) : (s.sendVia e x).evno = s.evno := rfl
@[simp] theorem State.sendVia_degraded (e : Option Nat) (x : Outgoing) : (s.sendVia e x).degraded = s.degraded := rfl
@[simp] theorem State.sendVia_stamp (e : Option Nat) (x : Outgoing) : (s.sendVia e x).stamp = s.stamp := rfl

/-! ### send -/

@[simp] theorem State.send_pending (x : Outgoing) : (s.send x).pending = s.pending := rfl
@[simp] theorem State.send_fresh (x : Outgoing) : (s.send x).fresh = s.fresh := rfl
@[simp] theorem State.send_cores (x : Outgoing) : (s.send x).cores = s.cores := rfl
@[simp] theorem State.send_lagoons (x : Outgoing) : (s.send x).lagoons = s.lagoons := rfl
@[simp] theorem State.send_mem (x : Outgoing) : (s.send x).mem = s.mem := rfl
@[simp] theorem State.send_hbm (x : Outgoing) : (s.send x).hbm = s.hbm := rfl
@[simp] theorem State.send_wheels (x : Outgoing) : (s.send x).wheels = s.wheels := rfl
@[simp] theorem State.send_ddr (x : Outgoing) : (s.send x).ddr = s.ddr := rfl
@[simp] theorem State.send_regions (x : Outgoing) : (s.send x).regions = s.regions := rfl
@[simp] theorem State.send_phys (x : Outgoing) : (s.send x).phys = s.phys := rfl
@[simp] theorem State.send_straits (x : Outgoing) : (s.send x).straits = s.straits := rfl
@[simp] theorem State.send_causeway (x : Outgoing) : (s.send x).causeway = s.causeway := rfl
@[simp] theorem State.send_ferry (x : Outgoing) : (s.send x).ferry = s.ferry := rfl
@[simp] theorem State.send_fabric (x : Outgoing) : (s.send x).fabric = s.fabric := rfl
@[simp] theorem State.send_tide (x : Outgoing) : (s.send x).tide = s.tide := rfl
@[simp] theorem State.send_power (x : Outgoing) : (s.send x).power = s.power := rfl
@[simp] theorem State.send_straps (x : Outgoing) : (s.send x).straps = s.straps := rfl
@[simp] theorem State.send_sessions (x : Outgoing) : (s.send x).sessions = s.sessions := rfl
@[simp] theorem State.send_shakes (x : Outgoing) : (s.send x).shakes = s.shakes := rfl
@[simp] theorem State.send_lrs (x : Outgoing) : (s.send x).lrs = s.lrs := rfl
@[simp] theorem State.send_qps (x : Outgoing) : (s.send x).qps = s.qps := rfl
@[simp] theorem State.send_sinks (x : Outgoing) : (s.send x).sinks = s.sinks := rfl
@[simp] theorem State.send_libs (x : Outgoing) : (s.send x).libs = s.libs := rfl
@[simp] theorem State.send_builder (x : Outgoing) : (s.send x).builder = s.builder := rfl
@[simp] theorem State.send_runs (x : Outgoing) : (s.send x).runs = s.runs := rfl
@[simp] theorem State.send_port (x : Outgoing) : (s.send x).port = s.port := rfl
@[simp] theorem State.send_side (x : Outgoing) : (s.send x).side = s.side := rfl
@[simp] theorem State.send_keeper (x : Outgoing) : (s.send x).keeper = s.keeper := rfl
@[simp] theorem State.send_boot (x : Outgoing) : (s.send x).boot = s.boot := rfl
@[simp] theorem State.send_dbgs (x : Outgoing) : (s.send x).dbgs = s.dbgs := rfl
@[simp] theorem State.send_jtag (x : Outgoing) : (s.send x).jtag = s.jtag := rfl
@[simp] theorem State.send_rel (x : Outgoing) : (s.send x).rel = s.rel := rfl
@[simp] theorem State.send_log (x : Outgoing) : (s.send x).log = s.log := rfl
@[simp] theorem State.send_evno (x : Outgoing) : (s.send x).evno = s.evno := rfl
@[simp] theorem State.send_degraded (x : Outgoing) : (s.send x).degraded = s.degraded := rfl
@[simp] theorem State.send_stamp (x : Outgoing) : (s.send x).stamp = s.stamp := rfl

/-! ### progressed -/

@[simp] theorem State.progressed_pending (l : Nat) : (s.progressed l).pending = s.pending := rfl
@[simp] theorem State.progressed_fresh (l : Nat) : (s.progressed l).fresh = s.fresh := rfl
@[simp] theorem State.progressed_tx (l : Nat) : (s.progressed l).tx = s.tx := rfl
@[simp] theorem State.progressed_cores (l : Nat) : (s.progressed l).cores = s.cores := rfl
@[simp] theorem State.progressed_mem (l : Nat) : (s.progressed l).mem = s.mem := rfl
@[simp] theorem State.progressed_hbm (l : Nat) : (s.progressed l).hbm = s.hbm := rfl
@[simp] theorem State.progressed_wheels (l : Nat) : (s.progressed l).wheels = s.wheels := rfl
@[simp] theorem State.progressed_ddr (l : Nat) : (s.progressed l).ddr = s.ddr := rfl
@[simp] theorem State.progressed_regions (l : Nat) : (s.progressed l).regions = s.regions := rfl
@[simp] theorem State.progressed_phys (l : Nat) : (s.progressed l).phys = s.phys := rfl
@[simp] theorem State.progressed_straits (l : Nat) : (s.progressed l).straits = s.straits := rfl
@[simp] theorem State.progressed_causeway (l : Nat) : (s.progressed l).causeway = s.causeway := rfl
@[simp] theorem State.progressed_ferry (l : Nat) : (s.progressed l).ferry = s.ferry := rfl
@[simp] theorem State.progressed_fabric (l : Nat) : (s.progressed l).fabric = s.fabric := rfl
@[simp] theorem State.progressed_tide (l : Nat) : (s.progressed l).tide = s.tide := rfl
@[simp] theorem State.progressed_power (l : Nat) : (s.progressed l).power = s.power := rfl
@[simp] theorem State.progressed_straps (l : Nat) : (s.progressed l).straps = s.straps := rfl
@[simp] theorem State.progressed_sessions (l : Nat) : (s.progressed l).sessions = s.sessions := rfl
@[simp] theorem State.progressed_shakes (l : Nat) : (s.progressed l).shakes = s.shakes := rfl
@[simp] theorem State.progressed_lrs (l : Nat) : (s.progressed l).lrs = s.lrs := rfl
@[simp] theorem State.progressed_qps (l : Nat) : (s.progressed l).qps = s.qps := rfl
@[simp] theorem State.progressed_sinks (l : Nat) : (s.progressed l).sinks = s.sinks := rfl
@[simp] theorem State.progressed_libs (l : Nat) : (s.progressed l).libs = s.libs := rfl
@[simp] theorem State.progressed_builder (l : Nat) : (s.progressed l).builder = s.builder := rfl
@[simp] theorem State.progressed_runs (l : Nat) : (s.progressed l).runs = s.runs := rfl
@[simp] theorem State.progressed_port (l : Nat) : (s.progressed l).port = s.port := rfl
@[simp] theorem State.progressed_side (l : Nat) : (s.progressed l).side = s.side := rfl
@[simp] theorem State.progressed_keeper (l : Nat) : (s.progressed l).keeper = s.keeper := rfl
@[simp] theorem State.progressed_boot (l : Nat) : (s.progressed l).boot = s.boot := rfl
@[simp] theorem State.progressed_dbgs (l : Nat) : (s.progressed l).dbgs = s.dbgs := rfl
@[simp] theorem State.progressed_jtag (l : Nat) : (s.progressed l).jtag = s.jtag := rfl
@[simp] theorem State.progressed_rel (l : Nat) : (s.progressed l).rel = s.rel := rfl
@[simp] theorem State.progressed_log (l : Nat) : (s.progressed l).log = s.log := rfl
@[simp] theorem State.progressed_evno (l : Nat) : (s.progressed l).evno = s.evno := rfl
@[simp] theorem State.progressed_degraded (l : Nat) : (s.progressed l).degraded = s.degraded := rfl
@[simp] theorem State.progressed_stamp (l : Nat) : (s.progressed l).stamp = s.stamp := rfl

/-! ### withCore -/

@[simp] theorem State.withCore_pending (c : CoreId) (k : Core) : (s.withCore c k).pending = s.pending := rfl
@[simp] theorem State.withCore_fresh (c : CoreId) (k : Core) : (s.withCore c k).fresh = s.fresh := rfl
@[simp] theorem State.withCore_tx (c : CoreId) (k : Core) : (s.withCore c k).tx = s.tx := rfl
@[simp] theorem State.withCore_mem (c : CoreId) (k : Core) : (s.withCore c k).mem = s.mem := rfl
@[simp] theorem State.withCore_hbm (c : CoreId) (k : Core) : (s.withCore c k).hbm = s.hbm := rfl
@[simp] theorem State.withCore_wheels (c : CoreId) (k : Core) : (s.withCore c k).wheels = s.wheels := rfl
@[simp] theorem State.withCore_ddr (c : CoreId) (k : Core) : (s.withCore c k).ddr = s.ddr := rfl
@[simp] theorem State.withCore_regions (c : CoreId) (k : Core) : (s.withCore c k).regions = s.regions := rfl
@[simp] theorem State.withCore_phys (c : CoreId) (k : Core) : (s.withCore c k).phys = s.phys := rfl
@[simp] theorem State.withCore_straits (c : CoreId) (k : Core) : (s.withCore c k).straits = s.straits := rfl
@[simp] theorem State.withCore_causeway (c : CoreId) (k : Core) : (s.withCore c k).causeway = s.causeway := rfl
@[simp] theorem State.withCore_ferry (c : CoreId) (k : Core) : (s.withCore c k).ferry = s.ferry := rfl
@[simp] theorem State.withCore_fabric (c : CoreId) (k : Core) : (s.withCore c k).fabric = s.fabric := rfl
@[simp] theorem State.withCore_tide (c : CoreId) (k : Core) : (s.withCore c k).tide = s.tide := rfl
@[simp] theorem State.withCore_power (c : CoreId) (k : Core) : (s.withCore c k).power = s.power := rfl
@[simp] theorem State.withCore_straps (c : CoreId) (k : Core) : (s.withCore c k).straps = s.straps := rfl
@[simp] theorem State.withCore_sessions (c : CoreId) (k : Core) : (s.withCore c k).sessions = s.sessions := rfl
@[simp] theorem State.withCore_shakes (c : CoreId) (k : Core) : (s.withCore c k).shakes = s.shakes := rfl
@[simp] theorem State.withCore_lrs (c : CoreId) (k : Core) : (s.withCore c k).lrs = s.lrs := rfl
@[simp] theorem State.withCore_qps (c : CoreId) (k : Core) : (s.withCore c k).qps = s.qps := rfl
@[simp] theorem State.withCore_sinks (c : CoreId) (k : Core) : (s.withCore c k).sinks = s.sinks := rfl
@[simp] theorem State.withCore_libs (c : CoreId) (k : Core) : (s.withCore c k).libs = s.libs := rfl
@[simp] theorem State.withCore_builder (c : CoreId) (k : Core) : (s.withCore c k).builder = s.builder := rfl
@[simp] theorem State.withCore_runs (c : CoreId) (k : Core) : (s.withCore c k).runs = s.runs := rfl
@[simp] theorem State.withCore_port (c : CoreId) (k : Core) : (s.withCore c k).port = s.port := rfl
@[simp] theorem State.withCore_side (c : CoreId) (k : Core) : (s.withCore c k).side = s.side := rfl
@[simp] theorem State.withCore_keeper (c : CoreId) (k : Core) : (s.withCore c k).keeper = s.keeper := rfl
@[simp] theorem State.withCore_boot (c : CoreId) (k : Core) : (s.withCore c k).boot = s.boot := rfl
@[simp] theorem State.withCore_dbgs (c : CoreId) (k : Core) : (s.withCore c k).dbgs = s.dbgs := rfl
@[simp] theorem State.withCore_jtag (c : CoreId) (k : Core) : (s.withCore c k).jtag = s.jtag := rfl
@[simp] theorem State.withCore_rel (c : CoreId) (k : Core) : (s.withCore c k).rel = s.rel := rfl
@[simp] theorem State.withCore_log (c : CoreId) (k : Core) : (s.withCore c k).log = s.log := rfl
@[simp] theorem State.withCore_evno (c : CoreId) (k : Core) : (s.withCore c k).evno = s.evno := rfl
@[simp] theorem State.withCore_degraded (c : CoreId) (k : Core) : (s.withCore c k).degraded = s.degraded := rfl
@[simp] theorem State.withCore_stamp (c : CoreId) (k : Core) : (s.withCore c k).stamp = s.stamp := rfl

/-! ### setQp -/

@[simp] theorem State.setQp_pending (q : QPair) : (s.setQp q).pending = s.pending := rfl
@[simp] theorem State.setQp_fresh (q : QPair) : (s.setQp q).fresh = s.fresh := rfl
@[simp] theorem State.setQp_tx (q : QPair) : (s.setQp q).tx = s.tx := rfl
@[simp] theorem State.setQp_cores (q : QPair) : (s.setQp q).cores = s.cores := rfl
@[simp] theorem State.setQp_lagoons (q : QPair) : (s.setQp q).lagoons = s.lagoons := rfl
@[simp] theorem State.setQp_mem (q : QPair) : (s.setQp q).mem = s.mem := rfl
@[simp] theorem State.setQp_hbm (q : QPair) : (s.setQp q).hbm = s.hbm := rfl
@[simp] theorem State.setQp_wheels (q : QPair) : (s.setQp q).wheels = s.wheels := rfl
@[simp] theorem State.setQp_ddr (q : QPair) : (s.setQp q).ddr = s.ddr := rfl
@[simp] theorem State.setQp_regions (q : QPair) : (s.setQp q).regions = s.regions := rfl
@[simp] theorem State.setQp_phys (q : QPair) : (s.setQp q).phys = s.phys := rfl
@[simp] theorem State.setQp_straits (q : QPair) : (s.setQp q).straits = s.straits := rfl
@[simp] theorem State.setQp_causeway (q : QPair) : (s.setQp q).causeway = s.causeway := rfl
@[simp] theorem State.setQp_ferry (q : QPair) : (s.setQp q).ferry = s.ferry := rfl
@[simp] theorem State.setQp_fabric (q : QPair) : (s.setQp q).fabric = s.fabric := rfl
@[simp] theorem State.setQp_tide (q : QPair) : (s.setQp q).tide = s.tide := rfl
@[simp] theorem State.setQp_power (q : QPair) : (s.setQp q).power = s.power := rfl
@[simp] theorem State.setQp_straps (q : QPair) : (s.setQp q).straps = s.straps := rfl
@[simp] theorem State.setQp_sessions (q : QPair) : (s.setQp q).sessions = s.sessions := rfl
@[simp] theorem State.setQp_shakes (q : QPair) : (s.setQp q).shakes = s.shakes := rfl
@[simp] theorem State.setQp_lrs (q : QPair) : (s.setQp q).lrs = s.lrs := rfl
@[simp] theorem State.setQp_sinks (q : QPair) : (s.setQp q).sinks = s.sinks := rfl
@[simp] theorem State.setQp_libs (q : QPair) : (s.setQp q).libs = s.libs := rfl
@[simp] theorem State.setQp_builder (q : QPair) : (s.setQp q).builder = s.builder := rfl
@[simp] theorem State.setQp_runs (q : QPair) : (s.setQp q).runs = s.runs := rfl
@[simp] theorem State.setQp_port (q : QPair) : (s.setQp q).port = s.port := rfl
@[simp] theorem State.setQp_side (q : QPair) : (s.setQp q).side = s.side := rfl
@[simp] theorem State.setQp_keeper (q : QPair) : (s.setQp q).keeper = s.keeper := rfl
@[simp] theorem State.setQp_boot (q : QPair) : (s.setQp q).boot = s.boot := rfl
@[simp] theorem State.setQp_dbgs (q : QPair) : (s.setQp q).dbgs = s.dbgs := rfl
@[simp] theorem State.setQp_jtag (q : QPair) : (s.setQp q).jtag = s.jtag := rfl
@[simp] theorem State.setQp_rel (q : QPair) : (s.setQp q).rel = s.rel := rfl
@[simp] theorem State.setQp_log (q : QPair) : (s.setQp q).log = s.log := rfl
@[simp] theorem State.setQp_evno (q : QPair) : (s.setQp q).evno = s.evno := rfl
@[simp] theorem State.setQp_degraded (q : QPair) : (s.setQp q).degraded = s.degraded := rfl
@[simp] theorem State.setQp_stamp (q : QPair) : (s.setQp q).stamp = s.stamp := rfl

/-! ### setLr -/

@[simp] theorem State.setLr_pending (r : LandReg) : (s.setLr r).pending = s.pending := rfl
@[simp] theorem State.setLr_fresh (r : LandReg) : (s.setLr r).fresh = s.fresh := rfl
@[simp] theorem State.setLr_tx (r : LandReg) : (s.setLr r).tx = s.tx := rfl
@[simp] theorem State.setLr_cores (r : LandReg) : (s.setLr r).cores = s.cores := rfl
@[simp] theorem State.setLr_lagoons (r : LandReg) : (s.setLr r).lagoons = s.lagoons := rfl
@[simp] theorem State.setLr_mem (r : LandReg) : (s.setLr r).mem = s.mem := rfl
@[simp] theorem State.setLr_hbm (r : LandReg) : (s.setLr r).hbm = s.hbm := rfl
@[simp] theorem State.setLr_wheels (r : LandReg) : (s.setLr r).wheels = s.wheels := rfl
@[simp] theorem State.setLr_ddr (r : LandReg) : (s.setLr r).ddr = s.ddr := rfl
@[simp] theorem State.setLr_regions (r : LandReg) : (s.setLr r).regions = s.regions := rfl
@[simp] theorem State.setLr_phys (r : LandReg) : (s.setLr r).phys = s.phys := rfl
@[simp] theorem State.setLr_straits (r : LandReg) : (s.setLr r).straits = s.straits := rfl
@[simp] theorem State.setLr_causeway (r : LandReg) : (s.setLr r).causeway = s.causeway := rfl
@[simp] theorem State.setLr_ferry (r : LandReg) : (s.setLr r).ferry = s.ferry := rfl
@[simp] theorem State.setLr_fabric (r : LandReg) : (s.setLr r).fabric = s.fabric := rfl
@[simp] theorem State.setLr_tide (r : LandReg) : (s.setLr r).tide = s.tide := rfl
@[simp] theorem State.setLr_power (r : LandReg) : (s.setLr r).power = s.power := rfl
@[simp] theorem State.setLr_straps (r : LandReg) : (s.setLr r).straps = s.straps := rfl
@[simp] theorem State.setLr_sessions (r : LandReg) : (s.setLr r).sessions = s.sessions := rfl
@[simp] theorem State.setLr_shakes (r : LandReg) : (s.setLr r).shakes = s.shakes := rfl
@[simp] theorem State.setLr_qps (r : LandReg) : (s.setLr r).qps = s.qps := rfl
@[simp] theorem State.setLr_sinks (r : LandReg) : (s.setLr r).sinks = s.sinks := rfl
@[simp] theorem State.setLr_libs (r : LandReg) : (s.setLr r).libs = s.libs := rfl
@[simp] theorem State.setLr_builder (r : LandReg) : (s.setLr r).builder = s.builder := rfl
@[simp] theorem State.setLr_runs (r : LandReg) : (s.setLr r).runs = s.runs := rfl
@[simp] theorem State.setLr_port (r : LandReg) : (s.setLr r).port = s.port := rfl
@[simp] theorem State.setLr_side (r : LandReg) : (s.setLr r).side = s.side := rfl
@[simp] theorem State.setLr_keeper (r : LandReg) : (s.setLr r).keeper = s.keeper := rfl
@[simp] theorem State.setLr_boot (r : LandReg) : (s.setLr r).boot = s.boot := rfl
@[simp] theorem State.setLr_dbgs (r : LandReg) : (s.setLr r).dbgs = s.dbgs := rfl
@[simp] theorem State.setLr_jtag (r : LandReg) : (s.setLr r).jtag = s.jtag := rfl
@[simp] theorem State.setLr_rel (r : LandReg) : (s.setLr r).rel = s.rel := rfl
@[simp] theorem State.setLr_log (r : LandReg) : (s.setLr r).log = s.log := rfl
@[simp] theorem State.setLr_evno (r : LandReg) : (s.setLr r).evno = s.evno := rfl
@[simp] theorem State.setLr_degraded (r : LandReg) : (s.setLr r).degraded = s.degraded := rfl
@[simp] theorem State.setLr_stamp (r : LandReg) : (s.setLr r).stamp = s.stamp := rfl

/-! ### setSink -/

@[simp] theorem State.setSink_pending (k : Sink) : (s.setSink k).pending = s.pending := rfl
@[simp] theorem State.setSink_fresh (k : Sink) : (s.setSink k).fresh = s.fresh := rfl
@[simp] theorem State.setSink_tx (k : Sink) : (s.setSink k).tx = s.tx := rfl
@[simp] theorem State.setSink_cores (k : Sink) : (s.setSink k).cores = s.cores := rfl
@[simp] theorem State.setSink_lagoons (k : Sink) : (s.setSink k).lagoons = s.lagoons := rfl
@[simp] theorem State.setSink_mem (k : Sink) : (s.setSink k).mem = s.mem := rfl
@[simp] theorem State.setSink_hbm (k : Sink) : (s.setSink k).hbm = s.hbm := rfl
@[simp] theorem State.setSink_wheels (k : Sink) : (s.setSink k).wheels = s.wheels := rfl
@[simp] theorem State.setSink_ddr (k : Sink) : (s.setSink k).ddr = s.ddr := rfl
@[simp] theorem State.setSink_regions (k : Sink) : (s.setSink k).regions = s.regions := rfl
@[simp] theorem State.setSink_phys (k : Sink) : (s.setSink k).phys = s.phys := rfl
@[simp] theorem State.setSink_straits (k : Sink) : (s.setSink k).straits = s.straits := rfl
@[simp] theorem State.setSink_causeway (k : Sink) : (s.setSink k).causeway = s.causeway := rfl
@[simp] theorem State.setSink_ferry (k : Sink) : (s.setSink k).ferry = s.ferry := rfl
@[simp] theorem State.setSink_fabric (k : Sink) : (s.setSink k).fabric = s.fabric := rfl
@[simp] theorem State.setSink_tide (k : Sink) : (s.setSink k).tide = s.tide := rfl
@[simp] theorem State.setSink_power (k : Sink) : (s.setSink k).power = s.power := rfl
@[simp] theorem State.setSink_straps (k : Sink) : (s.setSink k).straps = s.straps := rfl
@[simp] theorem State.setSink_sessions (k : Sink) : (s.setSink k).sessions = s.sessions := rfl
@[simp] theorem State.setSink_shakes (k : Sink) : (s.setSink k).shakes = s.shakes := rfl
@[simp] theorem State.setSink_lrs (k : Sink) : (s.setSink k).lrs = s.lrs := rfl
@[simp] theorem State.setSink_qps (k : Sink) : (s.setSink k).qps = s.qps := rfl
@[simp] theorem State.setSink_libs (k : Sink) : (s.setSink k).libs = s.libs := rfl
@[simp] theorem State.setSink_builder (k : Sink) : (s.setSink k).builder = s.builder := rfl
@[simp] theorem State.setSink_runs (k : Sink) : (s.setSink k).runs = s.runs := rfl
@[simp] theorem State.setSink_port (k : Sink) : (s.setSink k).port = s.port := rfl
@[simp] theorem State.setSink_side (k : Sink) : (s.setSink k).side = s.side := rfl
@[simp] theorem State.setSink_keeper (k : Sink) : (s.setSink k).keeper = s.keeper := rfl
@[simp] theorem State.setSink_boot (k : Sink) : (s.setSink k).boot = s.boot := rfl
@[simp] theorem State.setSink_dbgs (k : Sink) : (s.setSink k).dbgs = s.dbgs := rfl
@[simp] theorem State.setSink_jtag (k : Sink) : (s.setSink k).jtag = s.jtag := rfl
@[simp] theorem State.setSink_rel (k : Sink) : (s.setSink k).rel = s.rel := rfl
@[simp] theorem State.setSink_log (k : Sink) : (s.setSink k).log = s.log := rfl
@[simp] theorem State.setSink_evno (k : Sink) : (s.setSink k).evno = s.evno := rfl
@[simp] theorem State.setSink_degraded (k : Sink) : (s.setSink k).degraded = s.degraded := rfl
@[simp] theorem State.setSink_stamp (k : Sink) : (s.setSink k).stamp = s.stamp := rfl

/-! ### Reads of the arrays -/

@[simp] theorem State.setLagoon_core (l : Nat) (x : Lagoon) (ix : CoreId) : (s.setLagoon l x).core ix = s.core ix := rfl
@[simp] theorem State.setStack_core (n : Nat) (x : Stack) (ix : CoreId) : (s.setStack n x).core ix = s.core ix := rfl
@[simp] theorem State.setWheel_core (n : Nat) (x : Wheel) (ix : CoreId) : (s.setWheel n x).core ix = s.core ix := rfl
@[simp] theorem State.setChannel_core (n : Nat) (x : Ddr) (ix : CoreId) : (s.setChannel n x).core ix = s.core ix := rfl
@[simp] theorem State.setRegion_core (n : Nat) (x : Region) (ix : CoreId) : (s.setRegion n x).core ix = s.core ix := rfl
@[simp] theorem State.setPhys_core (n : Nat) (x : Phys) (ix : CoreId) : (s.setPhys n x).core ix = s.core ix := rfl
@[simp] theorem State.writeByte_core (a : Nat) (b : Byte) (ix : CoreId) : (s.writeByte a b).core ix = s.core ix := rfl
@[simp] theorem State.writeBytes_core (a : Nat) (bs : List Byte) (ix : CoreId) : (s.writeBytes a bs).core ix = s.core ix := rfl
@[simp] theorem State.zeroRange_core (lo hi : Nat) (ix : CoreId) : (s.zeroRange lo hi).core ix = s.core ix := rfl
@[simp] theorem State.setCounter_core (n v : Nat) (ix : CoreId) : (s.setCounter n v).core ix = s.core ix := rfl
@[simp] theorem State.setSession_core (x : Session) (ix : CoreId) : (s.setSession x).core ix = s.core ix := rfl
@[simp] theorem State.sendVia_core (e : Option Nat) (x : Outgoing) (ix : CoreId) : (s.sendVia e x).core ix = s.core ix := rfl
@[simp] theorem State.send_core (x : Outgoing) (ix : CoreId) : (s.send x).core ix = s.core ix := rfl
@[simp] theorem State.progressed_core (l : Nat) (ix : CoreId) : (s.progressed l).core ix = s.core ix := rfl
@[simp] theorem State.setQp_core (q : QPair) (ix : CoreId) : (s.setQp q).core ix = s.core ix := rfl
@[simp] theorem State.setLr_core (r : LandReg) (ix : CoreId) : (s.setLr r).core ix = s.core ix := rfl
@[simp] theorem State.setSink_core (k : Sink) (ix : CoreId) : (s.setSink k).core ix = s.core ix := rfl
/-- A read of a core after a write of one: cores of virtual number below 512 lie apart. -/
theorem State.setCore_core (h : Sparse.wf Core.blank s.cores = true) (c d : CoreId) (k : Core) (hc : c.v < 512) (hd : d.v < 512) :
    (s.setCore c k).core d = if d = c then k else s.core d := by
  rw [State.core, State.setCore, Sparse.get_set _ _ _ h]
  by_cases e : d = c
  · simp [e]
  · have : 512 * d.lagoon + d.v ≠ 512 * c.lagoon + c.v := by
      intro hh; apply e; cases c; cases d; simp only [CoreId.mk.injEq] at *; omega
    simp [e, this, State.core]
@[simp] theorem State.setCore_lagoon (c : CoreId) (k : Core) (ix : Nat) : (s.setCore c k).lagoon ix = s.lagoon ix := rfl
@[simp] theorem State.setStack_lagoon (n : Nat) (x : Stack) (ix : Nat) : (s.setStack n x).lagoon ix = s.lagoon ix := rfl
@[simp] theorem State.setWheel_lagoon (n : Nat) (x : Wheel) (ix : Nat) : (s.setWheel n x).lagoon ix = s.lagoon ix := rfl
@[simp] theorem State.setChannel_lagoon (n : Nat) (x : Ddr) (ix : Nat) : (s.setChannel n x).lagoon ix = s.lagoon ix := rfl
@[simp] theorem State.setRegion_lagoon (n : Nat) (x : Region) (ix : Nat) : (s.setRegion n x).lagoon ix = s.lagoon ix := rfl
@[simp] theorem State.setPhys_lagoon (n : Nat) (x : Phys) (ix : Nat) : (s.setPhys n x).lagoon ix = s.lagoon ix := rfl
@[simp] theorem State.mapCores_lagoon (l : Nat) (f : Core → Core) (ix : Nat) : (s.mapCores l f).lagoon ix = s.lagoon ix := rfl
@[simp] theorem State.writeByte_lagoon (a : Nat) (b : Byte) (ix : Nat) : (s.writeByte a b).lagoon ix = s.lagoon ix := rfl
@[simp] theorem State.writeBytes_lagoon (a : Nat) (bs : List Byte) (ix : Nat) : (s.writeBytes a bs).lagoon ix = s.lagoon ix := rfl
@[simp] theorem State.zeroRange_lagoon (lo hi : Nat) (ix : Nat) : (s.zeroRange lo hi).lagoon ix = s.lagoon ix := rfl
@[simp] theorem State.setCounter_lagoon (n v : Nat) (ix : Nat) : (s.setCounter n v).lagoon ix = s.lagoon ix := rfl
@[simp] theorem State.setSession_lagoon (x : Session) (ix : Nat) : (s.setSession x).lagoon ix = s.lagoon ix := rfl
@[simp] theorem State.sendVia_lagoon (e : Option Nat) (x : Outgoing) (ix : Nat) : (s.sendVia e x).lagoon ix = s.lagoon ix := rfl
@[simp] theorem State.send_lagoon (x : Outgoing) (ix : Nat) : (s.send x).lagoon ix = s.lagoon ix := rfl
@[simp] theorem State.setQp_lagoon (q : QPair) (ix : Nat) : (s.setQp q).lagoon ix = s.lagoon ix := rfl
@[simp] theorem State.setLr_lagoon (r : LandReg) (ix : Nat) : (s.setLr r).lagoon ix = s.lagoon ix := rfl
@[simp] theorem State.setSink_lagoon (k : Sink) (ix : Nat) : (s.setSink k).lagoon ix = s.lagoon ix := rfl
/-- A read of the lagoon array after a write of it. -/
theorem State.setLagoon_lagoon (h : Sparse.wf Lagoon.blank s.lagoons = true) (i j : Nat) (x : Lagoon) :
    (s.setLagoon i x).lagoon j = if j = i then x else s.lagoon j := Sparse.get_set i j x h
@[simp] theorem State.setCore_stack (c : CoreId) (k : Core) (ix : Nat) : (s.setCore c k).stack ix = s.stack ix := rfl
@[simp] theorem State.setLagoon_stack (l : Nat) (x : Lagoon) (ix : Nat) : (s.setLagoon l x).stack ix = s.stack ix := rfl
@[simp] theorem State.setWheel_stack (n : Nat) (x : Wheel) (ix : Nat) : (s.setWheel n x).stack ix = s.stack ix := rfl
@[simp] theorem State.setChannel_stack (n : Nat) (x : Ddr) (ix : Nat) : (s.setChannel n x).stack ix = s.stack ix := rfl
@[simp] theorem State.setRegion_stack (n : Nat) (x : Region) (ix : Nat) : (s.setRegion n x).stack ix = s.stack ix := rfl
@[simp] theorem State.setPhys_stack (n : Nat) (x : Phys) (ix : Nat) : (s.setPhys n x).stack ix = s.stack ix := rfl
@[simp] theorem State.mapCores_stack (l : Nat) (f : Core → Core) (ix : Nat) : (s.mapCores l f).stack ix = s.stack ix := rfl
@[simp] theorem State.writeByte_stack (a : Nat) (b : Byte) (ix : Nat) : (s.writeByte a b).stack ix = s.stack ix := rfl
@[simp] theorem State.writeBytes_stack (a : Nat) (bs : List Byte) (ix : Nat) : (s.writeBytes a bs).stack ix = s.stack ix := rfl
@[simp] theorem State.zeroRange_stack (lo hi : Nat) (ix : Nat) : (s.zeroRange lo hi).stack ix = s.stack ix := rfl
@[simp] theorem State.setCounter_stack (n v : Nat) (ix : Nat) : (s.setCounter n v).stack ix = s.stack ix := rfl
@[simp] theorem State.setSession_stack (x : Session) (ix : Nat) : (s.setSession x).stack ix = s.stack ix := rfl
@[simp] theorem State.sendVia_stack (e : Option Nat) (x : Outgoing) (ix : Nat) : (s.sendVia e x).stack ix = s.stack ix := rfl
@[simp] theorem State.send_stack (x : Outgoing) (ix : Nat) : (s.send x).stack ix = s.stack ix := rfl
@[simp] theorem State.progressed_stack (l : Nat) (ix : Nat) : (s.progressed l).stack ix = s.stack ix := rfl
@[simp] theorem State.withCore_stack (c : CoreId) (k : Core) (ix : Nat) : (s.withCore c k).stack ix = s.stack ix := rfl
@[simp] theorem State.setQp_stack (q : QPair) (ix : Nat) : (s.setQp q).stack ix = s.stack ix := rfl
@[simp] theorem State.setLr_stack (r : LandReg) (ix : Nat) : (s.setLr r).stack ix = s.stack ix := rfl
@[simp] theorem State.setSink_stack (k : Sink) (ix : Nat) : (s.setSink k).stack ix = s.stack ix := rfl
/-- A read of the stack array after a write of it. -/
theorem State.setStack_stack (h : Sparse.wf Stack.blank s.hbm = true) (i j : Nat) (x : Stack) :
    (s.setStack i x).stack j = if j = i then x else s.stack j := Sparse.get_set i j x h
@[simp] theorem State.setCore_wheel (c : CoreId) (k : Core) (ix : Nat) : (s.setCore c k).wheel ix = s.wheel ix := rfl
@[simp] theorem State.setLagoon_wheel (l : Nat) (x : Lagoon) (ix : Nat) : (s.setLagoon l x).wheel ix = s.wheel ix := rfl
@[simp] theorem State.setStack_wheel (n : Nat) (x : Stack) (ix : Nat) : (s.setStack n x).wheel ix = s.wheel ix := rfl
@[simp] theorem State.setChannel_wheel (n : Nat) (x : Ddr) (ix : Nat) : (s.setChannel n x).wheel ix = s.wheel ix := rfl
@[simp] theorem State.setRegion_wheel (n : Nat) (x : Region) (ix : Nat) : (s.setRegion n x).wheel ix = s.wheel ix := rfl
@[simp] theorem State.setPhys_wheel (n : Nat) (x : Phys) (ix : Nat) : (s.setPhys n x).wheel ix = s.wheel ix := rfl
@[simp] theorem State.mapCores_wheel (l : Nat) (f : Core → Core) (ix : Nat) : (s.mapCores l f).wheel ix = s.wheel ix := rfl
@[simp] theorem State.writeByte_wheel (a : Nat) (b : Byte) (ix : Nat) : (s.writeByte a b).wheel ix = s.wheel ix := rfl
@[simp] theorem State.writeBytes_wheel (a : Nat) (bs : List Byte) (ix : Nat) : (s.writeBytes a bs).wheel ix = s.wheel ix := rfl
@[simp] theorem State.zeroRange_wheel (lo hi : Nat) (ix : Nat) : (s.zeroRange lo hi).wheel ix = s.wheel ix := rfl
@[simp] theorem State.setCounter_wheel (n v : Nat) (ix : Nat) : (s.setCounter n v).wheel ix = s.wheel ix := rfl
@[simp] theorem State.setSession_wheel (x : Session) (ix : Nat) : (s.setSession x).wheel ix = s.wheel ix := rfl
@[simp] theorem State.sendVia_wheel (e : Option Nat) (x : Outgoing) (ix : Nat) : (s.sendVia e x).wheel ix = s.wheel ix := rfl
@[simp] theorem State.send_wheel (x : Outgoing) (ix : Nat) : (s.send x).wheel ix = s.wheel ix := rfl
@[simp] theorem State.progressed_wheel (l : Nat) (ix : Nat) : (s.progressed l).wheel ix = s.wheel ix := rfl
@[simp] theorem State.withCore_wheel (c : CoreId) (k : Core) (ix : Nat) : (s.withCore c k).wheel ix = s.wheel ix := rfl
@[simp] theorem State.setQp_wheel (q : QPair) (ix : Nat) : (s.setQp q).wheel ix = s.wheel ix := rfl
@[simp] theorem State.setLr_wheel (r : LandReg) (ix : Nat) : (s.setLr r).wheel ix = s.wheel ix := rfl
@[simp] theorem State.setSink_wheel (k : Sink) (ix : Nat) : (s.setSink k).wheel ix = s.wheel ix := rfl
/-- A read of the wheel array after a write of it. -/
theorem State.setWheel_wheel (h : Sparse.wf Wheel.blank s.wheels = true) (i j : Nat) (x : Wheel) :
    (s.setWheel i x).wheel j = if j = i then x else s.wheel j := Sparse.get_set i j x h
@[simp] theorem State.setCore_channel (c : CoreId) (k : Core) (ix : Nat) : (s.setCore c k).channel ix = s.channel ix := rfl
@[simp] theorem State.setLagoon_channel (l : Nat) (x : Lagoon) (ix : Nat) : (s.setLagoon l x).channel ix = s.channel ix := rfl
@[simp] theorem State.setStack_channel (n : Nat) (x : Stack) (ix : Nat) : (s.setStack n x).channel ix = s.channel ix := rfl
@[simp] theorem State.setWheel_channel (n : Nat) (x : Wheel) (ix : Nat) : (s.setWheel n x).channel ix = s.channel ix := rfl
@[simp] theorem State.setRegion_channel (n : Nat) (x : Region) (ix : Nat) : (s.setRegion n x).channel ix = s.channel ix := rfl
@[simp] theorem State.setPhys_channel (n : Nat) (x : Phys) (ix : Nat) : (s.setPhys n x).channel ix = s.channel ix := rfl
@[simp] theorem State.mapCores_channel (l : Nat) (f : Core → Core) (ix : Nat) : (s.mapCores l f).channel ix = s.channel ix := rfl
@[simp] theorem State.writeByte_channel (a : Nat) (b : Byte) (ix : Nat) : (s.writeByte a b).channel ix = s.channel ix := rfl
@[simp] theorem State.writeBytes_channel (a : Nat) (bs : List Byte) (ix : Nat) : (s.writeBytes a bs).channel ix = s.channel ix := rfl
@[simp] theorem State.zeroRange_channel (lo hi : Nat) (ix : Nat) : (s.zeroRange lo hi).channel ix = s.channel ix := rfl
@[simp] theorem State.setCounter_channel (n v : Nat) (ix : Nat) : (s.setCounter n v).channel ix = s.channel ix := rfl
@[simp] theorem State.setSession_channel (x : Session) (ix : Nat) : (s.setSession x).channel ix = s.channel ix := rfl
@[simp] theorem State.sendVia_channel (e : Option Nat) (x : Outgoing) (ix : Nat) : (s.sendVia e x).channel ix = s.channel ix := rfl
@[simp] theorem State.send_channel (x : Outgoing) (ix : Nat) : (s.send x).channel ix = s.channel ix := rfl
@[simp] theorem State.progressed_channel (l : Nat) (ix : Nat) : (s.progressed l).channel ix = s.channel ix := rfl
@[simp] theorem State.withCore_channel (c : CoreId) (k : Core) (ix : Nat) : (s.withCore c k).channel ix = s.channel ix := rfl
@[simp] theorem State.setQp_channel (q : QPair) (ix : Nat) : (s.setQp q).channel ix = s.channel ix := rfl
@[simp] theorem State.setLr_channel (r : LandReg) (ix : Nat) : (s.setLr r).channel ix = s.channel ix := rfl
@[simp] theorem State.setSink_channel (k : Sink) (ix : Nat) : (s.setSink k).channel ix = s.channel ix := rfl
/-- A read of the channel array after a write of it. -/
theorem State.setChannel_channel (h : Sparse.wf Ddr.blank s.ddr = true) (i j : Nat) (x : Ddr) :
    (s.setChannel i x).channel j = if j = i then x else s.channel j := Sparse.get_set i j x h
@[simp] theorem State.setCore_region (c : CoreId) (k : Core) (ix : Nat) : (s.setCore c k).region ix = s.region ix := rfl
@[simp] theorem State.setLagoon_region (l : Nat) (x : Lagoon) (ix : Nat) : (s.setLagoon l x).region ix = s.region ix := rfl
@[simp] theorem State.setStack_region (n : Nat) (x : Stack) (ix : Nat) : (s.setStack n x).region ix = s.region ix := rfl
@[simp] theorem State.setWheel_region (n : Nat) (x : Wheel) (ix : Nat) : (s.setWheel n x).region ix = s.region ix := rfl
@[simp] theorem State.setChannel_region (n : Nat) (x : Ddr) (ix : Nat) : (s.setChannel n x).region ix = s.region ix := rfl
@[simp] theorem State.setPhys_region (n : Nat) (x : Phys) (ix : Nat) : (s.setPhys n x).region ix = s.region ix := rfl
@[simp] theorem State.mapCores_region (l : Nat) (f : Core → Core) (ix : Nat) : (s.mapCores l f).region ix = s.region ix := rfl
@[simp] theorem State.writeByte_region (a : Nat) (b : Byte) (ix : Nat) : (s.writeByte a b).region ix = s.region ix := rfl
@[simp] theorem State.writeBytes_region (a : Nat) (bs : List Byte) (ix : Nat) : (s.writeBytes a bs).region ix = s.region ix := rfl
@[simp] theorem State.zeroRange_region (lo hi : Nat) (ix : Nat) : (s.zeroRange lo hi).region ix = s.region ix := rfl
@[simp] theorem State.setCounter_region (n v : Nat) (ix : Nat) : (s.setCounter n v).region ix = s.region ix := rfl
@[simp] theorem State.setSession_region (x : Session) (ix : Nat) : (s.setSession x).region ix = s.region ix := rfl
@[simp] theorem State.sendVia_region (e : Option Nat) (x : Outgoing) (ix : Nat) : (s.sendVia e x).region ix = s.region ix := rfl
@[simp] theorem State.send_region (x : Outgoing) (ix : Nat) : (s.send x).region ix = s.region ix := rfl
@[simp] theorem State.progressed_region (l : Nat) (ix : Nat) : (s.progressed l).region ix = s.region ix := rfl
@[simp] theorem State.withCore_region (c : CoreId) (k : Core) (ix : Nat) : (s.withCore c k).region ix = s.region ix := rfl
@[simp] theorem State.setQp_region (q : QPair) (ix : Nat) : (s.setQp q).region ix = s.region ix := rfl
@[simp] theorem State.setLr_region (r : LandReg) (ix : Nat) : (s.setLr r).region ix = s.region ix := rfl
@[simp] theorem State.setSink_region (k : Sink) (ix : Nat) : (s.setSink k).region ix = s.region ix := rfl
/-- A read of the region array after a write of it. -/
theorem State.setRegion_region (h : Sparse.wf Region.blank s.regions = true) (i j : Nat) (x : Region) :
    (s.setRegion i x).region j = if j = i then x else s.region j := Sparse.get_set i j x h
@[simp] theorem State.setCore_physCore (c : CoreId) (k : Core) (ix : Nat) : (s.setCore c k).physCore ix = s.physCore ix := rfl
@[simp] theorem State.setLagoon_physCore (l : Nat) (x : Lagoon) (ix : Nat) : (s.setLagoon l x).physCore ix = s.physCore ix := rfl
@[simp] theorem State.setStack_physCore (n : Nat) (x : Stack) (ix : Nat) : (s.setStack n x).physCore ix = s.physCore ix := rfl
@[simp] theorem State.setWheel_physCore (n : Nat) (x : Wheel) (ix : Nat) : (s.setWheel n x).physCore ix = s.physCore ix := rfl
@[simp] theorem State.setChannel_physCore (n : Nat) (x : Ddr) (ix : Nat) : (s.setChannel n x).physCore ix = s.physCore ix := rfl
@[simp] theorem State.setRegion_physCore (n : Nat) (x : Region) (ix : Nat) : (s.setRegion n x).physCore ix = s.physCore ix := rfl
@[simp] theorem State.mapCores_physCore (l : Nat) (f : Core → Core) (ix : Nat) : (s.mapCores l f).physCore ix = s.physCore ix := rfl
@[simp] theorem State.writeByte_physCore (a : Nat) (b : Byte) (ix : Nat) : (s.writeByte a b).physCore ix = s.physCore ix := rfl
@[simp] theorem State.writeBytes_physCore (a : Nat) (bs : List Byte) (ix : Nat) : (s.writeBytes a bs).physCore ix = s.physCore ix := rfl
@[simp] theorem State.zeroRange_physCore (lo hi : Nat) (ix : Nat) : (s.zeroRange lo hi).physCore ix = s.physCore ix := rfl
@[simp] theorem State.setCounter_physCore (n v : Nat) (ix : Nat) : (s.setCounter n v).physCore ix = s.physCore ix := rfl
@[simp] theorem State.setSession_physCore (x : Session) (ix : Nat) : (s.setSession x).physCore ix = s.physCore ix := rfl
@[simp] theorem State.sendVia_physCore (e : Option Nat) (x : Outgoing) (ix : Nat) : (s.sendVia e x).physCore ix = s.physCore ix := rfl
@[simp] theorem State.send_physCore (x : Outgoing) (ix : Nat) : (s.send x).physCore ix = s.physCore ix := rfl
@[simp] theorem State.progressed_physCore (l : Nat) (ix : Nat) : (s.progressed l).physCore ix = s.physCore ix := rfl
@[simp] theorem State.withCore_physCore (c : CoreId) (k : Core) (ix : Nat) : (s.withCore c k).physCore ix = s.physCore ix := rfl
@[simp] theorem State.setQp_physCore (q : QPair) (ix : Nat) : (s.setQp q).physCore ix = s.physCore ix := rfl
@[simp] theorem State.setLr_physCore (r : LandReg) (ix : Nat) : (s.setLr r).physCore ix = s.physCore ix := rfl
@[simp] theorem State.setSink_physCore (k : Sink) (ix : Nat) : (s.setSink k).physCore ix = s.physCore ix := rfl
/-- A read of the physCore array after a write of it. -/
theorem State.setPhys_physCore (h : Sparse.wf Phys.blank s.phys = true) (i j : Nat) (x : Phys) :
    (s.setPhys i x).physCore j = if j = i then x else s.physCore j := Sparse.get_set i j x h
@[simp] theorem State.setCore_readByte (c : CoreId) (k : Core) (a : Nat) : (s.setCore c k).readByte a = s.readByte a := rfl
@[simp] theorem State.setLagoon_readByte (l : Nat) (x : Lagoon) (a : Nat) : (s.setLagoon l x).readByte a = s.readByte a := rfl
@[simp] theorem State.setStack_readByte (n : Nat) (x : Stack) (a : Nat) : (s.setStack n x).readByte a = s.readByte a := rfl
@[simp] theorem State.setWheel_readByte (n : Nat) (x : Wheel) (a : Nat) : (s.setWheel n x).readByte a = s.readByte a := rfl
@[simp] theorem State.setChannel_readByte (n : Nat) (x : Ddr) (a : Nat) : (s.setChannel n x).readByte a = s.readByte a := rfl
@[simp] theorem State.setRegion_readByte (n : Nat) (x : Region) (a : Nat) : (s.setRegion n x).readByte a = s.readByte a := rfl
@[simp] theorem State.setPhys_readByte (n : Nat) (x : Phys) (a : Nat) : (s.setPhys n x).readByte a = s.readByte a := rfl
@[simp] theorem State.mapCores_readByte (l : Nat) (f : Core → Core) (a : Nat) : (s.mapCores l f).readByte a = s.readByte a := rfl
@[simp] theorem State.setCounter_readByte (n v : Nat) (a : Nat) : (s.setCounter n v).readByte a = s.readByte a := rfl
@[simp] theorem State.setSession_readByte (x : Session) (a : Nat) : (s.setSession x).readByte a = s.readByte a := rfl
@[simp] theorem State.sendVia_readByte (e : Option Nat) (x : Outgoing) (a : Nat) : (s.sendVia e x).readByte a = s.readByte a := rfl
@[simp] theorem State.send_readByte (x : Outgoing) (a : Nat) : (s.send x).readByte a = s.readByte a := rfl
@[simp] theorem State.progressed_readByte (l : Nat) (a : Nat) : (s.progressed l).readByte a = s.readByte a := rfl
@[simp] theorem State.withCore_readByte (c : CoreId) (k : Core) (a : Nat) : (s.withCore c k).readByte a = s.readByte a := rfl
@[simp] theorem State.setQp_readByte (q : QPair) (a : Nat) : (s.setQp q).readByte a = s.readByte a := rfl
@[simp] theorem State.setLr_readByte (r : LandReg) (a : Nat) : (s.setLr r).readByte a = s.readByte a := rfl
@[simp] theorem State.setSink_readByte (k : Sink) (a : Nat) : (s.setSink k).readByte a = s.readByte a := rfl

end Sys2Proof.Machine
end

