-- ==== Sys2Proof/Laws/Ops.lean ====
section
/-! SUPPORT. What the shared operations of Machine/Ops.lean can do: which fields events, answers, changes of a lagoon's state and
the ends of runs leave alone, and what they give where they act. -/

namespace Sys2Proof.Machine

/-- A fold of steps that each keep what `g` sees keeps it. -/
theorem foldl_keeps {α β : Type} {f : State → α → State} (g : State → β) (h : ∀ s a, g (f s a) = g s) (l : List α) (s : State) :
    g (l.foldl f s) = g s := by
  induction l generalizing s with
  | nil => rfl
  | cons a l ih => rw [List.foldl_cons, ih, h]

/-- A fold of steps that each keep a property keeps it. -/
theorem foldl_inv {α : Type} {f : State → α → State} {P : State → Prop} (h : ∀ s a, P s → P (f s a)) (l : List α) (s : State)
    (hs : P s) : P (l.foldl f s) := by
  induction l generalizing s with
  | nil => exact hs
  | cons a l ih => exact ih _ (h _ _ hs)

/-- A notice changes only what a session has been sent: whatever sees neither sessions nor the transmitter is kept. -/
theorem notify_keeps {β : Type} (g : State → β) (h : ∀ s l (x : List TxItem), g { s with sessions := l, tx := x } = g s)
    (e : EventRec) (s : State) (x : Session) : g (notify e s x) = g s := by
  unfold notify
  simp only
  generalize hb : (bit x.groups (e.code / 4096) && _) = b
  cases b with
  | true => exact h s _ _
  | false => rfl

/-- Raising an event is kept from whatever sees neither its number, the logs, sessions nor the transmitter. -/
theorem State.raise_keeps {β : Type} (g : State → β)
    (h : ∀ (s : State) n l r x y, g { s with evno := n, log := l, rel := r, sessions := x, tx := y } = g s)
    (s : State) (code kind arg ploc : Nat) (lag vc : Option Nat) : g (s.raise code kind arg ploc lag vc) = g s := by
  unfold State.raise
  rw [foldl_keeps g (fun s a => notify_keeps g (fun s l x => h s s.evno s.log s.rel l x) _ s a)]
  split
  · exact h s _ _ _ s.sessions _
  · exact h s _ _ _ s.sessions s.tx

/-- An answer is kept from whatever sees neither sessions nor the transmitter. -/
theorem State.answer_keeps {β : Type} (g : State → β) (h : ∀ s l (x : List TxItem), g { s with sessions := l, tx := x } = g s)
    (s : State) (r : Ref) (st d e : Nat) (res : List Byte) : g (s.answer r st d e res) = g s := by
  unfold State.answer State.giveReply
  split
  · rfl
  · split
    · rfl
    · exact h s _ _

theorem State.answerOpt_keeps {β : Type} (g : State → β) (h : ∀ s l (x : List TxItem), g { s with sessions := l, tx := x } = g s)
    (s : State) (r : Option Ref) (st d e : Nat) (res : List Byte) : g (s.answerOpt r st d e res) = g s := by
  cases r with
  | none => rfl
  | some r => exact State.answer_keeps g h s r st d e res

/-- Dropping pending launches is kept from whatever sees neither lagoons, sessions nor the transmitter. -/
theorem State.dropLaunches_keeps {β : Type} (g : State → β) (h : ∀ s l (x : List TxItem), g { s with sessions := l, tx := x } = g s)
    (h2 : ∀ (s : State) x, g { s with lagoons := x } = g s) (s : State) (l : Nat) (st : LState) : g (s.dropLaunches l st) = g s := by
  unfold State.dropLaunches
  rw [foldl_keeps g (fun s p => State.answerOpt_keeps g h s _ _ _ _ _)]
  exact h2 s _

/-- Moving a lagoon is kept from whatever sees neither lagoons, events, sessions nor the transmitter. -/
theorem State.moveLagoon_keeps {β : Type} (g : State → β)
    (h : ∀ (s : State) n l r x y, g { s with evno := n, log := l, rel := r, sessions := x, tx := y } = g s)
    (h2 : ∀ (s : State) x, g { s with lagoons := x } = g s) (s : State) (l : Nat) (st : LState) : g (s.moveLagoon l st) = g s := by
  have ha : ∀ (s : State) l (x : List TxItem), g { s with sessions := l, tx := x } = g s := fun s l x => h s s.evno s.log s.rel l x
  unfold State.moveLagoon
  simp only
  split
  · rfl
  · rw [State.dropLaunches_keeps g ha h2, State.raise_keeps g h]; exact h2 s _

/-! ### raise -/

section raise

variable (s : State) (code kind arg ploc : Nat) (lag vc : Option Nat)

@[simp] theorem State.raise_pending : (s.raise code kind arg ploc lag vc).pending = s.pending := State.raise_keeps (fun s => s.pending) (fun _ _ _ _ _ _ => rfl) s code kind arg ploc lag vc
@[simp] theorem State.raise_fresh : (s.raise code kind arg ploc lag vc).fresh = s.fresh := State.raise_keeps (fun s => s.fresh) (fun _ _ _ _ _ _ => rfl) s code kind arg ploc lag vc
@[simp] theorem State.raise_cores : (s.raise code kind arg ploc lag vc).cores = s.cores := State.raise_keeps (fun s => s.cores) (fun _ _ _ _ _ _ => rfl) s code kind arg ploc lag vc
@[simp] theorem State.raise_lagoons : (s.raise code kind arg ploc lag vc).lagoons = s.lagoons := State.raise_keeps (fun s => s.lagoons) (fun _ _ _ _ _ _ => rfl) s code kind arg ploc lag vc
@[simp] theorem State.raise_mem : (s.raise code kind arg ploc lag vc).mem = s.mem := State.raise_keeps (fun s => s.mem) (fun _ _ _ _ _ _ => rfl) s code kind arg ploc lag vc
@[simp] theorem State.raise_hbm : (s.raise code kind arg ploc lag vc).hbm = s.hbm := State.raise_keeps (fun s => s.hbm) (fun _ _ _ _ _ _ => rfl) s code kind arg ploc lag vc
@[simp] theorem State.raise_wheels : (s.raise code kind arg ploc lag vc).wheels = s.wheels := State.raise_keeps (fun s => s.wheels) (fun _ _ _ _ _ _ => rfl) s code kind arg ploc lag vc
@[simp] theorem State.raise_ddr : (s.raise code kind arg ploc lag vc).ddr = s.ddr := State.raise_keeps (fun s => s.ddr) (fun _ _ _ _ _ _ => rfl) s code kind arg ploc lag vc
@[simp] theorem State.raise_regions : (s.raise code kind arg ploc lag vc).regions = s.regions := State.raise_keeps (fun s => s.regions) (fun _ _ _ _ _ _ => rfl) s code kind arg ploc lag vc
@[simp] theorem State.raise_phys : (s.raise code kind arg ploc lag vc).phys = s.phys := State.raise_keeps (fun s => s.phys) (fun _ _ _ _ _ _ => rfl) s code kind arg ploc lag vc
@[simp] theorem State.raise_straits : (s.raise code kind arg ploc lag vc).straits = s.straits := State.raise_keeps (fun s => s.straits) (fun _ _ _ _ _ _ => rfl) s code kind arg ploc lag vc
@[simp] theorem State.raise_causeway : (s.raise code kind arg ploc lag vc).causeway = s.causeway := State.raise_keeps (fun s => s.causeway) (fun _ _ _ _ _ _ => rfl) s code kind arg ploc lag vc
@[simp] theorem State.raise_ferry : (s.raise code kind arg ploc lag vc).ferry = s.ferry := State.raise_keeps (fun s => s.ferry) (fun _ _ _ _ _ _ => rfl) s code kind arg ploc lag vc
@[simp] theorem State.raise_fabric : (s.raise code kind arg ploc lag vc).fabric = s.fabric := State.raise_keeps (fun s => s.fabric) (fun _ _ _ _ _ _ => rfl) s code kind arg ploc lag vc
@[simp] theorem State.raise_tide : (s.raise code kind arg ploc lag vc).tide = s.tide := State.raise_keeps (fun s => s.tide) (fun _ _ _ _ _ _ => rfl) s code kind arg ploc lag vc
@[simp] theorem State.raise_power : (s.raise code kind arg ploc lag vc).power = s.power := State.raise_keeps (fun s => s.power) (fun _ _ _ _ _ _ => rfl) s code kind arg ploc lag vc
@[simp] theorem State.raise_straps : (s.raise code kind arg ploc lag vc).straps = s.straps := State.raise_keeps (fun s => s.straps) (fun _ _ _ _ _ _ => rfl) s code kind arg ploc lag vc
@[simp] theorem State.raise_shakes : (s.raise code kind arg ploc lag vc).shakes = s.shakes := State.raise_keeps (fun s => s.shakes) (fun _ _ _ _ _ _ => rfl) s code kind arg ploc lag vc
@[simp] theorem State.raise_lrs : (s.raise code kind arg ploc lag vc).lrs = s.lrs := State.raise_keeps (fun s => s.lrs) (fun _ _ _ _ _ _ => rfl) s code kind arg ploc lag vc
@[simp] theorem State.raise_qps : (s.raise code kind arg ploc lag vc).qps = s.qps := State.raise_keeps (fun s => s.qps) (fun _ _ _ _ _ _ => rfl) s code kind arg ploc lag vc
@[simp] theorem State.raise_sinks : (s.raise code kind arg ploc lag vc).sinks = s.sinks := State.raise_keeps (fun s => s.sinks) (fun _ _ _ _ _ _ => rfl) s code kind arg ploc lag vc
@[simp] theorem State.raise_libs : (s.raise code kind arg ploc lag vc).libs = s.libs := State.raise_keeps (fun s => s.libs) (fun _ _ _ _ _ _ => rfl) s code kind arg ploc lag vc
@[simp] theorem State.raise_builder : (s.raise code kind arg ploc lag vc).builder = s.builder := State.raise_keeps (fun s => s.builder) (fun _ _ _ _ _ _ => rfl) s code kind arg ploc lag vc
@[simp] theorem State.raise_runs : (s.raise code kind arg ploc lag vc).runs = s.runs := State.raise_keeps (fun s => s.runs) (fun _ _ _ _ _ _ => rfl) s code kind arg ploc lag vc
@[simp] theorem State.raise_port : (s.raise code kind arg ploc lag vc).port = s.port := State.raise_keeps (fun s => s.port) (fun _ _ _ _ _ _ => rfl) s code kind arg ploc lag vc
@[simp] theorem State.raise_side : (s.raise code kind arg ploc lag vc).side = s.side := State.raise_keeps (fun s => s.side) (fun _ _ _ _ _ _ => rfl) s code kind arg ploc lag vc
@[simp] theorem State.raise_keeper : (s.raise code kind arg ploc lag vc).keeper = s.keeper := State.raise_keeps (fun s => s.keeper) (fun _ _ _ _ _ _ => rfl) s code kind arg ploc lag vc
@[simp] theorem State.raise_boot : (s.raise code kind arg ploc lag vc).boot = s.boot := State.raise_keeps (fun s => s.boot) (fun _ _ _ _ _ _ => rfl) s code kind arg ploc lag vc
@[simp] theorem State.raise_dbgs : (s.raise code kind arg ploc lag vc).dbgs = s.dbgs := State.raise_keeps (fun s => s.dbgs) (fun _ _ _ _ _ _ => rfl) s code kind arg ploc lag vc
@[simp] theorem State.raise_jtag : (s.raise code kind arg ploc lag vc).jtag = s.jtag := State.raise_keeps (fun s => s.jtag) (fun _ _ _ _ _ _ => rfl) s code kind arg ploc lag vc
@[simp] theorem State.raise_degraded : (s.raise code kind arg ploc lag vc).degraded = s.degraded := State.raise_keeps (fun s => s.degraded) (fun _ _ _ _ _ _ => rfl) s code kind arg ploc lag vc
@[simp] theorem State.raise_stamp : (s.raise code kind arg ploc lag vc).stamp = s.stamp := State.raise_keeps (fun s => s.stamp) (fun _ _ _ _ _ _ => rfl) s code kind arg ploc lag vc
@[simp] theorem State.raise_core (i : CoreId) : (s.raise code kind arg ploc lag vc).core i = s.core i := State.raise_keeps (fun s => s.core i) (fun _ _ _ _ _ _ => rfl) s code kind arg ploc lag vc
@[simp] theorem State.raise_lagoon (i : Nat) : (s.raise code kind arg ploc lag vc).lagoon i = s.lagoon i := State.raise_keeps (fun s => s.lagoon i) (fun _ _ _ _ _ _ => rfl) s code kind arg ploc lag vc
@[simp] theorem State.raise_stack (i : Nat) : (s.raise code kind arg ploc lag vc).stack i = s.stack i := State.raise_keeps (fun s => s.stack i) (fun _ _ _ _ _ _ => rfl) s code kind arg ploc lag vc
@[simp] theorem State.raise_wheel (i : Nat) : (s.raise code kind arg ploc lag vc).wheel i = s.wheel i := State.raise_keeps (fun s => s.wheel i) (fun _ _ _ _ _ _ => rfl) s code kind arg ploc lag vc
@[simp] theorem State.raise_channel (i : Nat) : (s.raise code kind arg ploc lag vc).channel i = s.channel i := State.raise_keeps (fun s => s.channel i) (fun _ _ _ _ _ _ => rfl) s code kind arg ploc lag vc
@[simp] theorem State.raise_region (i : Nat) : (s.raise code kind arg ploc lag vc).region i = s.region i := State.raise_keeps (fun s => s.region i) (fun _ _ _ _ _ _ => rfl) s code kind arg ploc lag vc
@[simp] theorem State.raise_physCore (i : Nat) : (s.raise code kind arg ploc lag vc).physCore i = s.physCore i := State.raise_keeps (fun s => s.physCore i) (fun _ _ _ _ _ _ => rfl) s code kind arg ploc lag vc
@[simp] theorem State.raise_readByte (i : Nat) : (s.raise code kind arg ploc lag vc).readByte i = s.readByte i := State.raise_keeps (fun s => s.readByte i) (fun _ _ _ _ _ _ => rfl) s code kind arg ploc lag vc
@[simp] theorem State.raise_counter (i : Nat) : (s.raise code kind arg ploc lag vc).counter i = s.counter i := State.raise_keeps (fun s => s.counter i) (fun _ _ _ _ _ _ => rfl) s code kind arg ploc lag vc
@[simp] theorem State.raise_canonical : (s.raise code kind arg ploc lag vc).canonical = s.canonical := State.raise_keeps (fun s => s.canonical) (fun _ _ _ _ _ _ => rfl) s code kind arg ploc lag vc

end raise

/-! ### answer -/

section answer

variable (s : State) (r : Ref) (st d e : Nat) (res : List Byte)

@[simp] theorem State.answer_pending : (s.answer r st d e res).pending = s.pending := State.answer_keeps (fun s => s.pending) (fun _ _ _ => rfl) s r st d e res
@[simp] theorem State.answer_fresh : (s.answer r st d e res).fresh = s.fresh := State.answer_keeps (fun s => s.fresh) (fun _ _ _ => rfl) s r st d e res
@[simp] theorem State.answer_cores : (s.answer r st d e res).cores = s.cores := State.answer_keeps (fun s => s.cores) (fun _ _ _ => rfl) s r st d e res
@[simp] theorem State.answer_lagoons : (s.answer r st d e res).lagoons = s.lagoons := State.answer_keeps (fun s => s.lagoons) (fun _ _ _ => rfl) s r st d e res
@[simp] theorem State.answer_mem : (s.answer r st d e res).mem = s.mem := State.answer_keeps (fun s => s.mem) (fun _ _ _ => rfl) s r st d e res
@[simp] theorem State.answer_hbm : (s.answer r st d e res).hbm = s.hbm := State.answer_keeps (fun s => s.hbm) (fun _ _ _ => rfl) s r st d e res
@[simp] theorem State.answer_wheels : (s.answer r st d e res).wheels = s.wheels := State.answer_keeps (fun s => s.wheels) (fun _ _ _ => rfl) s r st d e res
@[simp] theorem State.answer_ddr : (s.answer r st d e res).ddr = s.ddr := State.answer_keeps (fun s => s.ddr) (fun _ _ _ => rfl) s r st d e res
@[simp] theorem State.answer_regions : (s.answer r st d e res).regions = s.regions := State.answer_keeps (fun s => s.regions) (fun _ _ _ => rfl) s r st d e res
@[simp] theorem State.answer_phys : (s.answer r st d e res).phys = s.phys := State.answer_keeps (fun s => s.phys) (fun _ _ _ => rfl) s r st d e res
@[simp] theorem State.answer_straits : (s.answer r st d e res).straits = s.straits := State.answer_keeps (fun s => s.straits) (fun _ _ _ => rfl) s r st d e res
@[simp] theorem State.answer_causeway : (s.answer r st d e res).causeway = s.causeway := State.answer_keeps (fun s => s.causeway) (fun _ _ _ => rfl) s r st d e res
@[simp] theorem State.answer_ferry : (s.answer r st d e res).ferry = s.ferry := State.answer_keeps (fun s => s.ferry) (fun _ _ _ => rfl) s r st d e res
@[simp] theorem State.answer_fabric : (s.answer r st d e res).fabric = s.fabric := State.answer_keeps (fun s => s.fabric) (fun _ _ _ => rfl) s r st d e res
@[simp] theorem State.answer_tide : (s.answer r st d e res).tide = s.tide := State.answer_keeps (fun s => s.tide) (fun _ _ _ => rfl) s r st d e res
@[simp] theorem State.answer_power : (s.answer r st d e res).power = s.power := State.answer_keeps (fun s => s.power) (fun _ _ _ => rfl) s r st d e res
@[simp] theorem State.answer_straps : (s.answer r st d e res).straps = s.straps := State.answer_keeps (fun s => s.straps) (fun _ _ _ => rfl) s r st d e res
@[simp] theorem State.answer_shakes : (s.answer r st d e res).shakes = s.shakes := State.answer_keeps (fun s => s.shakes) (fun _ _ _ => rfl) s r st d e res
@[simp] theorem State.answer_lrs : (s.answer r st d e res).lrs = s.lrs := State.answer_keeps (fun s => s.lrs) (fun _ _ _ => rfl) s r st d e res
@[simp] theorem State.answer_qps : (s.answer r st d e res).qps = s.qps := State.answer_keeps (fun s => s.qps) (fun _ _ _ => rfl) s r st d e res
@[simp] theorem State.answer_sinks : (s.answer r st d e res).sinks = s.sinks := State.answer_keeps (fun s => s.sinks) (fun _ _ _ => rfl) s r st d e res
@[simp] theorem State.answer_libs : (s.answer r st d e res).libs = s.libs := State.answer_keeps (fun s => s.libs) (fun _ _ _ => rfl) s r st d e res
@[simp] theorem State.answer_builder : (s.answer r st d e res).builder = s.builder := State.answer_keeps (fun s => s.builder) (fun _ _ _ => rfl) s r st d e res
@[simp] theorem State.answer_runs : (s.answer r st d e res).runs = s.runs := State.answer_keeps (fun s => s.runs) (fun _ _ _ => rfl) s r st d e res
@[simp] theorem State.answer_port : (s.answer r st d e res).port = s.port := State.answer_keeps (fun s => s.port) (fun _ _ _ => rfl) s r st d e res
@[simp] theorem State.answer_side : (s.answer r st d e res).side = s.side := State.answer_keeps (fun s => s.side) (fun _ _ _ => rfl) s r st d e res
@[simp] theorem State.answer_keeper : (s.answer r st d e res).keeper = s.keeper := State.answer_keeps (fun s => s.keeper) (fun _ _ _ => rfl) s r st d e res
@[simp] theorem State.answer_boot : (s.answer r st d e res).boot = s.boot := State.answer_keeps (fun s => s.boot) (fun _ _ _ => rfl) s r st d e res
@[simp] theorem State.answer_dbgs : (s.answer r st d e res).dbgs = s.dbgs := State.answer_keeps (fun s => s.dbgs) (fun _ _ _ => rfl) s r st d e res
@[simp] theorem State.answer_jtag : (s.answer r st d e res).jtag = s.jtag := State.answer_keeps (fun s => s.jtag) (fun _ _ _ => rfl) s r st d e res
@[simp] theorem State.answer_rel : (s.answer r st d e res).rel = s.rel := State.answer_keeps (fun s => s.rel) (fun _ _ _ => rfl) s r st d e res
@[simp] theorem State.answer_log : (s.answer r st d e res).log = s.log := State.answer_keeps (fun s => s.log) (fun _ _ _ => rfl) s r st d e res
@[simp] theorem State.answer_evno : (s.answer r st d e res).evno = s.evno := State.answer_keeps (fun s => s.evno) (fun _ _ _ => rfl) s r st d e res
@[simp] theorem State.answer_degraded : (s.answer r st d e res).degraded = s.degraded := State.answer_keeps (fun s => s.degraded) (fun _ _ _ => rfl) s r st d e res
@[simp] theorem State.answer_stamp : (s.answer r st d e res).stamp = s.stamp := State.answer_keeps (fun s => s.stamp) (fun _ _ _ => rfl) s r st d e res
@[simp] theorem State.answer_core (i : CoreId) : (s.answer r st d e res).core i = s.core i := State.answer_keeps (fun s => s.core i) (fun _ _ _ => rfl) s r st d e res
@[simp] theorem State.answer_lagoon (i : Nat) : (s.answer r st d e res).lagoon i = s.lagoon i := State.answer_keeps (fun s => s.lagoon i) (fun _ _ _ => rfl) s r st d e res
@[simp] theorem State.answer_stack (i : Nat) : (s.answer r st d e res).stack i = s.stack i := State.answer_keeps (fun s => s.stack i) (fun _ _ _ => rfl) s r st d e res
@[simp] theorem State.answer_wheel (i : Nat) : (s.answer r st d e res).wheel i = s.wheel i := State.answer_keeps (fun s => s.wheel i) (fun _ _ _ => rfl) s r st d e res
@[simp] theorem State.answer_channel (i : Nat) : (s.answer r st d e res).channel i = s.channel i := State.answer_keeps (fun s => s.channel i) (fun _ _ _ => rfl) s r st d e res
@[simp] theorem State.answer_region (i : Nat) : (s.answer r st d e res).region i = s.region i := State.answer_keeps (fun s => s.region i) (fun _ _ _ => rfl) s r st d e res
@[simp] theorem State.answer_physCore (i : Nat) : (s.answer r st d e res).physCore i = s.physCore i := State.answer_keeps (fun s => s.physCore i) (fun _ _ _ => rfl) s r st d e res
@[simp] theorem State.answer_readByte (i : Nat) : (s.answer r st d e res).readByte i = s.readByte i := State.answer_keeps (fun s => s.readByte i) (fun _ _ _ => rfl) s r st d e res
@[simp] theorem State.answer_counter (i : Nat) : (s.answer r st d e res).counter i = s.counter i := State.answer_keeps (fun s => s.counter i) (fun _ _ _ => rfl) s r st d e res
@[simp] theorem State.answer_canonical : (s.answer r st d e res).canonical = s.canonical := State.answer_keeps (fun s => s.canonical) (fun _ _ _ => rfl) s r st d e res

end answer

/-! ### answerOpt -/

section answerOpt

variable (s : State) (r : Option Ref) (st d e : Nat) (res : List Byte)

@[simp] theorem State.answerOpt_pending : (s.answerOpt r st d e res).pending = s.pending := State.answerOpt_keeps (fun s => s.pending) (fun _ _ _ => rfl) s r st d e res
@[simp] theorem State.answerOpt_fresh : (s.answerOpt r st d e res).fresh = s.fresh := State.answerOpt_keeps (fun s => s.fresh) (fun _ _ _ => rfl) s r st d e res
@[simp] theorem State.answerOpt_cores : (s.answerOpt r st d e res).cores = s.cores := State.answerOpt_keeps (fun s => s.cores) (fun _ _ _ => rfl) s r st d e res
@[simp] theorem State.answerOpt_lagoons : (s.answerOpt r st d e res).lagoons = s.lagoons := State.answerOpt_keeps (fun s => s.lagoons) (fun _ _ _ => rfl) s r st d e res
@[simp] theorem State.answerOpt_mem : (s.answerOpt r st d e res).mem = s.mem := State.answerOpt_keeps (fun s => s.mem) (fun _ _ _ => rfl) s r st d e res
@[simp] theorem State.answerOpt_hbm : (s.answerOpt r st d e res).hbm = s.hbm := State.answerOpt_keeps (fun s => s.hbm) (fun _ _ _ => rfl) s r st d e res
@[simp] theorem State.answerOpt_wheels : (s.answerOpt r st d e res).wheels = s.wheels := State.answerOpt_keeps (fun s => s.wheels) (fun _ _ _ => rfl) s r st d e res
@[simp] theorem State.answerOpt_ddr : (s.answerOpt r st d e res).ddr = s.ddr := State.answerOpt_keeps (fun s => s.ddr) (fun _ _ _ => rfl) s r st d e res
@[simp] theorem State.answerOpt_regions : (s.answerOpt r st d e res).regions = s.regions := State.answerOpt_keeps (fun s => s.regions) (fun _ _ _ => rfl) s r st d e res
@[simp] theorem State.answerOpt_phys : (s.answerOpt r st d e res).phys = s.phys := State.answerOpt_keeps (fun s => s.phys) (fun _ _ _ => rfl) s r st d e res
@[simp] theorem State.answerOpt_straits : (s.answerOpt r st d e res).straits = s.straits := State.answerOpt_keeps (fun s => s.straits) (fun _ _ _ => rfl) s r st d e res
@[simp] theorem State.answerOpt_causeway : (s.answerOpt r st d e res).causeway = s.causeway := State.answerOpt_keeps (fun s => s.causeway) (fun _ _ _ => rfl) s r st d e res
@[simp] theorem State.answerOpt_ferry : (s.answerOpt r st d e res).ferry = s.ferry := State.answerOpt_keeps (fun s => s.ferry) (fun _ _ _ => rfl) s r st d e res
@[simp] theorem State.answerOpt_fabric : (s.answerOpt r st d e res).fabric = s.fabric := State.answerOpt_keeps (fun s => s.fabric) (fun _ _ _ => rfl) s r st d e res
@[simp] theorem State.answerOpt_tide : (s.answerOpt r st d e res).tide = s.tide := State.answerOpt_keeps (fun s => s.tide) (fun _ _ _ => rfl) s r st d e res
@[simp] theorem State.answerOpt_power : (s.answerOpt r st d e res).power = s.power := State.answerOpt_keeps (fun s => s.power) (fun _ _ _ => rfl) s r st d e res
@[simp] theorem State.answerOpt_straps : (s.answerOpt r st d e res).straps = s.straps := State.answerOpt_keeps (fun s => s.straps) (fun _ _ _ => rfl) s r st d e res
@[simp] theorem State.answerOpt_shakes : (s.answerOpt r st d e res).shakes = s.shakes := State.answerOpt_keeps (fun s => s.shakes) (fun _ _ _ => rfl) s r st d e res
@[simp] theorem State.answerOpt_lrs : (s.answerOpt r st d e res).lrs = s.lrs := State.answerOpt_keeps (fun s => s.lrs) (fun _ _ _ => rfl) s r st d e res
@[simp] theorem State.answerOpt_qps : (s.answerOpt r st d e res).qps = s.qps := State.answerOpt_keeps (fun s => s.qps) (fun _ _ _ => rfl) s r st d e res
@[simp] theorem State.answerOpt_sinks : (s.answerOpt r st d e res).sinks = s.sinks := State.answerOpt_keeps (fun s => s.sinks) (fun _ _ _ => rfl) s r st d e res
@[simp] theorem State.answerOpt_libs : (s.answerOpt r st d e res).libs = s.libs := State.answerOpt_keeps (fun s => s.libs) (fun _ _ _ => rfl) s r st d e res
@[simp] theorem State.answerOpt_builder : (s.answerOpt r st d e res).builder = s.builder := State.answerOpt_keeps (fun s => s.builder) (fun _ _ _ => rfl) s r st d e res
@[simp] theorem State.answerOpt_runs : (s.answerOpt r st d e res).runs = s.runs := State.answerOpt_keeps (fun s => s.runs) (fun _ _ _ => rfl) s r st d e res
@[simp] theorem State.answerOpt_port : (s.answerOpt r st d e res).port = s.port := State.answerOpt_keeps (fun s => s.port) (fun _ _ _ => rfl) s r st d e res
@[simp] theorem State.answerOpt_side : (s.answerOpt r st d e res).side = s.side := State.answerOpt_keeps (fun s => s.side) (fun _ _ _ => rfl) s r st d e res
@[simp] theorem State.answerOpt_keeper : (s.answerOpt r st d e res).keeper = s.keeper := State.answerOpt_keeps (fun s => s.keeper) (fun _ _ _ => rfl) s r st d e res
@[simp] theorem State.answerOpt_boot : (s.answerOpt r st d e res).boot = s.boot := State.answerOpt_keeps (fun s => s.boot) (fun _ _ _ => rfl) s r st d e res
@[simp] theorem State.answerOpt_dbgs : (s.answerOpt r st d e res).dbgs = s.dbgs := State.answerOpt_keeps (fun s => s.dbgs) (fun _ _ _ => rfl) s r st d e res
@[simp] theorem State.answerOpt_jtag : (s.answerOpt r st d e res).jtag = s.jtag := State.answerOpt_keeps (fun s => s.jtag) (fun _ _ _ => rfl) s r st d e res
@[simp] theorem State.answerOpt_rel : (s.answerOpt r st d e res).rel = s.rel := State.answerOpt_keeps (fun s => s.rel) (fun _ _ _ => rfl) s r st d e res
@[simp] theorem State.answerOpt_log : (s.answerOpt r st d e res).log = s.log := State.answerOpt_keeps (fun s => s.log) (fun _ _ _ => rfl) s r st d e res
@[simp] theorem State.answerOpt_evno : (s.answerOpt r st d e res).evno = s.evno := State.answerOpt_keeps (fun s => s.evno) (fun _ _ _ => rfl) s r st d e res
@[simp] theorem State.answerOpt_degraded : (s.answerOpt r st d e res).degraded = s.degraded := State.answerOpt_keeps (fun s => s.degraded) (fun _ _ _ => rfl) s r st d e res
@[simp] theorem State.answerOpt_stamp : (s.answerOpt r st d e res).stamp = s.stamp := State.answerOpt_keeps (fun s => s.stamp) (fun _ _ _ => rfl) s r st d e res
@[simp] theorem State.answerOpt_core (i : CoreId) : (s.answerOpt r st d e res).core i = s.core i := State.answerOpt_keeps (fun s => s.core i) (fun _ _ _ => rfl) s r st d e res
@[simp] theorem State.answerOpt_lagoon (i : Nat) : (s.answerOpt r st d e res).lagoon i = s.lagoon i := State.answerOpt_keeps (fun s => s.lagoon i) (fun _ _ _ => rfl) s r st d e res
@[simp] theorem State.answerOpt_stack (i : Nat) : (s.answerOpt r st d e res).stack i = s.stack i := State.answerOpt_keeps (fun s => s.stack i) (fun _ _ _ => rfl) s r st d e res
@[simp] theorem State.answerOpt_wheel (i : Nat) : (s.answerOpt r st d e res).wheel i = s.wheel i := State.answerOpt_keeps (fun s => s.wheel i) (fun _ _ _ => rfl) s r st d e res
@[simp] theorem State.answerOpt_channel (i : Nat) : (s.answerOpt r st d e res).channel i = s.channel i := State.answerOpt_keeps (fun s => s.channel i) (fun _ _ _ => rfl) s r st d e res
@[simp] theorem State.answerOpt_region (i : Nat) : (s.answerOpt r st d e res).region i = s.region i := State.answerOpt_keeps (fun s => s.region i) (fun _ _ _ => rfl) s r st d e res
@[simp] theorem State.answerOpt_physCore (i : Nat) : (s.answerOpt r st d e res).physCore i = s.physCore i := State.answerOpt_keeps (fun s => s.physCore i) (fun _ _ _ => rfl) s r st d e res
@[simp] theorem State.answerOpt_readByte (i : Nat) : (s.answerOpt r st d e res).readByte i = s.readByte i := State.answerOpt_keeps (fun s => s.readByte i) (fun _ _ _ => rfl) s r st d e res
@[simp] theorem State.answerOpt_counter (i : Nat) : (s.answerOpt r st d e res).counter i = s.counter i := State.answerOpt_keeps (fun s => s.counter i) (fun _ _ _ => rfl) s r st d e res
@[simp] theorem State.answerOpt_canonical : (s.answerOpt r st d e res).canonical = s.canonical := State.answerOpt_keeps (fun s => s.canonical) (fun _ _ _ => rfl) s r st d e res

end answerOpt

/-! ### moveLagoon -/

section moveLagoon

variable (s : State) (l : Nat) (st : LState)

@[simp] theorem State.moveLagoon_pending : (s.moveLagoon l st).pending = s.pending := State.moveLagoon_keeps (fun s => s.pending) (fun _ _ _ _ _ _ => rfl) (fun _ _ => rfl) s l st
@[simp] theorem State.moveLagoon_fresh : (s.moveLagoon l st).fresh = s.fresh := State.moveLagoon_keeps (fun s => s.fresh) (fun _ _ _ _ _ _ => rfl) (fun _ _ => rfl) s l st
@[simp] theorem State.moveLagoon_cores : (s.moveLagoon l st).cores = s.cores := State.moveLagoon_keeps (fun s => s.cores) (fun _ _ _ _ _ _ => rfl) (fun _ _ => rfl) s l st
@[simp] theorem State.moveLagoon_mem : (s.moveLagoon l st).mem = s.mem := State.moveLagoon_keeps (fun s => s.mem) (fun _ _ _ _ _ _ => rfl) (fun _ _ => rfl) s l st
@[simp] theorem State.moveLagoon_hbm : (s.moveLagoon l st).hbm = s.hbm := State.moveLagoon_keeps (fun s => s.hbm) (fun _ _ _ _ _ _ => rfl) (fun _ _ => rfl) s l st
@[simp] theorem State.moveLagoon_wheels : (s.moveLagoon l st).wheels = s.wheels := State.moveLagoon_keeps (fun s => s.wheels) (fun _ _ _ _ _ _ => rfl) (fun _ _ => rfl) s l st
@[simp] theorem State.moveLagoon_ddr : (s.moveLagoon l st).ddr = s.ddr := State.moveLagoon_keeps (fun s => s.ddr) (fun _ _ _ _ _ _ => rfl) (fun _ _ => rfl) s l st
@[simp] theorem State.moveLagoon_regions : (s.moveLagoon l st).regions = s.regions := State.moveLagoon_keeps (fun s => s.regions) (fun _ _ _ _ _ _ => rfl) (fun _ _ => rfl) s l st
@[simp] theorem State.moveLagoon_phys : (s.moveLagoon l st).phys = s.phys := State.moveLagoon_keeps (fun s => s.phys) (fun _ _ _ _ _ _ => rfl) (fun _ _ => rfl) s l st
@[simp] theorem State.moveLagoon_straits : (s.moveLagoon l st).straits = s.straits := State.moveLagoon_keeps (fun s => s.straits) (fun _ _ _ _ _ _ => rfl) (fun _ _ => rfl) s l st
@[simp] theorem State.moveLagoon_causeway : (s.moveLagoon l st).causeway = s.causeway := State.moveLagoon_keeps (fun s => s.causeway) (fun _ _ _ _ _ _ => rfl) (fun _ _ => rfl) s l st
@[simp] theorem State.moveLagoon_ferry : (s.moveLagoon l st).ferry = s.ferry := State.moveLagoon_keeps (fun s => s.ferry) (fun _ _ _ _ _ _ => rfl) (fun _ _ => rfl) s l st
@[simp] theorem State.moveLagoon_fabric : (s.moveLagoon l st).fabric = s.fabric := State.moveLagoon_keeps (fun s => s.fabric) (fun _ _ _ _ _ _ => rfl) (fun _ _ => rfl) s l st
@[simp] theorem State.moveLagoon_tide : (s.moveLagoon l st).tide = s.tide := State.moveLagoon_keeps (fun s => s.tide) (fun _ _ _ _ _ _ => rfl) (fun _ _ => rfl) s l st
@[simp] theorem State.moveLagoon_power : (s.moveLagoon l st).power = s.power := State.moveLagoon_keeps (fun s => s.power) (fun _ _ _ _ _ _ => rfl) (fun _ _ => rfl) s l st
@[simp] theorem State.moveLagoon_straps : (s.moveLagoon l st).straps = s.straps := State.moveLagoon_keeps (fun s => s.straps) (fun _ _ _ _ _ _ => rfl) (fun _ _ => rfl) s l st
@[simp] theorem State.moveLagoon_shakes : (s.moveLagoon l st).shakes = s.shakes := State.moveLagoon_keeps (fun s => s.shakes) (fun _ _ _ _ _ _ => rfl) (fun _ _ => rfl) s l st
@[simp] theorem State.moveLagoon_lrs : (s.moveLagoon l st).lrs = s.lrs := State.moveLagoon_keeps (fun s => s.lrs) (fun _ _ _ _ _ _ => rfl) (fun _ _ => rfl) s l st
@[simp] theorem State.moveLagoon_qps : (s.moveLagoon l st).qps = s.qps := State.moveLagoon_keeps (fun s => s.qps) (fun _ _ _ _ _ _ => rfl) (fun _ _ => rfl) s l st
@[simp] theorem State.moveLagoon_sinks : (s.moveLagoon l st).sinks = s.sinks := State.moveLagoon_keeps (fun s => s.sinks) (fun _ _ _ _ _ _ => rfl) (fun _ _ => rfl) s l st
@[simp] theorem State.moveLagoon_libs : (s.moveLagoon l st).libs = s.libs := State.moveLagoon_keeps (fun s => s.libs) (fun _ _ _ _ _ _ => rfl) (fun _ _ => rfl) s l st
@[simp] theorem State.moveLagoon_builder : (s.moveLagoon l st).builder = s.builder := State.moveLagoon_keeps (fun s => s.builder) (fun _ _ _ _ _ _ => rfl) (fun _ _ => rfl) s l st
@[simp] theorem State.moveLagoon_runs : (s.moveLagoon l st).runs = s.runs := State.moveLagoon_keeps (fun s => s.runs) (fun _ _ _ _ _ _ => rfl) (fun _ _ => rfl) s l st
@[simp] theorem State.moveLagoon_port : (s.moveLagoon l st).port = s.port := State.moveLagoon_keeps (fun s => s.port) (fun _ _ _ _ _ _ => rfl) (fun _ _ => rfl) s l st
@[simp] theorem State.moveLagoon_side : (s.moveLagoon l st).side = s.side := State.moveLagoon_keeps (fun s => s.side) (fun _ _ _ _ _ _ => rfl) (fun _ _ => rfl) s l st
@[simp] theorem State.moveLagoon_keeper : (s.moveLagoon l st).keeper = s.keeper := State.moveLagoon_keeps (fun s => s.keeper) (fun _ _ _ _ _ _ => rfl) (fun _ _ => rfl) s l st
@[simp] theorem State.moveLagoon_boot : (s.moveLagoon l st).boot = s.boot := State.moveLagoon_keeps (fun s => s.boot) (fun _ _ _ _ _ _ => rfl) (fun _ _ => rfl) s l st
@[simp] theorem State.moveLagoon_dbgs : (s.moveLagoon l st).dbgs = s.dbgs := State.moveLagoon_keeps (fun s => s.dbgs) (fun _ _ _ _ _ _ => rfl) (fun _ _ => rfl) s l st
@[simp] theorem State.moveLagoon_jtag : (s.moveLagoon l st).jtag = s.jtag := State.moveLagoon_keeps (fun s => s.jtag) (fun _ _ _ _ _ _ => rfl) (fun _ _ => rfl) s l st
@[simp] theorem State.moveLagoon_degraded : (s.moveLagoon l st).degraded = s.degraded := State.moveLagoon_keeps (fun s => s.degraded) (fun _ _ _ _ _ _ => rfl) (fun _ _ => rfl) s l st
@[simp] theorem State.moveLagoon_stamp : (s.moveLagoon l st).stamp = s.stamp := State.moveLagoon_keeps (fun s => s.stamp) (fun _ _ _ _ _ _ => rfl) (fun _ _ => rfl) s l st
@[simp] theorem State.moveLagoon_core (i : CoreId) : (s.moveLagoon l st).core i = s.core i := State.moveLagoon_keeps (fun s => s.core i) (fun _ _ _ _ _ _ => rfl) (fun _ _ => rfl) s l st
@[simp] theorem State.moveLagoon_stack (i : Nat) : (s.moveLagoon l st).stack i = s.stack i := State.moveLagoon_keeps (fun s => s.stack i) (fun _ _ _ _ _ _ => rfl) (fun _ _ => rfl) s l st
@[simp] theorem State.moveLagoon_wheel (i : Nat) : (s.moveLagoon l st).wheel i = s.wheel i := State.moveLagoon_keeps (fun s => s.wheel i) (fun _ _ _ _ _ _ => rfl) (fun _ _ => rfl) s l st
@[simp] theorem State.moveLagoon_channel (i : Nat) : (s.moveLagoon l st).channel i = s.channel i := State.moveLagoon_keeps (fun s => s.channel i) (fun _ _ _ _ _ _ => rfl) (fun _ _ => rfl) s l st
@[simp] theorem State.moveLagoon_region (i : Nat) : (s.moveLagoon l st).region i = s.region i := State.moveLagoon_keeps (fun s => s.region i) (fun _ _ _ _ _ _ => rfl) (fun _ _ => rfl) s l st
@[simp] theorem State.moveLagoon_physCore (i : Nat) : (s.moveLagoon l st).physCore i = s.physCore i := State.moveLagoon_keeps (fun s => s.physCore i) (fun _ _ _ _ _ _ => rfl) (fun _ _ => rfl) s l st
@[simp] theorem State.moveLagoon_readByte (i : Nat) : (s.moveLagoon l st).readByte i = s.readByte i := State.moveLagoon_keeps (fun s => s.readByte i) (fun _ _ _ _ _ _ => rfl) (fun _ _ => rfl) s l st
@[simp] theorem State.moveLagoon_counter (i : Nat) : (s.moveLagoon l st).counter i = s.counter i := State.moveLagoon_keeps (fun s => s.counter i) (fun _ _ _ _ _ _ => rfl) (fun _ _ => rfl) s l st


end moveLagoon

/-! ### What events do -/

/-- The event raised last heads the log, with the next number. -/
theorem notify_log (e : EventRec) (s : State) (x : Session) : (notify e s x).log = s.log :=
  notify_keeps (fun s => s.log) (fun _ _ _ => rfl) e s x

theorem notify_evno (e : EventRec) (s : State) (x : Session) : (notify e s x).evno = s.evno :=
  notify_keeps (fun s => s.evno) (fun _ _ _ => rfl) e s x

theorem State.raise_log (s : State) (code kind arg ploc : Nat) (lag vc : Option Nat) :
    (s.raise code kind arg ploc lag vc).log = (⟨code, kind, s.evno + 1, s.tide.count, arg, ploc, lag, vc⟩ :: s.log).take 65536 := by
  unfold State.raise
  rw [foldl_keeps (fun s => s.log) (fun s a => notify_log _ s a)]
  split <;> rfl

theorem State.raise_evno (s : State) (code kind arg ploc : Nat) (lag vc : Option Nat) :
    (s.raise code kind arg ploc lag vc).evno = s.evno + 1 := by
  unfold State.raise
  rw [foldl_keeps (fun s => s.evno) (fun s a => notify_evno _ s a)]
  split <;> rfl

/-! ### Canonical form -/

section canonical

variable {s : State}

theorem State.canonical_iff : s.canonical = true ↔ Memory.wf s.mem = true ∧ Sparse.wf Core.blank s.cores = true ∧
    Sparse.wf Lagoon.blank s.lagoons = true ∧ Sparse.wf Stack.blank s.hbm = true ∧ Sparse.wf Wheel.blank s.wheels = true ∧
    Sparse.wf Ddr.blank s.ddr = true ∧ Sparse.wf Region.blank s.regions = true ∧ Sparse.wf Phys.blank s.phys = true ∧
    s.cores.all (fun p => p.2.canonical) = true ∧ Sparse.wf 0 s.keeper.counters = true := by
  simp only [State.canonical, Bool.and_eq_true, and_assoc]

theorem State.setCore_canonical (h : s.canonical = true) (c : CoreId) {k : Core} (hk : k.canonical = true) :
    (s.setCore c k).canonical = true := by
  rw [State.canonical_iff] at h ⊢
  obtain ⟨h1, h2, h3, h4, h5, h6, h7, h8, h9, h10⟩ := h
  refine ⟨h1, Sparse.wf_set _ _ h2, h3, h4, h5, h6, h7, h8, ?_, h10⟩
  exact Sparse.all_set Core.canonical h9 hk

theorem State.setLagoon_canonical (h : s.canonical = true) (l : Nat) (x : Lagoon) : (s.setLagoon l x).canonical = true := by
  rw [State.canonical_iff] at h ⊢
  obtain ⟨h1, h2, h3, h4, h5, h6, h7, h8, h9, h10⟩ := h
  exact ⟨h1, h2, Sparse.wf_set _ _ h3, h4, h5, h6, h7, h8, h9, h10⟩

theorem State.setStack_canonical (h : s.canonical = true) (n : Nat) (x : Stack) : (s.setStack n x).canonical = true := by
  rw [State.canonical_iff] at h ⊢
  obtain ⟨h1, h2, h3, h4, h5, h6, h7, h8, h9, h10⟩ := h
  exact ⟨h1, h2, h3, Sparse.wf_set _ _ h4, h5, h6, h7, h8, h9, h10⟩

theorem State.setWheel_canonical (h : s.canonical = true) (n : Nat) (x : Wheel) : (s.setWheel n x).canonical = true := by
  rw [State.canonical_iff] at h ⊢
  obtain ⟨h1, h2, h3, h4, h5, h6, h7, h8, h9, h10⟩ := h
  exact ⟨h1, h2, h3, h4, Sparse.wf_set _ _ h5, h6, h7, h8, h9, h10⟩

theorem State.setChannel_canonical (h : s.canonical = true) (n : Nat) (x : Ddr) : (s.setChannel n x).canonical = true := by
  rw [State.canonical_iff] at h ⊢
  obtain ⟨h1, h2, h3, h4, h5, h6, h7, h8, h9, h10⟩ := h
  exact ⟨h1, h2, h3, h4, h5, Sparse.wf_set _ _ h6, h7, h8, h9, h10⟩

theorem State.setRegion_canonical (h : s.canonical = true) (n : Nat) (x : Region) : (s.setRegion n x).canonical = true := by
  rw [State.canonical_iff] at h ⊢
  obtain ⟨h1, h2, h3, h4, h5, h6, h7, h8, h9, h10⟩ := h
  exact ⟨h1, h2, h3, h4, h5, h6, Sparse.wf_set _ _ h7, h8, h9, h10⟩

theorem State.setPhys_canonical (h : s.canonical = true) (n : Nat) (x : Phys) : (s.setPhys n x).canonical = true := by
  rw [State.canonical_iff] at h ⊢
  obtain ⟨h1, h2, h3, h4, h5, h6, h7, h8, h9, h10⟩ := h
  exact ⟨h1, h2, h3, h4, h5, h6, h7, Sparse.wf_set _ _ h8, h9, h10⟩

theorem State.setCounter_canonical (h : s.canonical = true) (n v : Nat) : (s.setCounter n v).canonical = true := by
  rw [State.canonical_iff] at h ⊢
  obtain ⟨h1, h2, h3, h4, h5, h6, h7, h8, h9, h10⟩ := h
  exact ⟨h1, h2, h3, h4, h5, h6, h7, h8, h9, Sparse.wf_set _ _ h10⟩

/-- A change of memory alone keeps the form where memory keeps it. -/
theorem State.canonical_of_mem (h : s.canonical = true) {m : List Host.Cell} (hm : Memory.wf m = true) :
    ({ s with mem := m } : State).canonical = true := by
  rw [State.canonical_iff] at h ⊢
  exact ⟨hm, h.2⟩

theorem State.mem_wf (h : s.canonical = true) : Memory.wf s.mem = true := (State.canonical_iff.mp h).1

theorem Core.blank_canonical : Core.blank.canonical = true := rfl

/-- A core of a canonical state is canonical. -/
theorem State.core_canonical (h : s.canonical = true) (c : CoreId) : (s.core c).canonical = true := by
  rw [State.canonical_iff] at h
  exact Sparse.get_all Core.canonical h.2.2.2.2.2.2.2.2.1 rfl _

theorem State.withCore_canonical (h : s.canonical = true) (c : CoreId) {k : Core} (hk : k.canonical = true) :
    (s.withCore c k).canonical = true :=
  State.setLagoon_canonical (State.setCore_canonical h c hk) _ _

theorem State.progressed_canonical (h : s.canonical = true) (l : Nat) : (s.progressed l).canonical = true :=
  State.setLagoon_canonical h _ _

theorem State.mapCores_canonical (h : s.canonical = true) (l : Nat) {f : Core → Core}
    (hf : ∀ k, k.canonical = true → (f k).canonical = true) : (s.mapCores l f).canonical = true := by
  rw [State.canonical_iff] at h ⊢
  obtain ⟨h1, h2, h3, h4, h5, h6, h7, h8, h9, h10⟩ := h
  have := Sparse.wf_mapFilter (fun p => if p.1 / 512 = l then f p.2 else p.2) h2
  have e : (fun p : Nat × Core => if p.1 / 512 = l then (p.1, f p.2) else p) =
      (fun p => (p.1, if p.1 / 512 = l then f p.2 else p.2)) := by funext p; split <;> rfl
  refine ⟨h1, ?_, h3, h4, h5, h6, h7, h8, ?_, h10⟩
  · rw [State.mapCores, e]; exact this
  · simp only [State.mapCores, List.all_eq_true, List.mem_filter, List.mem_map] at h9 ⊢
    rintro p ⟨⟨q, hq, rfl⟩, -⟩
    split
    · exact hf _ (h9 _ hq)
    · exact h9 _ hq

theorem State.stopCores_canonical (h : s.canonical = true) (l : Nat) : (s.stopCores l).canonical = true :=
  State.mapCores_canonical h l (fun k hk => by
    unfold Core.stopHere Core.raise
    simp only
    split <;> exact hk)

theorem State.dropLaunches_canonical (h : s.canonical = true) (l : Nat) (st : LState) : (s.dropLaunches l st).canonical = true :=
  foldl_inv (P := fun a => a.canonical = true) (fun a p ha => by rw [State.answerOpt_canonical]; exact ha) _ _
    (State.setLagoon_canonical h l _)

theorem State.moveLagoon_canonical (h : s.canonical = true) (l : Nat) (st : LState) : (s.moveLagoon l st).canonical = true := by
  unfold State.moveLagoon
  simp only
  split
  · exact h
  · exact State.dropLaunches_canonical (by rw [State.raise_canonical]; exact State.setLagoon_canonical h l _) l st

theorem State.endFaulted_canonical (h : s.canonical = true) (l code : Nat) : (s.endFaulted l code).canonical = true := by
  unfold State.endFaulted
  simp only
  split
  · refine foldl_inv (f := fun (a : State) n => a.setStack n (a.stack n).discard) (P := fun a => a.canonical = true)
      (fun a n ha => State.setStack_canonical ha n _) (s.ownStacks l) _ ?_
    exact State.setLagoon_canonical (State.stopCores_canonical h l) l _
  · exact h

theorem State.answerStart_canonical (h : s.canonical = true) (l tide : Nat) : (s.answerStart l tide).canonical = true := by
  unfold State.answerStart
  simp only
  split
  · exact h
  · simp [State.setLagoon_canonical h]

theorem State.faultLagoon_canonical (h : s.canonical = true) (l code : Nat) : (s.faultLagoon l code).canonical = true := by
  unfold State.faultLagoon
  simp only
  split
  · rw [State.answerOpt_canonical]
    exact State.setLagoon_canonical (State.answerStart_canonical (State.moveLagoon_canonical (State.endFaulted_canonical h l code) l _) l 0) l _
  · exact h

theorem State.fault_canonical (h : s.canonical = true) (code arg ploc l : Nat) (vc : Option Nat) :
    (s.fault code arg ploc l vc).canonical = true :=
  State.faultLagoon_canonical (by rw [State.raise_canonical]; exact h) l code

theorem State.coreFault_canonical (h : s.canonical = true) (c : CoreId) (code obj : Nat) (access : Bool) :
    (s.coreFault c code obj access).canonical = true := State.fault_canonical h _ _ _ _ _

/-- A core's own step keeps the canonical form where the core it leaves has it. -/
theorem State.finish_canonical (h : s.canonical = true) (c : CoreId) (access : Bool) (r : Res Core)
    (hr : ∀ k, r = .ok k → k.canonical = true) : (s.finish c access r).canonical = true := by
  cases r with
  | ok k => exact State.withCore_canonical h c (hr k rfl)
  | wait a b => exact h
  | event e n => exact State.coreFault_canonical h c e n access

end canonical

/-! ### Lagoon states -/

/-- Dropping a lagoon's launches leaves it as it was without them, and every other lagoon as it was. -/
theorem State.dropLaunches_lagoon (s : State) (h : Sparse.wf Lagoon.blank s.lagoons = true) (l j : Nat) (st : LState) :
    (s.dropLaunches l st).lagoon j = if j = l then { s.lagoon l with launch := [] } else s.lagoon j := by
  unfold State.dropLaunches
  rw [foldl_keeps (fun a => a.lagoon j) (fun a p => State.answerOpt_lagoon a _ _ _ _ _ j)]
  exact State.setLagoon_lagoon s h l j _

/-- A lagoon that is moved is in the state named. -/
theorem State.moveLagoon_st (s : State) (h : Sparse.wf Lagoon.blank s.lagoons = true) (l : Nat) (st : LState) :
    ((s.moveLagoon l st).lagoon l).st = st := by
  unfold State.moveLagoon
  simp only
  split
  · assumption
  · rw [State.dropLaunches_lagoon _ (by rw [State.raise_lagoons]; exact Sparse.wf_set _ _ h)]; simp [State.setLagoon_lagoon s h]

/-- The other lagoons keep their state. -/
theorem State.moveLagoon_other (s : State) (h : Sparse.wf Lagoon.blank s.lagoons = true) {l j : Nat} (hj : j ≠ l) (st : LState) :
    (s.moveLagoon l st).lagoon j = s.lagoon j := by
  unfold State.moveLagoon
  simp only
  split
  · rfl
  · rw [State.dropLaunches_lagoon _ (by rw [State.raise_lagoons]; exact Sparse.wf_set _ _ h)]; simp [State.setLagoon_lagoon s h, hj]

end Sys2Proof.Machine
end

