-- ==== Sys2Proof/Laws/Core.lean ====
section
/-! SUPPORT. Laws of one core: reads of its arrays after a write, and the canonical form that the writes keep. -/

namespace Sys2Proof.Machine

section registers

variable (q : Seq)

@[simp] theorem Seq.getX_zero : q.getX 0 = 0 := rfl
@[simp] theorem Seq.setX_zero (v : Nat) : q.setX 0 v = q := rfl
@[simp] theorem Seq.setX_addr (n v : Nat) : (q.setX n v).addr = q.addr := by unfold Seq.setX; split <;> rfl
@[simp] theorem Seq.setX_xs (n v : Nat) : (q.setX n v).xs = q.xs := by unfold Seq.setX; split <;> rfl
@[simp] theorem Seq.setX_stack (n v : Nat) : (q.setX n v).stack = q.stack := by unfold Seq.setX; split <;> rfl
@[simp] theorem Seq.setX_loops (n v : Nat) : (q.setX n v).loops = q.loops := by unfold Seq.setX; split <;> rfl
@[simp] theorem Seq.setX_choices (n v : Nat) : (q.setX n v).choices = q.choices := by unfold Seq.setX; split <;> rfl

/-- A read of an index register after a write of one. -/
theorem Seq.getX_setX (h : Sparse.wf 0 q.x = true) {n : Nat} (m v : Nat) (hn : n % 16 ≠ 0) :
    (q.setX n v).getX m = if m % 16 = n % 16 then v % 65536 else q.getX m := by
  unfold Seq.getX Seq.setX
  rw [if_neg hn]
  by_cases hm : m % 16 = 0
  · rw [if_pos hm, if_pos hm, if_neg (by omega)]
  · rw [if_neg hm, if_neg hm, Sparse.get_set _ _ _ h]
    split <;> simp

theorem Seq.setX_canonical {q : Seq} (h : q.canonical = true) (n v : Nat) : (q.setX n v).canonical = true := by
  simp only [Seq.canonical, Bool.and_eq_true] at h ⊢
  unfold Seq.setX
  split
  · exact h
  · exact ⟨Sparse.wf_set _ _ h.1, h.2⟩

theorem Seq.setXS_canonical {q : Seq} (h : q.canonical = true) (n v : Nat) : (q.setXS n v).canonical = true := by
  simp only [Seq.canonical, Bool.and_eq_true] at h ⊢
  unfold Seq.setXS
  split
  · exact h
  · exact ⟨h.1, Sparse.wf_set _ _ h.2⟩

theorem Seq.applyInc_canonical {q : Seq} (h : q.canonical = true) (inc : Nat) : (q.applyInc inc).canonical = true := by
  unfold Seq.applyInc
  generalize List.range 16 = l
  induction l generalizing q with
  | nil => exact h
  | cons a l ih =>
    rw [List.foldl_cons]
    apply ih
    split
    · exact Seq.setX_canonical h _ _
    · exact h

end registers

section arrays

variable (c : Core)

@[simp] theorem Core.setSeq_seq (i : SeqId) (q : Seq) : (c.setSeq i q).seq i = q := by cases i <;> rfl
theorem Core.setSeq_other {i j : SeqId} (h : j ≠ i) (q : Seq) : (c.setSeq i q).seq j = c.seq j := by cases i <;> cases j <;> simp_all <;> rfl
@[simp] theorem Core.setSeq_beat (i : SeqId) (q : Seq) : (c.setSeq i q).beat = c.beat := by cases i <;> rfl
@[simp] theorem Core.setSeq_vec (i : SeqId) (q : Seq) : (c.setSeq i q).vec = c.vec := by cases i <;> rfl
@[simp] theorem Core.setSeq_row (i : SeqId) (q : Seq) : (c.setSeq i q).row = c.row := by cases i <;> rfl
@[simp] theorem Core.setSeq_tile (i : SeqId) (q : Seq) : (c.setSeq i q).tile = c.tile := by cases i <;> rfl
@[simp] theorem Core.setSeq_queues (i : SeqId) (q : Seq) : (c.setSeq i q).queues = c.queues := by cases i <;> rfl
@[simp] theorem Core.setSeq_buoys (i : SeqId) (q : Seq) : (c.setSeq i q).buoys = c.buoys := by cases i <;> rfl
@[simp] theorem Core.setSeq_img (i : SeqId) (q : Seq) : (c.setSeq i q).img = c.img := by cases i <;> rfl
@[simp] theorem Core.setSeq_pilot (i : SeqId) (q : Seq) : (c.setSeq i q).pilot = c.pilot := by cases i <;> rfl

/-- A read of a buoy after a write of one. -/
theorem Core.buoy_putBuoy (h : Sparse.wf Buoy.blank c.buoys = true) (n m : Nat) (b : Buoy) :
    (c.putBuoy n b).buoy m = if m % 64 = n % 64 then b else c.buoy m := Sparse.get_set _ _ b h

/-- A read of a tally after a write of one. -/
theorem Core.tally_putTally (h : Sparse.wf Tally.blank c.tallies = true) (n m : Nat) (t : Tally) :
    (c.putTally n t).tally m = if m % 16 = n % 16 then t else c.tally m := Sparse.get_set _ _ t h

/-- A read of a queue after a write of one. -/
theorem Core.queue_setQueue (h : Sparse.wf Queue.blank c.queues = true) (n m : Nat) (q : Queue) :
    (c.setQueue n q).queue m = if m % 32 = n % 32 then q else c.queue m := Sparse.get_set _ _ q h

/-- A read of a line of tile memory after a write of one. -/
theorem Core.tileLine_setTileLine (h : Sparse.wf Line.blank c.tile = true) (n m : Nat) (x : Line) :
    (c.setTileLine n x).tileLine m = if m % c.tileLines = n % c.tileLines then x else c.tileLine m := Sparse.get_set _ _ x h

end arrays

section canonical

variable {c : Core}

theorem Core.canonical_iff : c.canonical = true ↔ c.ex.canonical = true ∧ c.ac.canonical = true ∧ Sparse.wf Line.blank c.tile = true ∧
    Sparse.wf Cube.blank c.row.cubes = true ∧ Sparse.wf 0 c.vec.regs = true ∧ Sparse.wf 0 c.vec.masks = true ∧
    Sparse.wf 0 c.vec.cache = true ∧ Sparse.wf Queue.blank c.queues = true ∧ Sparse.wf 0 c.pilot.x = true ∧
    Sparse.wf Buoy.blank c.buoys = true ∧ Sparse.wf Tally.blank c.tallies = true := by
  simp only [Core.canonical, Bool.and_eq_true, and_assoc]

theorem Core.setSeq_canonical (h : c.canonical = true) (i : SeqId) {q : Seq} (hq : q.canonical = true) :
    (c.setSeq i q).canonical = true := by
  rw [Core.canonical_iff] at h ⊢
  cases i
  · exact ⟨hq, h.2⟩
  · exact ⟨h.1, hq, h.2.2⟩

theorem Core.seq_canonical (h : c.canonical = true) (i : SeqId) : (c.seq i).canonical = true := by
  rw [Core.canonical_iff] at h
  cases i
  · exact h.1
  · exact h.2.1

theorem Core.putBuoy_canonical (h : c.canonical = true) (n : Nat) (b : Buoy) : (c.putBuoy n b).canonical = true := by
  rw [Core.canonical_iff] at h ⊢
  obtain ⟨h1, h2, h3, h4, h5, h6, h7, h8, h9, h10, h11⟩ := h
  exact ⟨h1, h2, h3, h4, h5, h6, h7, h8, h9, Sparse.wf_set _ _ h10, h11⟩

theorem Core.putTally_canonical (h : c.canonical = true) (n : Nat) (t : Tally) : (c.putTally n t).canonical = true := by
  rw [Core.canonical_iff] at h ⊢
  obtain ⟨h1, h2, h3, h4, h5, h6, h7, h8, h9, h10, h11⟩ := h
  exact ⟨h1, h2, h3, h4, h5, h6, h7, h8, h9, h10, Sparse.wf_set _ _ h11⟩

theorem Core.setQueue_canonical (h : c.canonical = true) (n : Nat) (q : Queue) : (c.setQueue n q).canonical = true := by
  rw [Core.canonical_iff] at h ⊢
  obtain ⟨h1, h2, h3, h4, h5, h6, h7, h8, h9, h10, h11⟩ := h
  exact ⟨h1, h2, h3, h4, h5, h6, h7, Sparse.wf_set _ _ h8, h9, h10, h11⟩

theorem Core.setTileLine_canonical (h : c.canonical = true) (l : Nat) (x : Line) : (c.setTileLine l x).canonical = true := by
  rw [Core.canonical_iff] at h ⊢
  obtain ⟨h1, h2, h3, h4, h5, h6, h7, h8, h9, h10, h11⟩ := h
  exact ⟨h1, h2, Sparse.wf_set _ _ h3, h4, h5, h6, h7, h8, h9, h10, h11⟩

theorem Core.setCacheLine_canonical (h : c.canonical = true) (l : Nat) (x : VecData) : (c.setCacheLine l x).canonical = true := by
  rw [Core.canonical_iff] at h ⊢
  obtain ⟨h1, h2, h3, h4, h5, h6, h7, h8, h9, h10, h11⟩ := h
  exact ⟨h1, h2, h3, h4, h5, h6, Sparse.wf_set _ _ h7, h8, h9, h10, h11⟩

end canonical

end Sys2Proof.Machine
end

