-- ==== Sys2Proof/Laws/Frames.lean ====
section
/-! SUPPORT. Laws of the mailbox's frames: what is sealed under a key opens under it, and a frame built from a header passes the checks
of its length and CRC (R395, R396, R398). -/

namespace Sys2Proof.Machine

/-! ## Bytes -/

theorem length_toBytes (n x : Nat) : (toBytes n x).length = n := by
  induction n generalizing x with
  | zero => rfl
  | succ n ih => simp [toBytes, ih]

/-- Bytes hold the number that they were made from, as far as they reach. -/
theorem ofBytes_toBytes (n x : Nat) : ofBytes (toBytes n x) = x % 256 ^ n := by
  induction n generalizing x with
  | zero => simp [toBytes, ofBytes, Nat.mod_one]
  | succ n ih =>
    have := Nat.mod_mul (x := x) (a := 256) (b := 256 ^ n)
    rw [toBytes, ofBytes, ih, BitVec.toNat_ofNat, Nat.pow_succ' (n := n) (m := 256), this]

theorem length_beBytes (n x : Nat) : (beBytes n x).length = n := by simp [beBytes, length_toBytes]

/-! ## AES-256-GCM -/

theorem length_aes256 (key block : List Byte) : (aes256 key block).length = 16 := by simp [aes256]

theorem length_gcmStream (key iv : List Byte) (n : Nat) : (gcmStream key iv n).length = 16 * (n / 16 + 1) := by
  simp [gcmStream, List.length_flatMap, length_aes256]
  omega

theorem length_gcmXor (key iv bs : List Byte) : (gcmXor key iv bs).length = bs.length := by
  simp only [gcmXor, List.length_zipWith, length_gcmStream]
  omega

theorem length_gcmTag (key iv aad cipher : List Byte) : (gcmTag key iv aad cipher).length = 16 := by
  simp [gcmTag, length_beBytes, length_aes256]

/-- The exclusive OR with a key stream, taken twice, gives back what it was taken of. -/
theorem zipWith_xor_twice (a b : List Byte) (h : a.length ≤ b.length) :
    List.zipWith (· ^^^ ·) (List.zipWith (· ^^^ ·) a b) b = a := by
  induction a generalizing b with
  | nil => simp
  | cons x a ih =>
    cases b with
    | nil => simp at h
    | cons y b =>
      simp only [List.zipWith_cons_cons, List.cons.injEq]
      exact ⟨by rw [BitVec.xor_assoc, BitVec.xor_self, BitVec.xor_zero], ih b (by simpa using h)⟩

theorem gcmXor_twice (key iv bs : List Byte) : gcmXor key iv (gcmXor key iv bs) = bs := by
  rw [gcmXor, length_gcmXor, gcmXor]
  exact zipWith_xor_twice _ _ (by rw [length_gcmStream]; omega)

/-- What is sealed under a key opens under it. -/
theorem gcmOpen_sealed (key iv aad bs : List Byte) :
    gcmOpen key iv aad (gcmXor key iv bs) (gcmTag key iv aad (gcmXor key iv bs)) = some bs := by
  rw [gcmOpen, if_pos rfl, gcmXor_twice]

/-! ## Frames -/

/-- A datagram that carries a protected frame: its header reads back, its length and CRC hold, and it opens to its body under its key. -/
theorem hmpFrame_opens (f : Frame) (head : Nat) (key body : List Byte) (hf : f.data = hmpFrame head (some key) body)
    (hh : head < 2 ^ 256) (hk : [0x04, 0x10, 0x11, 0x12].contains (bits head 24 8) = true) (hl : bits head 96 32 = body.length)
    (hb : body.length ≤ 1024) :
    f.hdr = head ∧ frameLenOk f = true ∧ f.crcOk = true ∧ f.opened key = some body := by
  have h32 : (toBytes 32 head).length = 32 := length_toBytes _ _
  set h := toBytes 32 head with hdef
  set iv := (h.drop 16).take 12 with hiv
  set c := gcmXor key iv body with hc
  set tag := gcmTag key iv h c with ht
  have hcl : c.length = body.length := length_gcmXor _ _ _
  have htl : tag.length = 16 := length_gcmTag _ _ _ _
  have hd : f.data = h ++ (c ++ (tag ++ toBytes 4 (crc32c (h ++ c ++ tag)))) := by
    rw [hf, hmpFrame, hmpBytes]
    simp only [List.append_assoc]
    rfl
  have htake : f.data.take 32 = h := by rw [hd, List.take_left' h32]
  have hhdr : f.hdr = head := by
    rw [Frame.hdr, htake, hdef, ofBytes_toBytes]
    exact Nat.mod_eq_of_lt (by simpa using hh)
  have hlen : f.len = body.length := by rw [Frame.len, hhdr, hl]
  have hkind : f.kind = bits head 24 8 := by rw [Frame.kind, hhdr]
  have htot : f.data.length = 32 + body.length + 16 + 4 := by
    rw [hd]; simp only [List.length_append, length_toBytes, h32, hcl, htl]; omega
  have hcut : f.data = (h ++ c ++ tag) ++ toBytes 4 (crc32c (h ++ c ++ tag)) := by rw [hd]; simp only [List.append_assoc]
  have hpre : (h ++ c ++ tag).length = f.data.length - 4 := by
    rw [htot]; simp only [List.length_append, h32, hcl, htl]; omega
  have hbody : f.body = c := by
    rw [Frame.body, hlen, hd, List.drop_left' h32, List.take_left' hcl]
  have htag : (f.data.drop (32 + f.len)).take 16 = tag := by
    have e : f.data = (h ++ c) ++ (tag ++ toBytes 4 (crc32c (h ++ c ++ tag))) := by rw [hd]; simp only [List.append_assoc]
    rw [hlen, e, List.drop_left' (by simp only [List.length_append, h32, hcl]), List.take_left' htl]
  refine ⟨hhdr, ?_, ?_, ?_⟩
  · rw [frameLenOk, Frame.tagLen, hkind, if_pos hk, hlen, htot]
    simp [hb]
  · rw [Frame.crcOk, ← hpre, beq_iff_eq]
    conv_lhs => rw [hcut]
    conv_rhs => rw [hcut]
    rw [List.take_left' rfl, List.drop_left' rfl]
  · have hv : (f.data.drop 16).take 12 = iv := by
      rw [hiv, hd, List.drop_append_of_le_length (by omega), List.take_append_of_le_length (by simp only [List.length_drop]; omega)]
    rw [Frame.opened, hv, htake, hbody, htag, ht, hc, gcmOpen_sealed]

end Sys2Proof.Machine
end

