-- ==== Sys2Proof/Laws/Memory.lean ====
section
/-! SUPPORT. Laws of device memory: a read after a write, what a write leaves alone, and the canonical form that every memory
operation keeps. -/

namespace Sys2Proof.Machine

variable {s : State}

theorem State.writeByte_wf (h : Memory.wf s.mem = true) (a : Nat) (b : Byte) : Memory.wf (s.writeByte a b).mem = true :=
  Sparse.wf_set _ _ h

theorem State.writeBytes_wf (h : Memory.wf s.mem = true) (a : Nat) (bs : List Byte) : Memory.wf (s.writeBytes a bs).mem = true :=
  Sparse.wf_setRun _ _ h

theorem State.zeroRange_wf (h : Memory.wf s.mem = true) (lo hi : Nat) : Memory.wf (s.zeroRange lo hi).mem = true :=
  Sparse.wf_filter _ h

theorem State.clearStack_wf (h : Memory.wf s.mem = true) (n : Nat) : Memory.wf (s.clearStack n).mem = true :=
  State.zeroRange_wf h _ _

theorem State.clearChan_wf (h : Memory.wf s.mem = true) (n : Nat) : Memory.wf (s.clearChan n).mem = true :=
  State.zeroRange_wf h _ _

/-- A fold of byte writes through a map keeps the canonical form and, where the map misses an address, its byte. -/
theorem State.writeProg_fold (l a : Nat) (bs : List Byte) (n : Nat) (t : State) :
    (Memory.wf t.mem = true → Memory.wf ((List.range n).foldl (fun (t : State) i =>
      match t.translate l (a + i) with
      | some d => t.writeByte d (bs.getD i 0)
      | none => t) t).mem = true) := by
  intro h
  induction n with
  | zero => exact h
  | succ n ih =>
    rw [List.range_succ, List.foldl_append, List.foldl_cons, List.foldl_nil]
    split
    · exact State.writeByte_wf ih _ _
    · exact ih

theorem State.writeProg_wf (h : Memory.wf s.mem = true) (l a : Nat) (bs : List Byte) : Memory.wf (s.writeProg l a bs).mem = true :=
  State.writeProg_fold l a bs bs.length s h

theorem State.readByte_writeByte (h : Memory.wf s.mem = true) (a j : Nat) (b : Byte) :
    (s.writeByte a b).readByte j = if j = a then b else s.readByte j := Sparse.get_set a j b h

theorem State.readByte_writeBytes (h : Memory.wf s.mem = true) (a j : Nat) (bs : List Byte) :
    (s.writeBytes a bs).readByte j = if a ≤ j then (bs[j - a]?).getD (s.readByte j) else s.readByte j :=
  Sparse.get_setRun a j bs h

/-- A run of writes leaves every byte outside it alone. -/
theorem State.readByte_writeBytes_outside (h : Memory.wf s.mem = true) {a j : Nat} (bs : List Byte) (hj : j < a ∨ a + bs.length ≤ j) :
    (s.writeBytes a bs).readByte j = s.readByte j := by
  rw [State.readByte_writeBytes h]
  split
  · rw [List.getElem?_eq_none (by omega)]; rfl
  · rfl

/-- Zeroed addresses read 0, the others keep their byte. -/
theorem State.readByte_zeroRange (h : Memory.wf s.mem = true) (lo hi j : Nat) :
    (s.zeroRange lo hi).readByte j = if lo ≤ j ∧ j < hi then 0 else s.readByte j := by
  have := Sparse.get_filter (d := (0 : Byte)) (m := s.mem) (fun k => decide (k < lo) || decide (hi ≤ k)) j h
  rw [State.readByte, State.zeroRange, this]
  by_cases h1 : j < lo <;> by_cases h2 : hi ≤ j <;> simp [h1, h2, State.readByte]

/-- Translation does not depend on what memory holds. -/
@[simp] theorem State.writeByte_translate (s : State) (a : Nat) (b : Byte) (l x : Nat) :
    (s.writeByte a b).translate l x = s.translate l x := rfl

/-- A byte that no address of a program write translates to keeps its value. -/
theorem State.readByte_writeProg (h : Memory.wf s.mem = true) (l a j : Nat) (bs : List Byte)
    (hj : ∀ i, i < bs.length → s.translate l (a + i) ≠ some j) : (s.writeProg l a bs).readByte j = s.readByte j := by
  suffices ∀ (n : Nat), n ≤ bs.length → ∀ t : State, t = (List.range n).foldl (fun (t : State) i =>
      match t.translate l (a + i) with
      | some d => t.writeByte d (bs.getD i 0)
      | none => t) s → (Memory.wf t.mem = true ∧ (∀ x, t.translate l x = s.translate l x) ∧ t.readByte j = s.readByte j) by
    exact (this bs.length (Nat.le_refl _) _ rfl).2.2
  intro n
  induction n with
  | zero => intro _ t ht; subst ht; exact ⟨h, fun _ => rfl, rfl⟩
  | succ n ih =>
    intro hn t ht
    obtain ⟨h1, h2, h3⟩ := ih (by omega) _ rfl
    subst ht
    simp only [List.range_succ, List.foldl_append, List.foldl_cons, List.foldl_nil]
    rw [h2 (a + n)]
    split
    · rename_i d hd
      refine ⟨State.writeByte_wf h1 _ _, fun x => by rw [State.writeByte_translate]; exact h2 x, ?_⟩
      rw [State.readByte_writeByte h1, if_neg]
      · exact h3
      · intro e; subst e; exact hj n (by omega) hd
    · exact ⟨h1, h2, h3⟩

end Sys2Proof.Machine
end

