-- ==== Sys2Proof/WellFormed.lean ====
section
/-! DEFINITION. Which commands are well formed: what each operand may hold, and the check it fails by name. A command outside
these bounds names something the device does not have, or a field wider than the spec gives it. -/

namespace Sys2Proof

/-- A frame's own fields of their widths: VLAN ID, PCP, DSCP, MAC address and association number. -/
def Wire.ok (w : Wire) : Bool :=
  w.tag.all (fun p => decide (p.1 < 4096) && decide (p.2 < 8)) && decide (w.dscp < 64) && decide (w.mac < 2 ^ 48) &&
    w.sec.all (fun p => decide (p.1 < 4))

/-- An operand of a command, as something that can be checked. -/
inductive Operand where
  /-- A core: one of eight lagoons, virtual core below 512 (R20). -/
  | core (c : CoreId)
  /-- A lagoon L0 to L7 (R37). -/
  | lagoon (l : Nat)
  /-- One of the 20 HBM stacks. -/
  | stack (n : Nat)
  /-- One of the 640 HBM channels or 16 DDR5 channels. -/
  | channel (n : Nat)
  /-- One of the 18 regions. -/
  | region (n : Nat)
  /-- An HMP datagram: UDP ports of 16 bits, an address entry of the 16 and no more than a UDP payload (R395, R366). -/
  | frame (f : Frame)
  /-- A lighthouse probe (R378). -/
  | probe (p : Probe)
  /-- A network frame (R367). -/
  | net (p : NetFrame)
  /-- An MKA frame: an association number below 4. -/
  | mka (m : Mka)
  /-- A PTP message: times of 64 bits and one of the three transports (R377). -/
  | ptp (p : PtpMsg)
  /-- A RoCEv2 packet: queue pair and PSN of 24 bits, R_Key of 32, payload no longer than the largest PMTU. -/
  | packet (p : Packet)
  /-- The board's findings: straps of their widths, and parts that exist. -/
  | board (b : StartUp)
  /-- Where an error lies: PLOC of 16 bits, UNIT of 8, SUBIDX of 8 (Tables 4 and 6 of spec/16). -/
  | error (e : ErrAt)
  /-- A number below a bound, with the name of its field. -/
  | field (name : String) (n : Nat) (bound : Nat)
  deriving DecidableEq, Repr

/-- Whether an operand is one the device has. -/
def Operand.ok : Operand → Bool
  | .core c => decide (c.lagoon < 8) && decide (c.v < 512)
  | .lagoon l => decide (l < 8)
  | .stack n => decide (n < 20)
  | .channel n => decide (n < 656)
  | .region n => decide (n < 18)
  | .frame f => f.wire.ok && decide (f.sport < 2 ^ 16) && decide (f.dport < 2 ^ 16) && decide (f.entry < 16) && decide (f.data.length < 2 ^ 16)
  | .probe p => p.wire.ok && decide (p.sport < 2 ^ 16) && decide (p.dport < 2 ^ 16) && decide (p.entry < 16)
  | .net p => p.wire.ok && decide (p.mac < 2 ^ 48) && decide (p.target < 2 ^ 128)
  | .mka m => decide (m.an < 4)
  | .ptp p => p.wire.ok && decide (p.origin < 2 ^ 64) && p.followUp.all (fun n => decide (n < 2 ^ 64)) && decide (p.transport < 3)
  | .packet p => p.wire.ok && decide (p.dport < 2 ^ 16) && decide (p.entry < 16) && decide (p.syn < 4) &&
      p.imm.all (fun n => decide (n < 2 ^ 32)) && decide (p.qpn < 2 ^ 24) && decide (p.psn < 2 ^ 24) && decide (p.rkey < 2 ^ 32) && decide (p.bytes.length ≤ 4096)
  | .board b => decide (b.feed < 64) && decide (b.slot < 256) && decide (b.bootSrc < 4) && decide (b.linkMode < 4) &&
      b.hbmFail.all (fun n => decide (n < 20)) && b.cores.all (fun n => decide (n < 288))
  | .error e => decide (e.ploc < 2 ^ 16) && decide (e.unit < 256) && decide (e.subidx < 2 ^ 16) && e.lagoons.all (fun l => decide (l < 8))
  | .field _ n b => decide (n < b)

/-- What a command's operands must satisfy. -/
def Instr.checks : Instr → List Operand
  | .nop c _ => [.core c]
  | .repeatBundle c _ => [.core c]
  | .loop c _ => [.core c]
  | .call c _ => [.core c]
  | .ret c _ => [.core c]
  | .select c _ => [.core c]
  | .setx c _ => [.core c]
  | .take c _ => [.core c]
  | .bset c _ => [.core c]
  | .bclr c _ => [.core c]
  | .bwaitSet c _ => [.core c]
  | .bwaitClear c _ => [.core c]
  | .bwaitTally c _ => [.core c]
  | .fence c _ => [.core c]
  | .barrier c _ => [.core c]
  | .cancel c _ => [.core c]
  | .qmark c _ => [.core c]
  | .qmatch c _ => [.core c]
  | .endStream c _ => [.core c]
  | .emptyBeat c => [.core c]
  | .aTileIssue c _ => [.core c]
  | .cubeAct c k => [.core c, .field "cube" k 16]
  | .setB c _ => [.core c]
  | .oneB c _ => [.core c]
  | .accload c _ => [.core c]
  | .soundEntry c => [.core c]
  | .vAdd c _ => [.core c]
  | .vSub c _ => [.core c]
  | .vMul c _ => [.core c]
  | .vFma c _ => [.core c]
  | .vNeg c _ => [.core c]
  | .vAbs c _ => [.core c]
  | .vAdds c _ => [.core c]
  | .vSubs c _ => [.core c]
  | .vMuls c _ => [.core c]
  | .vShl c _ => [.core c]
  | .vShr c _ => [.core c]
  | .vSar c _ => [.core c]
  | .vAnd c _ => [.core c]
  | .vOr c _ => [.core c]
  | .vXor c _ => [.core c]
  | .vMin c _ => [.core c]
  | .vMax c _ => [.core c]
  | .vEq c _ => [.core c]
  | .vNe c _ => [.core c]
  | .vLt c _ => [.core c]
  | .vLe c _ => [.core c]
  | .vTotlt c _ => [.core c]
  | .vSel c _ => [.core c]
  | .vCvt c _ => [.core c]
  | .vExp c _ => [.core c]
  | .vExp2 c _ => [.core c]
  | .vLn c _ => [.core c]
  | .vLog2 c _ => [.core c]
  | .vRcp c _ => [.core c]
  | .vSqrt c _ => [.core c]
  | .vRsqrt c _ => [.core c]
  | .vTanh c _ => [.core c]
  | .vLogistic c _ => [.core c]
  | .vErf c _ => [.core c]
  | .vRsum c _ => [.core c]
  | .vRmax c _ => [.core c]
  | .vRmin c _ => [.core c]
  | .vCompress c _ => [.core c]
  | .vExpand c _ => [.core c]
  | .vCompressQ c _ => [.core c]
  | .vExpandQ c _ => [.core c]
  | .vFlushOq c _ => [.core c]
  | .vSumm c _ => [.core c]
  | .vLdc c _ => [.core c]
  | .vStc c _ => [.core c]
  | .vLdt c _ => [.core c]
  | .vStt c _ => [.core c]
  | .vSpopW c _ => [.core c]
  | .vSpopP c _ => [.core c]
  | .vQpop c _ => [.core c]
  | .vQpush c _ => [.core c]
  | .streamIssue c _ _ => [.core c]
  | .transactionRelease c _ => [.core c]
  | .wheelSlot ch _ => [.channel ch]
  | .transactionResponse c _ _ fails => [.core c, .field "checks failed" fails 3]
  | .streamQmark c n => [.core c, .field "queue" n 16]
  | .streamQmatch c n => [.core c, .field "queue" n 16]
  | .cancelDiscardDone c => [.core c]
  | .fenceComplete c _ => [.core c]
  | .barrierRelease l b => [.lagoon l, .field "barrier" b 64]
  | .messageSend c n fails => [.core c, .field "queue" n 16, .field "checks failed" fails 3]
  | .messageDelivery l dst src => [.lagoon l, .field "core" dst 512, .field "core" src 512]
  | .combiningContribution l n src => [.lagoon l, .field "queue" n 64, .field "core" src 512]
  | .reefFill st iss => [.stack st, .field "issuer" iss 513]
  | .reefCvt st iss => [.stack st, .field "issuer" iss 513]
  | .reefAdd st iss => [.stack st, .field "issuer" iss 513]
  | .reefMul st iss => [.stack st, .field "issuer" iss 513]
  | .reefScale st iss => [.stack st, .field "issuer" iss 513]
  | .reefAxpby st iss => [.stack st, .field "issuer" iss 513]
  | .reduceSum st iss => [.stack st, .field "issuer" iss 513]
  | .reduceMax st iss => [.stack st, .field "issuer" iss 513]
  | .reduceMin st iss => [.stack st, .field "issuer" iss 513]
  | .reefCheck st iss => [.stack st, .field "issuer" iss 513]
  | .sgdm st iss => [.stack st, .field "issuer" iss 513]
  | .adamw st iss => [.stack st, .field "issuer" iss 513]
  | .combine st iss => [.stack st, .field "issuer" iss 513]
  | .digest st iss => [.stack st, .field "issuer" iss 513]
  | .reefOpComplete st d => [.stack st, .field "issuer" d.iss 513, .field "checks failed" d.fails 3]
  | .ferryLineReceived p fails => [.field "physical core" p 288, .field "checks failed" fails 3]
  | .deadlock l => [.lagoon l]
  | .pilotInstruction c => [.core c]
  | .wfi c => [.core c]
  | .ebreak c => [.core c]
  | .hqSumv c => [.core c]
  | .hqSumh c => [.core c]
  | .hqChoose c => [.core c]
  | .hqBuoySet c => [.core c]
  | .hqBuoyClear c => [.core c]
  | .hqBuoyWaitSet c => [.core c]
  | .hqBuoyWaitClear c => [.core c]
  | .arstatWrite c => [.core c]
  | .sharedCsrRead c => [.core c]
  | .sharedCsrWrite c => [.core c]
  | .csrWrite c => [.core c]
  | .programBoundary l _ => [.lagoon l]
  | .thermalGovernorTick r _ => [.region r]
  | .regionResume r => [.region r]
  | .temperatureSample r _ => [.region r]
  | .railLow r _ => [.region r]
  | .railRecover r => [.region r]
  | .railFail r => [.region r]
  | .tideTick => []
  | .ptpSync p domain => [.ptp p, .field "domain" domain 256]
  | .holdoverTimeout => []
  | .deferredTideStep => []
  | .ppsEdge => []
  | .launch l => [.lagoon l]
  | .guardWindow r => [.region r]
  | .outputHashDone l => [.lagoon l]
  | .recordAccepted l => [.lagoon l]
  | .batchWindowExpiry => []
  | .batchSigned => []
  | .hello f => [.frame f]
  | .finish f => [.frame f]
  | .certGet f => [.frame f]
  | .handshakeTimeout n => [.field "session" n 64]
  | .sessionTimeout n => [.field "session" n 64]
  | .commandStart n => [.field "session" n 64]
  | .landingFenceMet n seq => [.field "session" n 64, .field "sequence" seq (2 ^ 32)]
  | .landingTimeout n seq => [.field "session" n 64, .field "sequence" seq (2 ^ 32)]
  | .cmdHmpNop f => [.frame f]
  | .cmdClose f => [.frame f]
  | .cmdEvents f => [.frame f]
  | .cmdConfigure f => [.frame f]
  | .cmdRelease f => [.frame f]
  | .cmdLoad f => [.frame f]
  | .cmdUnload f => [.frame f]
  | .cmdSeal f => [.frame f]
  | .sealDone l => [.lagoon l]
  | .cmdStart f => [.frame f]
  | .cmdPause f => [.frame f]
  | .pauseDone l => [.lagoon l]
  | .cmdResume f => [.frame f]
  | .cmdStop f => [.frame f]
  | .cmdSetmode f => [.frame f]
  | .cmdWaitRun f => [.frame f]
  | .cmdRead f => [.frame f]
  | .cmdXfer f => [.frame f]
  | .cmdSink f => [.frame f]
  | .cmdSinkAck f => [.frame f]
  | .cmdFlush f => [.frame f]
  | .cmdPath f => [.frame f]
  | .cmdBatchwin f => [.frame f]
  | .cmdPowerP0 f => [.frame f]
  | .cmdPowerP1 f => [.frame f]
  | .cmdPowerP2 f => [.frame f]
  | .cmdPowerP3 f => [.frame f]
  | .cmdTide f => [.frame f]
  | .cmdNetMac f => [.frame f]
  | .cmdNetLinkLocal f => [.frame f]
  | .cmdNetAddress f => [.frame f]
  | .cmdNetHmpport f => [.frame f]
  | .cmdQosPriorities f => [.frame f]
  | .cmdQosDscpMap f => [.frame f]
  | .cmdQosPfcwd f => [.frame f]
  | .cmdMacsecEnable f => [.frame f]
  | .cmdMacsecCak f => [.frame f]
  | .cmdLighthouse f => [.frame f]
  | .cmdTenantKeyInstall f => [.frame f]
  | .cmdTenantKeyRemove f => [.frame f]
  | .cmdQpCreate f => [.frame f]
  | .cmdQpDestroy f => [.frame f]
  | .cmdLrRegister f => [.frame f]
  | .cmdLrDeregister f => [.frame f]
  | .cmdLibPut f => [.frame f]
  | .cmdAttest f => [.frame f]
  | .cmdDebugOpen f => [.frame f]
  | .cmdDebugClose f => [.frame f]
  | .debugSessionExpiry scope => [.field "scope" scope 256]
  | .cmdLifecycleDeploy f => [.frame f]
  | .cmdLifecycleReturn f => [.frame f]
  | .wipeDone => []
  | .cmdCkSnapshot f => [.frame f]
  | .ckSnapshotDone l => [.lagoon l]
  | .cmdCkDrain f => [.frame f]
  | .ckDrainDone l => [.lagoon l]
  | .cmdCkRestore f => [.frame f]
  | .ckRestored l => [.lagoon l]
  | .cmdPair f => [.frame f]
  | .cmdCompare f => [.frame f]
  | .cmdSvcStart f => [.frame f]
  | .cmdSvcStop f => [.frame f]
  | .cmdDecide f => [.frame f]
  | .decisionWindowClose l => [.lagoon l]
  | .batchRunStart l => [.lagoon l]
  | .lighthouseProbe p => [.probe p]
  | .lighthouseReply => []
  | .echoRequest p => [.net p]
  | .neighbourSolicitation p => [.net p]
  | .arpRequest p => [.net p]
  | .linkUp lanes => [.field "lanes" lanes (2 ^ 16)]
  | .linkDown => []
  | .fecDegraded => []
  | .mkaFrame m => [.mka m]
  | .macsecPeerLost => []
  | .pauseFrame prio _ => [.field "priority" prio 8]
  | .pfcHold prio => [.field "priority" prio 8]
  | .roceWrite p => [.packet p]
  | .roceRead p => [.packet p]
  | .roceSend p => [.packet p]
  | .roceReadResponse p => [.packet p]
  | .roceAck p => [.packet p]
  | .roceAckTimeout qpn => [.field "queue pair" qpn 4097]
  | .cnpReceived p => [.packet p]
  | .i3cDynamicAddress a => [.field "address" a 128]
  | .pldmBaseQuery n => [.field "query" n 256]
  | .pldmSensorRead n _ => [.field "sensor" n 63]
  | .pldmFruRead => []
  | .pldmFirmwareUpdate _ _ bytes => [.field "length" bytes.length (64 * 2 ^ 20 + 1)]
  | .pldmFirmwareActivate => []
  | .oemReadRgnstat r => [.region r]
  | .oemReadHealth => []
  | .bmcRequestP3 => []
  | .bmcRequestOff => []
  | .bmcRelease => []
  | .extest _ => []
  | .idcode => []
  | .samplePreload _ => []
  | .bypass => []
  | .token bytes => [.field "length" bytes.length (64 * 2 ^ 20 + 1)]
  | .tokstat => []
  | .dbgsel scope => [.field "scope" scope 256]
  | .dbgaccState _ => []
  | .dbgaccCoreMemory _ => []
  | .dbgaccProgramAddress _ => []
  | .dbgaccObject _ => []
  | .dbgaccHaltSequencer _ => []
  | .dbgaccStepSequencer _ => []
  | .dbgaccResumeSequencer _ => []
  | .dbgaccHaltPilot _ => []
  | .dbgaccStepPilot _ => []
  | .dbgaccResumePilot _ => []
  | .provision _ => []
  | .provstat => []
  | .fwload _ bytes => [.field "length" bytes.length (64 * 2 ^ 20 + 1)]
  | .fwstat => []
  | .dbgend scope => [.field "scope" scope 256]
  | .porstFall => []
  | .porstRelease b => [.board b]
  | .pgoodFail g => [.field "power group" g 3]
  | .errorCorrected e => [.error e]
  | .errorUncorrectable e _ => [.error e]
  | .targetedSelfTest _ _ => []
  | .spareSubstituted _ _ => []
  | .scrub addr outcome => [.field "address" addr (2 ^ 44 + 2 ^ 42), .field "outcome" outcome 3]
  | .logbookSecond at_ => [.field "sensors" at_.temps.length 513]
  | .logbookCommit => []
  | .stopDone l => [.lagoon l]
  | .loadDone l => [.lagoon l]
  | .memoryClearingDone l => [.lagoon l]
  | .powerStateEntered => []
  | .pgoodAsserted g => [.field "power group" g 3]
  | .avsbusStatusTimeout r => [.region r]
  | .supplyFailure => []
  | .referenceLost => []
  | .peerDelayRequest p => [.net p]
  | .neighbourAdvertisement p => [.net p]
  | .arpReply p => [.net p]
  | .endpointIdAssignment eid => [.field "endpoint" eid 256]

/-- The operands of a command that fail their checks. -/
def Instr.faults (i : Instr) : List Operand := i.checks.filter (fun o => !o.ok)

/-- A command is well formed when every operand passes. -/
def Instr.wf (i : Instr) : Bool := i.checks.all Operand.ok

end Sys2Proof
end

