-- ==== Sys2Proof/Laws/PerInstr.lean ====
section
/-! SUPPORT. The family Operands: what a well-formed command names exists in the device, one lemma for each constructor. -/

namespace Sys2Proof.Laws.Operands

/-- The core a command names. -/
def core? : Instr → Option CoreId
  | .nop c _ => some c
  | .repeatBundle c _ => some c
  | .loop c _ => some c
  | .call c _ => some c
  | .ret c _ => some c
  | .select c _ => some c
  | .setx c _ => some c
  | .take c _ => some c
  | .bset c _ => some c
  | .bclr c _ => some c
  | .bwaitSet c _ => some c
  | .bwaitClear c _ => some c
  | .bwaitTally c _ => some c
  | .fence c _ => some c
  | .barrier c _ => some c
  | .cancel c _ => some c
  | .qmark c _ => some c
  | .qmatch c _ => some c
  | .endStream c _ => some c
  | .emptyBeat c => some c
  | .aTileIssue c _ => some c
  | .cubeAct c _ => some c
  | .setB c _ => some c
  | .oneB c _ => some c
  | .accload c _ => some c
  | .soundEntry c => some c
  | .vAdd c _ => some c
  | .vSub c _ => some c
  | .vMul c _ => some c
  | .vFma c _ => some c
  | .vNeg c _ => some c
  | .vAbs c _ => some c
  | .vAdds c _ => some c
  | .vSubs c _ => some c
  | .vMuls c _ => some c
  | .vShl c _ => some c
  | .vShr c _ => some c
  | .vSar c _ => some c
  | .vAnd c _ => some c
  | .vOr c _ => some c
  | .vXor c _ => some c
  | .vMin c _ => some c
  | .vMax c _ => some c
  | .vEq c _ => some c
  | .vNe c _ => some c
  | .vLt c _ => some c
  | .vLe c _ => some c
  | .vTotlt c _ => some c
  | .vSel c _ => some c
  | .vCvt c _ => some c
  | .vExp c _ => some c
  | .vExp2 c _ => some c
  | .vLn c _ => some c
  | .vLog2 c _ => some c
  | .vRcp c _ => some c
  | .vSqrt c _ => some c
  | .vRsqrt c _ => some c
  | .vTanh c _ => some c
  | .vLogistic c _ => some c
  | .vErf c _ => some c
  | .vRsum c _ => some c
  | .vRmax c _ => some c
  | .vRmin c _ => some c
  | .vCompress c _ => some c
  | .vExpand c _ => some c
  | .vCompressQ c _ => some c
  | .vExpandQ c _ => some c
  | .vFlushOq c _ => some c
  | .vSumm c _ => some c
  | .vLdc c _ => some c
  | .vStc c _ => some c
  | .vLdt c _ => some c
  | .vStt c _ => some c
  | .vSpopW c _ => some c
  | .vSpopP c _ => some c
  | .vQpop c _ => some c
  | .vQpush c _ => some c
  | .streamIssue c _ _ => some c
  | .transactionRelease c _ => some c
  | .transactionResponse c _ _ _ => some c
  | .streamQmark c _ => some c
  | .streamQmatch c _ => some c
  | .cancelDiscardDone c => some c
  | .fenceComplete c _ => some c
  | .messageSend c _ _ => some c
  | .pilotInstruction c => some c
  | .wfi c => some c
  | .ebreak c => some c
  | .hqSumv c => some c
  | .hqSumh c => some c
  | .hqChoose c => some c
  | .hqBuoySet c => some c
  | .hqBuoyClear c => some c
  | .hqBuoyWaitSet c => some c
  | .hqBuoyWaitClear c => some c
  | .arstatWrite c => some c
  | .sharedCsrRead c => some c
  | .sharedCsrWrite c => some c
  | .csrWrite c => some c
  | _ => none

/-- The lagoon a command names beside a core. -/
def lagoon? : Instr → Option Nat
  | .barrierRelease l _ => some l
  | .messageDelivery l _ _ => some l
  | .combiningContribution l _ _ => some l
  | .deadlock l => some l
  | .programBoundary l _ => some l
  | .launch l => some l
  | .outputHashDone l => some l
  | .recordAccepted l => some l
  | .sealDone l => some l
  | .pauseDone l => some l
  | .ckSnapshotDone l => some l
  | .ckDrainDone l => some l
  | .ckRestored l => some l
  | .decisionWindowClose l => some l
  | .batchRunStart l => some l
  | .stopDone l => some l
  | .loadDone l => some l
  | .memoryClearingDone l => some l
  | _ => none

/-- A well-formed command names a core of one of the eight lagoons and a virtual core below 512 (R20), and a lagoon below 8. -/
def Statement (i : Instr) : Prop :=
  i.wf = true → (∀ c, core? i = some c → c.lagoon < 8 ∧ c.v < 512) ∧ ∀ l, lagoon? i = some l → l < 8

theorem of_none {i : Instr} (hc : core? i = none) (hl : lagoon? i = none) : Statement i := by
  intro _; simp [hc, hl]

theorem of_core {i : Instr} (c : CoreId) (hc : core? i = some c) (hl : lagoon? i = none) (hm : .core c ∈ i.checks) : Statement i := by
  intro h
  have := List.all_eq_true.mp h _ hm
  simp only [Operand.ok, Bool.and_eq_true, decide_eq_true_eq] at this
  simp [hc, hl, this]

theorem of_lagoon {i : Instr} (l : Nat) (hc : core? i = none) (hl : lagoon? i = some l) (hm : .lagoon l ∈ i.checks) : Statement i := by
  intro h
  have := List.all_eq_true.mp h _ hm
  simp only [Operand.ok, decide_eq_true_eq] at this
  simp [hc, hl, this]

theorem nop (c : CoreId) (q : SeqId) : Statement (.nop c q) :=
  of_core c rfl rfl (List.Mem.head _)

theorem repeatBundle (c : CoreId) (q : SeqId) : Statement (.repeatBundle c q) :=
  of_core c rfl rfl (List.Mem.head _)

theorem loop (c : CoreId) (q : SeqId) : Statement (.loop c q) :=
  of_core c rfl rfl (List.Mem.head _)

theorem call (c : CoreId) (q : SeqId) : Statement (.call c q) :=
  of_core c rfl rfl (List.Mem.head _)

theorem ret (c : CoreId) (q : SeqId) : Statement (.ret c q) :=
  of_core c rfl rfl (List.Mem.head _)

theorem select (c : CoreId) (q : SeqId) : Statement (.select c q) :=
  of_core c rfl rfl (List.Mem.head _)

theorem setx (c : CoreId) (q : SeqId) : Statement (.setx c q) :=
  of_core c rfl rfl (List.Mem.head _)

theorem take (c : CoreId) (q : SeqId) : Statement (.take c q) :=
  of_core c rfl rfl (List.Mem.head _)

theorem bset (c : CoreId) (q : SeqId) : Statement (.bset c q) :=
  of_core c rfl rfl (List.Mem.head _)

theorem bclr (c : CoreId) (q : SeqId) : Statement (.bclr c q) :=
  of_core c rfl rfl (List.Mem.head _)

theorem bwaitSet (c : CoreId) (q : SeqId) : Statement (.bwaitSet c q) :=
  of_core c rfl rfl (List.Mem.head _)

theorem bwaitClear (c : CoreId) (q : SeqId) : Statement (.bwaitClear c q) :=
  of_core c rfl rfl (List.Mem.head _)

theorem bwaitTally (c : CoreId) (q : SeqId) : Statement (.bwaitTally c q) :=
  of_core c rfl rfl (List.Mem.head _)

theorem fence (c : CoreId) (q : SeqId) : Statement (.fence c q) :=
  of_core c rfl rfl (List.Mem.head _)

theorem barrier (c : CoreId) (q : SeqId) : Statement (.barrier c q) :=
  of_core c rfl rfl (List.Mem.head _)

theorem cancel (c : CoreId) (q : SeqId) : Statement (.cancel c q) :=
  of_core c rfl rfl (List.Mem.head _)

theorem qmark (c : CoreId) (q : SeqId) : Statement (.qmark c q) :=
  of_core c rfl rfl (List.Mem.head _)

theorem qmatch (c : CoreId) (q : SeqId) : Statement (.qmatch c q) :=
  of_core c rfl rfl (List.Mem.head _)

theorem endStream (c : CoreId) (q : SeqId) : Statement (.endStream c q) :=
  of_core c rfl rfl (List.Mem.head _)

theorem emptyBeat (c : CoreId) : Statement (.emptyBeat c) :=
  of_core c rfl rfl (List.Mem.head _)

theorem aTileIssue (c : CoreId) (w : BitVec 64) : Statement (.aTileIssue c w) :=
  of_core c rfl rfl (List.Mem.head _)

theorem cubeAct (c : CoreId) (k : Nat) : Statement (.cubeAct c k) :=
  of_core c rfl rfl (List.Mem.head _)

theorem setB (c : CoreId) (w : BitVec 64) : Statement (.setB c w) :=
  of_core c rfl rfl (List.Mem.head _)

theorem oneB (c : CoreId) (w : BitVec 64) : Statement (.oneB c w) :=
  of_core c rfl rfl (List.Mem.head _)

theorem accload (c : CoreId) (w : BitVec 64) : Statement (.accload c w) :=
  of_core c rfl rfl (List.Mem.head _)

theorem soundEntry (c : CoreId) : Statement (.soundEntry c) :=
  of_core c rfl rfl (List.Mem.head _)

theorem vAdd (c : CoreId) (w : BitVec 64) : Statement (.vAdd c w) :=
  of_core c rfl rfl (List.Mem.head _)

theorem vSub (c : CoreId) (w : BitVec 64) : Statement (.vSub c w) :=
  of_core c rfl rfl (List.Mem.head _)

theorem vMul (c : CoreId) (w : BitVec 64) : Statement (.vMul c w) :=
  of_core c rfl rfl (List.Mem.head _)

theorem vFma (c : CoreId) (w : BitVec 64) : Statement (.vFma c w) :=
  of_core c rfl rfl (List.Mem.head _)

theorem vNeg (c : CoreId) (w : BitVec 64) : Statement (.vNeg c w) :=
  of_core c rfl rfl (List.Mem.head _)

theorem vAbs (c : CoreId) (w : BitVec 64) : Statement (.vAbs c w) :=
  of_core c rfl rfl (List.Mem.head _)

theorem vAdds (c : CoreId) (w : BitVec 64) : Statement (.vAdds c w) :=
  of_core c rfl rfl (List.Mem.head _)

theorem vSubs (c : CoreId) (w : BitVec 64) : Statement (.vSubs c w) :=
  of_core c rfl rfl (List.Mem.head _)

theorem vMuls (c : CoreId) (w : BitVec 64) : Statement (.vMuls c w) :=
  of_core c rfl rfl (List.Mem.head _)

theorem vShl (c : CoreId) (w : BitVec 64) : Statement (.vShl c w) :=
  of_core c rfl rfl (List.Mem.head _)

theorem vShr (c : CoreId) (w : BitVec 64) : Statement (.vShr c w) :=
  of_core c rfl rfl (List.Mem.head _)

theorem vSar (c : CoreId) (w : BitVec 64) : Statement (.vSar c w) :=
  of_core c rfl rfl (List.Mem.head _)

theorem vAnd (c : CoreId) (w : BitVec 64) : Statement (.vAnd c w) :=
  of_core c rfl rfl (List.Mem.head _)

theorem vOr (c : CoreId) (w : BitVec 64) : Statement (.vOr c w) :=
  of_core c rfl rfl (List.Mem.head _)

theorem vXor (c : CoreId) (w : BitVec 64) : Statement (.vXor c w) :=
  of_core c rfl rfl (List.Mem.head _)

theorem vMin (c : CoreId) (w : BitVec 64) : Statement (.vMin c w) :=
  of_core c rfl rfl (List.Mem.head _)

theorem vMax (c : CoreId) (w : BitVec 64) : Statement (.vMax c w) :=
  of_core c rfl rfl (List.Mem.head _)

theorem vEq (c : CoreId) (w : BitVec 64) : Statement (.vEq c w) :=
  of_core c rfl rfl (List.Mem.head _)

theorem vNe (c : CoreId) (w : BitVec 64) : Statement (.vNe c w) :=
  of_core c rfl rfl (List.Mem.head _)

theorem vLt (c : CoreId) (w : BitVec 64) : Statement (.vLt c w) :=
  of_core c rfl rfl (List.Mem.head _)

theorem vLe (c : CoreId) (w : BitVec 64) : Statement (.vLe c w) :=
  of_core c rfl rfl (List.Mem.head _)

theorem vTotlt (c : CoreId) (w : BitVec 64) : Statement (.vTotlt c w) :=
  of_core c rfl rfl (List.Mem.head _)

theorem vSel (c : CoreId) (w : BitVec 64) : Statement (.vSel c w) :=
  of_core c rfl rfl (List.Mem.head _)

theorem vCvt (c : CoreId) (w : BitVec 64) : Statement (.vCvt c w) :=
  of_core c rfl rfl (List.Mem.head _)

theorem vExp (c : CoreId) (w : BitVec 64) : Statement (.vExp c w) :=
  of_core c rfl rfl (List.Mem.head _)

theorem vExp2 (c : CoreId) (w : BitVec 64) : Statement (.vExp2 c w) :=
  of_core c rfl rfl (List.Mem.head _)

theorem vLn (c : CoreId) (w : BitVec 64) : Statement (.vLn c w) :=
  of_core c rfl rfl (List.Mem.head _)

theorem vLog2 (c : CoreId) (w : BitVec 64) : Statement (.vLog2 c w) :=
  of_core c rfl rfl (List.Mem.head _)

theorem vRcp (c : CoreId) (w : BitVec 64) : Statement (.vRcp c w) :=
  of_core c rfl rfl (List.Mem.head _)

theorem vSqrt (c : CoreId) (w : BitVec 64) : Statement (.vSqrt c w) :=
  of_core c rfl rfl (List.Mem.head _)

theorem vRsqrt (c : CoreId) (w : BitVec 64) : Statement (.vRsqrt c w) :=
  of_core c rfl rfl (List.Mem.head _)

theorem vTanh (c : CoreId) (w : BitVec 64) : Statement (.vTanh c w) :=
  of_core c rfl rfl (List.Mem.head _)

theorem vLogistic (c : CoreId) (w : BitVec 64) : Statement (.vLogistic c w) :=
  of_core c rfl rfl (List.Mem.head _)

theorem vErf (c : CoreId) (w : BitVec 64) : Statement (.vErf c w) :=
  of_core c rfl rfl (List.Mem.head _)

theorem vRsum (c : CoreId) (w : BitVec 64) : Statement (.vRsum c w) :=
  of_core c rfl rfl (List.Mem.head _)

theorem vRmax (c : CoreId) (w : BitVec 64) : Statement (.vRmax c w) :=
  of_core c rfl rfl (List.Mem.head _)

theorem vRmin (c : CoreId) (w : BitVec 64) : Statement (.vRmin c w) :=
  of_core c rfl rfl (List.Mem.head _)

theorem vCompress (c : CoreId) (w : BitVec 64) : Statement (.vCompress c w) :=
  of_core c rfl rfl (List.Mem.head _)

theorem vExpand (c : CoreId) (w : BitVec 64) : Statement (.vExpand c w) :=
  of_core c rfl rfl (List.Mem.head _)

theorem vCompressQ (c : CoreId) (w : BitVec 64) : Statement (.vCompressQ c w) :=
  of_core c rfl rfl (List.Mem.head _)

theorem vExpandQ (c : CoreId) (w : BitVec 64) : Statement (.vExpandQ c w) :=
  of_core c rfl rfl (List.Mem.head _)

theorem vFlushOq (c : CoreId) (w : BitVec 64) : Statement (.vFlushOq c w) :=
  of_core c rfl rfl (List.Mem.head _)

theorem vSumm (c : CoreId) (w : BitVec 64) : Statement (.vSumm c w) :=
  of_core c rfl rfl (List.Mem.head _)

theorem vLdc (c : CoreId) (w : BitVec 64) : Statement (.vLdc c w) :=
  of_core c rfl rfl (List.Mem.head _)

theorem vStc (c : CoreId) (w : BitVec 64) : Statement (.vStc c w) :=
  of_core c rfl rfl (List.Mem.head _)

theorem vLdt (c : CoreId) (w : BitVec 64) : Statement (.vLdt c w) :=
  of_core c rfl rfl (List.Mem.head _)

theorem vStt (c : CoreId) (w : BitVec 64) : Statement (.vStt c w) :=
  of_core c rfl rfl (List.Mem.head _)

theorem vSpopW (c : CoreId) (w : BitVec 64) : Statement (.vSpopW c w) :=
  of_core c rfl rfl (List.Mem.head _)

theorem vSpopP (c : CoreId) (w : BitVec 64) : Statement (.vSpopP c w) :=
  of_core c rfl rfl (List.Mem.head _)

theorem vQpop (c : CoreId) (w : BitVec 64) : Statement (.vQpop c w) :=
  of_core c rfl rfl (List.Mem.head _)

theorem vQpush (c : CoreId) (w : BitVec 64) : Statement (.vQpush c w) :=
  of_core c rfl rfl (List.Mem.head _)

theorem streamIssue (c : CoreId) (q : SeqId) (w : BitVec 64) : Statement (.streamIssue c q w) :=
  of_core c rfl rfl (List.Mem.head _)

theorem transactionRelease (c : CoreId) (op : Nat) : Statement (.transactionRelease c op) :=
  of_core c rfl rfl (List.Mem.head _)

theorem wheelSlot (ch : Nat) (bad : Bool) : Statement (.wheelSlot ch bad) :=
  of_none rfl rfl

theorem transactionResponse (c : CoreId) (op : Nat) (txn : Nat) (fails : Nat) : Statement (.transactionResponse c op txn fails) :=
  of_core c rfl rfl (List.Mem.head _)

theorem streamQmark (c : CoreId) (n : Nat) : Statement (.streamQmark c n) :=
  of_core c rfl rfl (List.Mem.head _)

theorem streamQmatch (c : CoreId) (n : Nat) : Statement (.streamQmatch c n) :=
  of_core c rfl rfl (List.Mem.head _)

theorem cancelDiscardDone (c : CoreId) : Statement (.cancelDiscardDone c) :=
  of_core c rfl rfl (List.Mem.head _)

theorem fenceComplete (c : CoreId) (n : Nat) : Statement (.fenceComplete c n) :=
  of_core c rfl rfl (List.Mem.head _)

theorem barrierRelease (l : Nat) (b : Nat) : Statement (.barrierRelease l b) :=
  of_lagoon l rfl rfl (List.Mem.head _)

theorem messageSend (c : CoreId) (n : Nat) (fails : Nat) : Statement (.messageSend c n fails) :=
  of_core c rfl rfl (List.Mem.head _)

theorem messageDelivery (l : Nat) (dst : Nat) (src : Nat) : Statement (.messageDelivery l dst src) :=
  of_lagoon l rfl rfl (List.Mem.head _)

theorem combiningContribution (l : Nat) (n : Nat) (src : Nat) : Statement (.combiningContribution l n src) :=
  of_lagoon l rfl rfl (List.Mem.head _)

theorem reefFill (st : Nat) (iss : Nat) : Statement (.reefFill st iss) :=
  of_none rfl rfl

theorem reefCvt (st : Nat) (iss : Nat) : Statement (.reefCvt st iss) :=
  of_none rfl rfl

theorem reefAdd (st : Nat) (iss : Nat) : Statement (.reefAdd st iss) :=
  of_none rfl rfl

theorem reefMul (st : Nat) (iss : Nat) : Statement (.reefMul st iss) :=
  of_none rfl rfl

theorem reefScale (st : Nat) (iss : Nat) : Statement (.reefScale st iss) :=
  of_none rfl rfl

theorem reefAxpby (st : Nat) (iss : Nat) : Statement (.reefAxpby st iss) :=
  of_none rfl rfl

theorem reduceSum (st : Nat) (iss : Nat) : Statement (.reduceSum st iss) :=
  of_none rfl rfl

theorem reduceMax (st : Nat) (iss : Nat) : Statement (.reduceMax st iss) :=
  of_none rfl rfl

theorem reduceMin (st : Nat) (iss : Nat) : Statement (.reduceMin st iss) :=
  of_none rfl rfl

theorem reefCheck (st : Nat) (iss : Nat) : Statement (.reefCheck st iss) :=
  of_none rfl rfl

theorem sgdm (st : Nat) (iss : Nat) : Statement (.sgdm st iss) :=
  of_none rfl rfl

theorem adamw (st : Nat) (iss : Nat) : Statement (.adamw st iss) :=
  of_none rfl rfl

theorem combine (st : Nat) (iss : Nat) : Statement (.combine st iss) :=
  of_none rfl rfl

theorem digest (st : Nat) (iss : Nat) : Statement (.digest st iss) :=
  of_none rfl rfl

theorem reefOpComplete (st : Nat) (d : ReefDone) : Statement (.reefOpComplete st d) :=
  of_none rfl rfl

theorem ferryLineReceived (p : Nat) (fails : Nat) : Statement (.ferryLineReceived p fails) :=
  of_none rfl rfl

theorem deadlock (l : Nat) : Statement (.deadlock l) :=
  of_lagoon l rfl rfl (List.Mem.head _)

theorem pilotInstruction (c : CoreId) : Statement (.pilotInstruction c) :=
  of_core c rfl rfl (List.Mem.head _)

theorem wfi (c : CoreId) : Statement (.wfi c) :=
  of_core c rfl rfl (List.Mem.head _)

theorem ebreak (c : CoreId) : Statement (.ebreak c) :=
  of_core c rfl rfl (List.Mem.head _)

theorem hqSumv (c : CoreId) : Statement (.hqSumv c) :=
  of_core c rfl rfl (List.Mem.head _)

theorem hqSumh (c : CoreId) : Statement (.hqSumh c) :=
  of_core c rfl rfl (List.Mem.head _)

theorem hqChoose (c : CoreId) : Statement (.hqChoose c) :=
  of_core c rfl rfl (List.Mem.head _)

theorem hqBuoySet (c : CoreId) : Statement (.hqBuoySet c) :=
  of_core c rfl rfl (List.Mem.head _)

theorem hqBuoyClear (c : CoreId) : Statement (.hqBuoyClear c) :=
  of_core c rfl rfl (List.Mem.head _)

theorem hqBuoyWaitSet (c : CoreId) : Statement (.hqBuoyWaitSet c) :=
  of_core c rfl rfl (List.Mem.head _)

theorem hqBuoyWaitClear (c : CoreId) : Statement (.hqBuoyWaitClear c) :=
  of_core c rfl rfl (List.Mem.head _)

theorem arstatWrite (c : CoreId) : Statement (.arstatWrite c) :=
  of_core c rfl rfl (List.Mem.head _)

theorem sharedCsrRead (c : CoreId) : Statement (.sharedCsrRead c) :=
  of_core c rfl rfl (List.Mem.head _)

theorem sharedCsrWrite (c : CoreId) : Statement (.sharedCsrWrite c) :=
  of_core c rfl rfl (List.Mem.head _)

theorem csrWrite (c : CoreId) : Statement (.csrWrite c) :=
  of_core c rfl rfl (List.Mem.head _)

theorem programBoundary (l : Nat) (raise : Nat) : Statement (.programBoundary l raise) :=
  of_lagoon l rfl rfl (List.Mem.head _)

theorem thermalGovernorTick (r : Nat) (rate : Nat) : Statement (.thermalGovernorTick r rate) :=
  of_none rfl rfl

theorem regionResume (r : Nat) : Statement (.regionResume r) :=
  of_none rfl rfl

theorem temperatureSample (r : Nat) (tj : Int) : Statement (.temperatureSample r tj) :=
  of_none rfl rfl

theorem railLow (r : Nat) (mv : Nat) : Statement (.railLow r mv) :=
  of_none rfl rfl

theorem railRecover (r : Nat) : Statement (.railRecover r) :=
  of_none rfl rfl

theorem railFail (r : Nat) : Statement (.railFail r) :=
  of_none rfl rfl

theorem tideTick : Statement (.tideTick) :=
  of_none rfl rfl

theorem ptpSync (p : PtpMsg) (domain : Nat) : Statement (.ptpSync p domain) :=
  of_none rfl rfl

theorem holdoverTimeout : Statement (.holdoverTimeout) :=
  of_none rfl rfl

theorem deferredTideStep : Statement (.deferredTideStep) :=
  of_none rfl rfl

theorem ppsEdge : Statement (.ppsEdge) :=
  of_none rfl rfl

theorem launch (l : Nat) : Statement (.launch l) :=
  of_lagoon l rfl rfl (List.Mem.head _)

theorem guardWindow (r : Nat) : Statement (.guardWindow r) :=
  of_none rfl rfl

theorem outputHashDone (l : Nat) : Statement (.outputHashDone l) :=
  of_lagoon l rfl rfl (List.Mem.head _)

theorem recordAccepted (l : Nat) : Statement (.recordAccepted l) :=
  of_lagoon l rfl rfl (List.Mem.head _)

theorem batchWindowExpiry : Statement (.batchWindowExpiry) :=
  of_none rfl rfl

theorem batchSigned : Statement (.batchSigned) :=
  of_none rfl rfl

theorem hello (f : Frame) : Statement (.hello f) :=
  of_none rfl rfl

theorem finish (f : Frame) : Statement (.finish f) :=
  of_none rfl rfl

theorem certGet (f : Frame) : Statement (.certGet f) :=
  of_none rfl rfl

theorem handshakeTimeout (n : Nat) : Statement (.handshakeTimeout n) :=
  of_none rfl rfl

theorem sessionTimeout (n : Nat) : Statement (.sessionTimeout n) :=
  of_none rfl rfl

theorem commandStart (n : Nat) : Statement (.commandStart n) :=
  of_none rfl rfl

theorem landingFenceMet (n : Nat) (seq : Nat) : Statement (.landingFenceMet n seq) :=
  of_none rfl rfl

theorem landingTimeout (n : Nat) (seq : Nat) : Statement (.landingTimeout n seq) :=
  of_none rfl rfl

theorem cmdHmpNop (f : Frame) : Statement (.cmdHmpNop f) :=
  of_none rfl rfl

theorem cmdClose (f : Frame) : Statement (.cmdClose f) :=
  of_none rfl rfl

theorem cmdEvents (f : Frame) : Statement (.cmdEvents f) :=
  of_none rfl rfl

theorem cmdConfigure (f : Frame) : Statement (.cmdConfigure f) :=
  of_none rfl rfl

theorem cmdRelease (f : Frame) : Statement (.cmdRelease f) :=
  of_none rfl rfl

theorem cmdLoad (f : Frame) : Statement (.cmdLoad f) :=
  of_none rfl rfl

theorem cmdUnload (f : Frame) : Statement (.cmdUnload f) :=
  of_none rfl rfl

theorem cmdSeal (f : Frame) : Statement (.cmdSeal f) :=
  of_none rfl rfl

theorem sealDone (l : Nat) : Statement (.sealDone l) :=
  of_lagoon l rfl rfl (List.Mem.head _)

theorem cmdStart (f : Frame) : Statement (.cmdStart f) :=
  of_none rfl rfl

theorem cmdPause (f : Frame) : Statement (.cmdPause f) :=
  of_none rfl rfl

theorem pauseDone (l : Nat) : Statement (.pauseDone l) :=
  of_lagoon l rfl rfl (List.Mem.head _)

theorem cmdResume (f : Frame) : Statement (.cmdResume f) :=
  of_none rfl rfl

theorem cmdStop (f : Frame) : Statement (.cmdStop f) :=
  of_none rfl rfl

theorem cmdSetmode (f : Frame) : Statement (.cmdSetmode f) :=
  of_none rfl rfl

theorem cmdWaitRun (f : Frame) : Statement (.cmdWaitRun f) :=
  of_none rfl rfl

theorem cmdRead (f : Frame) : Statement (.cmdRead f) :=
  of_none rfl rfl

theorem cmdXfer (f : Frame) : Statement (.cmdXfer f) :=
  of_none rfl rfl

theorem cmdSink (f : Frame) : Statement (.cmdSink f) :=
  of_none rfl rfl

theorem cmdSinkAck (f : Frame) : Statement (.cmdSinkAck f) :=
  of_none rfl rfl

theorem cmdFlush (f : Frame) : Statement (.cmdFlush f) :=
  of_none rfl rfl

theorem cmdPath (f : Frame) : Statement (.cmdPath f) :=
  of_none rfl rfl

theorem cmdBatchwin (f : Frame) : Statement (.cmdBatchwin f) :=
  of_none rfl rfl

theorem cmdPowerP0 (f : Frame) : Statement (.cmdPowerP0 f) :=
  of_none rfl rfl

theorem cmdPowerP1 (f : Frame) : Statement (.cmdPowerP1 f) :=
  of_none rfl rfl

theorem cmdPowerP2 (f : Frame) : Statement (.cmdPowerP2 f) :=
  of_none rfl rfl

theorem cmdPowerP3 (f : Frame) : Statement (.cmdPowerP3 f) :=
  of_none rfl rfl

theorem cmdTide (f : Frame) : Statement (.cmdTide f) :=
  of_none rfl rfl

theorem cmdNetMac (f : Frame) : Statement (.cmdNetMac f) :=
  of_none rfl rfl

theorem cmdNetLinkLocal (f : Frame) : Statement (.cmdNetLinkLocal f) :=
  of_none rfl rfl

theorem cmdNetAddress (f : Frame) : Statement (.cmdNetAddress f) :=
  of_none rfl rfl

theorem cmdNetHmpport (f : Frame) : Statement (.cmdNetHmpport f) :=
  of_none rfl rfl

theorem cmdQosPriorities (f : Frame) : Statement (.cmdQosPriorities f) :=
  of_none rfl rfl

theorem cmdQosDscpMap (f : Frame) : Statement (.cmdQosDscpMap f) :=
  of_none rfl rfl

theorem cmdQosPfcwd (f : Frame) : Statement (.cmdQosPfcwd f) :=
  of_none rfl rfl

theorem cmdMacsecEnable (f : Frame) : Statement (.cmdMacsecEnable f) :=
  of_none rfl rfl

theorem cmdMacsecCak (f : Frame) : Statement (.cmdMacsecCak f) :=
  of_none rfl rfl

theorem cmdLighthouse (f : Frame) : Statement (.cmdLighthouse f) :=
  of_none rfl rfl

theorem cmdTenantKeyInstall (f : Frame) : Statement (.cmdTenantKeyInstall f) :=
  of_none rfl rfl

theorem cmdTenantKeyRemove (f : Frame) : Statement (.cmdTenantKeyRemove f) :=
  of_none rfl rfl

theorem cmdQpCreate (f : Frame) : Statement (.cmdQpCreate f) :=
  of_none rfl rfl

theorem cmdQpDestroy (f : Frame) : Statement (.cmdQpDestroy f) :=
  of_none rfl rfl

theorem cmdLrRegister (f : Frame) : Statement (.cmdLrRegister f) :=
  of_none rfl rfl

theorem cmdLrDeregister (f : Frame) : Statement (.cmdLrDeregister f) :=
  of_none rfl rfl

theorem cmdLibPut (f : Frame) : Statement (.cmdLibPut f) :=
  of_none rfl rfl

theorem cmdAttest (f : Frame) : Statement (.cmdAttest f) :=
  of_none rfl rfl

theorem cmdDebugOpen (f : Frame) : Statement (.cmdDebugOpen f) :=
  of_none rfl rfl

theorem cmdDebugClose (f : Frame) : Statement (.cmdDebugClose f) :=
  of_none rfl rfl

theorem debugSessionExpiry (scope : Nat) : Statement (.debugSessionExpiry scope) :=
  of_none rfl rfl

theorem cmdLifecycleDeploy (f : Frame) : Statement (.cmdLifecycleDeploy f) :=
  of_none rfl rfl

theorem cmdLifecycleReturn (f : Frame) : Statement (.cmdLifecycleReturn f) :=
  of_none rfl rfl

theorem wipeDone : Statement (.wipeDone) :=
  of_none rfl rfl

theorem cmdCkSnapshot (f : Frame) : Statement (.cmdCkSnapshot f) :=
  of_none rfl rfl

theorem ckSnapshotDone (l : Nat) : Statement (.ckSnapshotDone l) :=
  of_lagoon l rfl rfl (List.Mem.head _)

theorem cmdCkDrain (f : Frame) : Statement (.cmdCkDrain f) :=
  of_none rfl rfl

theorem ckDrainDone (l : Nat) : Statement (.ckDrainDone l) :=
  of_lagoon l rfl rfl (List.Mem.head _)

theorem cmdCkRestore (f : Frame) : Statement (.cmdCkRestore f) :=
  of_none rfl rfl

theorem ckRestored (l : Nat) : Statement (.ckRestored l) :=
  of_lagoon l rfl rfl (List.Mem.head _)

theorem cmdPair (f : Frame) : Statement (.cmdPair f) :=
  of_none rfl rfl

theorem cmdCompare (f : Frame) : Statement (.cmdCompare f) :=
  of_none rfl rfl

theorem cmdSvcStart (f : Frame) : Statement (.cmdSvcStart f) :=
  of_none rfl rfl

theorem cmdSvcStop (f : Frame) : Statement (.cmdSvcStop f) :=
  of_none rfl rfl

theorem cmdDecide (f : Frame) : Statement (.cmdDecide f) :=
  of_none rfl rfl

theorem decisionWindowClose (l : Nat) : Statement (.decisionWindowClose l) :=
  of_lagoon l rfl rfl (List.Mem.head _)

theorem batchRunStart (l : Nat) : Statement (.batchRunStart l) :=
  of_lagoon l rfl rfl (List.Mem.head _)

theorem lighthouseProbe (p : Probe) : Statement (.lighthouseProbe p) :=
  of_none rfl rfl

theorem lighthouseReply : Statement (.lighthouseReply) :=
  of_none rfl rfl

theorem echoRequest (p : NetFrame) : Statement (.echoRequest p) :=
  of_none rfl rfl

theorem neighbourSolicitation (p : NetFrame) : Statement (.neighbourSolicitation p) :=
  of_none rfl rfl

theorem arpRequest (p : NetFrame) : Statement (.arpRequest p) :=
  of_none rfl rfl

theorem linkUp (lanes : Nat) : Statement (.linkUp lanes) :=
  of_none rfl rfl

theorem linkDown : Statement (.linkDown) :=
  of_none rfl rfl

theorem fecDegraded : Statement (.fecDegraded) :=
  of_none rfl rfl

theorem mkaFrame (m : Mka) : Statement (.mkaFrame m) :=
  of_none rfl rfl

theorem macsecPeerLost : Statement (.macsecPeerLost) :=
  of_none rfl rfl

theorem pauseFrame (prio : Nat) (on : Bool) : Statement (.pauseFrame prio on) :=
  of_none rfl rfl

theorem pfcHold (prio : Nat) : Statement (.pfcHold prio) :=
  of_none rfl rfl

theorem roceWrite (p : Packet) : Statement (.roceWrite p) :=
  of_none rfl rfl

theorem roceRead (p : Packet) : Statement (.roceRead p) :=
  of_none rfl rfl

theorem roceSend (p : Packet) : Statement (.roceSend p) :=
  of_none rfl rfl

theorem roceReadResponse (p : Packet) : Statement (.roceReadResponse p) :=
  of_none rfl rfl

theorem roceAck (p : Packet) : Statement (.roceAck p) :=
  of_none rfl rfl

theorem roceAckTimeout (qpn : Nat) : Statement (.roceAckTimeout qpn) :=
  of_none rfl rfl

theorem cnpReceived (p : Packet) : Statement (.cnpReceived p) :=
  of_none rfl rfl

theorem i3cDynamicAddress (a : Nat) : Statement (.i3cDynamicAddress a) :=
  of_none rfl rfl

theorem pldmBaseQuery (n : Nat) : Statement (.pldmBaseQuery n) :=
  of_none rfl rfl

theorem pldmSensorRead (n : Nat) (v : Int) : Statement (.pldmSensorRead n v) :=
  of_none rfl rfl

theorem pldmFruRead : Statement (.pldmFruRead) :=
  of_none rfl rfl

theorem pldmFirmwareUpdate (pkg : Bool) (ver : Nat) (bytes : List Byte) : Statement (.pldmFirmwareUpdate pkg ver bytes) :=
  of_none rfl rfl

theorem pldmFirmwareActivate : Statement (.pldmFirmwareActivate) :=
  of_none rfl rfl

theorem oemReadRgnstat (r : Nat) : Statement (.oemReadRgnstat r) :=
  of_none rfl rfl

theorem oemReadHealth : Statement (.oemReadHealth) :=
  of_none rfl rfl

theorem bmcRequestP3 : Statement (.bmcRequestP3) :=
  of_none rfl rfl

theorem bmcRequestOff : Statement (.bmcRequestOff) :=
  of_none rfl rfl

theorem bmcRelease : Statement (.bmcRelease) :=
  of_none rfl rfl

theorem extest (d : List Bool) : Statement (.extest d) :=
  of_none rfl rfl

theorem idcode : Statement (.idcode) :=
  of_none rfl rfl

theorem samplePreload (d : List Bool) : Statement (.samplePreload d) :=
  of_none rfl rfl

theorem bypass : Statement (.bypass) :=
  of_none rfl rfl

theorem token (bytes : List Byte) : Statement (.token bytes) :=
  of_none rfl rfl

theorem tokstat : Statement (.tokstat) :=
  of_none rfl rfl

theorem dbgsel (scope : Nat) : Statement (.dbgsel scope) :=
  of_none rfl rfl

theorem dbgaccState (w : BitVec 128) : Statement (.dbgaccState w) :=
  of_none rfl rfl

theorem dbgaccCoreMemory (w : BitVec 128) : Statement (.dbgaccCoreMemory w) :=
  of_none rfl rfl

theorem dbgaccProgramAddress (w : BitVec 128) : Statement (.dbgaccProgramAddress w) :=
  of_none rfl rfl

theorem dbgaccObject (w : BitVec 128) : Statement (.dbgaccObject w) :=
  of_none rfl rfl

theorem dbgaccHaltSequencer (w : BitVec 128) : Statement (.dbgaccHaltSequencer w) :=
  of_none rfl rfl

theorem dbgaccStepSequencer (w : BitVec 128) : Statement (.dbgaccStepSequencer w) :=
  of_none rfl rfl

theorem dbgaccResumeSequencer (w : BitVec 128) : Statement (.dbgaccResumeSequencer w) :=
  of_none rfl rfl

theorem dbgaccHaltPilot (w : BitVec 128) : Statement (.dbgaccHaltPilot w) :=
  of_none rfl rfl

theorem dbgaccStepPilot (w : BitVec 128) : Statement (.dbgaccStepPilot w) :=
  of_none rfl rfl

theorem dbgaccResumePilot (w : BitVec 128) : Statement (.dbgaccResumePilot w) :=
  of_none rfl rfl

theorem provision (d : BitVec 1408) : Statement (.provision d) :=
  of_none rfl rfl

theorem provstat : Statement (.provstat) :=
  of_none rfl rfl

theorem fwload (ver : Nat) (bytes : List Byte) : Statement (.fwload ver bytes) :=
  of_none rfl rfl

theorem fwstat : Statement (.fwstat) :=
  of_none rfl rfl

theorem dbgend (scope : Nat) : Statement (.dbgend scope) :=
  of_none rfl rfl

theorem porstFall : Statement (.porstFall) :=
  of_none rfl rfl

theorem porstRelease (b : StartUp) : Statement (.porstRelease b) :=
  of_none rfl rfl

theorem pgoodFail (g : Nat) : Statement (.pgoodFail g) :=
  of_none rfl rfl

theorem errorCorrected (e : ErrAt) : Statement (.errorCorrected e) :=
  of_none rfl rfl

theorem errorUncorrectable (e : ErrAt) (met : Nat) : Statement (.errorUncorrectable e met) :=
  of_none rfl rfl

theorem targetedSelfTest (n : Nat) (pass : Bool) : Statement (.targetedSelfTest n pass) :=
  of_none rfl rfl

theorem spareSubstituted (n : Nat) (pass : Bool) : Statement (.spareSubstituted n pass) :=
  of_none rfl rfl

theorem scrub (addr : Nat) (outcome : Nat) : Statement (.scrub addr outcome) :=
  of_none rfl rfl

theorem logbookSecond (at_ : SecondAt) : Statement (.logbookSecond at_) :=
  of_none rfl rfl

theorem logbookCommit : Statement (.logbookCommit) :=
  of_none rfl rfl

theorem stopDone (l : Nat) : Statement (.stopDone l) :=
  of_lagoon l rfl rfl (List.Mem.head _)

theorem loadDone (l : Nat) : Statement (.loadDone l) :=
  of_lagoon l rfl rfl (List.Mem.head _)

theorem memoryClearingDone (l : Nat) : Statement (.memoryClearingDone l) :=
  of_lagoon l rfl rfl (List.Mem.head _)

theorem powerStateEntered : Statement (.powerStateEntered) :=
  of_none rfl rfl

theorem pgoodAsserted (g : Nat) : Statement (.pgoodAsserted g) :=
  of_none rfl rfl

theorem avsbusStatusTimeout (r : Nat) : Statement (.avsbusStatusTimeout r) :=
  of_none rfl rfl

theorem supplyFailure : Statement (.supplyFailure) :=
  of_none rfl rfl

theorem referenceLost : Statement (.referenceLost) :=
  of_none rfl rfl

theorem peerDelayRequest (p : NetFrame) : Statement (.peerDelayRequest p) :=
  of_none rfl rfl

theorem neighbourAdvertisement (p : NetFrame) : Statement (.neighbourAdvertisement p) :=
  of_none rfl rfl

theorem arpReply (p : NetFrame) : Statement (.arpReply p) :=
  of_none rfl rfl

theorem endpointIdAssignment (eid : Nat) : Statement (.endpointIdAssignment eid) :=
  of_none rfl rfl

end Sys2Proof.Laws.Operands
end

