-- ==== Sys2Proof/Tests/Slice0.lean ====
section
/-! SUPPORT. Tests: small states and single steps, a witness for the hypotheses of every statement, and ill-formed operands. -/

namespace Sys2Proof.Tests

set_option Elab.async false

open Sys2Proof Sys2Proof.Machine

/-! ## Small states -/

/-- How an untagged frame of 100 bytes over IPv6 comes. -/
def wire0 : Wire := ⟨100, none, 0, false, true, true, 0, none⟩

/-- Core 0 of lagoon 0. -/
def c0 : CoreId := ⟨0, 0⟩

/-- A core whose image holds these bundle words from address 0. -/
def coreOf (words : List (BitVec 64)) : Core :=
  { Core.blank with img := { CoreImage.blank with used := true, prog := Sparse.setRun 0 [] 0 words }, guardLu := 100000 }

/-- A device in P0 whose lagoon 0 runs with one core, one stack and one DDR5 channel. -/
def devOf (k : Core) : State :=
  { State.reset with
    cores := [(0, k)]
    lagoons := [(0, { Lagoon.blank with st := .running, cfg := ⟨1, 1, 1, 0, true⟩ })]
    regions := [(0, { Region.blank with state := 0 })]
    ddr := [(0, ⟨2 ^ 38, 6400, true, false⟩)]
    power := { Power.blank with porst := true }
    boot := { State.reset.boot with ready := true, step4 := true } }

/-- A unified bundle without slots: control operation, INC mask and CARG (Table 1 of spec/05). -/
def copWord (op inc carg : Nat) : BitVec 64 := BitVec.ofNat 64 (3 * 2 ^ 60 + op * 2 ^ 48 + inc * 2 ^ 32 + carg)

/-- The device at such a bundle, with a change to the core. -/
def atCop (op inc carg : Nat) (f : Core → Core := id) : State := devOf (f (coreOf [copWord op inc carg]))

/-- The state that an outcome gives. -/
def out (o : Host.Outcome State Fault Refusal) : State :=
  match o with
  | .next s => s
  | _ => State.reset

/-- Whether the bundle without slots at which a sequencer stands issues. -/
def goes (s : State) (q : SeqId) : Bool :=
  let k := s.issueCore c0 q
  let b := (s.core c0).bundle q
  s.canonical && s.issues c0 && (List.range b.size).all (fun i => s.badWord c0 3 (((s.core c0).seq q).addr + i) == false) && (s.marks c0).isEmpty &&
    (s.core c0).mayIssue q && (k.bundleWaits (s.ctx c0) q b).isEmpty && b.slots.isEmpty

/-- Such a bundle meets the premises of the statements about control bundles. -/
theorem issuing_of {s : State} {q : SeqId} (h : goes s q = true) :
    s.canonical = true ∧ s.Issuing c0 q ((s.issueCore c0 q).copBefore q ((s.core c0).bundle q)) := by
  simp only [goes, Bool.and_eq_true, List.all_eq_true, List.mem_range, beq_iff_eq, List.isEmpty_iff] at h
  obtain ⟨⟨⟨⟨⟨⟨h0, h1⟩, h2⟩, hm⟩, h3⟩, h4⟩, h5⟩ := h
  refine ⟨h0, h1, h2, hm, h3, h4, ?_, ?_⟩
  · rw [h5]; rfl
  · rw [h5]; exact Nat.zero_le _

/-- The execute sequencer of core 0 after a command. -/
def exAfter (i : Instr) (s : State) : Seq := ((out (exec i s)).core c0).ex

/-- The codes of the events a command raised, oldest first. -/
def codes (i : Instr) (s : State) : List Nat := ((out (exec i s)).log.map (·.code)).reverse

/-! ## Control bundles -/

theorem test_nop : goes (atCop 0 0 0) .execute = true ∧ isCop .nop (bundleAt [(0, copWord 0 0 0)] 0) = true ∧
    exAfter (.nop c0 .execute) (atCop 0 0 0) = { Seq.blank with addr := 1 } := by decide +kernel

/-- REPEAT with n = 1 issues again and then moves on (R152); INC adds XS1 to X1 each time (R147). -/
theorem test_repeat : goes (atCop 1 2 1 (fun c => { c with ex := { c.ex with xs := [(1, 5)] } })) .execute = true ∧
    (exAfter (.repeatBundle c0 .execute) (atCop 1 2 1 (fun c => { c with ex := { c.ex with xs := [(1, 5)] } }))) =
      { Seq.blank with xs := [(1, 5)], x := [(1, 5)], rep := 1 } ∧
    (exAfter (.repeatBundle c0 .execute) (atCop 1 2 1 (fun c => { c with ex := { c.ex with xs := [(1, 5)], rep := 1 } }))) =
      { Seq.blank with xs := [(1, 5)], x := [(1, 5)], addr := 1 } := by decide +kernel

/-- LOOP with COUNT = 3 and a body of one bundle; with CX and X15 = 0 the body is skipped (R152). -/
theorem test_loop :
    let s := devOf (coreOf [copWord 2 0 (2 + 1 * 2 ^ 16), copWord 0 0 0])
    let z := devOf (coreOf [copWord 2 0 (2 ^ 15 + 1 * 2 ^ 16), copWord 0 0 0])
    goes s .execute = true ∧ exAfter (.loop c0 .execute) s = { Seq.blank with loops := [⟨0, 1, 2, 3, 0⟩], addr := 1 } ∧
    goes z .execute = true ∧ exAfter (.loop c0 .execute) z = { Seq.blank with addr := 2 } := by decide +kernel

theorem test_call : goes (atCop 3 0 7 (fun c => { c with img := { c.img with calls := [(7, 40)] } })) .execute = true ∧
    exAfter (.call c0 .execute) (atCop 3 0 7 (fun c => { c with img := { c.img with calls := [(7, 40)] } })) =
      { Seq.blank with stack := [1], addr := 40 } := by decide +kernel

theorem test_ret : goes (atCop 4 0 0 (fun c => { c with ex := { c.ex with stack := [9, 3] } })) .execute = true ∧
    exAfter (.ret c0 .execute) (atCop 4 0 0 (fun c => { c with ex := { c.ex with stack := [9, 3] } })) =
      { Seq.blank with stack := [3], addr := 9 } := by decide +kernel

/-- SETX writes X3, or XS3 with bit 27 (R147). -/
theorem test_setx : goes (atCop 6 0 (3 * 2 ^ 28 + 77)) .execute = true ∧
    exAfter (.setx c0 .execute) (atCop 6 0 (3 * 2 ^ 28 + 77)) = { Seq.blank with x := [(3, 77)], addr := 1 } ∧
    exAfter (.setx c0 .execute) (atCop 6 0 (3 * 2 ^ 28 + 2 ^ 27 + 77)) = { Seq.blank with xs := [(3, 77)], addr := 1 } := by
  decide +kernel

theorem test_end : goes (atCop 0x1F 0 0) .execute = true ∧
    exAfter (.endStream c0 .execute) (atCop 0x1F 0 0) = { Seq.blank with ended := true } := by decide +kernel

/-- TAKE writes ARG to X15; a choice that is no token raises 0x1301 (R162). -/
theorem test_take :
    let f (w : BitVec 32) (c : Core) : Core := { c with ex := { c.ex with choices := [w] } }
    goes (atCop 7 0 0 (f 0x0005FFFF)) .execute = true ∧
    exAfter (.take c0 .execute) (atCop 7 0 0 (f 0x0005FFFF)) = { Seq.blank with x := [(15, 5)], addr := 1 } ∧
    ((out (exec (.take c0 .execute) (atCop 7 0 0 (f 0x00050000)))).log.map (·.code)) = [0x5506, 0x1301] := by decide +kernel

/-- SELECT calls the variant its choice names; a choice beyond the entry raises 0x1301 (R162). -/
theorem test_select :
    let f (w : BitVec 32) (c : Core) : Core := { c with
      ex := { c.ex with choices := [w] }, img := { c.img with variants := [(2, [20, 30])] } }
    goes (atCop 5 0 2 (f 0x00070001)) .execute = true ∧
    exAfter (.select c0 .execute) (atCop 5 0 2 (f 0x00070001)) = { Seq.blank with x := [(15, 7)], stack := [1], addr := 30 } ∧
    ((out (exec (.select c0 .execute) (atCop 5 0 2 (f 0x00070002)))).log.map (·.code)) = [0x5506, 0x1301] := by decide +kernel

/-- BSET sets a clear buoy and counts it, and waits at a set one (R241). -/
theorem test_bset :
    let up (c : Core) : Core := { c with buoys := [(9, ⟨0, true, 1⟩)] }
    goes (atCop 8 0 9) .execute = true ∧ ((out (exec (.bset c0 .execute) (atCop 8 0 9))).core c0).buoys = [(9, ⟨0, true, 1⟩)] ∧
    goes (atCop 8 0 9 up) .execute = false ∧ out (exec (.bset c0 .execute) (atCop 8 0 9 up)) = atCop 8 0 9 up := by decide +kernel

theorem test_bclr :
    let up (c : Core) : Core := { c with buoys := [(9, ⟨0, true, 1⟩)] }
    goes (atCop 9 0 9 up) .execute = true ∧ ((out (exec (.bclr c0 .execute) (atCop 9 0 9 up))).core c0).buoys = [(9, ⟨0, false, 1⟩)] ∧
    out (exec (.bclr c0 .execute) (atCop 9 0 9)) = atCop 9 0 9 := by decide +kernel

theorem test_bwait :
    let up (c : Core) : Core := { c with buoys := [(9, ⟨0, true, 1⟩)] }
    goes (atCop 0xA 0 9 up) .execute = true ∧ exAfter (.bwaitSet c0 .execute) (atCop 0xA 0 9 up) = { Seq.blank with addr := 1 } ∧
    goes (atCop 0xA 0 (2 ^ 30 + 9)) .execute = true ∧
    exAfter (.bwaitClear c0 .execute) (atCop 0xA 0 (2 ^ 30 + 9)) = { Seq.blank with addr := 1 } ∧
    out (exec (.bwaitSet c0 .execute) (atCop 0xA 0 9)) = atCop 0xA 0 9 ∧
    out (exec (.bwaitClear c0 .execute) (atCop 0xA 0 (2 ^ 30 + 9) up)) = atCop 0xA 0 (2 ^ 30 + 9) up := by decide +kernel

/-- A tally wait for 3 adds 3 to the base (R246). -/
theorem test_tally :
    let f (c : Core) : Core := { c with tallies := [(4, ⟨5, 1, .execute⟩)] }
    goes (atCop 0xA 0 (2 * 2 ^ 30 + 4 * 2 ^ 26 + 3) f) .execute = true ∧
    ((out (exec (.bwaitTally c0 .execute) (atCop 0xA 0 (2 * 2 ^ 30 + 4 * 2 ^ 26 + 3) f))).core c0).tallies = [(4, ⟨5, 4, .execute⟩)] := by
  decide +kernel

/-- A posted FENCE names its classes and buoy; a FENCE with WAIT posts, holds and then issues (R248, R250). -/
theorem test_fence :
    let post := atCop 0xB 0 (2 ^ 14 + 5 * 2 ^ 8 + 3)
    let wait := atCop 0xB 0 (2 ^ 15 + 1)
    let held := atCop 0xB 0 (2 ^ 15 + 1) (fun c => { c with ex := { c.ex with fenced := true } })
    goes post .execute = true ∧ ((out (exec (.fence c0 .execute) post)).core c0).fences = [⟨0, .execute, true, true, false, 0, some 5, false⟩] ∧
    exAfter (.fence c0 .execute) wait = { Seq.blank with fence := some 0 } ∧
    goes held .execute = true ∧ exAfter (.fence c0 .execute) held = { Seq.blank with addr := 1 } := by decide +kernel

/-- A member that has arrived and is released goes on (R254). -/
theorem test_barrier :
    let s := atCop 0xC 0 3 (fun c => { c with ex := { c.ex with arrived := true, released := true } })
    goes s .execute = true ∧ exAfter (.barrier c0 .execute) s = { Seq.blank with addr := 1 } := by decide +kernel

/-- CANCEL clears its buoy and names its queues (R197, R198). -/
theorem test_cancel :
    let s := atCop 0xD 0 (4 * 2 ^ 16 + 9 * 2 ^ 8) (fun c => { c with buoys := [(9, ⟨0, true, 1⟩)] })
    goes s .execute = true ∧ ((out (exec (.cancel c0 .execute) s)).core c0).cancels = [⟨4, []⟩] ∧
    ((out (exec (.cancel c0 .execute) s)).core c0).buoys = [(9, ⟨0, false, 1⟩)] := by decide +kernel

/-- QMARK on an outbound queue pushes a marker; on an inbound one it joins the stream engine's operations (R158, R527). -/
theorem test_qmark :
    let f (c : Core) : Core := { c with queues := [(18, { Queue.blank with cfg := 0x20002000 })] }
    let s := atCop 0x10 0 (2 ^ 20 + 2 * 2 ^ 16 + 0x41) f
    let e := atCop 0x10 0 (2 * 2 ^ 16 + 0x41)
    goes s .execute = true ∧ (((out (exec (.qmark c0 .execute) s)).core c0).queue 18).entries = [markEntry (2 ^ 20 + 2 * 2 ^ 16 + 0x41)] ∧
    goes e .execute = true ∧ ((out (exec (.qmark c0 .execute) e)).core c0).ops.map (fun o => (o.kind, o.first, o.label)) = [(4, 2, 0x41)] := by
  decide +kernel

theorem test_qmatch :
    let m : QEntry := ⟨[], [], 0xF, 0, some 0x41, 0, 0, 0, false, 0⟩
    let f (c : Core) : Core := { c with queues := [(2, { Queue.blank with cfg := 0x20002000, entries := [m], pushed := 1 })] }
    let s := atCop 0x11 0 (2 * 2 ^ 16 + 0x41) f
    let e := atCop 0x11 0 (2 ^ 20 + 2 * 2 ^ 16 + 0x41)
    goes s .execute = true ∧ (((out (exec (.qmatch c0 .execute) s)).core c0).queue 2).popped = 1 ∧
    goes e .execute = true ∧ ((out (exec (.qmatch c0 .execute) e)).core c0).ops.map (fun o => (o.kind, o.first, o.label)) = [(5, 2, 0x41)] := by
  decide +kernel

/-! ## Beats, fences and barriers that complete -/

/-- After END an empty beat passes while the core is not settled; once it is, the trace ends (R141). -/
theorem test_emptyBeat :
    let s (n : Nat) : State := devOf { coreOf [] with beat := 1, ex := { Seq.blank with ended := true }, vec := { Vec.blank with freeC := n } }
    (s 1).issues c0 = true ∧ ((s 1).core c0).rowCaughtUp = true ∧ ((s 1).core c0).settled = false ∧ ((s 0).core c0).settled = true ∧
    ((out (exec (.emptyBeat c0) (s 1))).core c0).beat = 2 ∧ ((out (exec (.emptyBeat c0) (s 0))).core c0).traceEnd = true := by
  decide +kernel

/-- A fence that covers nothing outstanding completes and sets its buoy (R250). -/
theorem test_fenceComplete :
    let s := devOf { coreOf [] with fences := [⟨3, .execute, true, false, false, 0, some 5, false⟩] }
    s.paced c0 = true ∧ ((out (exec (.fenceComplete c0 3) s)).core c0).fences = [] ∧
    (((out (exec (.fenceComplete c0 3) s)).core c0).buoy 5).set = true := by decide +kernel

/-- The last member's arrival releases a barrier and counts the episode (R254). -/
theorem test_barrierRelease :
    let s0 := devOf { coreOf [copWord 0xC 0 2] with ex := { Seq.blank with arrived := true } }
    let s := s0.setLagoon 0 { s0.lagoon 0 with barriers := [⟨2, [(0, false)], 4, 0⟩] }
    s.canonical = true ∧ s.arrived 0 2 (0, false) = true ∧
    (((out (exec (.barrierRelease 0 2) s)).lagoon 0).barriers) = [⟨2, [(0, false)], 5, 0⟩] ∧
    (exAfter (.barrierRelease 0 2) s).released = true := by decide +kernel

/-! ## The matrix row -/

/-- A row control word: mask, drain, INIT, exact sum, slot (Table 2 of spec/03). -/
def rcwOf (mask : Nat) (drain init exact : Bool) (slot : Nat) : Nat :=
  mask * 2 ^ 16 + b2n drain * 2 ^ 15 + b2n init * 2 ^ 12 + b2n exact * 2 ^ 11 + slot

/-- A core with an INT8 line of ones at tile memory line 0 and an INT8 line of twos in every B0. -/
def rowCore : Core :=
  let l (n : Nat) : Line := ⟨BitVec.ofNat 1024 (joinBits 8 (List.replicate 128 n)), 0xC, 0⟩
  { coreOf [] with
    tile := [(0, l 1)]
    row := { Row.blank with
      cubes := (List.range 16).map (fun n => (n, { Cube.blank with b0 := l 2 }))
      future := (List.range 16).map (fun n => (n, ⟨0xC, 0xF, []⟩)) } }

def aTileW : BitVec 64 := BitVec.ofNat 64 (0xC * 2 ^ 60 + rcwOf 0xFFFF true true false 0)

/-- An INT8 A tile enters the row at its beat and its drains join the fixed order (R92, R105). -/
theorem test_aTile :
    let s := devOf rowCore
    s.issues c0 = true ∧ ((out (exec (.aTileIssue c0 aTileW) s)).core c0).row.tiles.map (fun t => (t.beat, t.fmt)) = [(0, .int8)] ∧
    ((out (exec (.aTileIssue c0 aTileW) s)).core c0).row.order = (List.range 16).map (fun n => (0, n)) := by decide +kernel

/-- A tile whose tag is not the FMT raises 0x1101 (R59), one that adds into an unset tile 0x1104 (R90). -/
theorem test_aTileRefused :
    let s := devOf rowCore
    ((out (exec (.aTileIssue c0 (BitVec.ofNat 64 (0x4 * 2 ^ 60 + rcwOf 1 false true false 0))) s)).log.map (·.code)) = [0x5506, 0x1101] ∧
    ((out (exec (.aTileIssue c0 (BitVec.ofNat 64 (0xC * 2 ^ 60 + rcwOf 1 false false false 0))) s)).log.map (·.code)) = [0x5506, 0x1104] := by
  decide +kernel

/-- Cube 0 acts at the tile's beat: every element of the INT32 tile is the sum of 16 products 1 × 2 (R65, R85, R92). -/
theorem test_cubeAct :
    let s := out (exec (.aTileIssue c0 aTileW) (devOf rowCore))
    let s1 := s.setCore c0 { s.core c0 with beat := 1 }
    let t := out (exec (.cubeAct c0 0) s1)
    s1.canonical = true ∧ s1.paced c0 = true ∧ (s1.core c0).cubeReady 0 = true ∧ (s1.core c0).cubeOverflows 0 = false ∧
    ((t.core c0).cube 0).pos = 1 ∧ ((t.core c0).cube 0).drain.isSome = true := by decide +kernel

theorem test_cubeSum : (cubeBeat .int8 .int32 (rowCore.tileLine 0) (rowCore.cube 0).b0 (List.replicate 64 5)).1 = List.replicate 64 37 := by
  decide +kernel

/-- The drained tile of cube 0 enters the sound (R105). -/
theorem test_soundEntry :
    let s := out (exec (.aTileIssue c0 aTileW) (devOf rowCore))
    let s1 := s.setCore c0 { s.core c0 with beat := 1 }
    let s2 := out (exec (.cubeAct c0 0) s1)
    let s3 := s2.setCore c0 { s2.core c0 with beat := 2 }
    let t := out (exec (.soundEntry c0) s3)
    s3.paced c0 = true ∧ (s3.core c0).nextSound.isSome = true ∧ (t.core c0).row.sound.length = 1 ∧
    (t.core c0).row.order.head? = some (0, 1) := by decide +kernel

/-- SET names sixteen members, ONE one; a busy B path raises 0x1106 (R96 to R98). -/
theorem test_bpath :
    let s := devOf rowCore
    let w : BitVec 64 := BitVec.ofNat 64 (3 * 2 ^ 42 + 2 ^ 41)
    let busy := devOf { rowCore with row := { rowCore.row with bFree := 5 } }
    ((out (exec (.setB c0 w) s)).core c0).row.bops.map (fun o => (o.beat, o.tags.length)) = [(0, 16)] ∧
    ((out (exec (.oneB c0 w) s)).core c0).row.bops.map (fun o => (o.beat, o.tags.length)) = [(0, 1)] ∧
    ((out (exec (.setB c0 w) busy)).log.map (·.code)) = [0x5506, 0x1106] := by decide +kernel

/-- ACCLOAD of an FP64 tile reads four lines (R98). -/
theorem test_accload :
    let s := devOf rowCore
    let w : BitVec 64 := BitVec.ofNat 64 (3 * 2 ^ 42 + 1 * 2 ^ 38)
    ((out (exec (.accload c0 w) s)).core c0).row.bops.map (fun o => (o.beat, o.tags.length)) = [(0, 4)] ∧
    ((out (exec (.accload c0 w) s)).core c0).row.bFree = 4 := by decide +kernel

/-! ## The vector engine -/

/-- A VEC or VMOVE syllable (Table 5 of spec/05). -/
def vecW (fmt : Fmt) (rm : Nat) (msk : Bool) (mreg vd va vb vc aux imm : Nat) : BitVec 64 :=
  BitVec.ofNat 64 (fmt.tag * 2 ^ 52 + rm * 2 ^ 49 + b2n msk * 2 ^ 47 + mreg * 2 ^ 44 + vd * 2 ^ 39 + va * 2 ^ 34 + vb * 2 ^ 29 +
    vc * 2 ^ 24 + aux * 2 ^ 16 + imm)

/-- A vector of these elements, the rest 0. -/
def vecOf (f : Fmt) (l : List Nat) : VecData := BitVec.ofNat 2048 (joinBits f.width l)

/-- A device whose V1, V2 and V3 hold these elements and whose M1 is a mask. -/
def atVec (f : Fmt) (a b c : List Nat) (m : Nat := 0) : State :=
  devOf { coreOf [] with vec := { Vec.blank with
    regs := Sparse.set 0 (Sparse.set 0 (Sparse.set 0 [] 1 (vecOf f a)) 2 (vecOf f b)) 3 (vecOf f c)
    masks := Sparse.set 0 [] 1 (BitVec.ofNat 256 m) } }

/-- The first n elements of the result on its way. -/
def resultOf (f : Fmt) (n : Nat) (i : Instr) (s : State) : List Nat :=
  match ((out (exec i s)).core c0).vec.pend with
  | [w] => (elems f w.data).take n
  | _ => []

def w4 : BitVec 64 := vecW .int32 0 false 0 4 1 2 3 0 3

theorem test_vInt :
    let s := atVec .int32 [0x7FFFFFFF, 0x80000000] [1, 0xFFFFFFFF] [2, 1]
    s.issues c0 = true ∧ resultOf .int32 2 (.vAdd c0 w4) s = [0x80000000, 0x7FFFFFFF] ∧
    resultOf .int32 2 (.vSub c0 w4) s = [0x7FFFFFFE, 0x80000001] ∧ resultOf .int32 2 (.vMul c0 w4) s = [0x7FFFFFFF, 0x80000000] := by
  decide +kernel

theorem test_vInt2 :
    let s := atVec .int32 [0x7FFFFFFF, 0x80000000] [1, 0xFFFFFFFF] [2, 1]
    resultOf .int32 2 (.vFma c0 w4) s = [0x80000001, 0x80000001] ∧ resultOf .int32 2 (.vNeg c0 w4) s = [0x80000001, 0x80000000] ∧
    resultOf .int32 2 (.vAbs c0 w4) s = [0x7FFFFFFF, 0x80000000] := by decide +kernel

theorem test_vSaturate :
    let s := atVec .int32 [0x7FFFFFFF, 0x80000000] [1, 0xFFFFFFFF] []
    resultOf .int32 2 (.vAdds c0 w4) s = [0x7FFFFFFF, 0x80000000] ∧ resultOf .int32 2 (.vSubs c0 w4) s = [0x7FFFFFFE, 0x80000001] ∧
    resultOf .int32 2 (.vMuls c0 w4) s = [0x7FFFFFFF, 0x7FFFFFFF] := by decide +kernel

/-- Shifts by IMM = 3. -/
theorem test_vShift :
    let s := atVec .int32 [0x7FFFFFFF, 0x80000000] [] []
    resultOf .int32 2 (.vShl c0 w4) s = [0xFFFFFFF8, 0] ∧ resultOf .int32 2 (.vShr c0 w4) s = [0x0FFFFFFF, 0x10000000] ∧
    resultOf .int32 2 (.vSar c0 w4) s = [0x0FFFFFFF, 0xF0000000] := by decide +kernel

theorem test_vLogic :
    let s := atVec .int32 [0x7F, 0x80000000] [1, 0xFFFFFFFF] []
    resultOf .int32 2 (.vAnd c0 w4) s = [1, 0x80000000] ∧ resultOf .int32 2 (.vOr c0 w4) s = [0x7F, 0xFFFFFFFF] ∧
    resultOf .int32 2 (.vXor c0 w4) s = [0x7E, 0x7FFFFFFF] := by decide +kernel

theorem test_vMinMax :
    let s := atVec .int32 [0x7F, 0x80000000] [1, 0xFFFFFFFF] []
    resultOf .int32 2 (.vMin c0 w4) s = [1, 0x80000000] ∧ resultOf .int32 2 (.vMax c0 w4) s = [0x7F, 0xFFFFFFFF] := by decide +kernel

def wd4 : BitVec 64 := vecW .fp64 0 false 0 4 1 2 3 0 0

/-- FP64: 1.5 + 2; the sum of two largest numbers overflows to infinity under RNE (R524); NaN. -/
theorem test_vFloat :
    let s := atVec .fp64 [0x3FF8000000000000, 0x7FEFFFFFFFFFFFFF, 0x7FF8000000000000] [0x4000000000000000, 0x7FEFFFFFFFFFFFFF, 0]
      [0x3FF0000000000000]
    resultOf .fp64 3 (.vAdd c0 wd4) s = [0x400C000000000000, 0x7FF0000000000000, 0x7FF8000000000000] ∧
    resultOf .fp64 1 (.vSub c0 wd4) s = [0xBFE0000000000000] ∧ resultOf .fp64 1 (.vMul c0 wd4) s = [0x4008000000000000] ∧
    resultOf .fp64 1 (.vFma c0 wd4) s = [0x4010000000000000] := by decide +kernel

/-- A NaN makes MIN and MAX the canonical NaN (R81). -/
theorem test_vFloat2 :
    let s := atVec .fp64 [0x3FF8000000000000, 0x7FFC000000000000] [0x4000000000000000, 0] []
    resultOf .fp64 1 (.vNeg c0 wd4) s = [0xBFF8000000000000] ∧ resultOf .fp64 1 (.vAbs c0 wd4) s = [0x3FF8000000000000] ∧
    resultOf .fp64 2 (.vMin c0 wd4) s = [0x3FF8000000000000, 0x7FF8000000000000] ∧
    resultOf .fp64 2 (.vMax c0 wd4) s = [0x4000000000000000, 0x7FF8000000000000] := by decide +kernel

/-- Raw data is no operand of the arithmetic classes, FP32 none of the integer classes, INT8 none of the special functions (R138). -/
theorem test_vFormat :
    let s := atVec .fp16 [] [] []
    codes (.vAdd c0 (vecW .raw 0 false 0 4 1 2 3 0 0)) s = [0x1203, 0x5506] ∧
    codes (.vShl c0 (vecW .fp32 0 false 0 4 1 2 3 0 0)) s = [0x1203, 0x5506] ∧
    codes (.vExp c0 (vecW .int8 0 false 0 4 1 2 3 0 0)) s = [0x1203, 0x5506] := by decide +kernel

/-- Compares: −0 equals +0, a NaN is unequal to itself, an inactive bit keeps its value (R80, R120). -/
theorem test_vCompare :
    let a := [0x8000000000000000, 0x7FF8000000000000, 0x3FF0000000000000, 0x4000000000000000]
    let b := [0, 0x7FF8000000000000, 0x4000000000000000, 0x3FF0000000000000]
    let s := atVec .fp64 a b [] 0b1111
    let m := atVec .fp64 a b [] 0b0010
    let w : BitVec 64 := vecW .fp64 0 true 1 0 1 2 0 0 0
    resultOf .int32 1 (.vEq c0 w) s = [0b0001] ∧ resultOf .int32 1 (.vNe c0 w) s = [0b1110] ∧ resultOf .int32 1 (.vLt c0 w) s = [0b0100] ∧
    resultOf .int32 1 (.vLe c0 w) s = [0b0101] ∧ resultOf .int32 1 (.vTotlt c0 w) s = [0b0101] ∧ resultOf .int32 1 (.vEq c0 w) m = [0] := by
  decide +kernel

theorem test_vSelect :
    let s := atVec .int16 [1, 2, 3, 4] [5, 6, 7, 8] [] 0b1010
    let w : BitVec 64 := vecW .int16 0 true 1 4 1 2 0 0 0
    resultOf .int16 4 (.vSel c0 w) s = [5, 2, 7, 4] ∧ resultOf .int16 4 (.vCompress c0 w) s = [2, 4, 0, 0] ∧
    resultOf .int16 4 (.vExpand c0 w) s = [0, 1, 0, 2] := by decide +kernel

/-- Special functions at exact points, FP64. -/
theorem test_vSpecial :
    let s := atVec .fp64 [0] [] []
    let t := atVec .fp64 [0x4010000000000000] [] []
    resultOf .fp64 1 (.vExp c0 wd4) s = [0x3FF0000000000000] ∧ resultOf .fp64 1 (.vExp2 c0 wd4) s = [0x3FF0000000000000] ∧
    resultOf .fp64 1 (.vRcp c0 wd4) t = [0x3FD0000000000000] ∧ resultOf .fp64 1 (.vSqrt c0 wd4) t = [0x4000000000000000] ∧
    resultOf .fp64 1 (.vRsqrt c0 wd4) t = [0x3FE0000000000000] := by decide +kernel

theorem test_vSpecial2 :
    let s := atVec .fp64 [0] [] []
    resultOf .fp64 1 (.vTanh c0 wd4) s = [0] ∧ resultOf .fp64 1 (.vErf c0 wd4) s = [0] ∧
    resultOf .fp64 1 (.vLogistic c0 wd4) s = [0x3FE0000000000000] := by decide +kernel

/-- LN and LOG2 of 1 are 0 in every element. -/
theorem test_vLog :
    let s := atVec .fp64 (List.replicate 32 0x3FF0000000000000) [] []
    resultOf .fp64 1 (.vLn c0 wd4) s = [0] ∧ resultOf .fp64 1 (.vLog2 c0 wd4) s = [0] := by decide +kernel

/-- Reductions over the active elements (R134). -/
theorem test_vReduce :
    let s := atVec .int8 [5, 0xFE, 7] [] [] 0b111
    let w : BitVec 64 := vecW .int8 0 true 1 4 1 0 0 0 0
    resultOf .int32 2 (.vRsum c0 w) s = [10, 0] ∧ resultOf .int32 2 (.vRmax c0 w) s = [7, 0] ∧
    resultOf .int32 2 (.vRmin c0 w) s = [0xFFFFFFFE, 0] := by decide +kernel

/-- CVT from FP16 to BF16 (R525). -/
theorem test_vCvt : resultOf .bf16 2 (.vCvt c0 (vecW .bf16 0 false 0 4 1 0 0 3 0)) (atVec .fp16 [0x3C00, 0xC000] [] []) = [0x3F80, 0xC000] := by
  decide +kernel

/-- SUMM of kind COUNT and ANY; a seventeenth waiting entry raises 0x1202 (R135). -/
theorem test_vSumm :
    let s := atVec .int8 [] [] [] 0b1011
    let w (kind : Nat) : BitVec 64 := vecW .int8 0 true 1 0 1 0 0 kind 9
    let full := devOf { coreOf [] with vec := { Vec.blank with summ := List.replicate 16 ⟨0, 0⟩ } }
    ((out (exec (.vSumm c0 (w 0)) s)).core c0).vec.summ = [⟨BitVec.ofNat 64 (3 + 9 * 2 ^ 48 + 0xA * 2 ^ 56), 8⟩] ∧
    ((out (exec (.vSumm c0 (w 1)) s)).core c0).vec.summ = [⟨BitVec.ofNat 64 (1 + 9 * 2 ^ 48 + 0xA * 2 ^ 56 + 2 ^ 60), 8⟩] ∧
    codes (.vSumm c0 (w 0)) full = [0x1202, 0x5506] ∧ codes (.vSumm c0 (w 5)) s = [0x1203, 0x5506] := by decide +kernel

/-- COMPRESS_Q fills the packing buffer of OQ2 with the active bytes (R133). -/
theorem test_vCompressQ :
    let s := atVec .int8 [1, 2, 3, 4] [] [] 0b1010
    (((out (exec (.vCompressQ c0 (vecW .int8 0 true 1 0 1 0 0 2 0)) s)).core c0).queue 18).pack = [2, 4] := by decide +kernel

/-- FLUSH_OQ pushes the partly filled buffer with its count (R133). -/
theorem test_vFlush :
    let s := devOf { coreOf [] with queues := [(18, { Queue.blank with cfg := 0x20002000, pack := [2, 4, 6] })] }
    let t := (out (exec (.vFlushOq c0 (vecW .int8 0 false 0 0 0 0 0 2 0)) s)).core c0
    (t.queue 18).pack = [] ∧ (t.queue 18).entries.map (·.count) = [3] := by decide +kernel

/-- EXPAND_Q takes as many units of the head entry of IQ1 as are active, and waits at an empty queue (R133). -/
theorem test_vExpandQ :
    let e := entryOf (vecOf .int8 [9, 8, 7, 6]) .int8 4 0 0
    let s0 := atVec .int8 [] [] [] 0b1010
    let s := s0.setCore c0 { s0.core c0 with queues := [(1, { Queue.blank with cfg := 0x22004000, entries := [e], pushed := 1 })] }
    resultOf .int8 4 (.vExpandQ c0 (vecW .int8 0 true 1 4 0 0 0 1 0)) s = [0, 9, 0, 8] ∧
    (((out (exec (.vExpandQ c0 (vecW .int8 0 true 1 4 0 0 0 1 0)) s)).core c0).queue 1).taken = 2 ∧
    out (exec (.vExpandQ c0 (vecW .int8 0 true 1 4 0 0 0 1 0)) s0) = s0 := by decide +kernel

/-- Loads and stores between V1, the operand cache and tile memory (R121, R123). -/
theorem test_vMoves :
    let s := devOf { coreOf [] with
      vec := { Vec.blank with cache := [(7, 0x55)], regs := [(1, 0x66)] }, tile := [(7, ⟨0x77, 1, 0⟩), (8, ⟨0x88, 1, 0⟩)] }
    let w : BitVec 64 := vecW .int8 0 false 0 4 1 0 0 0 7
    let p (i : Instr) := ((out (exec i s)).core c0).vec.pend.map (fun x => (x.ready, x.tgt, x.data))
    p (.vLdc c0 w) = [(2, .reg 4, 0x55)] ∧ p (.vStc c0 w) = [(2, .cache 7, 0x66)] ∧
    p (.vLdt c0 w) = [(2, .reg 4, BitVec.ofNat 2048 (0x77 + 2 ^ 1024 * 0x88))] ∧ p (.vStt c0 w) = [(2, .tile 7 0xC 0 0, 0x66)] := by
  decide +kernel

/-- SPOP takes the head of the sound and keeps its origin; another tag raises 0x1201 (R129, R130). -/
theorem test_vSpop :
    let d : DrainTile := ⟨0, 3, 2, 0xC, 64, 0x0102, ⟩
    let s := devOf { coreOf [] with row := { Row.blank with sound := [d] }, beat := 1 }
    let t := (out (exec (.vSpopP c0 (vecW .int8 0 false 0 4 0 0 0 0 0)) s)).core c0
    t.row.sound = [] ∧ (t.vec.origCube, t.vec.origSlot) = (3, 2) ∧ t.vec.pend.map (fun x => (x.tgt, x.data)) = [(.reg 4, 0x0102)] ∧
    ((out (exec (.vSpopW c0 (vecW .int8 0 false 0 4 0 0 0 0 0)) s)).core c0).row.sound = [] ∧
    codes (.vSpopP c0 (vecW .fp16 0 false 0 4 0 0 0 0 0)) s = [0x1201, 0x5506] := by decide +kernel

/-- QPOP takes the head of IQ1, QPUSH pushes V1 on OQ2 (R156). -/
theorem test_vQueue :
    let e := entryOf (vecOf .int8 [9, 8]) .int8 256 0 0
    let s := devOf { coreOf [] with
      queues := [(1, { Queue.blank with cfg := 0x22004000, entries := [e], pushed := 1 }), (18, { Queue.blank with cfg := 0x22004000 })]
      vec := { Vec.blank with regs := [(1, 0x66)] } }
    let t := (out (exec (.vQpop c0 (vecW .int8 0 false 0 4 0 0 0 1 0)) s)).core c0
    (t.queue 1).popped = 1 ∧ t.vec.pend.map (fun x => (x.ready, x.tgt, x.data)) = [(2, .reg 4, 0x0809)] ∧
    (((out (exec (.vQpush c0 (vecW .int8 0 false 0 0 1 0 0 2 0)) s)).core c0).queue 18).entries = [entryOf 0x66 .int8 256 0 2] := by
  decide +kernel

/-! ## Streams and memory -/

/-- A descriptor of one dimension of INT8 elements with stride 1, bounds [0, hi) (Table 1 of spec/06). -/
def descOf (kind dkind count hi base dest : Nat) : BitVec 768 :=
  BitVec.ofNat 768 (kind * 2 ^ 766 + dkind * 2 ^ 764 + 0xC * 2 ^ 760 + 0xC * 2 ^ 756 + 1 * 2 ^ 749 + count * 2 ^ 576 + 1 * 2 ^ 384 +
    hi * 2 ^ 192 + dest * 2 ^ 64 + base)

/-- A device whose core holds a FETCH of 128 bytes into tile line 3 (0), one outside its bounds (1), and a PUT of it (2). -/
def strDev : State :=
  devOf { coreOf [] with
    img := { (coreOf []).img with descs := [(0, descOf 1 1 8 0x10000 0x400 3), (1, descOf 1 1 8 0x404 0x400 3),
      (2, descOf 2 1 8 0x10000 0x400 3)], wslots := [(1, 8)] }
    tile := [(3, ⟨0x55, 0xC, 0⟩)] }

def strW (n : Nat) : BitVec 64 := BitVec.ofNat 64 (n * 2 ^ 48)

/-- A FETCH is accepted as one transaction, one outside its bounds raises 0x2101 (R171, R172, R184). -/
theorem test_streamIssue :
    let t := (out (exec (.streamIssue c0 .execute (strW 0)) strDev)).core c0
    strDev.issues c0 = true ∧ t.ops.map (fun o => (o.kind, o.first, o.txns.map (fun x => (x.state, x.spots.length)))) = [(1, 3, [(0, 8)])] ∧
    t.outst = [⟨0, .execute, 0⟩] ∧ codes (.streamIssue c0 .execute (strW 1)) strDev = [0x2101, 0x5506] := by decide +kernel

def strIssued (n : Nat) : State := out (exec (.streamIssue c0 .execute (strW n)) strDev)
def strReleased (n : Nat) : State := out (exec (.transactionRelease c0 0) (strIssued n))

/-- Its transaction is released with the next stamp (R192). -/
theorem test_release :
    (strIssued 0).live c0 = true ∧ ((strReleased 0).core c0).ops.map (fun o => o.txns.map (fun x => (x.state, x.stamp))) = [[(1, 0)]] ∧
    (strReleased 0).stamp = 1 := by decide +kernel

/-- A core's slot of the channel serves it; slot 0 is reserved (R185, R187). -/
theorem test_wheel :
    let own (s : State) (p : Nat) : State := s.setWheel 1 ⟨[(1, 0x2000)], p, 0⟩
    let t := out (exec (.wheelSlot 1 false) (own (strReleased 2) 1))
    (t.core c0).ops.map (fun o => o.txns.map (·.state)) = [[2]] ∧ (t.wheel 1).pos = 2 ∧ t.readByte 0x400 = 0x55 ∧ t.readByte 0x401 = 0 ∧
    (out (exec (.wheelSlot 1 false) (own (strReleased 2) 0))) = own (strReleased 2) 1 := by decide +kernel

/-- The response of a FETCH writes its line with tag INT8 and ends the operation; a second failure ends the run (R171, R223). -/
theorem test_response :
    let s := out (exec (.wheelSlot 1 false) ((strReleased 0).setWheel 1 ⟨[(1, 0x2000)], 1, 0⟩))
    let t := out (exec (.transactionResponse c0 0 0 0) s)
    s.canonical = true ∧ (t.core c0).ops = [] ∧ (t.core c0).outst = [] ∧ (t.core c0).tileLine 3 = ⟨0, 0xC, 0⟩ ∧
    ((out (exec (.transactionResponse c0 0 0 2) s)).lagoon 0).st = .faulted := by decide +kernel

/-- The stream engine's markers (R527). -/
theorem test_streamMarks :
    let op (k : Nat) : StreamOp := ⟨0, .execute, 0, 0, k, 0, [], 2, 0x41, [], 0, 0, [], [], 0, 0, false, 0⟩
    let q : Queue := { Queue.blank with cfg := 0x20002000, entries := [⟨[], [], 0xF, 0, some 0x41, 0, 0, 0, false, 0⟩], pushed := 1 }
    let s := devOf { coreOf [] with ops := [op 4], queues := [(2, { Queue.blank with cfg := 0x20002000 })] }
    let m := devOf { coreOf [] with ops := [op 5], queues := [(18, q)] }
    s.live c0 = true ∧ (((out (exec (.streamQmark c0 2) s)).core c0).queue 2).entries.map (·.mark) = [some 0x41] ∧
    (((out (exec (.streamQmatch c0 2) m)).core c0).queue 18).entries = [] ∧ ((out (exec (.streamQmatch c0 2) m)).core c0).ops = [] := by
  decide +kernel

/-- A CANCEL none of whose operations is left is done (R199). -/
theorem test_cancelDone :
    ((out (exec (.cancelDiscardDone c0) (devOf { coreOf [] with cancels := [⟨4, [7]⟩] }))).core c0).cancels = [] := by decide +kernel

/-! ## Messages -/

/-- Two cores of lagoon 0: the envelope of core 0 names handler 5 of core 1, which sets buoy 9 and counts tally 2. -/
def msgDev : State :=
  let h : BitVec 64 := BitVec.ofNat 64 (2 * 2 ^ 61 + 0 * 2 ^ 52 + 2 ^ 47 + 9 * 2 ^ 41 + 2 ^ 40 + 2 * 2 ^ 36 + 0 * 2 ^ 31 + 4 * 2 ^ 15)
  let e : QEntry := ⟨[0x77], [0], 0xC, 128, none, 0, 0, 1, false, 0⟩
  let k0 : Core := { coreOf [] with
    img := { (coreOf []).img with envelopes := [(0, BitVec.ofNat 64 (1 * 2 ^ 61 + 1 * 2 ^ 52 + 5 * 2 ^ 44))] }
    queues := [(18, { Queue.blank with cfg := 0x40002000, entries := [e], pushed := 1 })] }
  let k1 : Core := { coreOf [] with img := { (coreOf []).img with handlers := [(5, h)], phys := 1 } }
  (devOf k0).setCore ⟨0, 1⟩ k1

/-- The entry leaves its queue and is in flight to the handler (R256, R259). -/
theorem test_send :
    let t := out (exec (.messageSend c0 2 0) msgDev)
    msgDev.canonical = true ∧ msgDev.issues c0 = true ∧ msgDev.hasRoom 0 1 5 false = true ∧ ((t.core c0).queue 18).entries = [] ∧
    (t.lagoon 0).msgs.map (fun m => (m.kind, m.src, m.dst, m.handler)) = [(0, 0, 1, 5)] := by decide +kernel

/-- An entry that the vector engine pushed stays until its beat has come, or as many periods of stalls (R149, R277). -/
theorem test_pushLands :
    let e : QEntry := ⟨[0x77], [0], 0xC, 128, none, 0, 0, 1, false, 2⟩
    let q : Queue := { Queue.blank with cfg := 0x40002000, entries := [e], pushed := 1 }
    let at_ (k : Core) : State := msgDev.setCore c0 { k with img := (msgDev.core c0).img, queues := [(18, q)] }
    let left (k : Core) := (((out (exec (.messageSend c0 2 0) (at_ k))).core c0).queue 18).entries.length
    left { coreOf [] with beat := 1 } = 1 ∧ left { coreOf [] with beat := 2 } = 0 ∧
    left { coreOf [] with beat := 1, stall := 999 } = 1 ∧ left { coreOf [] with beat := 1, stall := 1000 } = 0 := by decide +kernel

/-- It is delivered: the tally counts and the buoy sets (R257, R258). -/
theorem test_delivery :
    let t := (out (exec (.messageDelivery 0 1 0) (out (exec (.messageSend c0 2 0) msgDev)))).core ⟨0, 1⟩
    (t.tally 2).mt = 1 ∧ (t.buoy 9).set = true ∧ (t.tileLine 0).data = 0x77 := by decide +kernel

/-- A message of another length stops the run with 0x3102 (R258). -/
theorem test_deliveryBad :
    let m (s : State) : State := s.setLagoon 0 { s.lagoon 0 with msgs := [⟨0, 0, 1, 5, ⟨[1, 2], [0, 0], 0xC, 256, none, 0, 0, 1, false, 0⟩, 1, .execute, false, 0⟩] }
    codes (.messageDelivery 0 1 0) (m msgDev) = [0x3102, 0x5506] := by decide +kernel

/-- The first contribution of an INT32 round is added, a later contributor's waits in the store (R265, R266). -/
theorem test_combining :
    let q : CombQueue := ⟨3, BitVec.ofNat 64 (1 * 2 ^ 51 + 2 * 2 ^ 25), [0, 2], 0, 0, (0, 0), [], 0, []⟩
    let e : QEntry := ⟨[0x00000005], [0], 0xA, 1, none, 0, 0, 1, false, 0⟩
    let s (src : Nat) : State := msgDev.setLagoon 0 { msgDev.lagoon 0 with combs := [q], msgs := [⟨1, src, 3, 0, e, 1, .execute, false, 0⟩] }
    let r (src : Nat) := ((out (exec (.combiningContribution 0 3 src) (s src))).lagoon 0).combs.map (fun p => (p.added, p.sum, p.store.length))
    (s 0).canonical = true ∧ (s 0).live ⟨0, 1⟩ = true ∧ r 0 = [(1, [5], 0)] ∧ r 2 = [(0, [], 1)] := by decide +kernel

/-! ## Reef engines -/

/-- A device whose stack 0 holds this record from core 0. -/
def reefDev (w : Nat) (mem : List Host.Cell) : State :=
  { (devOf (coreOf [])) with mem := mem, hbm := [(0, { Stack.blank with recs := [⟨0, 0, BitVec.ofNat 1024 w, 1, .execute, none, [], [], 0, none, false, []⟩] })] }

/-- A record of an operation over INT32 elements: D at 0x100, A at 0x200, B at 0x300 (Table 1 of spec/07). -/
def reefW (op n : Nat) : Nat :=
  0x100 * 2 ^ 768 + 0x200 * 2 ^ 832 + 0x300 * 2 ^ 896 + n * 2 ^ 224 + op * 2 ^ 56 + 0xA * 2 ^ 52 + 0xA * 2 ^ 48 + 0xA * 2 ^ 44

/-- The first record of stack 0 reads its next granule, in a reef slot of the granule's channel. -/
def reefRead (s : State) : State :=
  match (s.stack 0).recs with
  | [] => s
  | r :: _ => match r.reads with
    | [] => s
    | g :: _ => s.reefSlot (wheelOf (1024 * g)) r

/-- The bytes that the record of stack 0 is to write, once its row has started it and it has read its granules. -/
def reefWrites (i : Instr) (s : State) : List (List Byte) :=
  ((reefRead (reefRead (out (exec i s)))).stack 0).recs.flatMap (fun r => ((r.out.map (·.writes)).getD []).map Prod.snd)

/-- ADD adds element by element; the record's outcome waits for the reef slots of its spans' granules (R204, R208, R210). -/
theorem test_reefAdd :
    let s := reefDev (reefW 3 2) [(0x200, 5), (0x204, 7), (0x300, 3), (0x304, 1)]
    let t := out (exec (.reefAdd 0 0) s)
    s.canonical = true ∧ (s.reefNext 0 0 (fun x => x == 3)).isSome = true ∧ reefWrites (.reefAdd 0 0) s = [[8, 0, 0, 0, 8, 0, 0, 0]] ∧
    (t.stack 0).recs.map (fun r => (r.reads.length, r.writes.length)) = [(2, 0)] ∧
    ((reefRead (reefRead t)).stack 0).recs.map (fun r => (r.reads.length, r.writes.length)) = [(0, 1)] ∧ t.mem = s.mem := by decide +kernel

/-- FILL writes its constant over every element (R222). -/
theorem test_reefFill :
    reefWrites (.reefFill 0 0) (reefDev (reefW 1 3 + 9 * 2 ^ 256) []) = [[9, 0, 0, 0, 9, 0, 0, 0, 9, 0, 0, 0]] := by decide +kernel

theorem test_reefReduce :
    let m : List Host.Cell := [(0x200, 5), (0x204, 7), (0x208, 3)]
    reefWrites (.reduceSum 0 0) (reefDev (reefW 0x10 3) m) = [[15, 0, 0, 0]] ∧
    reefWrites (.reduceMax 0 0) (reefDev (reefW 0x11 3) m) = [[7, 0, 0, 0]] ∧
    reefWrites (.reduceMin 0 0) (reefDev (reefW 0x12 3) m) = [[3, 0, 0, 0]] := by decide +kernel

/-- CHECK of "123456789" is the CRC-32C check value E3069283 (R222). -/
theorem test_reefCheck :
    reefWrites (.reefCheck 0 0) (reefDev (reefW 0x18 9) [(0x200, 0x31), (0x201, 0x32), (0x202, 0x33), (0x203, 0x34), (0x204, 0x35),
      (0x205, 0x36), (0x206, 0x37), (0x207, 0x38), (0x208, 0x39)]) = [[0x83, 0x92, 0x06, 0xE3]] := by decide +kernel

/-- An operation code that Table 2 of spec/07 does not name is refused with 0x2201 (R209). -/
theorem test_reefRefused : codes (.reefAdd 0 0) (reefDev (reefW 0x07 2) []) = [0x2201, 0x5506] := by decide +kernel

/-- COMBINE: the first record opens its group; a second with the same CINDEX raises 0x2204 (R217). -/
theorem test_combine :
    let w := reefW 0x30 2 + 3 * 2 ^ 96 + 1 * 2 ^ 80 + 7 * 2 ^ 72
    let s := reefDev w []
    let t := out (exec (.combine 0 0) s)
    let u := t.setStack 0 { t.stack 0 with recs := [⟨0, 0, BitVec.ofNat 1024 w, 2, .execute, none, [], [], 0, none, false, []⟩] }
    (s.reefNext 0 0 (fun x => x == 0x30)).isSome = true ∧ (Sparse.get [] (t.stack 0).groups 7).length = 1 ∧ (t.stack 0).recs = [] ∧
    codes (.combine 0 0) u = [0x2204, 0x5506] := by decide +kernel

/-- A performed record completes: REEFSTAT takes its flags and it is outstanding no more (R212, R225). -/
theorem test_reefComplete :
    let s0 := devOf { coreOf [] with outst := [⟨1, .execute, 1⟩] }
    let s := s0.setStack 0 { Stack.blank with recs := [⟨0, 0, BitVec.ofNat 1024 (reefW 3 2), 1, .execute, some ⟨[], 0, 2⟩, [], [], 0, none, true, []⟩] }
    let t := out (exec (.reefOpComplete 0 ⟨0, 0⟩) s)
    (t.stack 0).recs = [] ∧ (t.stack 0).reefstat = 2 ∧ (t.core c0).outst = [] := by decide +kernel

/-! ## Deadlock -/

/-- After DLWIN ticks without progress, with an agent that waits, the run ends with 0x3105 and a snapshot (R271, R273). -/
theorem test_deadlock :
    let s00 := atCop 9 0 9
    let s0 := s00.setLagoon 0 { s00.lagoon 0 with waits := some 0 }
    let s : State := { s0 with tide := { s0.tide with count := 1000000 } }
    let t := out (exec (.deadlock 0) s)
    s.waiters 0 ≠ [] ∧ s.inFlight 0 = false ∧ (t.lagoon 0).st = .faulted ∧ ((t.lagoon 0).dead.map (fun d => (d.tide, d.dlwin, d.entries.length))) =
      some (1000000, 1000000, 1) ∧ t.log.map (·.code) = [0x5506, 0x3105] := by decide +kernel

/-! ## The pilot -/

/-- A core whose pilot stands at this 32-bit instruction with x1 = a, x2 = b. -/
def pilotDev (w : Nat) (a b : Nat) (f : Core → Core := id) : State :=
  devOf (f { coreOf [] with pilot := { Pilot.blank with
    imem := Sparse.setRun 0 [] 0 (toBytes 4 w), x := Sparse.set 0 (Sparse.set 0 [] 1 (BitVec.ofNat 32 a)) 2 (BitVec.ofNat 32 b) } })

/-- The pilot after a command. -/
def pilotAfter (i : Instr) (s : State) : Pilot := ((out (exec i s)).core c0).pilot

/-- ADDI x3, x1, −1; ADD x3, x1, x2; LUI x3, 0x12345; a write of x0 writes nothing (R160). -/
theorem test_pilotAlu :
    (pilotAfter (.pilotInstruction c0) (pilotDev 0xFFF08193 5 7)).getX 3 = 4 ∧
    (pilotAfter (.pilotInstruction c0) (pilotDev 0x002081B3 5 7)).getX 3 = 12 ∧
    (pilotAfter (.pilotInstruction c0) (pilotDev 0x123451B7 5 7)).getX 3 = 0x12345000 ∧
    (pilotAfter (.pilotInstruction c0) (pilotDev 0xFFF08013 5 7)).getX 0 = 0 := by decide +kernel

/-- LW and SW at 0x100008; an access outside data memory raises 0x1306; BEQ taken (R160, R161). -/
theorem test_pilotMem :
    (pilotAfter (.pilotInstruction c0) (pilotDev 0x0020A423 0x100000 0xAABBCCDD)).dmem = [(8, 0xDD), (9, 0xCC), (10, 0xBB), (11, 0xAA)] ∧
    codes (.pilotInstruction c0) (pilotDev 0x0000A183 0x100 0) = [0x1306, 0x5506] ∧
    (pilotAfter (.pilotInstruction c0) (pilotDev 0x00208463 5 5)).pc = 8 ∧
    (pilotAfter (.pilotInstruction c0) (pilotDev 0x00208463 5 6)).pc = 4 := by decide +kernel

/-- WFI finishes the pilot; EBREAK without a debugger raises 0x1305 (R160). -/
theorem test_pilotStops :
    (pilotAfter (.wfi c0) (pilotDev 0x10500073 0 0)).finished = true ∧ codes (.ebreak c0) (pilotDev 0x00100073 0 0) = [0x1305, 0x5506] := by
  decide +kernel

/-! ## The pilot's queues and CSRs -/

/-- Whether the pilot stands at an instruction of a class. -/
def pilotAt (s : State) (k : PClass) (w len : Nat) : Bool :=
  s.issues c0 && (s.core c0).pilotMay && (s.badWord c0 5 ((s.core c0).pilot.pc.toNat / 4) == false) && (s.marks c0).isEmpty &&
    (match (s.core c0).pilotFetch with | .ok (some v, n) => v == w && n == len | _ => false) && (pclass w == k)

/-- Such a state meets the premise of the statements about the pilot. -/
theorem pilotAt_of {s : State} {k : PClass} {w len : Nat} (h : pilotAt s k w len = true) : s.PilotAt c0 k w len := by
  simp only [pilotAt, Bool.and_eq_true, beq_iff_eq] at h
  obtain ⟨⟨⟨⟨⟨h1, h2⟩, h3⟩, hm⟩, h4⟩, h5⟩ := h
  refine ⟨h1, h2, h3, List.isEmpty_iff.mp hm, ?_, h5⟩
  revert h4
  split
  · rename_i h0
    intro h4
    simp only [Bool.and_eq_true, beq_iff_eq] at h4
    rw [h0, h4.1, h4.2]
  · simp

/-- The premises hold at an ADDI, a WFI and an EBREAK. -/
theorem test_pilotPremises :
    pilotAt (pilotDev 0xFFF08193 5 7) .plain 0xFFF08193 4 = true ∧ pilotAt (pilotDev 0x10500073 0 0) .wfi 0x10500073 4 = true ∧
    pilotAt (pilotDev 0x00100073 0 0) .ebreak 0x00100073 4 = true := by decide +kernel

/-- HQ.SUMV x3 takes the lower word of a readable summary, HQ.SUMH x3 reads the upper one; an empty queue is waited for (R135, R162). -/
theorem test_pilotSummaries :
    let f (k : Core) : Core := { k with vec := { k.vec with summ := [⟨0x1234567800000009, 0⟩] } }
    let v := pilotDev 0x0000018B 0 0 f
    let h := pilotDev 0x0000118B 0 0 f
    pilotAt v .sumv 0x0000018B 4 = true ∧ (pilotAfter (.hqSumv c0) v).getX 3 = 9 ∧ ((out (exec (.hqSumv c0) v)).core c0).vec.summ = [] ∧
    pilotAt h .sumh 0x0000118B 4 = true ∧ (pilotAfter (.hqSumh c0) h).getX 3 = 0x12345678 ∧
    out (exec (.hqSumv c0) (pilotDev 0x0000018B 0 0)) = pilotDev 0x0000018B 0 0 := by decide +kernel

/-- HQ.CHOOSE gives x1 to the execute sequencer; at four choices it waits (R162). -/
theorem test_pilotChoose :
    let s := pilotDev 0x0010A00B 0x00050002 0
    let g := pilotDev 0x0010A00B 0 0 (fun k => { k with ex := { k.ex with choices := [1, 2, 3, 4] } })
    pilotAt s .choose 0x0010A00B 4 = true ∧ ((out (exec (.hqChoose c0) s)).core c0).ex.choices = [0x00050002] ∧
    (pilotAfter (.hqChoose c0) s).pushed = 1 ∧ out (exec (.hqChoose c0) g) = g := by decide +kernel

/-- The buoy forms on buoy 9 (R162, R241, R243). -/
theorem test_pilotBuoys :
    let up (k : Core) : Core := { k with buoys := [(9, ⟨0, true, 1⟩)] }
    let w (n : Nat) := 0x0090300B + n * 2 ^ 26
    let after (i : Instr) (s : State) := ((out (exec i s)).core c0).buoys
    pilotAt (pilotDev (w 0) 0 0) .buoySet (w 0) 4 = true ∧ after (.hqBuoySet c0) (pilotDev (w 0) 0 0) = [(9, ⟨0, true, 1⟩)] ∧
    pilotAt (pilotDev (w 1) 0 0 up) .buoyClear (w 1) 4 = true ∧ after (.hqBuoyClear c0) (pilotDev (w 1) 0 0 up) = [(9, ⟨0, false, 1⟩)] ∧
    pilotAt (pilotDev (w 2) 0 0 up) .buoyWaitSet (w 2) 4 = true ∧ (pilotAfter (.hqBuoyWaitSet c0) (pilotDev (w 2) 0 0 up)).pc = 4 ∧
    pilotAt (pilotDev (w 3) 0 0) .buoyWaitClear (w 3) 4 = true ∧ (pilotAfter (.hqBuoyWaitClear c0) (pilotDev (w 3) 0 0)).pc = 4 := by
  decide +kernel

/-- CSRRW of ARSTAT and RCW is held, a read of ARSTAT answers once no choice is left, FRM is written at once (R163, R164). -/
theorem test_pilotCsrs :
    let a := pilotDev 0x7C009073 0xFF 0
    let b := pilotDev 0x7C1090F3 3 0
    let r := pilotDev 0x7C0021F3 0 0
    let m := pilotDev 0x00209073 4 0
    pilotAt a .arstatWrite 0x7C009073 4 = true ∧ (pilotAfter (.arstatWrite c0) a).pend = [⟨0x7C0, 0xFF, 1⟩] ∧
    pilotAt b .sharedWrite 0x7C1090F3 4 = true ∧ (pilotAfter (.sharedCsrWrite c0) b).pend = [⟨0x7C1, 3, 1⟩] ∧
    pilotAt r .sharedRead 0x7C0021F3 4 = true ∧ (pilotAfter (.sharedCsrRead c0) r).pc = 4 ∧
    pilotAt m .csrWrite 0x00209073 4 = true ∧ (pilotAfter (.csrWrite c0) m).fcsr = 0x80 := by decide +kernel

/-! ## Regions, the tide, runs -/

/-- At 105 °C region W0 stops to lower its setpoint from 0x1E by two steps, and resumes there; the third time-out resumes it at the
old one for good (R283, R508). -/
theorem test_governor :
    let d := devOf (coreOf [])
    let h : State := d.setRegion 0 { d.region 0 with state := 0, tj := 105 }
    let t := out (exec (.thermalGovernorTick 0 5) h)
    h.canonical = true ∧ h.mayStop 0 = true ∧ (t.region 0).state = 1 ∧ (t.region 0).target = some 0x1C ∧ (t.region 0).rate = 5 ∧
    ((out (exec (.regionResume 0) t)).region 0).vset = 0x1C ∧ ((out (exec (.avsbusStatusTimeout 0) t)).region 0).retries = 1 ∧
    ((out (exec (.avsbusStatusTimeout 0) (t.setRegion 0 { t.region 0 with retries := 2 }))).region 0).vset = 0x1E := by decide +kernel

/-- A sample of 114 °C is kept; one of 115 °C turns both dies off (R285). -/
theorem test_temperature :
    let d := devOf (coreOf [])
    let h : State := d.setRegion 0 { d.region 0 with state := 0 }
    let t := out (exec (.temperatureSample 0 115) h)
    ((out (exec (.temperatureSample 0 114) h)).region 0).tj = 114 ∧ t.power.thermtrip = true ∧ t.power.cause = 1 ∧
    (List.range 18).all (fun i => 3 ≤ (t.region i).state) = true := by decide +kernel

/-- A rail at 619 mV halts its region, 620 mV does not; it recovers, or fails its owner's run after 1 ms (R284). -/
theorem test_rails :
    let d := devOf (coreOf [])
    let h : State := d.setRegion 0 { d.region 0 with state := 0 }
    let t := out (exec (.railLow 0 619) h)
    let u : State := { t with tide := { t.tide with count := 1000001 } }
    t.canonical = true ∧ t.regionOwner 0 = some 0 ∧ t.runs? 0 = true ∧ (t.region 0).state = 2 ∧ (t.region 0).lowSince = some 0 ∧
    ((out (exec (.railLow 0 620) h)).region 0).state = 0 ∧ ((out (exec (.railRecover 0) t)).region 0).state = 0 ∧
    ((out (exec (.railFail 0) u)).lagoon 0).st = .faulted := by decide +kernel

/-- The tide counts one a tick, two or none while it slews and 10,000 ticks have passed (R300, R304). -/
theorem test_tide :
    let at_ (n slew : Nat) : State := let d := devOf (coreOf []); { d with tide := { d.tide with count := n, slew := slew } }
    (out (exec .tideTick (at_ 5 0))).tide.count = 6 ∧ (out (exec .tideTick (at_ 10000 3))).tide.count = 10002 ∧
    (out (exec .tideTick (at_ 9999 3))).tide.count = 10000 ∧ (out (exec .tideTick (at_ (2 ^ 64 - 1) 0))).tide.count = 0 := by
  decide +kernel

/-- The sixteenth good synchronisation locks the tide; 2 s without one is HOLDOVER (R303). -/
theorem test_ptp :
    let d := devOf (coreOf [])
    let s : State := { d with tide := { d.tide with count := 1000, state := 1, good := 15, lastSync := some 900 }, port := { d.port with link := some 400 } }
    let t := out (exec (.ptpSync ⟨wire0, 1025, none, 2, false⟩ 0) s)
    let u : State := { t with tide := { t.tide with count := 2000001000 } }
    t.tide.state = 2 ∧ t.tide.offset = -25 ∧ (out (exec .holdoverTimeout u)).tide.state = 3 ∧
    (out (exec .holdoverTimeout t)).tide.state = 2 := by decide +kernel

/-- A step waits until no lagoon runs; the first pulse steers by slewing to the nearest second (R304, R305). -/
theorem test_tideSteps :
    let d := devOf (coreOf [])
    let s : State := { (d.setLagoon 0 Lagoon.blank) with tide := { d.tide with count := 1000, step := some 500 } }
    let p : State := { d with tide := { d.tide with count := 999999990, ppsOn := true } }
    s.tideFree = true ∧ (out (exec .deferredTideStep s)).tide.count = 1500 ∧ (out (exec .ppsEdge p)).tide.slew = 10 := by decide +kernel

/-- An image with a plan for mode 0. -/
def planImage : Image := ⟨1, 1, 1, false, false, 1, 1, 0, 0, 0, 0, [], [], [⟨0, [], []⟩]⟩

/-- A device whose lagoon 0 is LOADED and sealed with a launch at tide 100. -/
def launchDev (lock : Bool) : State :=
  let d := devOf (coreOf [])
  { (d.setLagoon 0 { d.lagoon 0 with st := .loaded, sealed := true, img := some planImage, launch := [⟨100, lock, 7, [], 0, none, false⟩] }) with
    tide := { d.tide with count := 100 } }

/-- The launch takes run number 1; without the lock it requires it is dropped with 0x4303 (R307, R308). -/
theorem test_launch :
    let t := out (exec (.launch 0) (launchDev false))
    (launchDev false).canonical = true ∧ (t.lagoon 0).st = .running ∧ ((t.lagoon 0).run.map (·.runno)) = some 1 ∧ t.counter 0 = 2 ∧
    (((out (exec (.launch 0) (launchDev true))).log.head?).map (·.code)) = some 0x4303 ∧
    ((out (exec (.launch 0) { launchDev true with tide := { (launchDev true).tide with state := 2 } })).lagoon 0).st = .running := by
  decide +kernel

/-- A guard window refills the bucket of core 0 (R354). -/
theorem test_guard :
    let d := devOf (coreOf [])
    let s : State := (d.setRegion 0 { d.region 0 with state := 0 }).setCore c0 { coreOf [] with guardLu := 3 }
    s.canonical = true ∧ s.regionOwner 0 = some 0 ∧ (s.vcores 0).contains 0 = true ∧
    ((out (exec (.guardWindow 0) s)).core c0).guardLu = s.allowance c0 := by decide +kernel

/-- SETMODE's held values take effect at the boundary of a LOADED lagoon (R41). -/
theorem test_boundary :
    let d := devOf (coreOf [])
    let s := d.setLagoon 0 { d.lagoon 0 with st := .loaded, held := some ⟨2, false, 5000⟩ }
    let t := out (exec (.programBoundary 0 0) s)
    s.atBoundary 0 = true ∧ (t.lagoon 0).held = none ∧ (t.lagoon 0).dlwin = 5000 ∧ (t.lagoon 0).cfg.pmode = 2 := by decide +kernel

/-! ## The mailbox -/

/-- A command's body: OP, LAGOON, no fence, and its arguments (Table 4 of spec/13). -/
def mailBody (op lag : Nat) (args : List Byte) : List Byte :=
  toBytes 32 (op + args.length * 2 ^ 16 + lag * 2 ^ 136 + 0xFFFF * 2 ^ 144) ++ args

/-- The frame that brings it from the peer to the harbour's address, as number 1 of session 1. -/
def mailFrame (op lag : Nat) (args : List Byte) : Frame :=
  ⟨wire0, 51620, 7, 9, 0, hmpFrame (hmpHead 0x10 1 1 false (32 + args.length) 0) (some []) (mailBody op lag args)⟩

theorem mailFrame_opens (op lag : Nat) (args : List Byte) (h : args.length ≤ 992) :
    (mailFrame op lag args).hdr = hmpHead 0x10 1 1 false (32 + args.length) 0 ∧ frameLenOk (mailFrame op lag args) = true ∧
    (mailFrame op lag args).crcOk = true ∧ (mailFrame op lag args).opened [] = some (mailBody op lag args) := by
  have hl : (mailBody op lag args).length = 32 + args.length := by simp [mailBody, length_toBytes]
  refine hmpFrame_opens _ _ _ _ rfl ?_ ?_ ?_ (by omega)
  · simp [hmpHead, b2n]; omega
  · rw [show bits (hmpHead 0x10 1 1 false (32 + args.length) 0) 24 8 = 0x10 by simp [hmpHead, b2n, bits]; omega]; rfl
  · rw [hl]; simp [hmpHead, b2n, bits]; omega

/-- The session that sends it. -/
def mailSession : Session := ⟨1, 1, 0, 7, 9, 0, 0, 0, [], [], 0, 0, 0, 0, [], []⟩

/-- A device with that session open, of the harbour's scope, and a change. -/
def mailDev (f : State → State := id) : State := f { devOf (coreOf []) with sessions := [mailSession] }

/-- The command of a session, the request that it makes, and the session and the state that have accepted it. -/
def mailCmd (op lag : Nat) (args : List Byte) : Cmd := ⟨1, mailBody op lag args, 0, 0, 51620⟩
def mailReq (x : Session) (op lag : Nat) (args : List Byte) : Req := reqOf x (mailCmd op lag args)
def taken (s : State) (x : Session) (op lag : Nat) (args : List Byte) : State :=
  ((s.tookFrame wire0).setSession { x with lastCmd := s.tide.count }).setSession
    { x with lastCmd := s.tide.count, cmds := [mailCmd op lag args], high := 1, cache := x.cache.filter (fun k => 1 < k.seq + 4096) }
def started (s : State) (x : Session) (op lag : Nat) (args : List Byte) : State :=
  (taken s x op lag args).setPhase (mailReq x op lag args).ref 2 0

theorem mailFrame_cmd (op lag : Nat) (args : List Byte) (h : args.length ≤ 992) :
    frameSession (mailFrame op lag args) = 1 ∧ frameSeq (mailFrame op lag args) = 1 ∧ frameKind (mailFrame op lag args) = 0x10 ∧
    frameHeadOk (mailFrame op lag args) = true ∧ cmdOf (mailFrame op lag args) mailSession = mailCmd op lag args := by
  obtain ⟨h1, -, -, h4⟩ := mailFrame_opens op lag args h
  have e1 : frameSession (mailFrame op lag args) = 1 := by rw [frameSession, h1]; simp [hmpHead, b2n, bits]; omega
  have e2 : frameSeq (mailFrame op lag args) = 1 := by rw [frameSeq, h1]; simp [hmpHead, b2n, bits]; omega
  have e3 : frameKind (mailFrame op lag args) = 0x10 := by rw [frameKind, Frame.kind, h1]; simp [hmpHead, b2n, bits]; omega
  refine ⟨e1, e2, e3, ?_, ?_⟩
  · rw [frameHeadOk, e3, h1]
    simp [hmpHead, b2n, bits]
    omega
  · rw [cmdOf, e2, Frame.plain, show mailSession.hd = [] from rfl, h4]
    rfl

/-- Whether a command runs at once in a state and the row serves it. -/
def runs (s : State) (i : Frame → Instr) (op lag : Nat) (args : List Byte) : Bool :=
  let a := taken s mailSession op lag args
  let r := mailReq mailSession op lag args
  s.canonical && s.hears wire0 false (some 0) && s.portUp && (s.entryOwner 0).isSome && s.port.cfg.hmpport == 51620 && decide (args.length ≤ 992) &&
    (s.sessions.find? (fun y => y.id == 1 && y.peer == 7 && y.port == 9 && y.entry == 0) == some mailSession) &&
    (s.sessions.filter (fun y => y.id == 1)).length == 1 && a.precheck r == none && a.mustWait r == false && a.fenceMet r &&
    (i (mailFrame op lag args)).serves r

/-- Such a command and state meet the premises of the statements about commands. -/
theorem runs_of {s : State} {i : Frame → Instr} {op lag : Nat} {args : List Byte} (h : runs s i op lag args = true) :
    let f := mailFrame op lag args
    s.canonical = true ∧ s.CommandRuns f mailSession ∧ (i f).serves (s.request f mailSession) = true := by
  simp only [runs, Bool.and_eq_true, beq_iff_eq, decide_eq_true_eq] at h
  obtain ⟨⟨⟨⟨⟨⟨⟨⟨⟨⟨⟨h0, h1⟩, h2⟩, h3⟩, h4⟩, h5⟩, h6⟩, h7⟩, h8⟩, h9⟩, h10⟩, h11⟩ := h
  obtain ⟨-, a2, a3, a4⟩ := mailFrame_opens op lag args h5
  obtain ⟨b1, b2, b3, b4, b5⟩ := mailFrame_cmd op lag args h5
  have hr : s.request (mailFrame op lag args) mailSession = mailReq mailSession op lag args := by
    rw [State.request, b5]
    simp only [reqOf, mailReq, Session.accepting, Session.handle]
  have ha : s.accepted (mailFrame op lag args) mailSession = taken s mailSession op lag args := by
    simp only [State.accepted, Session.accepting, b2, b5, taken, show (mailFrame op lag args).wire = wire0 from rfl]
  refine ⟨h0, ⟨⟨h1, h2, h3, h4.symm, a2, a3, b4, b3⟩, by rw [b1]; exact h6, h7, ?_, ?_, by rw [b2]; decide, rfl, ?_, ?_, ?_⟩, ?_⟩
  · rw [show mailSession.hd = [] from rfl, a4]; rfl
  · rw [Frame.plain, show mailSession.hd = [] from rfl, a4]; simp [mailBody, length_toBytes]
  · rw [ha, hr]; exact h8
  · rw [ha, hr]; exact h9
  · rw [ha, hr]; exact h10
  · rw [hr]; exact h11

/-- STATUS and DETAIL of the newest frame sent. -/
def reply (t : State) : Option (Nat × Nat) := t.tx.head?.map (fun y => (bodyNum y.body 0 2, bodyNum y.body 12 4))

/-- The state after a command of the session has taken effect. -/
def after (op lag : Nat) (args : List Byte) (s : State) (x : Session := mailSession) : State :=
  (started s x op lag args).effect (mailReq x op lag args)

/-- Whether the gate of steps 6 and 7 of R410 lets it pass. -/
def passes (op lag : Nat) (args : List Byte) (s : State) : Bool := (started s mailSession op lag args).gate (mailReq mailSession op lag args) == none

/-- GCM under the key and the IV of zeros, a block of zeros (AES-256, GCM specification, test case 14). -/
theorem test_gcm : gcmXor (List.replicate 32 0) (List.replicate 12 0) (List.replicate 16 0) = beBytes 16 0xCEA7403D4D606B6E074EC5D3BAF39D18 ∧
    gcmTag (List.replicate 32 0) (List.replicate 12 0) [] (beBytes 16 0xCEA7403D4D606B6E074EC5D3BAF39D18) =
      beBytes 16 0xD0D1C8A799996BF0265B98B5D48AB919 := by decide +kernel

/-- HMAC-SHA-384 of "what do ya want for nothing?" under "Jefe" (RFC 4231, test case 2). -/
theorem test_hmac : beNat (hmac384 [0x4A, 0x65, 0x66, 0x65] (beBytes 28 0x7768617420646F2079612077616E7420666F72206E6F7468696E673F)) =
    0xAF45D2E376484031617F78D2B58A6B1B9C7EF464F5A01B47E42EC3736322445E8E2240CA5E69E2C78B3239ECFAB21649 := by decide +kernel

/-- NOP, EVENTS and CLOSE (R403, R424). -/
theorem test_mailSession :
    let s := mailDev
    runs s .cmdHmpNop 1 0xFF [] = true ∧ reply (after 1 0xFF [] s) = some (0, 0) ∧
    runs s .cmdEvents 3 0xFF [5, 0] = true ∧
    (after 3 0xFF [5, 0] s).sessions.map (·.groups) = [5] ∧ (after 2 0xFF [] s).sessions = [] := by decide +kernel

/-- A frame is opened and run; an unknown OP is BAD_OPCODE; a repeated number is answered from the cache (R407, R410). -/
theorem test_mailWindow :
    let t := out (exec (.cmdHmpNop (mailFrame 1 0xFF [])) mailDev)
    reply t = some (0, 0) ∧ ((out (exec (.cmdHmpNop (mailFrame 1 0xFF [])) t)).tx.head?).map (·.kind) = some 9 ∧
    (taken mailDev mailSession 0x7777 0xFF []).precheck (mailReq mailSession 0x7777 0xFF []) = some (5, 0) := by decide +kernel

/-- A device whose lagoon 0 is in a state, with a change. -/
def lagDev (st : LState) (f : Lagoon → Lagoon := id) : State := mailDev (fun s => s.setLagoon 0 (f { s.lagoon 0 with st := st }))

/-- CONFIGURE of lagoon 1 takes region 1 and stack 1, which is clean (R419). -/
theorem test_configure :
    let a : List Byte := toBytes 11 (2 + 2 * 2 ^ 32 + 1 * 2 ^ 80)
    let s := mailDev (fun s => s.setStack 1 { Stack.blank with clean := true })
    runs s .cmdConfigure 0x0101 1 a = true ∧ passes 0x0101 1 a s = true ∧
    s.cfgRefused (mailReq mailSession 0x0101 1 a).cfg = none ∧
    ((after 0x0101 1 a s).lagoon 1).st = .configured ∧ ((after 0x0101 1 a s).lagoon 1).cfg = ⟨2, 2, 0, 1, false⟩ := by
  decide +kernel

/-- RELEASE begins the clearing; when it is done the lagoon is EMPTY and its stack reads 0 (R413, R474). -/
theorem test_release_lagoon :
    let s : State := { lagDev .configured with mem := [(5, 0xAA)] }
    let t := after 0x0102 0 [] s
    let u := out (exec (.memoryClearingDone 0) t)
    runs s .cmdRelease 0x0102 0 [] = true ∧ passes 0x0102 0 [] s = true ∧
    (t.lagoon 0).clearing = true ∧ (u.lagoon 0) = Lagoon.blank ∧ u.readByte 5 = 0 ∧ reply u = some (0, 0) := by decide +kernel

/-- UNLOAD, SEAL, and SETMODE at a boundary; while a run is under way SETMODE is held (R41, R413, R414). -/
theorem test_lagoonStates :
    let s := lagDev .loaded
    let m : List Byte := [2, 0, 0, 0, 0, 0, 0, 0]
    runs s .cmdUnload 0x0104 0 [] = true ∧ passes 0x0104 0 [] s = true ∧
    ((after 0x0104 0 [] s).lagoon 0).st = .configured ∧
    ((after 0x0105 0 [] s).lagoon 0).pauseRef = some ⟨mailSession.handle, 1, 0x0105⟩ ∧
    ((after 0x010A 0 m s).lagoon 0).cfg.pmode = 2 ∧ ((after 0x010A 0 m s).lagoon 0).held = none ∧
    ((after 0x010A 0 m (lagDev .running)).lagoon 0).held = some ⟨2, false, 1000000⟩ := by decide +kernel

/-- START sets the launch of a sealed lagoon; without SEAL it is NOT_SEALED (R307, R410). -/
theorem test_start :
    let a : List Byte := toBytes 81 (50000 + 7 * 2 ^ 64)
    let s := lagDev .loaded (fun x => { x with sealed := true, img := some planImage })
    runs s .cmdStart 0x0106 0 a = true ∧ passes 0x0106 0 a s = true ∧
    ((after 0x0106 0 a s).lagoon 0).launch.map (fun p => (p.count, p.runseed)) = [(50000, 7)] ∧
    reply (after 0x0106 0 (toBytes 81 49999) s) = some (0x0A, 0) ∧
    reply (after 0x0106 0 a (lagDev .loaded)) = some (9, 0) := by decide +kernel

/-- PAUSE stops the core and ends in PAUSED, RESUME goes on, STOP ends in DRAINING (R269, R270, R415). -/
theorem test_pauseStop :
    let s := lagDev .running
    let p := after 0x0107 0 [] s
    let d := out (exec (.pauseDone 0) p)
    let t := after 0x0109 0 [] s
    runs s .cmdPause 0x0107 0 [] = true ∧ passes 0x0107 0 [] s = true ∧
    (p.core c0).stopped = true ∧ (d.lagoon 0).st = .paused ∧ reply d = some (0, 0) ∧
    ((after 0x0108 0 [] (lagDev .paused)).lagoon 0).st = .running ∧
    (t.lagoon 0).stopping = true ∧ ((out (exec (.stopDone 0) t)).lagoon 0).st = .draining := by decide +kernel

/-- SEAL and LOAD complete; WAIT_RUN answers a record that has been accepted (R330, R413, R419). -/
theorem test_lagoonDone :
    let q (op : Nat) (x : Lagoon) : Lagoon := { x with pauseRef := some ⟨mailSession.handle, 1, op⟩, img := some planImage }
    let s := lagDev .loaded (q 0x0105)
    let l := lagDev .configured (q 0x0103)
    let w := mailDev (fun s => { s with runs := [⟨4, 0, 0, 1, 0x2101, some (6, 2)⟩] })
    (s.canonical = true ∧ (s.lagoon 0).pauseRef = some ⟨mailSession.handle, 1, 0x0105⟩) ∧
    ((out (exec (.loadDone 0) l)).lagoon 0).st = .loaded ∧
    runs w .cmdWaitRun 0x010B 0 (toBytes 8 4) = true ∧
    reply (after 0x010B 0 (toBytes 8 4) w) = some (0, 0) := by decide +kernel

/-- Settings: NET, QOS, MACSEC, LIGHTHOUSE, BATCHWIN, TIDE, POWER (R303, R334, R366, R368 to R370, R388, R416). -/
theorem test_settings :
    let s := mailDev
    let net (op : Nat) (a : List Byte) : NetCfg := (after op 0xFF a s).port.cfg
    runs s .cmdNetMac 0x0403 0xFF (toBytes 7 (0x123456 * 2 ^ 8)) = true ∧
    (net 0x0403 (toBytes 7 (0x123456 * 2 ^ 8))).mac = 0x123456 ∧
    (net 0x0403 (toBytes 19 (1 + 2 ^ 137 + 100 * 2 ^ 138))).local0 = some 100 ∧
    (net 0x0403 (toBytes 20 (2 + 77 * 2 ^ 8 + 8 * 2 ^ 152))).addrs = [(1, ⟨77, false, none, 8⟩)] ∧
    (net 0x0403 [0x11, 1, 2]).hmpport = 0x0201 ∧
    (net 0x0404 [0, 3, 1, 0, 0]).lossless = 3 ∧
    (net 0x0404 [2, 10, 0, 0, 0]).pfcwd = 10 ∧
    (net 0x0405 [0, 1, 5, 0, 0]).macsec = true ∧
    (net 0x0406 (toBytes 8 (10 + 0x88B5 * 2 ^ 32 + 7 * 2 ^ 48))).lhport = 7 := by decide +kernel

theorem test_settings2 :
    let s := mailDev (fun s => { s with lagoons := [] })
    (after 0x0404 0xFF (1 :: toBytes 24 9) s).port.cfg.dscp = 9 ∧
    (after 0x0405 0xFF ([1, 1] ++ toBytes 32 5 ++ [9]) s).port.cfg.cak = some (toBytes 32 5, [9]) ∧
    (after 0x0305 0xFF (toBytes 8 1000000) s).builder.batchwin = 1000000 ∧
    (after 0x0402 0xFF (toBytes 2 (0 + 3 * 2)) s).tide.disc = false ∧
    (after 0x0401 0xFF [1] s).power.move.map (·.target) = some 1 ∧
    (after 0x0401 0xFF [2] s).power.move.map (·.target) = some 2 ∧
    (after 0x0401 0xFF [3] s).power.move.map (·.target) = some 3 ∧
    reply (after 0x0401 0xFF [0] s) = some (0, 0) := by decide +kernel

/-- A queue pair with no work, owned by the harbour. -/
def qp0 : QPair := ⟨1, 8, 7, false, 5, 0, 100, 200, 1000, 1600000, 0, 0, 0, 0, 0, []⟩

/-- READ of the event log object, sinks, FLUSH of an empty batch, queue pairs and landing regions (R371 to R373, R421, R422). -/
theorem test_objects :
    let s := mailDev (fun s => { s with qps := [qp0], sinks := [⟨8, 1, 3, 0, 4096, 4, 0, 2, 0, []⟩] })
    runs s .cmdSinkAck 0x0302 0xFF (toBytes 4 2) = true ∧
    (after 0x0302 0xFF (toBytes 4 2) s).sinks.map (·.acked) = [2] ∧
    reply (after 0x0302 0xFF (toBytes 4 3) s) = some (6, 32) ∧
    (after 0x0301 0xFF (toBytes 22 (1 + 9 * 2 ^ 32 + 4096 * 2 ^ 128 + 2 ^ 160)) s).sinks.map (·.rkey) = [9] ∧
    (after 0x0301 0xFF (toBytes 22 (1 + 4096 * 2 ^ 128)) s).sinks = [] ∧
    reply (after 0x0303 0xFF [] s) = some (0, 0) ∧
    (after 0x0501 0xFF (toBytes 36 (7 + 33 * 2 ^ 136)) s).qps.map (fun q => (q.qpn, q.rqpn)) = [(1, 5), (2, 33)] ∧
    (after 0x0502 0xFF [1, 0] { s with sinks := [] }).qps = [] ∧ reply (after 0x0502 0xFF [1, 0] s) = some (0x0E, 0) ∧
    reply (after 0x0201 0xFF (toBytes 22 (1 + 4 * 2 ^ 160)) s) ≠ none := by decide +kernel

/-- The windows of the harbour's memory: a landing region is removed, an open batch closes (R333, R373). -/
theorem test_objects2 :
    let s := mailDev (fun s => { s with lrs := [⟨0, 0, 1024, 3, 8, true, true, 0⟩], builder := { s.builder with openRecs := [⟨1, 0, 0, 0, 0, some (0, 0)⟩] } })
    runs s .cmdLrDeregister 0x0504 0xFF [0] = true ∧
    (after 0x0504 0xFF [0] s).lrs = [] ∧
    runs s .cmdFlush 0x0303 0xFF [] = true ∧ s.builder.closed = [] := by decide +kernel

/-- SHA-384 of "abc" (FIPS 180-4). -/
theorem test_sha384 : beNat (sha384Bytes [0x61, 0x62, 0x63]) =
    0xCB00753F45A35E8BB5A03D699AC65007272C32AB0EDED1631A8B605A43FF5BED8086072BA1E7CC2358BAECA134C825A7 := by decide +kernel

/-! ## Handshakes, sessions and the order of commands -/

/-- A HELLO for the harbour's scope with this key number. -/
def helloFrame (key : Nat) : Frame :=
  let body := toBytes 140 (key * 2 ^ (8 * 130))
  ⟨wire0, 51620, 7, 9, 0, hmpFrame (hmpHead 1 0 0 false 140 0) none body⟩

def helloDev : State :=
  let d := devOf (coreOf [])
  { d with keeper := { d.keeper with life := 1, tkeys := [⟨0, [4, 5]⟩] } }

/-- A HELLO under the harbour's key opens a handshake; under another key it is refused (R399, R400). -/
theorem test_hello :
    let f := helloFrame (keyId [4, 5])
    helloDev.hears f.wire false (some f.entry) = true ∧ f.dport = helloDev.port.cfg.hmpport ∧ helloDev.portUp = true ∧ (helloDev.entryOwner f.entry).isSome = true ∧ frameLenOk f = true ∧ f.crcOk = true ∧ frameHeadOk f = true ∧
    frameKind f = 1 ∧ f.body.length = 140 ∧ helloDev.helloRefused f = none ∧ helloDev.freeSession.isSome = true ∧
    (out (exec (.hello f) helloDev)).shakes.map (·.scope) = [0] ∧ helloDev.helloRefused (helloFrame 9) = some 2 ∧
    (out (exec (.hello (helloFrame 9)) helloDev)).shakes = [] := by decide +kernel

/-- CERT_GET is answered; the handshake of a FINISH, which waits for its signature (R400, R402). -/
theorem test_certFinish :
    let c : Frame := { helloFrame 0 with data := hmpFrame (hmpHead 5 0 0 false 6 0) none [0, 0, 0, 0, 8, 0] }
    let f : Frame := { helloFrame 0 with data := hmpFrame (hmpHead 3 2 0 false 96 0) none (toBytes 96 0) }
    let h : Handshake := ⟨2, 2, 0, 7, 9, 0, keyId [4, 5], 0, 0, [], 0⟩
    let s : State := { helloDev with shakes := [h] }
    (out (exec (.certGet c) helloDev)).tx.map (fun y => y.kind) = [3] ∧
    frameLenOk f = true ∧ frameHeadOk f = true ∧ frameKind f = 3 ∧ (s.tenantKey h.scope h.keyid).isSome = true ∧
    s.shakes.find? (fun y => y.id == frameSession f && y.peer == f.src && y.port == f.sport && y.entry == f.entry) = some h := by decide +kernel

/-- A handshake ends after 1 s, a session after 300 s without a command (R400, R403). -/
theorem test_sessionTimes :
    let h : Handshake := ⟨2, 2, 0, 7, 9, 0, 0, 0, 0, [], 0⟩
    let at_ (n : Nat) (s : State) : State := { s with tide := { s.tide with count := n } }
    (out (exec (.handshakeTimeout 2) (at_ 1000000000 { helloDev with shakes := [h] }))).shakes = [] ∧
    (out (exec (.handshakeTimeout 2) (at_ 999999999 { helloDev with shakes := [h] }))).shakes = [h] ∧
    (out (exec (.sessionTimeout 1) (at_ 300000000000 mailDev))).sessions = [] ∧
    (out (exec (.sessionTimeout 1) (at_ 299999999999 mailDev))).sessions = [mailSession] := by decide +kernel

/-- An ordered command that waits starts; a fenced one is answered LANDING_TIMEOUT, or runs once its ledger has come (R409, R411). -/
theorem test_order :
    let b (f : Nat) : List Byte := toBytes 34 (3 + 2 * 2 ^ 16 + 0xFF * 2 ^ 136 + f * 2 ^ 144 + 64 * 2 ^ 192 + 5 * 2 ^ 256)
    let s (p f led : Nat) : State := { mailDev with
      sessions := [{ mailSession with high := 1, cmds := [⟨1, b f, p, 0, 51620⟩] }], lrs := [⟨0, 0, 1024, 3, 8, true, true, led⟩] }
    (out (exec (.commandStart 1) (s 0 0xFFFF 0))).sessions.map (·.groups) = [5] ∧
    (out (exec (.landingFenceMet 1 1) (s 1 0 64))).sessions.map (·.groups) = [5] ∧
    out (exec (.landingFenceMet 1 1) (s 1 0 63)) = s 1 0 63 ∧
    (((out (exec (.landingTimeout 1 1) (s 1 0 63))).log.head?).map (·.code)) = some 0x5505 := by decide +kernel

/-- An answer leaves the outstanding commands and enters the cache (R406, R407). -/
theorem test_answer :
    let s : State := { mailDev with sessions := [{ mailSession with high := 1, cmds := [⟨1, [], 2, 0, 51620⟩] }] }
    let t := s.answer ⟨mailSession.handle, 1, 1⟩ 0 0 0 []
    t.sessions.map (fun x => (x.cmds, x.cache.map (·.seq))) = [([], [1])] := by decide +kernel

/-! ## Records -/

/-- A run ended by STOP whose outputs are ready, a record that waits, and batches open and closed: the premises of the statements
about records, and what the builder does with them (R327, R332, R333). -/
theorem test_records :
    let x : Lagoon := { (devOf (coreOf [])).lagoon 0 with st := .draining, run := some ⟨4, 7, [], 0, 0, true, 1, 0, 2, 0, none, false⟩ }
    let d := (devOf (coreOf [])).setLagoon 0 x
    let q : RunRec := ⟨4, 0, 0, 2, 0, none⟩
    let s := d.setLagoon 0 { x with record := some q }
    let t := out (exec (.recordAccepted 0) s)
    let b : State := { d with builder := { d.builder with openRecs := [q], openNo := 3, topen := 0 }, tide := { d.tide with count := 100000000 } }
    d.canonical = true ∧ d.outputsReady 0 = true ∧ d.rel.bad = [] ∧ s.builder.room = true ∧ s.behind 0 = false ∧
    (t.lagoon 0).st = .loaded ∧ t.runs.map (fun r => (r.runno, r.ref)) = [(4, some (t.builder.openNo, 0))] ∧
    (out (exec .batchWindowExpiry b)).builder.closed.map (fun c => (c.no, c.tclose)) = [(3, 100000000)] ∧
    (out (exec .batchWindowExpiry { b with tide := { b.tide with count := 99999999 } })).builder.closed = [] ∧
    (b.power.porst = true ∧ b.builder.stopped = false ∧ b.sinkBacklog < 64) := by decide +kernel

/-! ## The port and RoCE -/

def portDev (f : State → State := id) : State :=
  let d := devOf (coreOf [])
  f { d with port := { d.port with link := some 400, lanes := 3 } }

/-- The link trains to the first width whose lanes came up (R364); pauses follow the peer (R369). -/
theorem test_link :
    let d := devOf (coreOf [])
    let t (m : Nat) := out (exec (.linkUp m) d)
    let p := out (exec (.pauseFrame 3 true) portDev)
    (t 0xFF).port.link = some 1600 ∧ (t 0x0F).port.link = some 800 ∧ (t 0x7F).port.link = some 800 ∧ (t 1).port.link = none ∧
    (out (exec .linkDown portDev)).port.link = none ∧ codes .fecDegraded portDev = [0x5104] ∧
    p.port.paused.map (·.prio) = [3] ∧ (out (exec (.pauseFrame 3 false) p)).port.paused = [] ∧
    codes (.pfcHold 3) { p with tide := { p.tide with count := 200000001 } } = [0x5106] ∧
    codes (.pfcHold 3) { p with tide := { p.tide with count := 200000000 } } = [] := by decide +kernel

/-- Key agreement opens the controlled port; a lost peer closes it (R370). -/
theorem test_macsec :
    let s := portDev (fun s => { s with port := { s.port with cfg := { s.port.cfg with macsec := true, cak := some ([1], [2]) } } })
    let t := out (exec (.mkaFrame ⟨true, true, 1⟩) s)
    t.port.ctlOpen = true ∧ t.port.sas.map (·.an) = [1] ∧ (out (exec .macsecPeerLost t)).port.ctlOpen = false := by decide +kernel

/-- The network frames are answered for the port's own addresses (R367, R377). -/
theorem test_network :
    let s := portDev (fun s => { s with port := { s.port with cfg := { s.port.cfg with addrs := [(1, ⟨77, true, none, 8⟩), (2, ⟨88, false, none, 8⟩)] } } })
    let w (v : Bool) : Wire := { wire0 with v4 := v }
    let p (v : Bool) (a : Nat) : NetFrame := ⟨w v, a, 5, 6, [1]⟩
    s.netUp = true ∧ s.hears (w false) false (some 2) = true ∧ s.hears (w true) false (some 1) = true ∧
    (out (exec (.echoRequest (p false 88)) s)).tx.map (·.toOutgoing) = [⟨6, 5, 0x81, [1]⟩] ∧
    ((out (exec (.neighbourSolicitation (p false 88)) s)).tx.map (·.num)) = [0x88] ∧ ((out (exec (.arpRequest (p true 77)) s)).tx.map (·.num)) = [2] ∧
    (out (exec (.arpRequest (p true 78)) s)).port.dropped = 1 ∧ (out (exec (.arpReply (p true 5)) s)).port.resolved = [(5, 6)] ∧
    (out (exec (.neighbourAdvertisement (p false 5)) s)).port.resolved = [(5, 6)] ∧
    ((out (exec (.peerDelayRequest (p false 0)) s)).tx.map (·.num)) = [3] := by decide +kernel

/-- A lighthouse probe is answered 240 ns later at 400 Gb/s (R378, R385). -/
theorem test_lighthouse :
    let s := portDev (fun s => { s with port := { s.port with cfg := { s.port.cfg with lhcfg := 10 + 2 ^ 18 + 2 ^ 30, lhetype := 0x88B5 } } })
    let p : Probe := ⟨wire0, true, 0x88B5, 0, 5, 6, 0x14C48, 16⟩
    let t := out (exec (.lighthouseProbe p) s)
    let u : State := { t with tide := { t.tide with count := 240 } }
    s.lhAccepts p = true ∧ t.port.lhReplies.map (·.due) = [240] ∧ (out (exec .lighthouseReply u)).tx.length = 1 ∧
    (out (exec .lighthouseReply t)).tx = [] ∧ (out (exec (.lighthouseProbe { p with word := 0 }) s)).port.lhDrops = 1 := by decide +kernel

/-- A queue pair of lagoon 0 with a landing region, and an entry bound to the lagoon. -/
def roceDev : State :=
  let d := devOf (coreOf [])
  { d with qps := [{ qp0 with owner := 0 }], lrs := [⟨0, 0, 1024, 3, 0, true, true, 0⟩]
           port := { d.port with cfg := { d.port.cfg with addrs := [(1, ⟨77, false, none, 0⟩)] } } }

def rocePkt : Packet := ⟨wire0, 4791, true, none, 0, 1, 200, 7, 1, 3, 16, 2, [0xAA, 0xBB], false⟩

/-- A WRITE lands and counts; outside its region it raises 0x5301 and writes nothing; a READ answers (R373 to R375). -/
theorem test_roce :
    let t := out (exec (.roceWrite rocePkt) roceDev)
    roceDev.canonical = true ∧ roceDev.hears wire0 false (some 1) = true ∧ (roceDev.packetQp rocePkt).isSome = true ∧ (roceDev.lrFor { qp0 with owner := 0 } rocePkt true).isSome = true ∧
    t.mem = [(16, 0xAA), (17, 0xBB)] ∧ t.lrs.map (·.ledger) = [2] ∧ t.qps.map (·.rpsn) = [201] ∧
    codes (.roceWrite { rocePkt with addr := 1023 }) roceDev = [0x5301] ∧
    (out (exec (.roceWrite { rocePkt with addr := 1023 }) roceDev)).mem = [] ∧
    (out (exec (.roceRead rocePkt) t)).mem = t.mem ∧ (out (exec (.roceRead { rocePkt with psn := 201 }) t)).tx.map (·.body) = [[0xAA, 0xBB], [0x11]] ∧
    (out (exec (.roceSend rocePkt) roceDev)).tx.map (·.body) = [[0xE1]] := by decide +kernel

/-- An acknowledgement ends the request, a time-out repeats it seven times, a CNP lowers the rate (R371, R372). -/
theorem test_roceWork :
    let w : Work := ⟨100, [1, 2], 3, 0, none, none, none, false, []⟩
    let d : State := { roceDev with tide := { roceDev.tide with count := 1000000 } }
    let s : State := { d with qps := [{ qp0 with owner := 0, work := [w] }] }
    let e : State := { d with qps := [{ qp0 with owner := 0, work := [w], retries := 7 }] }
    let y : State := { d with qps := [{ qp0 with owner := 0, work := [w], timer := 1 }] }
    out (exec (.roceAckTimeout 1) y) = y ∧ (out (exec (.cnpReceived rocePkt) s)).qps.map (·.work) = [[w]] ∧ (out (exec (.roceAck { rocePkt with psn := 100 }) s)).qps.map (·.work) = [[]] ∧
    (out (exec (.roceAckTimeout 1) s)).qps.map (·.retries) = [1] ∧ (out (exec (.roceAckTimeout 1) e)).qps.map (fun q => (q.state, q.work)) = [(1, [])] ∧
    s.qp? 1 = some { qp0 with owner := 0, work := [w] } ∧ s.portUp = true := by decide +kernel

/-- An RDMA READ response lands in its region (R375). -/
theorem test_roceResponse :
    let w : Work := ⟨100, [0, 0], 3, 4, none, none, some 0, false, []⟩
    let s : State := { roceDev with qps := [{ qp0 with owner := 0, work := [w] }] }
    (out (exec (.roceReadResponse { rocePkt with psn := 100 }) s)).mem = [(4, 0xAA), (5, 0xBB)] := by decide +kernel

/-! ## Sideband and JTAG -/

/-- A device whose sideband port has its addresses. -/
def sideDev : State := { devOf (coreOf []) with side := ⟨some 9, some 8, none, none, false⟩ }

/-- Addresses are taken, reads answered, and the BMC's hold requested and released (R389 to R392). -/
theorem test_sideband :
    let d := devOf (coreOf [])
    let p := out (exec .bmcRequestP3 sideDev)
    (out (exec (.i3cDynamicAddress 0x85) d)).side.dyn = some 5 ∧ (out (exec (.endpointIdAssignment 8) sideDev)).side.eid = some 8 ∧
    sideDev.sideUp = true ∧ (out (exec (.pldmSensorRead 62 0) sideDev)).tx.map (·.toOutgoing) = [⟨7, 8, 0x23E, [0, 0, 0, 0]⟩] ∧
    (out (exec (.pldmSensorRead 63 0) sideDev)).tx = [] ∧ ((out (exec .pldmFruRead sideDev)).tx.map (fun y => y.body.length)) = [60] ∧
    ((out (exec (.oemReadRgnstat 17) sideDev)).tx.map (·.num)) = [0x3F11] ∧ ((out (exec .oemReadHealth sideDev)).tx.map (·.num)) = [0x3F20] ∧
    p.side.bmcHold = some 3 ∧ (out (exec .bmcRelease p)).side.bmcHold = none ∧ (out (exec .bmcRequestOff sideDev)).side.bmcHold = some 4 ∧
    sideDev.updates = true := by decide +kernel

/-- A staged image becomes the first copy (R518). -/
theorem test_firmware :
    let f : Firmware := ⟨3, 0, true, true⟩
    let s : State := { sideDev with boot := { sideDev.boot with staged := some f } }
    let t := out (exec .pldmFirmwareActivate s)
    t.boot.copyA = some f ∧ t.boot.staged = none := by decide +kernel

/-- Status registers are shifted out, the scope selected, cells taken, BYPASS elsewhere (R468, R476, R480). -/
theorem test_jtag :
    let s := devOf (coreOf [])
    let d : State := { s with keeper := { s.keeper with life := 2 } }
    let t (i : Instr) := (out (exec i s)).tx.map (fun y => (y.dest, y.body.length))
    t .idcode = [(1, 4)] ∧ t .tokstat = [(0x11, 2)] ∧ t .provstat = [(0x15, 1)] ∧ t .fwstat = [(0x17, 1)] ∧
    (out (exec (.dbgsel 0xFF) s)).jtag.sel = 0xFF ∧ (out (exec (.samplePreload [true]) s)).jtag.dr = [true] ∧
    s.unowned = true ∧ d.unowned = false ∧ (out (exec (.extest [true]) s)).jtag.dr = [true] ∧ (out (exec (.extest [true]) d)).jtag.dr = [false] ∧
    (out (exec .bypass s)).jtag.ir = 0xFF ∧ (out (exec (.fwload 1 []) s)).jtag.ir = 0x16 ∧ (out (exec (.provision 0) d)).jtag.provstat = 1 ∧
    (out (exec (.provision 0) s)).jtag.provstat = 2 ∧ (out (exec (.token []) s)).jtag.tokstat = 1 := by decide +kernel

/-- A D3 session of every scope over JTAG, selected; its end; and its accesses: CSR MCORE, X5 written, tile memory, memory, an object,
halts and steps (R476, R481). -/
def dbgDev : State :=
  let s := devOf { coreOf [copWord 0 0 0] with tile := [(0, ⟨0x11223344, 0, 0⟩)] }
  { s with dbgs := [⟨0xFF, 3, none, 1000, 1⟩], jtag := { s.jtag with sel := 0xFF }, mem := [(0, 7)] }

def dbgW (space off data write : Nat) : BitVec 128 := BitVec.ofNat 128 (space * 2 ^ 124 + off * 2 ^ 64 + data * 2 ^ 32 + write)

theorem test_dbgacc :
    let r (i : BitVec 128 → Instr) (w : BitVec 128) := bits (out (exec (i w) dbgDev)).jtag.result.toNat 32 32
    let k (i : BitVec 128 → Instr) (w : BitVec 128) := (out (exec (i w) dbgDev)).core c0
    dbgDev.canonical = true ∧ dbgDev.selected.isSome = true ∧ dbgDev.reaches (dbgW 0 0 0 0) = true ∧ 3 ≤ dbgDev.debugLevel 0 ∧
    r .dbgaccState (dbgW 0 0x2000 0 0) = 0 ∧ (k .dbgaccState (dbgW 0 0x1005 9 1)).pilot.getX 5 = 9 ∧
    r .dbgaccCoreMemory (dbgW 1 0 0 0) = 0x11223344 ∧ (k .dbgaccCoreMemory (dbgW 1 0 5 1)).tileLine 0 = ⟨5, 0, 0⟩ ∧
    r .dbgaccProgramAddress (dbgW 2 0 0 0) = 7 ∧ (out (exec (.dbgaccProgramAddress (dbgW 2 0 0x0A09 1)) dbgDev)).mem = [(0, 9), (1, 10)] ∧
    (out (exec (.dbgend 0xFF) dbgDev)).dbgs = [] ∧ (out (exec (.debugSessionExpiry 0xFF) { dbgDev with tide := { dbgDev.tide with count := 1000 } })).dbgs = [] := by
  decide +kernel

theorem test_dbgControl :
    let k (i : BitVec 128 → Instr) (n : Nat) (s : State) := (out (exec (i (dbgW 4 n 0 1)) s)).core c0
    let h := out (exec (.dbgaccHaltSequencer (dbgW 4 0 0 1)) dbgDev)
    let p := out (exec (.dbgaccHaltPilot (dbgW 4 3 0 1)) dbgDev)
    (h.core c0).ex.halted = true ∧ (k .dbgaccStepSequencer 1 h).ex = { Seq.blank with addr := 1, halted := true } ∧
    (k .dbgaccResumeSequencer 2 h).ex.halted = false ∧ (p.core c0).pilot.halted = true ∧ (k .dbgaccStepPilot 4 p).pilot.halted = true ∧
    (k .dbgaccResumePilot 5 p).pilot.halted = false ∧
    bits (out (exec (.dbgaccObject (dbgW 3 (1 * 2 ^ 40) 0 0)) dbgDev)).jtag.result.toNat 0 3 = 2 := by decide +kernel

/-! ## Power, start-up, reliability -/

/-- A board with nothing amiss. -/
def goodBoard : StartUp := ⟨5, 6, 0, 3, true, true, [], [], true, true, true, [], [], [], [], [], [], [], [], false⟩

/-- From reset, a PUF that fails holds the device in P3 (R455, R520). -/
theorem test_startUp :
    let h := out (exec (.porstRelease { goodBoard with puf := false }) State.reset)
    h.boot.held = true ∧ h.power.state = 3 ∧ h.counter 6 = 1 := by decide +kernel

/-- The premises of the statement about start-up hold at reset. -/
theorem test_startUpPremises :
    State.reset.canonical = true ∧ State.reset.power.porst = false ∧ State.reset.keeper.wipe = false ∧ State.reset.boot.selfReset = false ∧
    State.reset.boot.copyA = some Firmware.shipped ∧ Firmware.shipped.passes = true := by decide +kernel

/-- A reset empties what is volatile and keeps the keeper's state; a lost reference changes nothing (R302, R511). -/
theorem test_reset :
    let s : State := { devOf (coreOf []) with mem := [(1, 2)] }
    let t := out (exec .porstFall s)
    t.mem = [] ∧ t.lagoons = [] ∧ t.power.porst = false ∧ t.keeper = s.keeper ∧ (out (exec .supplyFailure s)).cores = [] ∧
    out (exec .referenceLost s) = s := by decide +kernel

/-- Power-good rises and fails; a move to P1 is entered; a thermal trip enters P2 (R416, R509, R510). -/
theorem test_power :
    let d := devOf (coreOf [])
    let g (ok : Bool) : State := { d with power := { d.power with hb := ⟨true, ok, false⟩ } }
    let m : State := { d with power := { d.power with move := some ⟨1, none⟩ } }
    let c : State := { (d.setLagoon 0 { d.lagoon 0 with st := .loaded }) with power := { d.power with cause := 1 } }
    (out (exec (.pgoodAsserted 0) (g false))).power.hb.pgood = true ∧ (out (exec (.pgoodFail 0) (g true))).power.state = 3 ∧
    (out (exec .powerStateEntered m)).power.state = 1 ∧ c.allRecorded = true ∧ c.memBusy = false ∧
    (out (exec .powerStateEntered c)).power.state = 2 ∧ ((out (exec .powerStateEntered c)).lagoon 0).st = .configured := by decide +kernel

/-- A corrected error makes an entry; an uncorrectable one met by a run ends it, met by a scrub marks its atom (R487 to R489). -/
theorem test_errors :
    let d := devOf (coreOf [])
    let e : ErrAt := ⟨0x5000, 0x20, 0, 3, 1, 1, 0x400, []⟩
    (out (exec (.errorCorrected e) d)).rel.log.errs.map (fun x => (x.word, x.corr)) = [(3, 1)] ∧
    d.plocLagoon 0x5000 = some 0 ∧ ((out (exec (.errorUncorrectable e 0) d)).lagoon 0).st = .faulted ∧
    (out (exec (.errorUncorrectable e 1) d)).rel.bad = [16] ∧ (out (exec (.errorUncorrectable { e with unit := 0x38 } 1) d)).power.porst = false ∧
    d.addrOwner 0x400 = some 0 ∧ (out (exec (.scrub 0x400 2) d)).rel.bad = [16] ∧ (out (exec (.scrub 0x400 1) d)).rel.bad = [] ∧
    out (exec (.scrub 0x400 0) d) = d := by decide +kernel

/-- Self-tests class, substitutions are made, the logbook counts and is committed (R490 to R492, R496, R497). -/
theorem test_reliability :
    let d := (devOf (coreOf [])).setLagoon 0 { (devOf (coreOf [])).lagoon 0 with st := .loaded }
    let s : State := { d with rel := { d.rel with tests := [⟨0x5000, 0x20, 0, 1, none, false⟩], substs := [⟨9, 0x5000, 0x20, 0, 0, 0, 1, none⟩, ⟨6, 0x5000, 0x20, 0, 0, 0, 1, none⟩] } }
    let c : State := { d with tide := { d.tide with count := 900000000000 } }
    s.unitFree 0x20 0x5000 = true ∧ (out (exec (.targetedSelfTest 0 true) { s with rel := { s.rel with substs := [] } })).rel.tests = [] ∧
    (out (exec (.spareSubstituted 0 true) s)).keeper.spares = [(9, 0x5000)] ∧ (out (exec (.spareSubstituted 1 true) s)).rel.substs.length = 1 ∧
    s.spent 6 (0x5000 * 256) = 0 ∧ (out (exec (.logbookSecond ⟨[], [], 0, 0⟩) d)).rel.log.seconds = 1 ∧
    (out (exec .logbookCommit c)).counter 5 = 1 ∧ (out (exec .logbookCommit c)).rel.lastCk = 900000000000 := by decide +kernel

/-! ## Checkpoints, the decision service, lifecycle -/

/-- A service of windows of 10,000 ticks with one row of two bytes. -/
def svc0 : Service := ⟨10000, 1, 2, 2, 1, false, 0, [], 0, [], [], [], none, none, false⟩

/-- A request joins its window; the window closes at its end; SVC_STOP answers (R426, R428, R430). -/
theorem test_service :
    let a : List Byte := toBytes 18 (5 + 2 * 2 ^ 64 + 0xBBAA * 2 ^ 128)
    let s : State := { lagDev .loaded (fun x => { x with svc := some svc0 }) with sessions := [{ mailSession with scope := 0x20 }] }
    let t := after 0x0903 0 a s { mailSession with scope := 0x20 }
    let w : State := { t with tide := { t.tide with count := 10000 } }
    let n := lagDev .loaded
    runs n .cmdSvcStop 0x0902 0 [] = true ∧ reply (after 0x0902 0 [] n) = some (0, 0) ∧
    ((t.lagoon 0).svc.map (fun v => v.current.map (·.row))) = some [[0xAA, 0xBB]] ∧
    (((out (exec (.decisionWindowClose 0) w)).lagoon 0).svc.map (fun v => (v.window, v.current.length))) = some (1, 0) := by decide +kernel

/-- SVC_START needs the image's regions and plan; PAIR keeps what it names; COMPARE and CK_RESTORE's end (R425, R447, R450). -/
theorem test_checkpoint :
    let im : Image := { planImage with regions := [⟨0, 66, 0⟩, ⟨1024, 2, 1⟩] }
    let s := lagDev .loaded (fun x => { x with img := some im })
    let a : List Byte := toBytes 32 (10000 + 1 * 2 ^ 64 + 2 * 2 ^ 80 + 2 * 2 ^ 96 + 1 * 2 ^ 108)
    let p : List Byte := toBytes 48 77 ++ [5]
    let w : CkWork := ⟨⟨mailSession.handle, 1, 0x0803⟩, 0, 0, 4, 1, 0, 9⟩
    let r := lagDev .loaded (fun x => { x with img := some im, restore := some w })
    runs s .cmdSvcStart 0x0901 0 a = true ∧ passes 0x0901 0 a s = true ∧
    (((after 0x0901 0 a s).lagoon 0).svc.map (·.w)) = some 10000 ∧
    runs s .cmdPair 0x0804 0 p = true ∧ passes 0x0804 0 p s = true ∧
    (((after 0x0804 0 p s).lagoon 0).pair.map (fun y => (y.devid, y.feed))) = some (77, 5) ∧
    reply (after 0x0805 0 (toBytes 48 1) s) = some (0x0F, 0) ∧
    r.canonical = true ∧ (r.lagoon 0).restore = some w := by decide +kernel

/-- A snapshot waits while its lagoon is not quiet; a drain names its queue pair (R435, R441). -/
theorem test_checkpoint2 :
    let a : List Byte := toBytes 12 (0x100000 + 4 * 2 ^ 64)
    let s := lagDev .paused (fun x => { x with img := some planImage })
    let u : State := { s with cores := [(0, { coreOf [] with outst := [⟨0, .execute, 0⟩] })] }
    runs s .cmdCkSnapshot 0x0801 0 a = true ∧ passes 0x0801 0 a s = true ∧
    reply (after 0x0801 0 a s) = some (0x0F, 0) ∧
    (((after 0x0801 0 a u).lagoon 0).snap.map (fun w => (w.area, w.dcur))) = (if u.quiet 0 then none else some (0x100000, 4)) := by
  decide +kernel

/-- DEBUG_CLOSE, LIFECYCLE moves that Table 5 of spec/15 does not have, and the wipe (R470 to R472, R478). -/
theorem test_security :
    let s := mailDev
    let a (n : Nat) : List Byte := n :: toBytes 103 0
    let o : State := { s with dbgs := [⟨0xFF, 1, some 1, 1000, 1⟩] }
    let w : State := { s with keeper := { s.keeper with wipe := true }, mem := [(1, 1)] }
    runs s .cmdDebugClose 0x0703 0xFF [] = true ∧
    (after 0x0703 0xFF [] o).dbgs = [] ∧ reply (after 0x0703 0xFF [] s) = some (0x0F, 0) ∧
    runs s .cmdLifecycleDeploy 0x0704 0xFF (a 2) = true ∧
    reply (after 0x0704 0xFF (a 2) s) = some (0x12, 0) ∧
    (out (exec .wipeDone w)).mem = [] ∧ (out (exec .wipeDone w)).keeper.wipe = false ∧
    runs s .cmdAttest 0x0701 0xFF (toBytes 32 3) = true := by decide +kernel

/-- A ferry entry moves to the neighbour whose FERRYCFG takes it (R235); a second failure closes the link (R236). -/
theorem test_ferry :
    let cfg (k : Core) (w : BitVec 32) : Core := { k with csr := { k.csr with ferrycfg := w } }
    let e : QEntry := ⟨[7], [0], 0xC, 128, none, 0, 0, 0, false, 0⟩
    let k0 := cfg { coreOf [] with queues := [(17, { Queue.blank with cfg := 0x60002000, entries := [e], pushed := 1 })] } 0x50100000
    let k1 := cfg { coreOf [] with img := { (coreOf []).img with phys := 1 }, queues := [(2, { Queue.blank with cfg := 0x20002000 })] } 0x52000000
    let s := (devOf k0).setCore ⟨0, 1⟩ k1
    let t := out (exec (.ferryLineReceived 1 0) s)
    (s.ferryReady 1).isSome = true ∧ ((t.core ⟨0, 1⟩).queue 2).entries = [e] ∧ ((t.core c0).queue 17).entries = [] ∧
    codes (.ferryLineReceived 1 2) s = [0x2221, 0x5506] := by decide +kernel

/-- A vector instruction meets a mark on a register that it reads; a result that lands over a whole marked register clears its mark
(R488). -/
theorem test_marks :
    let bad (n : Nat) (s : State) : State := { s with rel := { s.rel with badCore := [(0, 8, n)] } }
    let s := atVec .int32 [1] [2] [3]
    let t := s.setCore c0 { s.core c0 with vec := { (s.core c0).vec with pend := [⟨0, .reg 5, 5, BitVec.allOnes 256⟩] } }
    ((out (exec (.vAdd c0 w4) (bad 2 s))).lagoon 0).st = .faulted ∧ ((out (exec (.vAdd c0 w4) (bad 9 s))).lagoon 0).st = .running ∧
    (bad 2 s).met c0 (fun k => k.landDue.charged (.vec w4) (k.landDue.issueVec 0 ((bad 2 s).envelopeOk c0)
      { VOp.ofSyl (effVec k.landDue.ex w4) with vop := 1 })) = some (8, 2) ∧
    (out (exec (.vAdd c0 w4) (bad 9 s))).rel.badCore = [(0, 8, 9)] ∧ (out (exec (.vAdd c0 w4) (bad 5 t))).rel.badCore = [] := by
  decide +kernel

/-! ## Ways, slots and premises of single clauses -/

/-- A device one of whose lanes still holds item 7. -/
def wayDev (s : State) : State := { s with fabric := { s.fabric with items := [⟨7, [0], 0, 0, 1⟩], count := 7 } }

/-- A release, a message and a response that have not come through their lanes wait (R254, R287 to R289). -/
theorem test_waysEnd :
    let b := wayDev (atCop 0xC 0 3 (fun c => { c with ex := { c.ex with arrived := true, released := true, way := 7 } }))
    let d0 := wayDev (out (exec (.messageSend c0 2 0) msgDev))
    let d := d0.setLagoon 0 { d0.lagoon 0 with msgs := (d0.lagoon 0).msgs.map (fun m => { m with way := 7 }) }
    b.home 7 = false ∧ b.issues c0 = true ∧ b.marks c0 = [] ∧ out (exec (.barrier c0 .execute) b) = b ∧
    (d.lagoon 0).msgs.map (fun m => d.home m.way) = [false] ∧ out (exec (.messageDelivery 0 1 0) d) = d := by decide +kernel

/-- A failed read waits for its owner's next slot, a failed write is over once it is sent again (R171, R223). -/
theorem test_responseAgain :
    let r := out (exec (.wheelSlot 1 false) ((strReleased 0).setWheel 1 ⟨[(1, 0x2000)], 1, 0⟩))
    let w := out (exec (.wheelSlot 1 false) ((strReleased 2).setWheel 1 ⟨[(1, 0x2000)], 1, 0⟩))
    let t := out (exec (.transactionResponse c0 0 0 1) r)
    (t.core c0).ops.map (fun o => o.txns.map (fun x => (x.state, x.retried))) = [[(1, true)]] ∧
    ((out (exec (.transactionResponse c0 0 0 1) w)).core c0).ops = [] ∧
    ((r.core c0).op? 0).map (fun o => o.txns.map (fun x => (x.back, r.home x.way))) = some [(false, true)] := by decide +kernel

/-- A harbour's slot and a free one take a granule owed; a free one with none goes to the lagoon's oldest transaction (R187, R188). -/
theorem test_freeSlots :
    let free (s : State) (own : BitVec 16) (n : Nat) : State := s.setWheel 1 ⟨[(1, own)], 1, n⟩
    let n := (strReleased 0).setLagoon 0 { (strReleased 0).lagoon 0 with cfg := ⟨1, 1, 1, 0, false⟩ }
    let states (s : State) : List (List Nat) := ((out (exec (.wheelSlot 1 false) s)).core c0).ops.map (fun o => o.txns.map (·.state))
    slotReserved 1 1 = false ∧ ((out (exec (.wheelSlot 1 false) (free (strReleased 0) 0x6000 2))).wheel 1).owed = 1 ∧
    states (free (strReleased 0) 0x6000 2) = [[1]] ∧ states (free n 0x8000 2) = [[1]] ∧
    ((out (exec (.wheelSlot 1 false) (free n 0x8000 2))).wheel 1).owed = 1 ∧ states (free n 0x8000 0) = [[2]] ∧
    states (free (strReleased 0) 0x8000 0) = [[1]] := by decide +kernel

/-- A reef slot of the channel moves a granule of the record that its stack's engine works for (R204, R356). -/
theorem test_reefSlots :
    let s := reefDev (reefW 3 2) [(0x200, 5), (0x204, 7), (0x300, 3), (0x304, 1)]
    let own (s : State) : State := s.setWheel (wheelOf 0) ⟨[(1, 0x4000)], 1, 0⟩
    let slot (s : State) : State := out (exec (.wheelSlot (wheelOf 0) false) (own s))
    let t := slot (slot (slot (out (exec (.reefAdd 0 0) s))))
    ((own (out (exec (.reefAdd 0 0) s))).reefWork 0 (wheelOf 0)).isSome = true ∧
    (t.stack 0).recs.map (fun r => (r.reads, r.writes)) = [([], [])] ∧ t.readByte 0x100 = 8 ∧ t.readByte 0x104 = 8 := by decide +kernel

/-- The premises of a good synchronisation message, which asks for a delay request (R303, R377). -/
theorem test_ptpHears :
    let d := devOf (coreOf [])
    let s : State := { d with tide := { d.tide with count := 1000, state := 1, good := 15, lastSync := some 900 }, port := { d.port with link := some 400 } }
    s.tide.disc = true ∧ s.hears wire0 true none = true ∧
    (out (exec (.ptpSync ⟨wire0, 1025, none, 2, true⟩ 0) s)).tx.map (fun y => (y.kind, y.num)) = [(12, 1)] := by decide +kernel

/-- The pulse output rises with a second once the tide has been set, and not before (R503). -/
theorem test_pulse :
    let at_ (b : Bool) : State := let d := devOf (coreOf []); { d with tide := { d.tide with count := 999999999, set := b } }
    (out (exec .tideTick (at_ true))).tide.ppsOut = 1 ∧ (out (exec .tideTick (at_ false))).tide.ppsOut = 0 := by decide +kernel

/-- With the controlled port closed nothing that MACsec protects is sent (R370); TRST_N holds the TAP (R503). -/
theorem test_closedPort :
    let s := portDev (fun s => { s with port := { s.port with cfg := { s.port.cfg with macsec := true } } })
    let j : State := { s with jtag := { s.jtag with trst := true } }
    s.port.ctlOpen = false ∧ txSecure s.port.cfg 5 = true ∧ s.send ⟨5, 1, 0, []⟩ = s ∧ out (exec .idcode j) = j := by decide +kernel

/-- A congestion-experienced packet is told to its sender (R371); a FLUSH waits for the builder's room (R332, R403). -/
theorem test_waitingFlush :
    let b : Batch := ⟨1, [], 0, 0, 0, [], [], false⟩
    let s := mailDev (fun s => { s with builder := { s.builder with openRecs := [⟨1, 0, 0, 0, 0, some (0, 0)⟩], closed := [b, b, b, b] } })
    runs s .cmdFlush 0x0303 0xFF [] = true ∧ (after 0x0303 0xFF [] s).builder.flushes = [⟨mailSession.handle, 1, 0x0303⟩] ∧
    (out (exec (.roceWrite { rocePkt with ce := true }) roceDev)).tx.map (·.toOutgoing) = [⟨5, 1, 200, [0x11]⟩, ⟨11, 1, 0, [0x81]⟩] := by decide +kernel

/-- A shoal line that cannot be corrected is dropped, a keeper item becomes absent; a core between programs takes errors in a scrub
only in P1 (R231, R456, R489); outside a reserved slot nothing is scrubbed. -/
theorem test_errorUnits :
    let d := devOf (coreOf [])
    let e : ErrAt := ⟨0x5000, 0x22, 0, 3, 1, 1, 0x400, []⟩
    let l := d.setLagoon 0 { d.lagoon 0 with st := .loaded }
    (out (exec (.errorUncorrectable e 0) d)).log.map (·.code) = [0x2211] ∧
    ((out (exec (.errorUncorrectable { e with unit := 0x39, word := 6 } 0) d)).log.head?).map (·.code) = some 0x6104 ∧
    d.scrubs e = false ∧ slotReserved (wheelOf 0x400) (d.wheel (wheelOf 0x400)).pos = true ∧
    (let w := d.setWheel (wheelOf 0x400) ⟨[], 1, 0⟩; out (exec (.scrub 0x400 2) w) = w) ∧ l.atBoundary 0 = true := by decide +kernel

/-- A window's batch has its input written first, and the run starts once its digests have come (R330, R429). -/
theorem test_batchRun :
    let im : Image := { planImage with regions := [⟨0, 66, 0⟩, ⟨1024, 2, 1⟩] }
    let v : Service := { svc0 with closed := [⟨0, [], none, [], none⟩] }
    let s := lagDev .loaded (fun x => { x with img := some im, sealed := true, svc := some v })
    let t := out (exec (.batchRunStart 0) s)
    s.svcFree 0 v = true ∧ ((s.writeBatch 0).lagoon 0).hashed false = false ∧
    ((t.lagoon 0).svc.map (fun p => (p.sealing, p.closed.length))) = some (true, 1) := by decide +kernel

/-- A D3 session reaches all fitted memory of a BLANK device (R485). -/
theorem test_blankMemory :
    let s : State := { dbgDev with lagoons := [], cores := [] }
    s.keeper.life = 0 ∧ s.selected.isSome = true ∧ s.unowned = true ∧ s.fitted 0 = true ∧ s.fitted 3 = true ∧
    (out (exec (.dbgaccProgramAddress (dbgW 2 0 0x0A09 1)) s)).mem = [(0, 9), (1, 10)] := by decide +kernel

/-! ## Step and well-formedness -/

/-- A step takes the command at the front of the queue; an empty queue idles. -/
theorem test_step :
    out (step State.reset) = State.reset ∧
    (out (step { devOf (coreOf []) with pending := [.tideTick, .bypass] })).pending = [.bypass] := by decide +kernel

/-- An ill-formed operand of every kind is refused, and named. -/
theorem test_illFormed :
    (Instr.nop ⟨8, 0⟩ .execute).wf = false ∧ (Instr.nop ⟨0, 512⟩ .access).wf = false ∧ (Instr.launch 8).wf = false ∧
    (Instr.reefAdd 20 0).wf = false ∧ (Instr.wheelSlot 656 false).wf = false ∧ (Instr.railLow 18 0).wf = false ∧
    (Instr.cmdHmpNop ⟨wire0, 0, 0, 65536, 0, []⟩).wf = false ∧
    (Instr.cmdHmpNop ⟨{ wire0 with tag := some (4096, 0) }, 0, 0, 0, 0, []⟩).wf = false ∧
    (Instr.lighthouseProbe ⟨wire0, true, 65536, 0, 0, 0, 0, 16⟩).wf = false ∧ (Instr.ptpSync ⟨wire0, 0, none, 3, false⟩ 0).wf = false ∧
    (Instr.arpReply ⟨wire0, 0, 0, 2 ^ 48, []⟩).wf = false ∧ (Instr.mkaFrame ⟨true, true, 4⟩).wf = false ∧
    (Instr.roceSend ⟨wire0, 4791, true, none, 0, 2 ^ 24, 0, 0, 0, 0, 0, 0, [], false⟩).wf = false ∧
    (Instr.porstRelease { goodBoard with feed := 64 }).wf = false ∧
    (Instr.errorCorrected ⟨2 ^ 16, 0, 0, 0, 0, 0, 0, []⟩).wf = false ∧ (Instr.cubeAct c0 16).wf = false ∧
    (Instr.nop c0 .execute).wf = true ∧ (Instr.cubeAct c0 16).faults = [.field "cube" 16 16] := by decide

/-- The lowest member of a barrier is found by virtual core, whatever order the image lists them in (R274). -/
theorem test_lowestMember : lowestMember [(4, false), (2, true), (3, false)] = some 5 := by decide

end Sys2Proof.Tests
end

section
/-! The launch of a run and the power guard's windows (R307, R308, R349, R354): what a launch makes of its lagoon, why the bundles of
beat 0 cannot undo it, and what a window's start gives each context. -/

namespace Sys2Proof.Machine

/-! ### What the operations of a launch leave of the lagoons and of the keeper -/

theorem State.dropLaunches_lagoons (s : State) (l : Nat) (st : LState) :
    (s.dropLaunches l st).lagoons = (s.setLagoon l { s.lagoon l with launch := [] }).lagoons := by
  unfold State.dropLaunches
  rw [foldl_keeps (fun a => a.lagoons) (fun a p => State.answerOpt_lagoons a _ _ _ _ _)]

theorem State.moveLagoon_lagoons_wf {s : State} (h : Sparse.wf Lagoon.blank s.lagoons = true) (l : Nat) (st : LState) :
    Sparse.wf Lagoon.blank (s.moveLagoon l st).lagoons = true := by
  unfold State.moveLagoon
  simp only
  split
  · exact h
  · rw [State.dropLaunches_lagoons]
    exact Sparse.wf_set _ _ (by rw [State.raise_lagoons]; exact Sparse.wf_set _ _ h)

/-- A lagoon that changes its state is unsealed and loses its pending launches, and is otherwise as it was (R308, R413). -/
theorem State.moveLagoon_lagoon {s : State} (h : Sparse.wf Lagoon.blank s.lagoons = true) {l : Nat} {st : LState}
    (hne : (s.lagoon l).st ≠ st) :
    (s.moveLagoon l st).lagoon l = { s.lagoon l with st := st, sealed := false, launch := [] } := by
  unfold State.moveLagoon
  simp only [if_neg hne]
  rw [State.dropLaunches_lagoon _ (by rw [State.raise_lagoons]; exact Sparse.wf_set _ _ h)]
  simp [State.setLagoon_lagoon s h]

/-- Classing an error as lasting is kept from whatever sees neither events, the reliability records, sessions nor the transmitter. -/
theorem State.classLasting_keeps {β : Type} (g : State → β)
    (h : ∀ (s : State) n l r x y, g { s with evno := n, log := l, rel := r, sessions := x, tx := y } = g s)
    (s : State) (ploc unit subidx word bit eclass : Nat) : g (s.classLasting ploc unit subidx word bit eclass) = g s := by
  have hrel (s : State) (r : Reliab) : g { s with rel := r } = g s := h s s.evno s.log r s.sessions s.tx
  have hevent (es : List ErrEntry) (arg : Nat) (lag : Option Nat) : g ((s.setErrs es).raise 0x7202 0 arg ploc lag none) = g s :=
    (State.raise_keeps g h _ _ _ _ _ _ _).trans (hrel s _)
  unfold State.classLasting
  simp only
  split
  · exact hevent _ _ _
  · split
    · exact hevent _ _ _
    · exact (hrel _ _).trans (hevent _ _ _)

/-- Counting an error is kept from whatever sees neither events, the reliability records, sessions nor the transmitter. -/
theorem State.countError_keeps {β : Type} (g : State → β)
    (h : ∀ (s : State) n l r x y, g { s with evno := n, log := l, rel := r, sessions := x, tx := y } = g s)
    (s : State) (ploc unit subidx word bit : Nat) (uncorr : Bool) : g (s.countError ploc unit subidx word bit uncorr) = g s := by
  have hrel (s : State) (r : Reliab) : g { s with rel := r } = g s := h s s.evno s.log r s.sessions s.tx
  have htest (s : State) (es : List ErrEntry) (eclass : Nat) (b : Bool) :
      g ((s.setErrs es).scheduleTest ploc unit subidx eclass b) = g s := (hrel _ _).trans (hrel _ _)
  have hlink (n : Nat) : g (s.countLink n) = g s := hrel s _
  unfold State.countError
  simp only
  split
  · split
    · rw [State.classLasting_keeps g h, htest, hlink]
    · rw [htest, hlink]
  · split
    · rw [State.classLasting_keeps g h, htest]
    · rw [htest]

@[simp] theorem State.countError_lagoons (s : State) (ploc unit subidx word bit : Nat) (uncorr : Bool) :
    (s.countError ploc unit subidx word bit uncorr).lagoons = s.lagoons :=
  State.countError_keeps (fun s => s.lagoons) (fun _ _ _ _ _ _ => rfl) s ploc unit subidx word bit uncorr

@[simp] theorem State.countError_keeper (s : State) (ploc unit subidx word bit : Nat) (uncorr : Bool) :
    (s.countError ploc unit subidx word bit uncorr).keeper = s.keeper :=
  State.countError_keeps (fun s => s.keeper) (fun _ _ _ _ _ _ => rfl) s ploc unit subidx word bit uncorr

@[simp] theorem State.unmarkBy_lagoons (s s0 : State) (c : CoreId) (f : Core → Res Core) : (s.unmarkBy s0 c f).lagoons = s.lagoons := by
  unfold State.unmarkBy
  exact foldl_keeps (f := fun a x => a.unmark _ x) (fun a => a.lagoons) (fun _ _ => rfl) _ s

@[simp] theorem State.unmarkBy_keeper (s s0 : State) (c : CoreId) (f : Core → Res Core) : (s.unmarkBy s0 c f).keeper = s.keeper := by
  unfold State.unmarkBy
  exact foldl_keeps (f := fun a x => a.unmark _ x) (fun a => a.keeper) (fun _ _ => rfl) _ s

/-- What a launch clears of its lagoon: episodes of barriers, rounds of combining queues, messages under way (R349). -/
def Lagoon.cleared (x : Lagoon) : Lagoon :=
  { x with
    barriers := x.barriers.map (fun b => { b with episodes := 0 })
    combs := x.combs.map (fun q => { q with round := 0, added := 0, shape := (0, 0), sum := [], flags := 0, store := [] })
    msgs := [] }

theorem State.reinitialise_lagoons (s : State) (l seed : Nat) :
    (s.reinitialise l seed).lagoons = (s.setLagoon l (s.lagoon l).cleared).lagoons := by
  unfold State.reinitialise
  simp only
  rw [foldl_keeps (fun a => a.lagoons) (fun a n => State.setStack_lagoons a n _)]
  rfl

theorem State.reinitialise_keeper (s : State) (l seed : Nat) : (s.reinitialise l seed).keeper = s.keeper := by
  unfold State.reinitialise
  simp only
  rw [foldl_keeps (fun a => a.keeper) (fun a n => State.setStack_keeper a n _)]
  rfl

theorem State.firstBuckets_lagoons (s : State) (l : Nat) : (s.firstBuckets l).lagoons = s.lagoons := by
  unfold State.firstBuckets State.draw
  exact foldl_keeps (fun a => a.lagoons) (fun a v => State.setCore_lagoons a _ _) _ _

theorem State.firstBuckets_keeper (s : State) (l : Nat) : (s.firstBuckets l).keeper = s.keeper := by
  unfold State.firstBuckets State.draw
  exact foldl_keeps (fun a => a.keeper) (fun a v => State.setCore_keeper a _ _) _ _

/-! ### A run that has been launched -/

/-- The lagoon holds the run of a number and a seed, which runs or has faulted, and no launch is pending (R307, R308). -/
structure Lagoon.Launched (x : Lagoon) (runno seed : Nat) : Prop where
  launch : x.launch = []
  st     : x.st = .running ∨ x.st = .faulted
  run    : ∃ r, x.run = some r ∧ r.runno = runno ∧ r.runseed = seed

/-- A lagoon's launch has taken the run number that the keeper's counter stood at (R307, R457). -/
structure State.Launched (s : State) (l runno seed : Nat) : Prop where
  wf      : Sparse.wf Lagoon.blank s.lagoons = true
  counter : s.counter 0 = runno + 1
  lagoon  : (s.lagoon l).Launched runno seed

/-- Only a lagoon's launches, state and run matter. -/
theorem Lagoon.Launched.congr {x y : Lagoon} {runno seed : Nat} (h : x.Launched runno seed) (hl : y.launch = x.launch)
    (hs : y.st = x.st) (hr : y.run = x.run) : y.Launched runno seed where
  launch := hl.trans h.launch
  st := by rw [hs]; exact h.st
  run := by rw [hr]; exact h.run

/-- A change of its run that keeps number and seed leaves a lagoon launched. -/
theorem Lagoon.Launched.mapRun {x y : Lagoon} {runno seed : Nat} (h : x.Launched runno seed) (f : Run → Run)
    (hf : ∀ r, (f r).runno = r.runno ∧ (f r).runseed = r.runseed) (hl : y.launch = x.launch) (hs : y.st = x.st)
    (hr : y.run = x.run.map f) : y.Launched runno seed where
  launch := hl.trans h.launch
  st := by rw [hs]; exact h.st
  run := by
    obtain ⟨r, hrun, hno, hseed⟩ := h.run
    exact ⟨f r, by rw [hr, hrun]; rfl, (hf r).1.trans hno, (hf r).2.trans hseed⟩

/-! ### Neither a bundle nor a fault undoes a launch -/

namespace State.Launched

variable {s t : State} {l runno seed : Nat}

/-- Whatever changes neither a lagoon nor the keeper leaves the launch as it is. -/
theorem congr (h : s.Launched l runno seed) (hl : t.lagoons = s.lagoons) (hk : t.keeper = s.keeper) : t.Launched l runno seed where
  wf := by rw [hl]; exact h.wf
  counter := by unfold State.counter; rw [hk]; exact h.counter
  lagoon := by unfold State.lagoon; rw [hl]; exact h.lagoon

theorem setLagoon (h : s.Launched l runno seed) {x : Lagoon} (hx : x.Launched runno seed) : (s.setLagoon l x).Launched l runno seed where
  wf := Sparse.wf_set _ _ h.wf
  counter := h.counter
  lagoon := by rw [State.setLagoon_lagoon s h.wf, if_pos rfl]; exact hx

theorem raise (h : s.Launched l runno seed) (code kind arg ploc : Nat) (lag vc : Option Nat) :
    (s.raise code kind arg ploc lag vc).Launched l runno seed :=
  h.congr (State.raise_lagoons ..) (State.raise_keeper ..)

theorem answerOpt (h : s.Launched l runno seed) (r : Option Ref) (st d e : Nat) (res : List Byte) :
    (s.answerOpt r st d e res).Launched l runno seed :=
  h.congr (State.answerOpt_lagoons ..) (State.answerOpt_keeper ..)

theorem answerStart (h : s.Launched l runno seed) (tide : Nat) : (s.answerStart l tide).Launched l runno seed := by
  unfold State.answerStart
  simp only
  split
  · exact h
  next r hr =>
    refine (h.setLagoon ?_).answerOpt _ _ _ _ _
    exact h.lagoon.mapRun (fun r => { r with ref := none }) (fun _ => ⟨rfl, rfl⟩) rfl rfl (by rw [hr]; rfl)

theorem moveToFaulted (h : s.Launched l runno seed) : (s.moveLagoon l .faulted).Launched l runno seed := by
  by_cases hst : (s.lagoon l).st = .faulted
  · unfold State.moveLagoon
    rw [if_pos hst]
    exact h
  · refine ⟨State.moveLagoon_lagoons_wf h.wf l _, (State.moveLagoon_counter ..).trans h.counter, ?_⟩
    rw [State.moveLagoon_lagoon h.wf hst]
    exact ⟨rfl, .inr rfl, h.lagoon.run⟩

/-- The end of a run in FAULTED keeps the run, with END and the first event entered in it (R269, R327). -/
theorem endFaulted (h : s.Launched l runno seed) (code : Nat) : (s.endFaulted l code).Launched l runno seed := by
  unfold State.endFaulted
  simp only
  split
  · refine congr (foldl_inv (f := fun (a : State) n => a.setStack n (a.stack n).discard) (P := fun a => a.Launched l runno seed)
      (fun a n ha => ha.congr rfl rfl) _ _ ?_) rfl rfl
    have hstop : (s.stopCores l).Launched l runno seed := h.congr rfl rfl
    refine hstop.setLagoon (h.lagoon.mapRun (fun r => if r.ended = 1 then r else { r with ended := 1, event := code }) ?_ rfl rfl rfl)
    intro r
    split <;> exact ⟨rfl, rfl⟩
  · exact h

theorem faultLagoon (h : s.Launched l runno seed) (code : Nat) : (s.faultLagoon l code).Launched l runno seed := by
  unfold State.faultLagoon
  simp only
  split
  · have hend := (h.endFaulted code).moveToFaulted.answerStart 0
    refine (hend.setLagoon ?_).answerOpt _ _ _ _ _
    exact hend.lagoon.congr rfl rfl rfl
  · exact h

theorem fault (h : s.Launched l runno seed) (code arg ploc : Nat) (vc : Option Nat) : (s.fault code arg ploc l vc).Launched l runno seed :=
  (h.raise ..).faultLagoon code

theorem meetCore (h : s.Launched l runno seed) (v unit word : Nat) : (s.meetCore ⟨l, v⟩ unit word).Launched l runno seed :=
  State.Launched.fault (h.congr (State.countError_lagoons ..) (State.countError_keeper ..)) _ _ _ _

/-- What a core's step leaves of the launch: its progress is noted, or it faults. -/
theorem finish (h : s.Launched l runno seed) (v : Nat) (access : Bool) (r : Res Core) :
    (s.finish ⟨l, v⟩ access r).Launched l runno seed := by
  cases r with
  | ok k =>
    have hcore : (s.setCore ⟨l, v⟩ k).Launched l runno seed := h.congr rfl rfl
    exact hcore.setLagoon (h.lagoon.congr rfl rfl rfl)
  | wait a b => exact h
  | event e o => exact h.fault ..

theorem act (h : s.Launched l runno seed) (v : Nat) (access : Bool) (f : Core → Res Core) :
    (s.act ⟨l, v⟩ access f).Launched l runno seed := by
  unfold State.act
  split
  · exact h.meetCore ..
  · exact (h.finish ..).congr (State.unmarkBy_lagoons ..) (State.unmarkBy_keeper ..)

theorem beatIssued (h : s.Launched l runno seed) (v before : Nat) : (s.beatIssued ⟨l, v⟩ before).Launched l runno seed := by
  have hcore (k : Core) : (s.setCore ⟨l, v⟩ k).Launched l runno seed := h.congr rfl rfl
  unfold State.beatIssued
  simp only
  split
  · exact h
  · split
    · exact (hcore _).answerStart _
    · exact hcore _

/-- The bundle that a core of the lagoon issues leaves the launch: it can do no more to the lagoon than fault it. -/
theorem seqIssue (h : s.Launched l runno seed) (v : Nat) (q : SeqId) : (s.seqIssue ⟨l, v⟩ q).Launched l runno seed := by
  unfold State.seqIssue
  simp only
  split
  · split
    · exact h.meetCore ..
    · exact (h.act ..).beatIssued ..
  · exact h

end State.Launched

/-! ### The launch -/

/-- The lagoon's first launch `p` has come, and neither the lagoon nor the device's power holds it back (R307, R308). -/
structure State.LaunchDue (s : State) (l : Nat) (p : Launch) : Prop where
  next   : (s.lagoon l).nextLaunch = some p
  loaded : (s.lagoon l).st = .loaded
  sealed : (s.lagoon l).sealed = true
  count  : p.count ≤ s.tide.count
  state  : s.power.state = 0
  move   : s.power.move = none
  cause  : s.power.cause = 0

/-- A launch dropped with an event of kind R, and the answer of its START. -/
def State.dropLaunch (s : State) (l : Nat) (p : Launch) (code arg status detail : Nat) : State :=
  ((s.setLagoon l { s.lagoon l with launch := (s.lagoon l).launch.erase p }).raise code 2 arg 0 (some l) none).answerOpt
    p.ref status detail code []

/-- What LAUNCH answers where a launch is due: dropped without a plan for the mode in force, or without the lock that it requires;
else the run begins. -/
theorem exec_launch_due {s : State} {l : Nat} {p : Launch} (h : s.LaunchDue l p) :
    exec (.launch l) s = .next (
      if s.planFor l = false then s.dropLaunch l p 0x1402 (argV 0 (s.lagoon l).cfg.pmode) 0x0C (s.lagoon l).cfg.pmode
      else if p.reqlock ∧ s.tide.state ≠ 2 then s.dropLaunch l p 0x4303 (s.tidestat * 2 ^ 32 + s.tidestat) 0x0B s.tidestat
      else s.beginRun l p) := by
  change execLaunch l s = _
  have hdue : (s.lagoon l).st = .loaded ∧ (s.lagoon l).sealed = true ∧ p.count ≤ s.tide.count ∧ s.power.state = 0 ∧
      s.power.move.isNone ∧ s.power.cause = 0 := ⟨h.loaded, h.sealed, h.count, h.state, by rw [h.move]; rfl, h.cause⟩
  unfold execLaunch
  simp only [h.next]
  rw [if_pos hdue]
  rfl

section dropLaunch

variable {s : State} (l : Nat) (p : Launch) (code arg status detail : Nat)

theorem State.dropLaunch_lagoon (h : Sparse.wf Lagoon.blank s.lagoons = true) :
    (s.dropLaunch l p code arg status detail).lagoon l = { s.lagoon l with launch := (s.lagoon l).launch.erase p } := by
  simp [State.dropLaunch, State.setLagoon_lagoon s h]

theorem State.dropLaunch_event : ((s.dropLaunch l p code arg status detail).log.head?).map (·.code) = some code := by
  simp [State.dropLaunch, State.raise_log]

/-- A dropped launch is gone from a lagoon that stays LOADED, and its event heads the log (R308, R357). -/
theorem State.dropLaunch_drops (hc : s.canonical = true) (hst : (s.lagoon l).st = .loaded) :
    ((s.dropLaunch l p code arg status detail).lagoon l).launch = (s.lagoon l).launch.erase p ∧
      ((s.dropLaunch l p code arg status detail).lagoon l).st = .loaded ∧
      ((s.dropLaunch l p code arg status detail).log.head?).map (·.code) = some code := by
  obtain ⟨-, -, hwf, -⟩ := State.canonical_iff.mp hc
  rw [State.dropLaunch_lagoon _ _ _ _ _ _ hwf]
  exact ⟨rfl, hst, State.dropLaunch_event ..⟩

end dropLaunch

/-- The run of a launch takes the number that the keeper's counter stands at, which the counter then leaves behind, and is on its way:
whatever the cores do at beat 0, it runs or has faulted (R307, R308, R457). -/
theorem State.beginRun_launched {s : State} (hc : s.canonical = true) {l : Nat} {p : Launch} (hst : (s.lagoon l).st = .loaded) :
    (s.beginRun l p).Launched l (s.counter 0) p.runseed := by
  obtain ⟨-, -, hwf, -, -, -, -, -, -, hcnt⟩ := State.canonical_iff.mp hc
  unfold State.beginRun
  simp only
  generalize hs1 : (s.setCounter 0 (s.counter 0 + 1)).reinitialise l p.runseed = s1
  have hwf1 : Sparse.wf Lagoon.blank s1.lagoons = true := by
    rw [← hs1, State.reinitialise_lagoons]; exact Sparse.wf_set _ _ hwf
  have hcnt1 : s1.counter 0 = s.counter 0 + 1 := by
    unfold State.counter; rw [← hs1, State.reinitialise_keeper]; exact Sparse.get_set_same _ _ hcnt
  have hst1 : (s1.lagoon l).st = .loaded := by
    unfold State.lagoon; rw [← hs1, State.reinitialise_lagoons]
    exact (congrArg Lagoon.st (Sparse.get_set_same _ _ hwf)).trans hst
  refine foldl_inv (P := fun a => a.Launched l (s.counter 0) p.runseed) (fun a v ha => ha.seqIssue v .execute) _ _ ?_
  refine State.Launched.congr (s := State.moveLagoon _ l .running) ?_ (State.firstBuckets_lagoons ..) (State.firstBuckets_keeper ..)
  refine ⟨State.moveLagoon_lagoons_wf (Sparse.wf_set _ _ hwf1) l _, (State.moveLagoon_counter ..).trans hcnt1, ?_⟩
  rw [State.moveLagoon_lagoon (Sparse.wf_set _ _ hwf1) (by rw [State.setLagoon_lagoon s1 hwf1, if_pos rfl]; simp [hst1]),
    State.setLagoon_lagoon s1 hwf1, if_pos rfl]
  exact ⟨rfl, .inl rfl, _, rfl, rfl, rfl⟩

/-! ### The power guard's windows -/

theorem State.fillBuckets_cores_wf {s : State} (h : Sparse.wf Core.blank s.cores = true) (l r : Nat) (vs : List Nat) :
    Sparse.wf Core.blank (vs.foldl (State.fillBucket l r) s).cores = true :=
  foldl_inv (P := fun a => Sparse.wf Core.blank a.cores = true) (fun _ _ ha => Sparse.wf_set _ _ ha) vs s h

theorem State.fillBuckets_allowance (s : State) (l r : Nat) (vs : List Nat) (c : CoreId) :
    (vs.foldl (State.fillBucket l r) s).allowance c = s.allowance c :=
  foldl_keeps (f := State.fillBucket l r) (fun a => a.allowance c) (fun _ _ => rfl) vs s

/-- A bucket that is among those filled holds its share of the allowance, however often and in whatever order they are filled. -/
theorem State.fillBuckets_guardLu {s : State} (h : Sparse.wf Core.blank s.cores = true) (l r : Nat) {vs : List Nat} {v : Nat}
    (hvs : ∀ w ∈ vs, w < 512) (hv : v ∈ vs) :
    ((vs.foldl (State.fillBucket l r) s).core ⟨l, v⟩).guardLu = s.allowance ⟨l, v⟩ * r / 256 := by
  induction vs using List.reverseRecOn with
  | nil => exact absurd hv List.not_mem_nil
  | append_singleton ws w ih =>
    rw [List.foldl_append, List.foldl_cons, List.foldl_nil, State.fillBucket,
      State.setCore_core _ (State.fillBuckets_cores_wf h l r ws) _ _ _ (hvs w (by simp)) (hvs v hv), State.fillBuckets_allowance]
    by_cases hw : v = w
    · subst hw
      rw [if_pos rfl]
    · rw [if_neg (by simpa using hw)]
      exact ih (fun u hu => hvs u (by simp [hu])) (by simpa [hw] using hv)

/-- What GUARD_WINDOW answers for a region that a lagoon owns and whose pacers run. -/
theorem exec_guardWindow_owned {s : State} {r l : Nat} (ho : s.regionOwner r = some l) (hr : (s.region r).state = 0)
    (hp : s.power.state = 0) :
    exec (.guardWindow r) s =
      .next (((s.vcores l).filter (fun v => s.coreRegion ⟨l, v⟩ == r)).foldl (State.fillBucket l 256) s) := by
  change execGuardWindow r s = _
  unfold execGuardWindow
  simp only [ho]
  rw [if_pos ⟨hr, hp⟩]

/-- A virtual core that an image uses is one of 512 (R20). -/
theorem State.lt_of_mem_vcores {s : State} {l v : Nat} (h : v ∈ s.vcores l) : v < 512 :=
  List.mem_range.mp (List.mem_filter.mp h).1

/-- Settles O42: a due launch is dropped with its event or begins a run that no bundle of beat 0 can undo, and a guard window gives every
context of its region the allowance of R354. That START leaves several launches pending is DEDUCED 16, that a LAUNCH without a plan is
refused as START is DEDUCED 73, and that it waits while a power move is pending DEDUCED 79. -/
theorem launchesAndGuard : Obligations.LaunchesAndGuard := by
  unfold Obligations.LaunchesAndGuard
  refine ⟨fun l s p hc hnext hst hseal hcount hstate hmove hcause => ?_, fun r l s hc ho hr hp => ?_⟩
  · have hexec := exec_launch_due ⟨hnext, hst, hseal, hcount, hstate, hmove, hcause⟩
    refine ⟨fun hplan hlock => ?_, fun hplan hreq hlost => ?_, fun hplan => ?_⟩
    · have hgo : ¬ (p.reqlock ∧ s.tide.state ≠ 2) := by
        rintro ⟨hreq, hlost⟩
        rcases hlock with hfree | hlocked
        · simp [hfree] at hreq
        · exact hlost hlocked
      rw [if_neg (by simp [hplan]), if_neg hgo] at hexec
      have hrun := State.beginRun_launched hc (p := p) hst
      obtain ⟨r, hr, hno, hseed⟩ := hrun.lagoon.run
      exact ⟨_, r, hexec, hrun.counter, hr, hno, hseed, hrun.lagoon.launch, hrun.lagoon.st⟩
    · rw [if_neg (by simp [hplan]), if_pos ⟨hreq, hlost⟩] at hexec
      exact ⟨_, hexec, State.dropLaunch_drops _ _ _ _ _ _ hc hst⟩
    · rw [if_pos hplan] at hexec
      exact ⟨_, hexec, State.dropLaunch_drops _ _ _ _ _ _ hc hst⟩
  · obtain ⟨-, hwf, -⟩ := State.canonical_iff.mp hc
    refine ⟨_, exec_guardWindow_owned ho hr hp, fun v hv hreg => ?_⟩
    rw [State.fillBuckets_guardLu hwf l 256 (fun w hw => State.lt_of_mem_vcores (List.mem_of_mem_filter hw))
      (List.mem_filter.mpr ⟨hv, by simpa using hreg⟩), Nat.mul_div_cancel _ (by decide)]

end Sys2Proof.Machine
end

section
/-! Exact sums (R69, R70): each value that enters adds an integer of 2^-48 units to the element's value or sets one of its flags, and
such steps may be taken in either order. -/

namespace Sys2Proof.Machine

/-! ### What one step leaves of the value and of the flags -/

/-- Setting a sticky flag of an exact-sum element is a bitwise OR. -/
theorem xsSetFlag_eq_or (x b : Nat) : xsSetFlag x b = x ||| 2 ^ b := by
  unfold xsSetFlag bit
  split
  next h =>
    refine Nat.eq_of_testBit_eq fun i => ?_
    rw [Nat.testBit_or, Nat.testBit_two_pow]
    by_cases hi : b = i
    · subst hi; simp [h]
    · simp [hi]
  next h =>
    have heven : x / 2 ^ b % 2 = 0 := by
      rw [Nat.testBit_eq_decide_div_mod_eq, decide_eq_true_eq] at h
      omega
    refine Nat.ext_div_mod (n := 2 ^ b) ?_ ?_
    · rw [Nat.add_div_right _ (Nat.two_pow_pos b), Nat.or_div_two_pow, Nat.div_self (Nat.two_pow_pos b)]
      have hor := Nat.two_pow_add_eq_or_of_lt (i := 1) (b := 1) (by decide) (x / 2 ^ b / 2)
      rwa [pow_one, Nat.mul_div_cancel' (Nat.dvd_of_mod_eq_zero heven)] at hor
    · rw [Nat.or_mod_two_pow, Nat.add_mod_right, Nat.mod_self, Nat.or_zero]

theorem xsSetFlag_comm (x a b : Nat) : xsSetFlag (xsSetFlag x a) b = xsSetFlag (xsSetFlag x b) a := by
  simp only [xsSetFlag_eq_or, Nat.or_right_comm x]

/-- A flag lies above the value, which setting it leaves alone. -/
theorem xsValue_xsSetFlag (x : Nat) {b : Nat} (hb : 136 ≤ b) : xsValue (xsSetFlag x b) = xsValue x := by
  rw [xsSetFlag_eq_or, xsValue, Nat.or_mod_two_pow, Nat.mod_eq_zero_of_dvd (Nat.pow_dvd_pow 2 hb), Nat.or_zero, xsValue]

theorem wrapInt_lt (n : Nat) (i : Int) : wrapInt n i < 2 ^ n := by
  unfold wrapInt
  have := Int.emod_lt_of_pos i (b := ((2 ^ n : Nat) : Int)) (mod_cast Nat.two_pow_pos n)
  omega

/-- An element is its flags above its value. -/
theorem xsAddInt_eq (x : Nat) (i : Int) : xsAddInt x i = wrapInt 136 (xsValue x + i) + 2 ^ 136 * (x / 2 ^ 136) := by
  unfold xsAddInt xsValue
  omega

theorem xsValue_xsAddInt (x : Nat) (i : Int) : xsValue (xsAddInt x i) = wrapInt 136 (xsValue x + i) := by
  rw [xsAddInt_eq, xsValue, Nat.add_mul_mod_self_left, Nat.mod_eq_of_lt (wrapInt_lt _ _)]

/-- Adding to the value leaves the flags alone. -/
theorem xsAddInt_div (x : Nat) (i : Int) : xsAddInt x i / 2 ^ 136 = x / 2 ^ 136 := by
  rw [xsAddInt_eq, Nat.add_mul_div_left _ _ (Nat.two_pow_pos 136), Nat.div_eq_of_lt (wrapInt_lt _ _), Nat.zero_add]

/-- Integers are added modulo 2^136: two additions are one of the sum. -/
theorem xsAddInt_xsAddInt (x : Nat) (i j : Int) : xsAddInt (xsAddInt x i) j = xsAddInt x (i + j) := by
  have hvalue : wrapInt 136 ((wrapInt 136 (xsValue x + i) : Int) + j) = wrapInt 136 (xsValue x + (i + j)) := by
    unfold wrapInt
    rw [Int.toNat_of_nonneg (Int.emod_nonneg _ (by decide)), Int.emod_add_emod, Int.add_assoc]
  rw [xsAddInt_eq (xsAddInt x i), xsValue_xsAddInt, xsAddInt_div, hvalue, xsAddInt_eq]

theorem xsAddInt_comm (x : Nat) (i j : Int) : xsAddInt (xsAddInt x i) j = xsAddInt (xsAddInt x j) i := by
  rw [xsAddInt_xsAddInt, xsAddInt_xsAddInt, Int.add_comm]

theorem xsAddInt_zero (x : Nat) : xsAddInt x 0 = x := by
  have hvalue : wrapInt 136 (xsValue x : Int) = x % 2 ^ 136 := by
    unfold wrapInt xsValue
    omega
  rw [xsAddInt_eq, Int.add_zero, hvalue, Nat.mod_add_div]

/-- Adding to the value and setting a flag do not meet. -/
theorem xsAddInt_xsSetFlag_comm (x : Nat) (i : Int) {b : Nat} (hb : 136 ≤ b) :
    xsAddInt (xsSetFlag x b) i = xsSetFlag (xsAddInt x i) b := by
  refine Nat.ext_div_mod (n := 2 ^ 136) ?_ ?_
  · simp only [xsAddInt_div, xsSetFlag_eq_or, Nat.or_div_two_pow]
  · change xsValue _ = xsValue _
    rw [xsValue_xsSetFlag _ hb, xsValue_xsAddInt, xsValue_xsAddInt, xsValue_xsSetFlag _ hb]

/-! ### The order of the values that enter -/

/-- What a value does to the element that it enters: it adds an integer of 2^-48 units, or it sets a flag. -/
inductive XsStep where
  | add (i : Int)
  | flag (b : Nat) (above : 136 ≤ b)

def XsStep.apply (x : Nat) : XsStep → Nat
  | .add i => xsAddInt x i
  | .flag b _ => xsSetFlag x b

theorem XsStep.apply_comm (x : Nat) (s t : XsStep) : XsStep.apply (s.apply x) t = XsStep.apply (t.apply x) s := by
  cases s with
  | add i =>
    cases t with
    | add j => exact xsAddInt_comm x i j
    | flag b hb => exact (xsAddInt_xsSetFlag_comm x i hb).symm
  | flag a ha =>
    cases t with
    | add j => exact xsAddInt_xsSetFlag_comm x j ha
    | flag b _ => exact xsSetFlag_comm x a b

/-- The integer of 2^-48 units as which a finite value below 2^79 enters (R70). -/
def xsUnits (neg : Bool) (m : Nat) (e : Int) : Int :=
  let u := (roundMag .rne 0 ⟨neg, m, e, false⟩ (-48)).1
  if neg then -(u : Int) else u

/-- What a value does to an element does not depend on the element (R70). -/
theorem exists_xsStep (v : Val) : ∃ t : XsStep, ∀ x, (xsEnter x v).1 = t.apply x := by
  cases v with
  | nan => exact ⟨.flag 136 le_rfl, fun _ => rfl⟩
  | inf n => exact ⟨.flag (if n then 138 else 137) (by split <;> decide), fun _ => rfl⟩
  | fin n m e =>
    by_cases hm : m = 0
    · exact ⟨.add 0, fun x => by simp [xsEnter, hm, XsStep.apply, xsAddInt_zero]⟩
    by_cases hbig : log2Mag m e ≥ 79
    · exact ⟨.flag 139 (by decide), fun x => by simp [xsEnter, hm, hbig, XsStep.apply]⟩
    · exact ⟨.add (xsUnits n m e), fun x => by simp only [xsEnter, if_neg hm, if_neg hbig, XsStep.apply, xsUnits]⟩

theorem xsEnter_comm (x : Nat) (v w : Val) : (xsEnter (xsEnter x v).1 w).1 = (xsEnter (xsEnter x w).1 v).1 := by
  obtain ⟨s, hs⟩ := exists_xsStep v
  obtain ⟨t, ht⟩ := exists_xsStep w
  simp only [hs, ht, XsStep.apply_comm x s t]

/-- Settles O24: any two values may enter in either order, so every order of the same values leaves the same element. -/
theorem exactSumOrderFree : Obligations.ExactSumOrderFree := by
  unfold Obligations.ExactSumOrderFree
  intro x ps qs hperm
  exact hperm.foldl_eq' (fun v _ w _ a => xsEnter_comm a v w) x

end Sys2Proof.Machine
end

section
/-! The matrix row's steps: a cube's act at its beat position (R85, R92, R97), an integer beat's sums (R65), and the entry of a drained
tile into the sound (R105). -/

namespace Sys2Proof.Machine

/-! ### A core's step where no word is marked bad -/

/-- Without words marked bad a step of a core meets none and clears none. -/
theorem State.act_of_unmarked {s : State} {c : CoreId} (h : s.marks c = []) (access : Bool) (f : Core → Res Core) :
    s.act c access f = s.finish c access (f (s.core c)) := by
  simp [State.act, State.met, State.unmarkBy, h]

/-- The core that a step leaves is the one read back. -/
theorem State.withCore_core_same {s : State} (h : s.canonical = true) (c : CoreId) (k : Core) : (s.withCore c k).core c = k := by
  obtain ⟨-, hcores, -⟩ := State.canonical_iff.mp h
  exact Sparse.get_set_same _ k hcores

theorem Core.cubes_wf {k : Core} (h : k.canonical = true) : Sparse.wf Cube.blank k.row.cubes = true := by
  obtain ⟨-, -, -, hcubes, -⟩ := Core.canonical_iff.mp h
  exact hcubes

/-! ### What the row's steps leave of the cubes -/

/-- A read of a cube after a write of one. -/
theorem Core.cube_of_cubes {k d : Core} (h : Sparse.wf Cube.blank k.row.cubes = true) {n : Nat} {x : Cube}
    (hd : d.row.cubes = Sparse.set Cube.blank k.row.cubes n x) {m : Nat} (hm : m < 16) :
    d.cube m = if m = n then x else k.cube m := by
  unfold Core.cube
  rw [hd, Sparse.get_set _ _ _ h, Nat.mod_eq_of_lt hm]

@[simp] theorem Core.raise_row (k : Core) (beat : Nat) (f : Flags) : (k.raise beat f).row = k.row := by
  unfold Core.raise
  split <;> rfl

/-- Reading B-path bytes ahead leaves the cubes alone. -/
theorem State.rowCoreOf_cubes (s : State) (c : CoreId) (k : Nat) (o : Core) : (s.rowCoreOf c k o).row.cubes = o.row.cubes := by
  unfold State.rowCoreOf
  split
  · rfl
  · simp only
    split <;> rfl

theorem State.rowCore_cube (s : State) (c : CoreId) (k m : Nat) : (s.rowCore c k).cube m = (s.core c).cube m :=
  congrArg (fun x => Sparse.get Cube.blank x (m % 16)) (s.rowCoreOf_cubes c k (s.core c))

/-- Cube n once the A tile that reaches it at its position, if one does and names it, has acted (R85, R92). -/
def Core.takenCube (k : Core) (n : Nat) : Cube :=
  match k.row.tileAt n (k.cube n).pos with
  | some t => if rcwMask t.rcw n then (cubeTake (k.cube n) n t).1 else k.cube n
  | none => k.cube n

/-- What a ready cube's act writes: the cube with the A tile taken, then the B-path writes, one position on (R97). -/
theorem Core.cubeAct_cubes {k : Core} {n : Nat} (h : k.cubeReady n = true) :
    (k.cubeAct n).row.cubes = Sparse.set Cube.blank k.row.cubes n
      { k.row.bops.foldl (bopWrite n (k.cube n).pos) (k.takenCube n) with pos := (k.cube n).pos + 1 } := by
  unfold Core.cubeAct Core.takenCube
  rw [if_pos h]
  cases htile : k.row.tileAt n (k.cube n).pos with
  | none => simp [htile]
  | some t => by_cases hmask : rcwMask t.rcw n <;> simp [htile, hmask]

/-- What CUBE_ACT answers for a ready cube of a core without marked words: the core once the cube has acted, and the notice of an
overflow (R72). -/
theorem exec_cubeAct_ready {s : State} {c : CoreId} {n : Nat} (hn : n < 16) (hp : s.paced c = true)
    (hr : (s.rowCore c n).cubeReady n = true) (hm : s.marks c = []) :
    exec (.cubeAct c n) s = .next (
      if (s.rowCore c n).cubeOverflows n then
        (s.withCore c ((s.rowCore c n).cubeAct n)).raise 0x1103 0 (((s.rowCore c n).cube n).pos % 2 ^ 32 * 2 ^ 32 + n)
          (plocCore (s.rowCore c n).img.phys) (some c.lagoon) (some c.v)
      else s.withCore c ((s.rowCore c n).cubeAct n)) := by
  change execCubeAct c n s = _
  unfold execCubeAct
  simp only [hp, hn, hr, decide_true, Bool.and_self, if_true]
  rw [State.act_of_unmarked hm]
  rfl

/-! ### Integer beats -/

/-- An element of a beat's tile is its row's and column's contribution to the element that was there (R85). -/
theorem cubeBeat_getD (f : Fmt) (k : AccKind) (a b : Line) (acc : List Nat) {e : Nat} (he : e < 64) :
    (cubeBeat f k a b acc).1.getD e 0 =
      (dotElem k ((tileRows f a).getD (e / 8) []) ((tileRows f b).getD (e % 8) []) (acc.getD e 0)).1 := by
  simp [cubeBeat, he]

/-! ### The sound -/

theorem State.soundCoreOf_fields (s : State) (c : CoreId) (o : Core) :
    (s.soundCoreOf c o).row.sound = o.row.sound ∧ (s.soundCoreOf c o).row.order = o.row.order ∧
      (s.soundCoreOf c o).row.cubes = o.row.cubes := by
  unfold State.soundCoreOf
  split <;> exact ⟨rfl, rfl, rfl⟩

/-- A tile that can enter the sound is the first of the fixed order (R105). -/
theorem Core.order_of_nextSound {k : Core} {d : DrainTile} {n : Nat} (h : k.nextSound = some (d, n)) :
    k.row.order.head? = some (d.beat, n) := by
  unfold Core.nextSound at h
  split at h
  · cases h
  next u m rest horder =>
    split at h
    · cases h
    · split at h
      next hroom =>
        cases h
        rw [horder, hroom.1]
        rfl
      · cases h

/-- What the entry of a tile into the sound writes: the sound, the fixed order and the cube whose drain register it leaves (R105). -/
theorem Core.soundEntry_row {k : Core} {d : DrainTile} {n : Nat} (h : k.nextSound = some (d, n)) :
    k.soundEntry.row.sound = k.row.sound ++ [d] ∧ k.soundEntry.row.order = k.row.order.tail ∧
      k.soundEntry.row.cubes = Sparse.set Cube.blank k.row.cubes n { k.cube n with drain := none } := by
  unfold Core.soundEntry
  rw [h]
  exact ⟨rfl, rfl, rfl⟩

/-- What SOUND_ENTRY answers on a core without marked words. -/
theorem exec_soundEntry_unmarked {s : State} {c : CoreId} (hp : s.paced c = true) (hm : s.marks c = []) :
    exec (.soundEntry c) s = .next (if (s.soundCore c).nextSound.isSome then s.withCore c (s.soundCore c).soundEntry else s) := by
  change execSoundEntry c s = _
  unfold execSoundEntry
  rw [hp, Bool.true_and, State.act_of_unmarked hm]
  rfl

/-! ### CUBE_ACT and SOUND_ENTRY -/

/-- What CUBE_ACT leaves of the cubes, of memory and of the log where the cube is ready (R72, R85, R92, R97). -/
theorem exec_cubeAct_leaves {s : State} {c : CoreId} {n : Nat} (hc : s.canonical = true) (hn : n < 16) (hp : s.paced c = true)
    (hr : (s.rowCore c n).cubeReady n = true) (hm : s.marks c = []) :
    ∃ t : State, exec (.cubeAct c n) s = .next t ∧
      (t.core c).cube n = { (s.rowCore c n).row.bops.foldl (bopWrite n ((s.rowCore c n).cube n).pos) ((s.rowCore c n).takenCube n) with
        pos := ((s.rowCore c n).cube n).pos + 1 } ∧
      (∀ m, m < 16 → m ≠ n → (t.core c).cube m = (s.core c).cube m) ∧ t.mem = s.mem ∧
      ((s.rowCore c n).cubeOverflows n = true → (t.log.head?).map (·.code) = some 0x1103) ∧
      ((s.rowCore c n).cubeOverflows n = false → t.log = s.log) := by
  have hwf : Sparse.wf Cube.blank (s.rowCore c n).row.cubes = true := by
    rw [State.rowCore, State.rowCoreOf_cubes]
    exact Core.cubes_wf (State.core_canonical hc c)
  have hcore := State.withCore_core_same hc c ((s.rowCore c n).cubeAct n)
  have hown := (Core.cube_of_cubes hwf (Core.cubeAct_cubes hr) hn).trans (if_pos rfl)
  have hothers : ∀ m, m < 16 → m ≠ n → ((s.rowCore c n).cubeAct n).cube m = (s.core c).cube m := fun m h16 hne => by
    rw [Core.cube_of_cubes hwf (Core.cubeAct_cubes hr) h16, if_neg hne, State.rowCore_cube]
  refine ⟨_, exec_cubeAct_ready hn hp hr hm, ?_⟩
  cases hover : (s.rowCore c n).cubeOverflows n with
  | true =>
    rw [if_pos rfl, State.raise_core, hcore, State.raise_mem, State.raise_log]
    exact ⟨hown, hothers, rfl, fun _ => rfl, nofun⟩
  | false =>
    rw [if_neg Bool.false_ne_true, hcore]
    exact ⟨hown, hothers, rfl, nofun, fun _ => rfl⟩

/-- What SOUND_ENTRY leaves where a tile can enter (R105). -/
theorem exec_soundEntry_enters {s : State} {c : CoreId} {d : DrainTile} {n : Nat} (hc : s.canonical = true) (hp : s.paced c = true)
    (hm : s.marks c = []) (h : (s.soundCore c).nextSound = some (d, n)) :
    ∃ k' : Core, exec (.soundEntry c) s = .next (s.withCore c k') ∧ k'.row.sound = (s.core c).row.sound ++ [d] ∧
      k'.row.order = (s.core c).row.order.tail ∧ (s.core c).row.order.head? = some (d.beat, n) ∧
      (n < 16 → (k'.cube n).drain = none) := by
  obtain ⟨hsound, horder, hcubes⟩ := s.soundCoreOf_fields c (s.core c)
  obtain ⟨hsound', horder', hcubes'⟩ := Core.soundEntry_row h
  have hwf : Sparse.wf Cube.blank (s.soundCore c).row.cubes = true := by
    rw [State.soundCore, hcubes]
    exact Core.cubes_wf (State.core_canonical hc c)
  refine ⟨_, ?_, hsound'.trans (congrArg (· ++ [d]) hsound), horder'.trans (congrArg List.tail horder), ?_, fun hn => ?_⟩
  · rw [exec_soundEntry_unmarked hp hm, h]
    rfl
  · rw [← horder]
    exact Core.order_of_nextSound h
  · rw [Core.cube_of_cubes hwf hcubes' hn, if_pos rfl]

/-- Settles O11: the act of a ready cube, the sums that an integer beat leaves, and the entry of the next drained tile. -/
theorem cubesAndSound : Obligations.CubesAndSound := by
  unfold Obligations.CubesAndSound
  refine ⟨⟨fun c n s hc hn hp hr hm => exec_cubeAct_leaves hc hn hp hr hm, fun f a b acc e he => cubeBeat_getD f .int32 a b acc he⟩,
    fun c s hc hp hm => ⟨fun d n h => exec_soundEntry_enters hc hp hm h, fun h => ?_⟩⟩
  rw [exec_soundEntry_unmarked hp hm, h]
  rfl

end Sys2Proof.Machine
end

section
/-! The issue of the matrix row's slots: an A tile (R90, R92, R94, R105, R108) and the operations of the B path (R96 to R98), each
commanded by itself (DEDUCED 21). -/

namespace Sys2Proof.Machine

/-! ### Fields of a word after one is replaced -/

/-- A word with a field replaced: its low bits, the field, its high bits. -/
theorem putBits_eq (x lo n v : Nat) : putBits x lo n v = x % 2 ^ lo + 2 ^ lo * (v % 2 ^ n + 2 ^ n * (x / 2 ^ (lo + n))) := by
  have hlow := Nat.mod_add_div x (2 ^ lo)
  have hfield : 2 ^ lo * (x / 2 ^ lo) = 2 ^ lo * (x / 2 ^ lo % 2 ^ n) + 2 ^ lo * (2 ^ n * (x / 2 ^ (lo + n))) := by
    rw [Nat.pow_add, ← Nat.div_div_eq_div_mul, ← Nat.mul_add, Nat.mod_add_div]
  rw [putBits, bits, Nat.shiftRight_eq_div_pow, Nat.mul_add, Nat.mul_comm (_ % _), Nat.mul_comm (_ % _)]
  omega

/-- The field put into a word is read back modulo its width. -/
theorem bits_putBits_same (x lo n v : Nat) : bits (putBits x lo n v) lo n = v % 2 ^ n := by
  rw [putBits_eq, bits, Nat.shiftRight_eq_div_pow, Nat.add_mul_div_left _ _ (Nat.two_pow_pos lo),
    Nat.div_eq_of_lt (Nat.mod_lt _ (Nat.two_pow_pos lo)), Nat.zero_add, Nat.add_mul_mod_self_left, Nat.mod_mod]

/-- A field above the one that is replaced keeps its value. -/
theorem bits_putBits_above (x v m : Nat) {lo n hi : Nat} (h : lo + n ≤ hi) : bits (putBits x lo n v) hi m = bits x hi m := by
  have hup : putBits x lo n v / 2 ^ (lo + n) = x / 2 ^ (lo + n) := by
    rw [putBits_eq, Nat.pow_add, ← Nat.div_div_eq_div_mul, Nat.add_mul_div_left _ _ (Nat.two_pow_pos lo),
      Nat.div_eq_of_lt (Nat.mod_lt _ (Nat.two_pow_pos lo)), Nat.zero_add, Nat.add_mul_div_left _ _ (Nat.two_pow_pos n),
      Nat.div_eq_of_lt (Nat.mod_lt _ (Nat.two_pow_pos n)), Nat.zero_add]
  obtain ⟨j, rfl⟩ := Nat.exists_eq_add_of_le h
  rw [bits, bits, Nat.shiftRight_eq_div_pow, Nat.shiftRight_eq_div_pow, Nat.pow_add 2 (lo + n) j, ← Nat.div_div_eq_div_mul, hup,
    Nat.div_div_eq_div_mul]

/-- A field that lies within the low bits of a word is read from those alone. -/
theorem bits_mod_two_pow (x : Nat) {lo n w : Nat} (h : lo + n ≤ w) : bits (x % 2 ^ w) lo n = bits x lo n := by
  unfold bits
  refine Nat.eq_of_testBit_eq fun i => ?_
  rw [Nat.testBit_mod_two_pow, Nat.testBit_mod_two_pow, Nat.testBit_shiftRight, Nat.testBit_shiftRight, Nat.testBit_mod_two_pow]
  by_cases hi : i < n
  · simp [show lo + i < w by omega]
  · simp [hi]

/-! ### A slot that issues by itself -/

/-- A slot that is commanded where it can issue: its core's answer, charged, is what the step leaves. -/
theorem State.slot_of_ready {s : State} {c : CoreId} (h : s.slotReady c) (w : Slot) (f : Core → Res Core) :
    s.slot c w f = s.finish c false ((s.slotCore c).charged w (f (s.slotCore c))) := by
  obtain ⟨hissues, hgoes, hmarks⟩ := h
  unfold State.slot
  rw [hissues, hgoes, if_pos (by decide), State.act_of_unmarked hmarks]
  rfl

section charged

variable {k d : Core} {w : Slot} {n : Nat}

/-- The bucket pays for a slot that it has the charge of (R352). -/
theorem Core.charged_paid (hn : slotCharge k d w = n) (h : n ≤ k.guardLu) :
    k.charged w (.ok d) = .ok { d with guardLu := k.guardLu - n } := by
  subst hn
  exact if_neg (Nat.not_lt.mpr h)

/-- A slot whose charge the bucket does not hold waits (R354). -/
theorem Core.charged_short (hn : slotCharge k d w = n) (h : k.guardLu < n) : k.charged w (.ok d) = .wait .guard 0 := by
  subst hn
  exact if_pos h

/-- A slot that raises an event is not charged. -/
theorem Core.charged_event (e o : Nat) : k.charged w (.event e o) = .event e o := rfl

end charged

/-! ### What a pop and the results that land leave -/

@[simp] theorem Core.raise_queue (k : Core) (beat : Nat) (f : Flags) (n : Nat) : (k.raise beat f).queue n = k.queue n := by
  unfold Core.raise
  split <;> rfl

@[simp] theorem Core.popEntry_row (k : Core) (n : Nat) : (k.popEntry n).row = k.row := by
  unfold Core.popEntry
  simp only
  split
  · rfl
  · rw [Core.raise_row]
    rfl

/-- A pop takes the entry at the head of its queue (R156). -/
theorem Core.popEntry_entries {k : Core} (h : Sparse.wf Queue.blank k.queues = true) (n : Nat) :
    ((k.popEntry n).queue n).entries = (k.queue n).entries.tail := by
  unfold Core.popEntry
  simp only
  split
  next hnil => rw [hnil, List.tail_nil]
  next hcons => rw [Core.raise_queue, Core.queue_setQueue k h, if_pos rfl, hcons, List.tail_cons]

theorem Core.land_queues (k : Core) (w : VWrite) : (k.land w).queues = k.queues := by
  unfold Core.land
  split <;> rfl

@[simp] theorem Core.landDue_queues (k : Core) : k.landDue.queues = k.queues := by
  unfold Core.landDue
  exact List.foldlRecOn (motive := fun d : Core => d.queues = k.queues) _ _ rfl fun d hd w _ => (d.land_queues w).trans hd

theorem State.slotCore_queues_wf {s : State} (h : s.canonical = true) (c : CoreId) :
    Sparse.wf Queue.blank (s.slotCore c).queues = true := by
  obtain ⟨-, -, -, -, -, -, -, hqueues, -⟩ := Core.canonical_iff.mp (State.core_canonical h c)
  rwa [State.slotCore, Core.landDue_queues]

/-! ### The checks of an A tile -/

/-- An A tile that passes its checks has a format that its mode admits (R60). -/
theorem Core.acc_of_checkATile {k : Core} {fmt : Fmt} {l : Line} {rcw : BitVec 32} (h : k.checkATile fmt l rcw = none) :
    ∃ a, fmt.acc? (rcwExact rcw) = some a := by
  unfold Core.checkATile at h
  split at h
  · cases h
  · split at h
    · cases h
    next a ha => exact ⟨a, ha⟩

/-- A line whose tag is not the format of its syllable fails the first check (R59). -/
theorem Core.checkATile_of_tag_ne {fmt : Fmt} {l : Line} (h : l.tag.toNat ≠ fmt.tag) (k : Core) (rcw : BitVec 32) :
    k.checkATile fmt l rcw = some (0x1101, 0) := if_pos (.inl h)

/-! ### The issue of an A tile -/

/-- The core once the A tile of a syllable has entered the row, its queue popped where it came from one (R92, R108). -/
def Core.withATile (k : Core) (w : BitVec 64) (l : Line) (a : AccKind) : Core :=
  let d := k.enterATile (Fmt.ofTag (bits w.toNat 60 4)) a l (BitVec.ofNat 32 w.toNat)
  if bit w.toNat 59 then d.popEntry (bits w.toNat 55 4) else d

theorem Core.withATile_row (k : Core) (w : BitVec 64) (l : Line) (a : AccKind) :
    (k.withATile w l a).row = (k.enterATile (Fmt.ofTag (bits w.toNat 60 4)) a l (BitVec.ofNat 32 w.toNat)).row := by
  unfold Core.withATile
  simp only
  split
  · exact Core.popEntry_row _ _
  · rfl

theorem Core.withATile_entries {k : Core} (h : Sparse.wf Queue.blank k.queues = true) {w : BitVec 64} (hfed : bit w.toNat 59 = true)
    (l : Line) (a : AccKind) :
    ((k.withATile w l a).queue (bits w.toNat 55 4)).entries = (k.queue (bits w.toNat 55 4)).entries.tail := by
  unfold Core.withATile
  simp only [hfed, if_true]
  exact Core.popEntry_entries (k := k.enterATile _ _ _ _) h _

/-- The drains that an A tile asks for join the fixed order of the sound, cube by cube (R105). -/
theorem Core.enterATile_order (k : Core) (fmt : Fmt) (a : AccKind) (l : Line) (rcw : BitVec 32) :
    (k.enterATile fmt a l rcw).row.order =
      k.row.order ++ if rcwDrain rcw then (maskedCubes rcw).map (fun n => (k.beat, n)) else [] := by
  unfold Core.enterATile
  simp only
  split <;> simp

section issueMatrix

variable {k : Core} {w : BitVec 64} {l : Line} (hline : k.aLine w.toNat = .ok l) (hroom : k.row.waitingAtEntry < 2)
include hline hroom

theorem Core.issueMatrix_passed {a : AccKind}
    (hpass : k.checkATile (Fmt.ofTag (bits w.toNat 60 4)) l (BitVec.ofNat 32 w.toNat) = none)
    (hacc : (Fmt.ofTag (bits w.toNat 60 4)).acc? (rcwExact (BitVec.ofNat 32 w.toNat)) = some a) :
    k.issueMatrix w = .ok (k.withATile w l a) := by
  simp only [Core.issueMatrix, hline, Res.bind, if_neg (Nat.not_le.mpr hroom), hpass, hacc, Core.withATile]

theorem Core.issueMatrix_failed {e n : Nat}
    (hfail : k.checkATile (Fmt.ofTag (bits w.toNat 60 4)) l (BitVec.ofNat 32 w.toNat) = some (e, n)) :
    k.issueMatrix w = .event e n := by
  simp only [Core.issueMatrix, hline, Res.bind, if_neg (Nat.not_le.mpr hroom), hfail]

end issueMatrix

/-- The load units of an A tile: its masked cubes at four each, or at eight in exact-sum mode (R352). -/
def aTileCharge (w : BitVec 64) : Nat :=
  (maskedCubes (BitVec.ofNat 32 w.toNat)).length * (if rcwExact (BitVec.ofNat 32 w.toNat) then 8 else 4)

/-- An A tile's charge is that of its syllable, whatever its issue leaves of the core. -/
theorem slotCharge_matrix (k d : Core) (w : BitVec 64) : slotCharge k d (.matrix w) = aTileCharge w := rfl

/-- What A_TILE_ISSUE answers where its slot can issue. -/
theorem exec_aTileIssue_ready {s : State} {c : CoreId} (h : s.slotReady c) (w : BitVec 64) :
    exec (.aTileIssue c w) s = .next (s.finish c false ((s.slotCore c).charged (.matrix w)
      ((s.slotCore c).issueMatrix (effMatrix (s.slotCore c) (s.slotCore c).ex w)))) :=
  congrArg Host.Outcome.next (State.slot_of_ready h (.matrix w) fun k => k.issueMatrix (effMatrix k k.ex w))

section aTileIssue

variable {s : State} {c : CoreId} {w x : BitVec 64} {l : Line} (h : s.slotReady c)
  (hx : effMatrix (s.slotCore c) (s.slotCore c).ex w = x) (hline : (s.slotCore c).aLine x.toNat = .ok l)
  (hroom : (s.slotCore c).row.waitingAtEntry < 2)
include h hx hline hroom

/-- An A tile that passes its checks enters the row, and the bucket pays for it (R92, R352). -/
theorem exec_aTileIssue_paid {a : AccKind}
    (hpass : (s.slotCore c).checkATile (Fmt.ofTag (bits x.toNat 60 4)) l (BitVec.ofNat 32 x.toNat) = none)
    (hacc : (Fmt.ofTag (bits x.toNat 60 4)).acc? (rcwExact (BitVec.ofNat 32 x.toNat)) = some a)
    (hpaid : aTileCharge w ≤ (s.slotCore c).guardLu) :
    exec (.aTileIssue c w) s = .next (s.withCore c { (s.slotCore c).withATile x l a with
      guardLu := (s.slotCore c).guardLu - aTileCharge w }) := by
  rw [exec_aTileIssue_ready h, hx, Core.issueMatrix_passed hline hroom hpass hacc,
    Core.charged_paid (slotCharge_matrix ..) hpaid]
  rfl

/-- One whose charge the bucket does not hold waits (R354). -/
theorem exec_aTileIssue_short
    (hpass : (s.slotCore c).checkATile (Fmt.ofTag (bits x.toNat 60 4)) l (BitVec.ofNat 32 x.toNat) = none)
    (hshort : (s.slotCore c).guardLu < aTileCharge w) :
    exec (.aTileIssue c w) s = .next s := by
  obtain ⟨a, hacc⟩ := Core.acc_of_checkATile hpass
  rw [exec_aTileIssue_ready h, hx, Core.issueMatrix_passed hline hroom hpass hacc,
    Core.charged_short (slotCharge_matrix ..) hshort]
  rfl

/-- One that fails a check ends the run with the check's event (R90). -/
theorem exec_aTileIssue_failed {e n : Nat}
    (hfail : (s.slotCore c).checkATile (Fmt.ofTag (bits x.toNat 60 4)) l (BitVec.ofNat 32 x.toNat) = some (e, n)) :
    exec (.aTileIssue c w) s = .next (s.coreFault c e n false) := by
  rw [exec_aTileIssue_ready h, hx, Core.issueMatrix_failed hline hroom hfail, Core.charged_event]
  rfl

end aTileIssue

/-- Settles O10: an A tile enters the row, waits for the power guard, or ends the run with the event of the check that it fails, the tag
being checked first. That order of the checks, with cube 0 in the argument of 0x1101, 0x1102 and 0x1106, is DESIGN CHOICE 28. -/
theorem aTileIssues : Obligations.ATileIssues := by
  unfold Obligations.ATileIssues
  refine ⟨fun c w s l a hc hs hline hroom => ⟨fun hpass hacc hpaid => ?_, exec_aTileIssue_short hs rfl hline hroom,
    fun e n hfail => exec_aTileIssue_failed hs rfl hline hroom hfail⟩, fun c w s l hs hline hroom htag =>
    exec_aTileIssue_failed hs rfl hline hroom (Core.checkATile_of_tag_ne htag _ _)⟩
  have hrow := (s.slotCore c).withATile_row (effMatrix (s.slotCore c) (s.slotCore c).ex w) l a
  exact ⟨_, exec_aTileIssue_paid hs rfl hline hroom hpass hacc hpaid, congrArg Row.tiles hrow, congrArg Row.aFree hrow,
    (congrArg Row.order hrow).trans (Core.enterATile_order ..), rfl,
    fun hfed => Core.withATile_entries (State.slotCore_queues_wf hc c) hfed l a⟩

/-! ### The operations of the B path -/

/-- The operation word of a B-path slot of a kind: its syllable with the effective tile index and slot (R96, R146). -/
def Core.bopWord (k : Core) (kind : Nat) (w : BitVec 64) : BitVec 48 := BitVec.ofNat 48 (effBpath k k.ex (withBopKind kind w)).toNat

/-- An accumulator kind that Table 1 of spec/03 has, at a slot that it allows (R90, R96). -/
def AccLoadAllowed (u : BitVec 48) : Prop := ∃ a n, akind? (bopAkind u) = some (a, n) ∧ bopSlot u % a.slots = 0

/-- The operation that a B-path slot with word `u` puts under way, with the tags of the lines it names (R93, R96). -/
def Core.bOp (k : Core) (u : BitVec 48) : BOp :=
  ⟨k.beat, u, (List.range (bopMembers u)).map (fun m => k.tileLine (bopIndex k.skew u m)), []⟩

/-- The effective tile index and slot leave the kind of the operation as its row names it. -/
theorem Core.bopKind_bopWord (k : Core) (w : BitVec 64) {kind : Nat} (h : kind < 4) : bopKind (k.bopWord kind w) = kind := by
  unfold Core.bopWord bopKind effBpath withBopKind
  simp only [BitVec.toNat_ofNat]
  rw [bits_mod_two_pow _ (by decide), bits_mod_two_pow _ (by decide), bits_putBits_above _ _ _ (by decide),
    bits_putBits_above _ _ _ (by decide), bits_mod_two_pow _ (by decide), bits_putBits_same]
  exact Nat.mod_eq_of_lt h

theorem slotCharge_bpath (k d : Core) (w : BitVec 64) : slotCharge k d (.bpath w) = 0 := rfl

theorem bopLines_of_kind_ne {u : BitVec 48} (h : bopKind u ≠ 3) : bopLines u = 1 := if_neg h

section issueBpath

variable {k : Core} {x : BitVec 64} {u : BitVec 48} (hu : BitVec.ofNat 48 x.toNat = u)
include hu

theorem Core.issueBpath_busy (hkind : bopKind u ≠ 0) (hbusy : k.beat < k.row.bFree) : k.issueBpath x = .event 0x1106 (bopCube u) := by
  simp only [Core.issueBpath, hu, if_neg hkind, if_pos hbusy]

theorem Core.issueBpath_refused (hkind : bopKind u = 3) (hfree : k.row.bFree ≤ k.beat) (hno : ¬AccLoadAllowed u) :
    k.issueBpath x = .event 0x1104 (bopCube u) := by
  simp only [Core.issueBpath, hu, hkind, if_neg (Nat.not_lt.mpr hfree)]
  cases hakind : akind? (bopAkind u) with
  | none => rfl
  | some p =>
    have hslot : bopSlot u % p.1.slots ≠ 0 := fun h0 => hno ⟨p.1, p.2, hakind, h0⟩
    simp [hslot]

theorem Core.issueBpath_free (hkind : bopKind u ≠ 0) (hfree : k.row.bFree ≤ k.beat) (hok : bopKind u = 3 → AccLoadAllowed u) :
    k.issueBpath x = .ok { k with row := { k.row with
      bops := k.row.bops ++ [k.bOp u], future := k.futureBpath u, bFree := k.beat + bopLines u } } := by
  simp only [Core.issueBpath, hu, if_neg hkind, if_neg (Nat.not_lt.mpr hfree)]
  by_cases h3 : bopKind u = 3
  · obtain ⟨a, n, hakind, hslot⟩ := hok h3
    simp [hakind, hslot, Core.bOp]
  · simp [h3, Core.bOp]

end issueBpath

section bSlot

variable {s : State} {c : CoreId} {w : BitVec 64} {kind : Nat} (h : s.slotReady c)
include h

/-- A B-path slot that finds its path free is under way from this beat, at no charge (R96, R98, R352). -/
theorem State.bSlot_free (hpos : kind ≠ 0) (hlt : kind < 4) (hfree : (s.slotCore c).row.bFree ≤ (s.slotCore c).beat)
    (hok : kind = 3 → AccLoadAllowed ((s.slotCore c).bopWord kind w)) : ∃ k' : Core, s.bSlot c kind w = s.withCore c k' ∧
      k'.row.bops = (s.slotCore c).row.bops ++ [(s.slotCore c).bOp ((s.slotCore c).bopWord kind w)] ∧
      k'.row.bFree = (s.slotCore c).beat + bopLines ((s.slotCore c).bopWord kind w) := by
  have hkind := (s.slotCore c).bopKind_bopWord w hlt
  rw [State.bSlot, State.slot_of_ready h, Core.issueBpath_free (u := (s.slotCore c).bopWord kind w) rfl (by rwa [hkind]) hfree
    (by rwa [hkind]), Core.charged_paid (slotCharge_bpath ..) (Nat.zero_le _)]
  exact ⟨_, rfl, rfl, rfl⟩

/-- One that finds its path busy ends the run (R94, R98). -/
theorem State.bSlot_busy (hpos : kind ≠ 0) (hlt : kind < 4) (hbusy : (s.slotCore c).beat < (s.slotCore c).row.bFree) :
    s.bSlot c kind w = s.coreFault c 0x1106 (bopCube ((s.slotCore c).bopWord kind w)) false := by
  rw [State.bSlot, State.slot_of_ready h, Core.issueBpath_busy (u := (s.slotCore c).bopWord kind w) rfl
    (by rwa [(s.slotCore c).bopKind_bopWord w hlt]) hbusy, Core.charged_event]
  rfl

/-- An ACCLOAD of no accumulator kind, or at a slot that its kind does not allow, ends the run (R90, R96). -/
theorem State.bSlot_refused (hfree : (s.slotCore c).row.bFree ≤ (s.slotCore c).beat)
    (hno : ¬AccLoadAllowed ((s.slotCore c).bopWord 3 w)) :
    s.bSlot c 3 w = s.coreFault c 0x1104 (bopCube ((s.slotCore c).bopWord 3 w)) false := by
  rw [State.bSlot, State.slot_of_ready h, Core.issueBpath_refused (u := (s.slotCore c).bopWord 3 w) rfl
    ((s.slotCore c).bopKind_bopWord w (by decide)) hfree hno, Core.charged_event]
  rfl

/-- SET and ONE claim the path for one beat (R97). -/
theorem State.bSlot_oneBeat (hpos : kind ≠ 0) (hlt : kind < 3) (hfree : (s.slotCore c).row.bFree ≤ (s.slotCore c).beat) :
    ∃ k' : Core, s.bSlot c kind w = s.withCore c k' ∧
      k'.row.bops = (s.slotCore c).row.bops ++ [(s.slotCore c).bOp ((s.slotCore c).bopWord kind w)] ∧
      k'.row.bFree = (s.slotCore c).beat + 1 := by
  have hne : bopKind ((s.slotCore c).bopWord kind w) ≠ 3 := by
    rw [(s.slotCore c).bopKind_bopWord w (by omega)]
    omega
  rw [← bopLines_of_kind_ne hne]
  exact State.bSlot_free h hpos (by omega) hfree (by omega)

end bSlot

theorem exec_setB (c : CoreId) (w : BitVec 64) (s : State) : exec (.setB c w) s = .next (s.bSlot c 1 w) := rfl
theorem exec_oneB (c : CoreId) (w : BitVec 64) (s : State) : exec (.oneB c w) s = .next (s.bSlot c 2 w) := rfl
theorem exec_accload (c : CoreId) (w : BitVec 64) (s : State) : exec (.accload c w) s = .next (s.bSlot c 3 w) := rfl

/-- Settles O12: SET, ONE and ACCLOAD on a free path and on a busy one, and the ACCLOAD that is refused. -/
theorem bPathOperations : Obligations.BPathOperations := by
  unfold Obligations.BPathOperations
  intro c w s h
  simp only [exec_setB, exec_oneB, exec_accload, Host.Outcome.next.injEq]
  exact ⟨State.bSlot_oneBeat h (by decide) (by decide), State.bSlot_oneBeat h (by decide) (by decide),
    fun hfree hok => State.bSlot_free h (by decide) (by decide) hfree fun _ => hok,
    State.bSlot_refused h,
    fun hbusy => ⟨State.bSlot_busy h (by decide) (by decide) hbusy, State.bSlot_busy h (by decide) (by decide) hbusy,
      State.bSlot_busy h (by decide) (by decide) hbusy⟩⟩

end Sys2Proof.Machine
end

section
/-! Elements of vectors as fields of words (R117, R120): what cutting, joining and masking them leave at one place. -/

namespace Sys2Proof.Machine

/-! ### Fields of a word -/

theorem length_splitBits (w n x : Nat) : (splitBits w n x).length = n := by
  induction n generalizing x with
  | zero => rfl
  | succ n ih => simp [splitBits, ih]

/-- A field that is cut from a word, and 0 past the last. -/
theorem splitBits_getD (w : Nat) {n e : Nat} (he : e < n) (x : Nat) : (splitBits w n x).getD e 0 = bits x (w * e) w := by
  induction n generalizing x e with
  | zero => omega
  | succ n ih =>
    cases e with
    | zero => simp [splitBits, bits]
    | succ e =>
      rw [splitBits, List.getD_cons_succ, ih (Nat.lt_of_succ_lt_succ he), bits, bits, Nat.shiftRight_eq_div_pow,
        Nat.shiftRight_eq_div_pow, Nat.div_div_eq_div_mul, ← Nat.pow_add, Nat.mul_succ, Nat.add_comm]

/-- A field of joined ones is the one that was joined there. -/
theorem bits_joinBits (w : Nat) (l : List Nat) (e : Nat) : bits (joinBits w l) (w * e) w = l.getD e 0 % 2 ^ w := by
  induction l generalizing e with
  | nil => simp [joinBits, bits]
  | cons x xs ih =>
    cases e with
    | zero => simp [joinBits, bits]
    | succ e =>
      rw [List.getD_cons_succ, ← ih e, bits, bits, joinBits, Nat.mul_succ, Nat.add_comm (w * e), Nat.shiftRight_add,
        Nat.shiftRight_eq_div_pow _ w, Nat.add_mul_div_left _ _ (Nat.two_pow_pos w),
        Nat.div_eq_of_lt (Nat.mod_lt _ (Nat.two_pow_pos w)), Nat.zero_add]

theorem joinBits_lt (w : Nat) (l : List Nat) : joinBits w l < 2 ^ (w * l.length) := by
  induction l with
  | nil => simp [joinBits]
  | cons x xs ih =>
    have hx := Nat.mod_lt x (Nat.two_pow_pos w)
    have hmul := Nat.mul_le_mul_left (2 ^ w) (Nat.succ_le_of_lt ih)
    rw [joinBits, List.length_cons, Nat.mul_succ, Nat.add_comm (w * _), Nat.pow_add]
    rw [Nat.succ_eq_add_one, Nat.mul_add] at hmul
    omega

theorem bits_lt (x lo n : Nat) : bits x lo n < 2 ^ n := Nat.mod_lt _ (Nat.two_pow_pos n)

/-- A field of a word that was joined from fields. -/
theorem bits_ofNat_joinBits {w e size : Nat} (h : w * e + w ≤ size) (l : List Nat) :
    bits (BitVec.ofNat size (joinBits w l)).toNat (w * e) w = l.getD e 0 % 2 ^ w := by
  rw [BitVec.toNat_ofNat, bits_mod_two_pow _ h, bits_joinBits]

theorem splitBits_joinBits {w n e size : Nat} (he : e < n) (hn : w * n ≤ size) (l : List Nat) :
    (splitBits w n (BitVec.ofNat size (joinBits w l)).toNat).getD e 0 = l.getD e 0 % 2 ^ w := by
  rw [splitBits_getD w he, bits_ofNat_joinBits ((Nat.mul_succ w e ▸ Nat.mul_le_mul_left w he).trans hn)]

/-! ### Elements and units of a format -/

theorem Fmt.width_mul_count (f : Fmt) : f.width * f.count = 2048 := by cases f <;> rfl
theorem Fmt.unitBits_mul_units (f : Fmt) : f.unitBits * f.units = 2048 := by cases f <;> rfl
theorem Fmt.units_le (f : Fmt) : f.units ≤ 256 := by cases f <;> decide

theorem elems_lt (f : Fmt) (v : VecData) (e : Nat) : (elems f v).getD e 0 < 2 ^ f.width := by
  by_cases he : e < f.count
  · rw [elems, splitBits_getD _ he]
    exact bits_lt ..
  · rw [List.getD_eq_default _ _ (by rw [elems, length_splitBits]; omega)]
    exact Nat.two_pow_pos _

theorem unitsOf_lt (f : Fmt) (v : VecData) (e : Nat) : (unitsOf f v).getD e 0 < 2 ^ f.unitBits := by
  by_cases he : e < f.units
  · rw [unitsOf, splitBits_getD _ he]
    exact bits_lt ..
  · rw [List.getD_eq_default _ _ (by rw [unitsOf, length_splitBits]; omega)]
    exact Nat.two_pow_pos _

/-- An element of a vector that was joined from elements (R117). -/
theorem elems_joinBits (f : Fmt) {e : Nat} (he : e < f.count) (l : List Nat) :
    (elems f (BitVec.ofNat 2048 (joinBits f.width l))).getD e 0 = l.getD e 0 % 2 ^ f.width :=
  splitBits_joinBits he f.width_mul_count.le l

/-- A unit of a vector that was joined from units (R120). -/
theorem unitsOf_joinBits (f : Fmt) {e : Nat} (he : e < f.units) (l : List Nat) :
    (unitsOf f (BitVec.ofNat 2048 (joinBits f.unitBits l))).getD e 0 = l.getD e 0 % 2 ^ f.unitBits :=
  splitBits_joinBits he f.unitBits_mul_units.le l

/-! ### Active units -/

theorem activeUnits_getD (msk : Bool) (m : BitVec 256) {n e : Nat} (he : e < n) :
    (activeUnits msk m n).getD e false = (!msk || bit m.toNat e) := by
  simp [activeUnits, he, bit]

theorem length_activeUnits (msk : Bool) (m : BitVec 256) (n : Nat) : (activeUnits msk m n).length = n := by simp [activeUnits]

theorem Core.mem_active {k : Core} {o : VOp} {n e : Nat} :
    e ∈ k.active o n ↔ e < n ∧ (activeUnits o.msk (k.mreg o.mreg) n).getD e false = true := by
  rw [Core.active, List.mem_filter, List.mem_range]
  exact and_congr_right fun he => by rw [activeUnits_getD _ _ he]

/-! ### The flags of several elements -/

theorem foldl_or_eq (l : List Flags) (a : Flags) : l.foldl (· ||| ·) a = a ||| orFlags l := by
  induction l generalizing a with
  | nil => simp [orFlags]
  | cons x xs ih =>
    rw [List.foldl_cons, orFlags, List.foldl_cons, ih, ih (0 ||| x)]
    simp [BitVec.or_assoc]

theorem orFlags_cons (x : Flags) (l : List Flags) : orFlags (x :: l) = x ||| orFlags l := by
  rw [orFlags, List.foldl_cons, foldl_or_eq]
  simp

/-- Flags folded over results are those of the results together. -/
theorem foldl_or_map {α : Type} (l : List α) (g : α → Flags) : l.foldl (fun a r => a ||| g r) 0 = orFlags (l.map g) := by
  rw [orFlags, List.foldl_map]

/-- Elements without flags add none. -/
theorem orFlags_map_ite {α : Type} (l : List α) (p : α → Bool) (g : α → Flags) :
    orFlags (l.map (fun e => if p e then g e else 0)) = orFlags ((l.filter p).map g) := by
  induction l with
  | nil => rfl
  | cons x xs ih =>
    rw [List.map_cons, orFlags_cons, ih, List.filter_cons]
    split
    · rw [List.map_cons, orFlags_cons]
    · exact BitVec.zero_or

theorem orFlags_zero {α : Type} (l : List α) : orFlags (l.map (fun _ => (0 : Flags))) = 0 := by
  induction l with
  | nil => rfl
  | cons x xs ih => rw [List.map_cons, orFlags_cons, ih]; rfl

/-- One flag, set where a condition holds of an element, is set where it holds of any. -/
theorem orFlags_map_flagIf {α : Type} (l : List α) (p : α → Bool) (f : Flags) :
    orFlags (l.map (fun e => if p e then f else 0)) = if l.any p then f else 0 := by
  induction l with
  | nil => rfl
  | cons x xs ih =>
    rw [List.map_cons, orFlags_cons, ih, List.any_cons]
    cases p x <;> cases xs.any p <;> simp

end Sys2Proof.Machine
end

section
/-! The issue of the vector engine's slots, each commanded by itself (R148, R149, R352, DEDUCED 21): what a compute instruction's result
leaves of the core, and what the classes that work element by element compute (R120, R124, R126). -/

namespace Sys2Proof.Machine

/-! ### A compute result -/

/-- The results of a compute instruction on their way (R149). -/
def VOut.results (k : Core) (out : VOut) : List VWrite := out.writes.map fun x => ⟨k.beat + x.1, x.2.1, x.2.2.1, x.2.2.2⟩

/-- The core that a compute result leaves once its charge is paid (R149, R352). -/
def Core.computed (k : Core) (out : VOut) : Core := { k.applyOut out with guardLu := k.guardLu - 16 * out.occ }

theorem Core.computed_vec (k : Core) (out : VOut) :
    (k.computed out).vec = { k.vec with pend := k.vec.pend ++ out.results k, freeC := k.beat + out.occ } := by
  unfold Core.computed Core.applyOut Core.raise
  simp only
  split <;> rfl

theorem Core.computed_arstat (k : Core) (out : VOut) : (k.computed out).arstat = (k.raise k.beat out.flags).arstat := by
  unfold Core.computed Core.applyOut Core.raise
  simp only
  split <;> rfl

theorem Core.computed_vrbase (k : Core) (out : VOut) : (k.computed out).csr.vrbase = k.csr.vrbase + BitVec.ofNat 32 out.drawn := by
  unfold Core.computed Core.applyOut Core.raise
  simp only
  split <;> rfl

/-- A compute result leaves what its instruction leaves of the core (R82, R126, R149, R352). -/
theorem Core.computed_spec (k : Core) {o : VOp} {out : VOut} {n : Nat} (hdrawn : out.drawn = if o.rm = 4 then n else 0) :
    k.Computed (k.computed out) o (out.results k) out.occ n out.flags where
  pend := congrArg Vec.pend (k.computed_vec out)
  free := congrArg Vec.freeC (k.computed_vec out)
  arstat := k.computed_arstat out
  vrbase := hdrawn ▸ k.computed_vrbase out
  paid := rfl

theorem drawsWords_drawn (o : VOp) (n : Nat) : (if drawsWords o then n else 0) = if o.rm = 4 then n else 0 := by
  simp [drawsWords]

/-- A vector instruction pays for the beats that it occupies its path (R352). -/
theorem slotCharge_applyOut (k : Core) (out : VOut) (w : BitVec 64) : slotCharge k (k.applyOut out) (.vec w) = 16 * out.occ := by
  have hfree : (k.applyOut out).vec.freeC = k.beat + out.occ := congrArg Vec.freeC (k.computed_vec out)
  rw [slotCharge, hfree, Nat.add_sub_cancel_left]

/-! ### A VEC slot that issues by itself -/

/-- Row `i` commands operation `op` of the VEC slot with fields `o`, in a core that can issue it and is then `k` (R148, DEDUCED 21). -/
structure VecRow (s : State) (c : CoreId) (i : Instr) (op : Nat) (w : BitVec 64) (k : Core) (o : VOp) : Prop where
  row    : exec i s = .next (s.vecSlot c op w)
  ready  : s.slotReady c
  core   : s.slotCore c = k
  fields : k.fieldsOf w = o

namespace VecRow

variable {s : State} {c : CoreId} {i : Instr} {op : Nat} {w : BitVec 64} {k : Core} {o : VOp} (h : VecRow s c i op w k o)
include h

/-- What the row of a VEC slot answers. -/
theorem exec_eq : exec i s =
    .next (s.finish c false (k.charged (.vec w) (k.issueVec c.v (s.envelopeOk c) { o with vop := op }))) := by
  obtain ⟨hrow, hready, rfl, rfl⟩ := h
  exact hrow.trans (congrArg Host.Outcome.next (State.slot_of_ready hready (.vec w)
    fun k => k.issueVec c.v (s.envelopeOk c) { VOp.ofSyl (effVec k.ex w) with vop := op }))

/-- A compute instruction whose charge the bucket holds leaves its result (R149, R352). -/
theorem exec_computed {out : VOut} (hout : k.issueVec c.v (s.envelopeOk c) { o with vop := op } = applyRes k (.ok out))
    (hpaid : 16 * out.occ ≤ k.guardLu) : exec i s = .next (s.withCore c (k.computed out)) := by
  rw [h.exec_eq, hout, applyRes, Res.bind, Core.charged_paid (slotCharge_applyOut ..) hpaid]
  rfl

/-- One that raises an event ends the run with it (R138). -/
theorem exec_event {e n : Nat} (hout : k.issueVec c.v (s.envelopeOk c) { o with vop := op } = .event e n) :
    exec i s = .next (s.coreFault c e n false) := by
  rw [h.exec_eq, hout, Core.charged_event]
  rfl

end VecRow

/-! ### The classes of the VEC slot (Table 3 of spec/04) -/

section issueVec

variable (k : Core) (v : Nat) (env : Nat → Option Nat) {o : VOp}

theorem Core.issueVec_elementwise (h : o.vop < 0x20) : k.issueVec v env o = applyRes k (vecElementwise k v o) := if_pos h

theorem Core.issueVec_compare (hlo : 0x20 ≤ o.vop) (hhi : o.vop < 0x25) : k.issueVec v env o = applyRes k (vecCompare k o) := by
  rw [Core.issueVec, if_neg (Nat.not_lt.mpr hlo), if_pos hhi]

theorem Core.issueVec_select (h : o.vop = 0x28) : k.issueVec v env o = applyRes k (vecSelect k o) := by simp [Core.issueVec, h]

theorem Core.issueVec_convert (h : o.vop = 0x30) : k.issueVec v env o = applyRes k (vecConvert k v o) := by simp [Core.issueVec, h]

theorem Core.issueVec_special (hlo : 0x38 ≤ o.vop) (hhi : o.vop ≤ 0x41) : k.issueVec v env o = applyRes k (vecSpecial k v o) := by
  rw [Core.issueVec, if_neg (by omega), if_neg (by omega), if_neg (by omega), if_neg (by omega), if_pos ⟨hlo, hhi⟩]

theorem Core.issueVec_reduce (hlo : 0x48 ≤ o.vop) (hhi : o.vop ≤ 0x4A) : k.issueVec v env o = applyRes k (vecReduce k o) := by
  rw [Core.issueVec, if_neg (by omega), if_neg (by omega), if_neg (by omega), if_neg (by omega), if_neg (by omega), if_pos ⟨hlo, hhi⟩]

theorem Core.issueVec_pack (h : o.vop = 0x50 ∨ o.vop = 0x51) : k.issueVec v env o = applyRes k (vecPack k o) := by
  rcases h with h | h <;> simp [Core.issueVec, h]

end issueVec

/-! ### Results element by element -/

/-- The results of the elements of an instruction: those of the active ones, nothing for the others (R120). -/
def Core.elementResults (k : Core) (o : VOp) (g : Nat → Nat × Flags) : List (Nat × Flags) :=
  (List.range o.fmt.count).map fun e => if (activeUnits o.msk (k.mreg o.mreg) o.fmt.count).getD e false then g e else (0, 0)

/-- A compute result that has `g e` for active element e, ready `lat` beats on after `occ` beats on its path (R120, R126, R149). -/
def Core.elementOut (k : Core) (o : VOp) (lat occ : Nat) (g : Nat → Nat × Flags) : VOut :=
  ⟨[(lat, .reg o.vd, BitVec.ofNat 2048 (joinBits o.fmt.width ((k.elementResults o g).map Prod.fst)), k.resultMask o)], occ,
    (k.elementResults o g).foldl (fun a r => a ||| r.2) 0, if drawsWords o then o.fmt.count else 0⟩

theorem Core.elementResults_getD {k : Core} {o : VOp} {e : Nat} (he : e ∈ k.active o o.fmt.count) (g : Nat → Nat × Flags) :
    ((k.elementResults o g).map Prod.fst).getD e 0 = (g e).1 := by
  obtain ⟨hlt, hon⟩ := Core.mem_active.mp he
  rw [Core.elementResults, List.map_map, List.getD_eq_getElem _ _ (by simpa using hlt), List.getElem_map, List.getElem_range,
    Function.comp_apply, if_pos hon]

/-- Only active elements raise flags (R82, R120). -/
theorem Core.orFlags_active (k : Core) (o : VOp) (n : Nat) (g : Nat → Flags) :
    orFlags ((List.range n).map fun e => if (activeUnits o.msk (k.mreg o.mreg) n).getD e false then g e else 0) =
      orFlags ((k.active o n).map g) := by
  rw [Core.active, ← orFlags_map_ite]
  exact congrArg orFlags (List.map_congr_left fun e he => by rw [activeUnits_getD _ _ (List.mem_range.mp he)])

theorem Core.elementOut_flags (k : Core) (o : VOp) (lat occ : Nat) (g : Nat → Nat × Flags) :
    (k.elementOut o lat occ g).flags = orFlags ((k.active o o.fmt.count).map fun e => (g e).2) := by
  refine (foldl_or_map _ Prod.snd).trans ?_
  rw [Core.elementResults, List.map_map, ← Core.orFlags_active]
  exact congrArg orFlags (List.map_congr_left fun e _ => apply_ite Prod.snd ..)

/-- An instruction that works element by element leaves the results of the active elements on their way to VD, the others' bytes outside
the result's mask (R120, R126, R149, R352). -/
theorem VecRow.exec_elements {s : State} {c : CoreId} {i : Instr} {op : Nat} {w : BitVec 64} {k : Core} {o : VOp}
    (h : VecRow s c i op w k o) {lat occ : Nat} {g : Nat → Nat × Flags} (hpaid : 16 * occ ≤ k.guardLu)
    (hout : k.issueVec c.v (s.envelopeOk c) { o with vop := op } = applyRes k (.ok (k.elementOut o lat occ g))) :
    ∃ (k' : Core) (r : VecData), exec i s = .next (s.withCore c k') ∧
      k.Computed k' o [⟨k.beat + lat, .reg o.vd, r, k.resultMask o⟩] occ o.fmt.count
        (orFlags ((k.active o o.fmt.count).map fun e => (g e).2)) ∧
      ∀ e ∈ k.active o o.fmt.count, (elems o.fmt r).getD e 0 = (g e).1 % 2 ^ o.fmt.width := by
  have hspec := k.computed_spec (out := k.elementOut o lat occ g) (drawsWords_drawn o o.fmt.count)
  rw [k.elementOut_flags o lat occ g] at hspec
  refine ⟨_, _, h.exec_computed hout hpaid, hspec, fun e he => ?_⟩
  rw [elems_joinBits _ (Core.mem_active.mp he).1, Core.elementResults_getD he]

end Sys2Proof.Machine
end

section
/-! The classes of the vector engine that work element by element (R58, R80 to R82, R120, R124, R138). -/

namespace Sys2Proof.Machine

/-! ### Element-wise instructions -/

/-- The random word of an element under RSR (R126). -/
def Core.randomWord (k : Core) (v : Nat) (o : VOp) (e : Nat) : Nat := if o.rm = 4 then k.draw v o.aux e else 0

theorem Core.randomWord_eq (k : Core) (v : Nat) (o : VOp) (e : Nat) :
    (if drawsWords o then k.draw v o.aux e else 0) = k.randomWord v o e := by
  simp [drawsWords, Core.randomWord]

/-- What operation `op` makes of element e of its sources (Table 3 of spec/04). -/
def Core.elementOp (k : Core) (v : Nat) (o : VOp) (op e : Nat) : Nat × Flags :=
  (elemOp op o.fmt o.mode (k.randomWord v o e) ((elems o.fmt (k.vreg o.va)).getD e 0) ((elems o.fmt (k.vreg o.vb)).getD e 0)
    ((elems o.fmt (k.vreg o.vc)).getD e 0) o.imm).getD (0, 0)

theorem vecElementwise_ok {k : Core} {o : VOp} (h : (elemOp o.vop o.fmt o.mode 0 0 0 0 0).isNone = false) (v : Nat) :
    vecElementwise k v o = .ok (k.elementOut o 3 1 (k.elementOp v o o.vop)) := by
  rw [vecElementwise, h]
  simp only [Core.randomWord_eq]
  rfl

theorem vecElementwise_refused {k : Core} {o : VOp} (h : (elemOp o.vop o.fmt o.mode 0 0 0 0 0).isNone = true) (v : Nat) :
    vecElementwise k v o = .event 0x1203 0 := if_pos h

section elementwise

variable {s : State} {c : CoreId} {i : Instr} {op : Nat} {w : BitVec 64} {k : Core} {o : VOp} (h : VecRow s c i op w k o) (hop : op < 0x20)
include h hop

/-- An element-wise instruction that accepts its format leaves what its operation makes of each active element (R120, R124). -/
theorem VecRow.exec_elementwise (hpaid : 16 ≤ k.guardLu) (hknown : (elemOp op o.fmt o.mode 0 0 0 0 0).isNone = false) :
    ∃ (k' : Core) (r : VecData), exec i s = .next (s.withCore c k') ∧
      k.Computed k' o [⟨k.beat + 3, .reg o.vd, r, k.resultMask o⟩] 1 o.fmt.count
        (orFlags ((k.active o o.fmt.count).map fun e => (k.elementOp c.v o op e).2)) ∧
      ∀ e ∈ k.active o o.fmt.count, (elems o.fmt r).getD e 0 = (k.elementOp c.v o op e).1 % 2 ^ o.fmt.width :=
  h.exec_elements hpaid ((Core.issueVec_elementwise _ _ _ hop).trans (congrArg (applyRes _) (vecElementwise_ok hknown c.v)))

/-- One that does not accept its format ends the run (R138). -/
theorem VecRow.exec_elementwise_refused (hno : (elemOp op o.fmt o.mode 0 0 0 0 0).isNone = true) :
    exec i s = .next (s.coreFault c 0x1203 0 false) :=
  h.exec_event ((Core.issueVec_elementwise _ _ _ hop).trans (congrArg (applyRes _) (vecElementwise_refused hno c.v)))

end elementwise

/-! ### Integer elements -/

/-- Whether an integer lies outside a signed format of `w` bits (R58). -/
def outOf (w : Nat) (i : Int) : Bool := decide (i < -(2 ^ (w - 1) : Int)) || decide ((2 ^ (w - 1) : Int) - 1 < i)

/-- An integer brought into a signed format of `w` bits (R58). -/
def satTo (w : Nat) (i : Int) : Nat :=
  if i < -(2 ^ (w - 1) : Int) then 2 ^ (w - 1) else if (2 ^ (w - 1) : Int) - 1 < i then 2 ^ (w - 1) - 1 else wrapInt w i

theorem saturate_eq (w : Nat) (i : Int) : saturate w i = (satTo w i, if outOf w i then fSat else 0) := by
  unfold saturate satTo outOf
  by_cases hlo : i < -(2 ^ (w - 1) : Int)
  · simp [hlo]
  · by_cases hhi : (2 ^ (w - 1) : Int) - 1 < i <;> simp [hlo, hhi]

theorem satTo_lt {w : Nat} (hw : 0 < w) (i : Int) : satTo w i < 2 ^ w := by
  have hhalf : 2 ^ (w - 1) < 2 ^ w := Nat.pow_lt_pow_right (by decide) (by omega)
  unfold satTo
  split
  · exact hhalf
  · split
    · exact (Nat.sub_le ..).trans_lt hhalf
    · exact wrapInt_lt w i

theorem Fmt.width_pos (f : Fmt) : 0 < f.width := by cases f <;> decide

section integer

variable {s : State} {c : CoreId} {i : Instr} {op : Nat} {w : BitVec 64} {k : Core} {o : VOp} (h : VecRow s c i op w k o) (hop : op < 0x20)
  (hfmt : o.fmt.isVecInt = true) (hpaid : 16 ≤ k.guardLu) (hknown : ∀ n, (intElem op n 0 0 0 0).isNone = false)
include h hop hfmt hpaid hknown

/-- An element-wise instruction of an integer format leaves the results of its operation `f`, with the flags `fl` (R58, R124). -/
theorem VecRow.exec_intElements {f : Nat → Nat → Nat → Nat} {fl : Nat → Nat → Flags}
    (hf : ∀ a b d, a < 2 ^ o.fmt.width → b < 2 ^ o.fmt.width →
      intElem op o.fmt.width a b d o.imm = some (f a b d, fl a b) ∧ f a b d < 2 ^ o.fmt.width) :
    ∃ (k' : Core) (r : VecData), exec i s = .next (s.withCore c k') ∧
      k.Computed k' o [⟨k.beat + 3, .reg o.vd, r, k.resultMask o⟩] 1 o.fmt.count
        (orFlags ((k.active o o.fmt.count).map fun e => fl ((elems o.fmt (k.vreg o.va)).getD e 0) ((elems o.fmt (k.vreg o.vb)).getD e 0))) ∧
      ∀ e ∈ k.active o o.fmt.count, (elems o.fmt r).getD e 0 = f ((elems o.fmt (k.vreg o.va)).getD e 0)
        ((elems o.fmt (k.vreg o.vb)).getD e 0) ((elems o.fmt (k.vreg o.vc)).getD e 0) := by
  have hint : ∀ r a b d imm, elemOp op o.fmt o.mode r a b d imm = intElem op o.fmt.width a b d imm := fun r a b d imm => if_pos hfmt
  have hval := fun e => hf _ _ ((elems o.fmt (k.vreg o.vc)).getD e 0) (elems_lt o.fmt (k.vreg o.va) e) (elems_lt o.fmt (k.vreg o.vb) e)
  have hone : ∀ e, k.elementOp c.v o op e = (f ((elems o.fmt (k.vreg o.va)).getD e 0) ((elems o.fmt (k.vreg o.vb)).getD e 0)
      ((elems o.fmt (k.vreg o.vc)).getD e 0), fl ((elems o.fmt (k.vreg o.va)).getD e 0) ((elems o.fmt (k.vreg o.vb)).getD e 0)) :=
    fun e => by rw [Core.elementOp, hint, (hval e).1, Option.getD_some]
  obtain ⟨k', r, hexec, hcomputed, hr⟩ := h.exec_elementwise hop hpaid (by rw [hint]; exact hknown _)
  simp only [hone] at hcomputed hr
  exact ⟨k', r, hexec, hcomputed, fun e he => (hr e he).trans (Nat.mod_eq_of_lt (hval e).2)⟩

/-- Operations that raise no flag. -/
theorem VecRow.exec_intQuiet {f : Nat → Nat → Nat → Nat}
    (hf : ∀ a b d, a < 2 ^ o.fmt.width → b < 2 ^ o.fmt.width →
      intElem op o.fmt.width a b d o.imm = some (f a b d, 0) ∧ f a b d < 2 ^ o.fmt.width) :
    ∃ (k' : Core) (r : VecData), exec i s = .next (s.withCore c k') ∧
      k.Computed k' o [⟨k.beat + 3, .reg o.vd, r, k.resultMask o⟩] 1 o.fmt.count 0 ∧
      ∀ e ∈ k.active o o.fmt.count, (elems o.fmt r).getD e 0 = f ((elems o.fmt (k.vreg o.va)).getD e 0)
        ((elems o.fmt (k.vreg o.vb)).getD e 0) ((elems o.fmt (k.vreg o.vc)).getD e 0) := by
  obtain ⟨k', r, hexec, hcomputed, hr⟩ := h.exec_intElements hop hfmt hpaid hknown hf
  rw [orFlags_zero] at hcomputed
  exact ⟨k', r, hexec, hcomputed, hr⟩

/-- Operations that saturate, with SAT where an active element lies outside its format (R58). -/
theorem VecRow.exec_intSaturates {f : Int → Int → Int}
    (hf : ∀ n a b d imm, intElem op n a b d imm = some (saturate n (f (sext n a) (sext n b)))) :
    ∃ (k' : Core) (r : VecData), exec i s = .next (s.withCore c k') ∧
      k.Computed k' o [⟨k.beat + 3, .reg o.vd, r, k.resultMask o⟩] 1 o.fmt.count
        (if (k.active o o.fmt.count).any fun e => outOf o.fmt.width (f (sext o.fmt.width ((elems o.fmt (k.vreg o.va)).getD e 0))
          (sext o.fmt.width ((elems o.fmt (k.vreg o.vb)).getD e 0))) then fSat else 0) ∧
      ∀ e ∈ k.active o o.fmt.count, (elems o.fmt r).getD e 0 = satTo o.fmt.width
        (f (sext o.fmt.width ((elems o.fmt (k.vreg o.va)).getD e 0)) (sext o.fmt.width ((elems o.fmt (k.vreg o.vb)).getD e 0))) := by
  obtain ⟨k', r, hexec, hcomputed, hr⟩ := h.exec_intElements hop hfmt hpaid hknown
    (f := fun a b _ => satTo o.fmt.width (f (sext o.fmt.width a) (sext o.fmt.width b)))
    (fl := fun a b => if outOf o.fmt.width (f (sext o.fmt.width a) (sext o.fmt.width b)) then fSat else 0)
    fun a b d _ _ => ⟨by rw [hf, saturate_eq], satTo_lt o.fmt.width_pos _⟩
  rw [orFlags_map_flagIf] at hcomputed
  exact ⟨k', r, hexec, hcomputed, hr⟩

end integer

/-- SHR of an element that lies within its format. -/
theorem intElem_shr {n a : Nat} (ha : a < 2 ^ n) (b d imm : Nat) : intElem 0x11 n a b d imm = some (a / 2 ^ (imm % n), 0) := by
  rw [intElem, Nat.mod_eq_of_lt ha]

/-- Settles O13: each integer operation is its arm of `intElem`, and its value lies within the format. -/
theorem vectorIntegerElements : Obligations.VectorIntegerElements := by
  unfold Obligations.VectorIntegerElements
  intro c w s h k o hfmt hpaid wd out sat va vb vc on gives saturates
  have quiet {i : Instr} (op : Nat) {f : Nat → Nat → Nat → Nat} (hi : exec i s = .next (s.vecSlot c op w))
      (hf : ∀ a b d, a < 2 ^ wd → b < 2 ^ wd → intElem op wd a b d o.imm = some (f a b d, 0) ∧ f a b d < 2 ^ wd)
      (hop : op < 0x20 := by decide) (hknown : ∀ n, (intElem op n 0 0 0 0).isNone = false := by exact fun _ => rfl) : gives i f 0 :=
    VecRow.exec_intQuiet ⟨hi, h, rfl, rfl⟩ hop hfmt hpaid hknown hf
  have wraps {i : Instr} (op : Nat) {f : Nat → Nat → Nat → Int} (hi : exec i s = .next (s.vecSlot c op w))
      (hf : ∀ a b d, intElem op wd a b d o.imm = some (wrapInt wd (f a b d), 0))
      (hop : op < 0x20 := by decide) (hknown : ∀ n, (intElem op n 0 0 0 0).isNone = false := by exact fun _ => rfl) :
      gives i (fun a b d => wrapInt wd (f a b d)) 0 :=
    quiet op hi (fun a b d _ _ => ⟨hf a b d, wrapInt_lt wd _⟩) hop hknown
  have sats {i : Instr} (op : Nat) {f : Int → Int → Int} (hi : exec i s = .next (s.vecSlot c op w))
      (hf : ∀ n a b d imm, intElem op n a b d imm = some (saturate n (f (sext n a) (sext n b))))
      (hop : op < 0x20 := by decide) (hknown : ∀ n, (intElem op n 0 0 0 0).isNone = false := by exact fun _ => rfl) : saturates i f :=
    VecRow.exec_intSaturates ⟨hi, h, rfl, rfl⟩ hop hfmt hpaid hknown hf
  have hmin : ∀ {p : Prop} [Decidable p] {a b : Nat}, a < 2 ^ wd → b < 2 ^ wd → (if p then b else a) < 2 ^ wd := fun ha hb => by
    split
    · exact hb
    · exact ha
  exact ⟨wraps 0x01 rfl fun _ _ _ => rfl, wraps 0x02 rfl fun _ _ _ => rfl, wraps 0x03 rfl fun _ _ _ => rfl,
    wraps 0x04 rfl fun _ _ _ => rfl, wraps 0x05 rfl fun _ _ _ => rfl, wraps 0x06 rfl fun _ _ _ => rfl,
    sats 0x08 rfl fun _ _ _ _ _ => rfl, sats 0x09 rfl fun _ _ _ _ _ => rfl, sats 0x0A rfl fun _ _ _ _ _ => rfl,
    quiet 0x10 rfl fun _ _ _ _ _ => ⟨rfl, Nat.mod_lt _ (Nat.two_pow_pos wd)⟩,
    quiet 0x11 rfl fun _ b d ha _ => ⟨intElem_shr ha b d o.imm, (Nat.div_le_self ..).trans_lt ha⟩,
    wraps 0x12 rfl fun _ _ _ => rfl,
    quiet 0x13 rfl fun a _ _ _ hb => ⟨rfl, Nat.and_lt_two_pow a hb⟩,
    quiet 0x14 rfl fun _ _ _ ha hb => ⟨rfl, Nat.or_lt_two_pow ha hb⟩,
    quiet 0x15 rfl fun _ _ _ ha hb => ⟨rfl, Nat.xor_lt_two_pow ha hb⟩,
    quiet 0x18 rfl fun _ _ _ ha hb => ⟨rfl, hmin ha hb⟩, quiet 0x19 rfl fun _ _ _ ha hb => ⟨rfl, hmin ha hb⟩⟩

end Sys2Proof.Machine
end

section
/-! Floating-point elements (R82, R124, R524). -/

namespace Sys2Proof.Machine

/-- One floating-point result: rounded once, with NAN_IN where a source is NaN and NV where the result alone is (R82). -/
theorem fpResult_eq (ff : FloatFmt) (mode : RMode) (r : Nat) (sat : Bool) (ins : List Val) (v : Val) :
    fpResult ff mode r sat ins v = ((ff.round mode r sat v).1,
      (ff.round mode r sat v).2 ||| (if ins.any Val.isNan then fNanIn else if v.isNan then fNv else 0)) := by
  unfold fpResult flagIf
  cases ins.any Val.isNan <;> cases v.isNan <;> simp

theorem elemOp_float {f : Fmt} {ff : FloatFmt} (hf : f = .fp64 ∨ f = .fp32 ∨ f = .bf16 ∨ f = .fp16) (hff : f.float? = some ff)
    (op : Nat) (mode : RMode) (r a b d imm : Nat) : elemOp op f mode r a b d imm = floatElem op ff mode r a b d := by
  rcases hf with rfl | rfl | rfl | rfl <;> cases hff <;> rfl

/-- An element-wise instruction of a floating-point format leaves its operation's exact result `v` of the sources, rounded once by `mode`
with the random word `draw` of its own (R82, R124, R524). -/
theorem VecRow.exec_floatElements {s : State} {c : CoreId} {i : Instr} {op : Nat} {w : BitVec 64} {k : Core} {o : VOp}
    (h : VecRow s c i op w k o) (hop : op < 0x20) {ff : FloatFmt} (hfmt : o.fmt = .fp64 ∨ o.fmt = .fp32 ∨ o.fmt = .bf16 ∨ o.fmt = .fp16)
    (hff : o.fmt.float? = some ff) (hpaid : 16 ≤ k.guardLu) {ins : Val → Val → Val → List Val} {mode : RMode} {draw : Nat → Nat}
    {v : Val → Val → Val → Val}
    (hf : ∀ r a b d, floatElem op ff o.mode r a b d =
      some (fpResult ff mode (draw r) false (ins (ff.decode a) (ff.decode b) (ff.decode d)) (v (ff.decode a) (ff.decode b) (ff.decode d)))) :
    let va (e : Nat) : Val := ff.decode ((elems o.fmt (k.vreg o.va)).getD e 0)
    let vb (e : Nat) : Val := ff.decode ((elems o.fmt (k.vreg o.vb)).getD e 0)
    let vc (e : Nat) : Val := ff.decode ((elems o.fmt (k.vreg o.vc)).getD e 0)
    ∃ (k' : Core) (r : VecData), exec i s = .next (s.withCore c k') ∧
      k.Computed k' o [⟨k.beat + 3, .reg o.vd, r, k.resultMask o⟩] 1 o.fmt.count
        (orFlags ((k.active o o.fmt.count).map fun e => (ff.round mode (draw (k.randomWord c.v o e)) false (v (va e) (vb e) (vc e))).2 |||
          (if (ins (va e) (vb e) (vc e)).any Val.isNan then fNanIn else if (v (va e) (vb e) (vc e)).isNan then fNv else 0))) ∧
      ∀ e ∈ k.active o o.fmt.count, (elems o.fmt r).getD e 0 =
        (ff.round mode (draw (k.randomWord c.v o e)) false (v (va e) (vb e) (vc e))).1 % 2 ^ o.fmt.width := by
  intro va vb vc
  have hone : ∀ e, k.elementOp c.v o op e =
      fpResult ff mode (draw (k.randomWord c.v o e)) false (ins (va e) (vb e) (vc e)) (v (va e) (vb e) (vc e)) := fun e => by
    rw [Core.elementOp, elemOp_float hfmt hff, hf, Option.getD_some]
  obtain ⟨k', r, hexec, hcomputed, hr⟩ := h.exec_elementwise hop hpaid (by rw [elemOp_float hfmt hff, hf]; rfl)
  simp only [hone, fpResult_eq] at hcomputed hr
  exact ⟨k', r, hexec, hcomputed, hr⟩

/-- Settles O14: each floating-point operation is its arm of `floatElem`. -/
theorem vectorFloatElements : Obligations.VectorFloatElements := by
  unfold Obligations.VectorFloatElements
  intro c w s ff h k o hfmt hff hpaid rdn word va vb vc on gives
  have row {i : Instr} (op : Nat) (hi : exec i s = .next (s.vecSlot c op w)) : VecRow s c i op w k o := ⟨hi, h, rfl, rfl⟩
  have rounds {i : Instr} (op : Nat) (hi : exec i s = .next (s.vecSlot c op w)) (ins : Val → Val → Val → List Val)
      (v : Val → Val → Val → Val) (hf : ∀ r a b d, floatElem op ff o.mode r a b d =
        some (fpResult ff o.mode r false (ins (ff.decode a) (ff.decode b) (ff.decode d)) (v (ff.decode a) (ff.decode b) (ff.decode d))))
      (hop : op < 0x20 := by decide) : gives i (fun e => ins (va e) (vb e) (vc e)) o.mode word (fun e => v (va e) (vb e) (vc e)) :=
    (row op hi).exec_floatElements hop hfmt hff hpaid (draw := id) hf
  exact ⟨rounds 0x01 rfl (fun x y _ => [x, y]) (fun x y _ => Val.add rdn x y) fun _ _ _ _ => rfl,
    rounds 0x02 rfl (fun x y _ => [x, y]) (fun x y _ => Val.add rdn x y.negate) fun _ _ _ _ => rfl,
    rounds 0x03 rfl (fun x y _ => [x, y]) (fun x y _ => Val.mul x y) fun _ _ _ _ => rfl,
    rounds 0x04 rfl (fun x y z => [x, y, z]) (fun x y z => Val.add rdn (Val.mul x y) z) fun _ _ _ _ => rfl,
    rounds 0x05 rfl (fun x _ _ => [x]) (fun x _ _ => x.negate) fun _ _ _ _ => rfl,
    rounds 0x06 rfl (fun x _ _ => [x]) (fun x _ _ => x.abs) fun _ _ _ _ => rfl,
    (row 0x18 rfl).exec_floatElements (by decide) hfmt hff hpaid (draw := fun _ => 0) (ins := fun x y _ => [x, y])
      (v := fun x y _ => Val.min x y) fun _ _ _ _ => rfl,
    (row 0x19 rfl).exec_floatElements (by decide) hfmt hff hpaid (draw := fun _ => 0) (ins := fun x y _ => [x, y])
      (v := fun x y _ => Val.max x y) fun _ _ _ _ => rfl⟩

end Sys2Proof.Machine
end

section
/-! The formats that a class refuses (R138). -/

namespace Sys2Proof.Machine

/-- Saturating, shift and logic operations have no floating-point arm. -/
theorem elemOp_isNone_of_not_vecInt {f : Fmt} (hf : f.isVecInt = false) {op : Nat}
    (hop : ∀ ff mode r a b d, floatElem op ff mode r a b d = none) (mode : RMode) : (elemOp op f mode 0 0 0 0 0).isNone = true := by
  revert hf
  cases f <;> simp [elemOp, Fmt.isVecInt, hop]

theorem elemOp_isNone_of_not_arith {f : Fmt} (hf : f.isArith = false) (op : Nat) (mode : RMode) :
    (elemOp op f mode 0 0 0 0 0).isNone = true := by
  revert hf
  cases f <;> simp [elemOp, Fmt.isArith, Fmt.isVecInt]

theorem vecCompare_refused {k : Core} {o : VOp} (h : o.fmt.isArith = false) : vecCompare k o = .event 0x1203 0 := by
  rw [vecCompare, h]
  rfl

theorem vecReduce_refused {k : Core} {o : VOp} (h : o.fmt.isArith = false) : vecReduce k o = .event 0x1203 0 := by
  rw [vecReduce, h]
  rfl

theorem vecSpecial_refused {k : Core} {o : VOp} (h : o.fmt.isArith = false ∨ o.fmt.isVecInt = true) (v : Nat) :
    vecSpecial k v o = .event 0x1203 0 := by
  unfold vecSpecial
  revert h
  cases o.fmt <;> cases specialOf o.vop <;> simp [Fmt.isArith, Fmt.isVecInt]

/-- Settles O15: a class without a meaning for the format answers event 0x1203. -/
theorem vectorFormatRefused : Obligations.VectorFormatRefused := by
  unfold Obligations.VectorFormatRefused
  intro c w s h o refused
  have row {i : Instr} (op : Nat) (hi : exec i s = .next (s.vecSlot c op w)) : VecRow s c i op w (s.slotCore c) o := ⟨hi, h, rfl, rfl⟩
  have elementwise {i : Instr} (op : Nat) (hi : exec i s = .next (s.vecSlot c op w))
      (hno : (elemOp op o.fmt o.mode 0 0 0 0 0).isNone = true) (hop : op < 0x20 := by decide) : refused i :=
    (row op hi).exec_elementwise_refused hop hno
  have compare {i : Instr} (op : Nat) (hi : exec i s = .next (s.vecSlot c op w)) (hno : o.fmt.isArith = false)
      (hlo : 0x20 ≤ op := by decide) (hhi : op < 0x25 := by decide) : refused i :=
    (row op hi).exec_event ((Core.issueVec_compare _ _ _ hlo hhi).trans (congrArg (applyRes _) (vecCompare_refused (o := { o with vop := op }) hno)))
  have reduce {i : Instr} (op : Nat) (hi : exec i s = .next (s.vecSlot c op w)) (hno : o.fmt.isArith = false)
      (hlo : 0x48 ≤ op := by decide) (hhi : op ≤ 0x4A := by decide) : refused i :=
    (row op hi).exec_event ((Core.issueVec_reduce _ _ _ hlo hhi).trans (congrArg (applyRes _) (vecReduce_refused (o := { o with vop := op }) hno)))
  have special {i : Instr} (op : Nat) (hi : exec i s = .next (s.vecSlot c op w)) (hno : o.fmt.isArith = false ∨ o.fmt.isVecInt = true)
      (hlo : 0x38 ≤ op := by decide) (hhi : op ≤ 0x41 := by decide) : refused i :=
    (row op hi).exec_event ((Core.issueVec_special _ _ _ hlo hhi).trans (congrArg (applyRes _) (vecSpecial_refused (o := { o with vop := op }) hno c.v)))
  refine ⟨fun hf => ?_, fun hf => ?_, fun hf => ?_⟩
  · have no {op : Nat} (hop : ∀ ff mode r a b d, floatElem op ff mode r a b d = none) := elemOp_isNone_of_not_vecInt hf hop o.mode
    exact ⟨elementwise 0x08 rfl (no fun _ _ _ _ _ _ => rfl), elementwise 0x09 rfl (no fun _ _ _ _ _ _ => rfl),
      elementwise 0x0A rfl (no fun _ _ _ _ _ _ => rfl), elementwise 0x10 rfl (no fun _ _ _ _ _ _ => rfl),
      elementwise 0x11 rfl (no fun _ _ _ _ _ _ => rfl), elementwise 0x12 rfl (no fun _ _ _ _ _ _ => rfl),
      elementwise 0x13 rfl (no fun _ _ _ _ _ _ => rfl), elementwise 0x14 rfl (no fun _ _ _ _ _ _ => rfl),
      elementwise 0x15 rfl (no fun _ _ _ _ _ _ => rfl)⟩
  · have no (op : Nat) := elemOp_isNone_of_not_arith hf op o.mode
    exact ⟨elementwise 0x01 rfl (no _), elementwise 0x02 rfl (no _), elementwise 0x03 rfl (no _), elementwise 0x04 rfl (no _),
      elementwise 0x05 rfl (no _), elementwise 0x06 rfl (no _), elementwise 0x18 rfl (no _), elementwise 0x19 rfl (no _),
      compare 0x20 rfl hf, compare 0x21 rfl hf, compare 0x22 rfl hf, compare 0x23 rfl hf, compare 0x24 rfl hf,
      reduce 0x48 rfl hf, reduce 0x49 rfl hf, reduce 0x4A rfl hf⟩
  · exact ⟨special 0x38 rfl hf, special 0x39 rfl hf, special 0x3A rfl hf, special 0x3B rfl hf, special 0x3C rfl hf,
      special 0x3D rfl hf, special 0x3E rfl hf, special 0x3F rfl hf, special 0x40 rfl hf, special 0x41 rfl hf⟩

end Sys2Proof.Machine
end

section
/-! Compares (R80, R81, R82, R120). -/

namespace Sys2Proof.Machine

/-! ### Mask bits -/

/-- A word joined of single bits has each at its place. -/
theorem testBit_joinBits_one (l : List Bool) (e : Nat) : (joinBits 1 (l.map b2n)).testBit e = l.getD e false := by
  have hfield := bits_joinBits 1 (l.map b2n) e
  rw [Nat.one_mul, bits, Nat.shiftRight_eq_div_pow, Nat.pow_one] at hfield
  rw [Nat.testBit_eq_decide_div_mod_eq, hfield, show (0 : Nat) = b2n false from rfl, List.getD_map]
  cases l.getD e false <;> rfl

theorem testBit_ofNat_joinBits_one {size : Nat} {l : List Bool} (h : l.length ≤ size) (e : Nat) :
    bit (BitVec.ofNat size (joinBits 1 (l.map b2n))).toNat e = l.getD e false := by
  have hlt : joinBits 1 (l.map b2n) < 2 ^ size :=
    (joinBits_lt 1 (l.map b2n)).trans_le (Nat.pow_le_pow_right (by decide) (by simpa using h))
  rw [bit, BitVec.toNat_ofNat, Nat.mod_eq_of_lt hlt, testBit_joinBits_one]

/-! ### Compares -/

/-- Bit e of a compare and its flags: the comparison of an active element, the mask register's own bit of an inactive one (R82, R120). -/
def Core.compareAt (k : Core) (o : VOp) (op e : Nat) : Bool × Flags :=
  let x := o.fmt.decode ((elems o.fmt (k.vreg o.va)).getD e 0)
  let y := o.fmt.decode ((elems o.fmt (k.vreg o.vb)).getD e 0)
  if (activeUnits o.msk (k.mreg o.mreg) o.fmt.count).getD e false then (compareVal op x y, flagIf (x.isNan || y.isNan) fNanIn)
  else (bit (k.mreg o.mreg).toNat e, 0)

/-- What a compare answers (R120). -/
def Core.compareOut (k : Core) (o : VOp) (op : Nat) : VOut :=
  ⟨[(3, .mask o.mreg, BitVec.ofNat 2048 (joinBits 1 (((List.range o.fmt.count).map fun e => (k.compareAt o op e).1).map b2n)),
    BitVec.allOnes 256)], 1, orFlags ((List.range o.fmt.count).map fun e => (k.compareAt o op e).2), 0⟩

theorem vecCompare_ok {k : Core} {o : VOp} (h : o.fmt.isArith = true) : vecCompare k o = .ok (k.compareOut o o.vop) := by
  simp only [vecCompare, h, Core.compareOut, foldl_or_map, List.map_map]
  rfl

/-- NAN_IN where an active element of either source is NaN (R82). -/
theorem Core.compareOut_flags (k : Core) (o : VOp) (op : Nat) : (k.compareOut o op).flags =
    if (k.active o o.fmt.count).any (fun e => (o.fmt.decode ((elems o.fmt (k.vreg o.va)).getD e 0)).isNan ||
      (o.fmt.decode ((elems o.fmt (k.vreg o.vb)).getD e 0)).isNan) then fNanIn else 0 := by
  rw [← orFlags_map_flagIf, ← Core.orFlags_active]
  exact congrArg orFlags (List.map_congr_left fun e _ => apply_ite Prod.snd ..)

theorem Core.compareAt_fst (k : Core) (o : VOp) (op : Nat) {e : Nat} (he : e < o.fmt.count) : (k.compareAt o op e).1 =
    if o.msk = true ∧ bit (k.mreg o.mreg).toNat e = false then bit (k.mreg o.mreg).toNat e
    else compareVal op (o.fmt.decode ((elems o.fmt (k.vreg o.va)).getD e 0)) (o.fmt.decode ((elems o.fmt (k.vreg o.vb)).getD e 0)) := by
  unfold Core.compareAt
  rw [activeUnits_getD _ _ he]
  cases o.msk <;> cases bit (k.mreg o.mreg).toNat e <;> simp

theorem Fmt.count_le_of_isArith {f : Fmt} (h : f.isArith = true) : f.count ≤ 2048 := by
  revert h
  cases f <;> decide

/-- Settles O16: each compare is its arm of `compareVal`. -/
theorem vectorCompares : Obligations.VectorCompares := by
  unfold Obligations.VectorCompares
  intro c w s h k o hfmt hpaid va vb nan gives
  have compares {i : Instr} (op : Nat) (hi : exec i s = .next (s.vecSlot c op w)) (p : Val → Val → Bool)
      (hp : ∀ x y, compareVal op x y = p x y) (hlo : 0x20 ≤ op := by decide) (hhi : op < 0x25 := by decide) : gives i p := by
    have hrow : VecRow s c i op w k o := ⟨hi, h, rfl, rfl⟩
    have hexec := hrow.exec_computed ((Core.issueVec_compare _ _ _ hlo hhi).trans
      (congrArg (applyRes k) (vecCompare_ok (o := { o with vop := op }) hfmt))) hpaid
    have hspec := k.computed_spec (o := o) (out := k.compareOut o op) (n := 0) (ite_self 0).symm
    rw [Core.compareOut_flags] at hspec
    have hlen : ((List.range o.fmt.count).map fun e => (k.compareAt o op e).1).length ≤ 2048 := by
      rw [List.length_map, List.length_range]
      exact Fmt.count_le_of_isArith hfmt
    refine ⟨_, _, hexec, hspec, fun e he => ?_, fun e he => ?_⟩
    · rw [testBit_ofNat_joinBits_one hlen, List.getD_eq_getElem _ _ (by simpa using he), List.getElem_map, List.getElem_range,
        Core.compareAt_fst _ _ _ he, hp]
    · rw [testBit_ofNat_joinBits_one hlen, List.getD_eq_default _ _ (by simpa using he)]
  exact ⟨compares 0x20 rfl _ fun _ _ => rfl, compares 0x21 rfl _ fun _ _ => rfl, compares 0x22 rfl _ fun _ _ => rfl,
    compares 0x23 rfl _ fun _ _ => rfl, compares 0x24 rfl _ fun _ _ => rfl⟩

end Sys2Proof.Machine
end

section
/-! SEL (R120, R124) and the packing of units (R131, R132). -/

namespace Sys2Proof.Machine

/-! ### Bytes under a mask -/

/-- A byte mask has the bits of a unit set where the unit is active (R120). -/
theorem testBit_byteMask {b : Nat} (hb : 0 < b) (l : List Bool) (j : Nat) : (byteMask b l).testBit j = l.getD (j / b) false := by
  induction l generalizing j with
  | nil => simp [byteMask]
  | cons a as ih =>
    have hlow : (if a then 2 ^ b - 1 else 0) < 2 ^ b := by
      have := Nat.two_pow_pos b
      split <;> omega
    rw [byteMask, Nat.add_comm, Nat.testBit_two_pow_mul_add _ hlow, ih]
    by_cases hj : j < b
    · rw [if_pos hj, Nat.div_eq_of_lt hj, List.getD_cons_zero]
      cases a <;> simp [hj]
    · obtain ⟨i, rfl⟩ := Nat.exists_eq_add_of_le (Nat.not_lt.mp hj)
      rw [if_neg hj, Nat.add_sub_cancel_left, Nat.add_div_left _ hb, List.getD_cons_succ]

/-- A bit of merged bytes comes from the new ones where its byte is masked (R120). -/
theorem testBit_mergeBytes (old new mask : Nat) {n i : Nat} (hi : i < 8 * n) :
    (mergeBytes old new mask n).testBit i = if mask.testBit (i / 8) then new.testBit i else old.testBit i := by
  induction n generalizing old new mask i with
  | zero => omega
  | succ n ih =>
    have hlow : (if mask % 2 = 1 then new % 2 ^ 8 else old % 2 ^ 8) < 2 ^ 8 := by split <;> exact Nat.mod_lt _ (Nat.two_pow_pos 8)
    have hstep : mergeBytes old new mask (n + 1) = 2 ^ 8 * mergeBytes (old / 2 ^ 8) (new / 2 ^ 8) (mask / 2) n +
        if mask % 2 = 1 then new % 2 ^ 8 else old % 2 ^ 8 := Nat.add_comm ..
    rw [hstep, Nat.testBit_two_pow_mul_add _ hlow]
    by_cases h8 : i < 8
    · rw [if_pos h8, Nat.div_eq_of_lt h8, Nat.testBit_zero]
      by_cases hmask : mask % 2 = 1 <;> simp [hmask, Nat.testBit_mod_two_pow, h8, -Nat.reducePow]
    · obtain ⟨j, rfl⟩ := Nat.exists_eq_add_of_le (Nat.not_lt.mp h8)
      rw [if_neg h8, Nat.add_sub_cancel_left, ih _ _ _ (by omega), Nat.add_div_left _ (by decide), Nat.testBit_succ,
        Nat.testBit_div_two_pow, Nat.testBit_div_two_pow, Nat.add_comm]

theorem testBit_mergeVec (old new : VecData) (mask : BitVec 256) {i : Nat} (hi : i < 2048) :
    (mergeVec old new mask).toNat.testBit i = if mask.toNat.testBit (i / 8) then new.toNat.testBit i else old.toNat.testBit i := by
  unfold mergeVec
  split
  next hall =>
    have hset : mask.toNat.testBit (i / 8) = true := by
      rw [hall, BitVec.testBit_toNat, BitVec.getLsbD_allOnes, decide_eq_true (by omega)]
    rw [hset, if_pos rfl]
  next =>
    rw [BitVec.testBit_toNat, BitVec.getLsbD_ofNat, decide_eq_true hi, Bool.true_and, testBit_mergeBytes _ _ _ hi]

/-! ### Units of merged and packed vectors -/

theorem Fmt.unitBits_eq (f : Fmt) : f.unitBits = 8 * (f.unitBits / 8) ∧ 0 < f.unitBits / 8 := by cases f <;> decide

/-- A unit of a merged vector comes from the new one where it is active (R120). -/
theorem unitsOf_mergeVec (f : Fmt) (old new : VecData) {act : List Bool} {e : Nat} (he : e < f.units) :
    (unitsOf f (mergeVec old new (BitVec.ofNat 256 (byteMask (f.unitBits / 8) act)))).getD e 0 =
      if act.getD e false then (unitsOf f new).getD e 0 else (unitsOf f old).getD e 0 := by
  obtain ⟨hbits, hbytes⟩ := f.unitBits_eq
  have hsize := f.unitBits_mul_units
  generalize f.unitBits / 8 = b at hbits hbytes ⊢
  have hend : f.unitBits * e + f.unitBits ≤ 2048 := by
    rw [← hsize, ← Nat.mul_succ]
    exact Nat.mul_le_mul_left _ he
  simp only [unitsOf, splitBits_getD _ he, ← apply_ite (fun x : VecData => bits x.toNat (f.unitBits * e) f.unitBits)]
  refine Nat.eq_of_testBit_eq fun i => ?_
  simp only [bits, Nat.testBit_mod_two_pow, Nat.testBit_shiftRight]
  by_cases hi : i < f.unitBits
  · have hplace : (f.unitBits * e + i) / 8 / b = e := by
      rw [Nat.div_div_eq_div_mul, ← hbits, Nat.mul_add_div (by omega), Nat.div_eq_of_lt hi, Nat.add_zero]
    have hmask : (BitVec.ofNat 256 (byteMask b act)).toNat.testBit ((f.unitBits * e + i) / 8) = act.getD e false := by
      rw [BitVec.toNat_ofNat, Nat.testBit_mod_two_pow, testBit_byteMask hbytes, hplace, decide_eq_true (by omega), Bool.true_and]
    rw [testBit_mergeVec _ _ _ (by omega), hmask]
    cases act.getD e false <;> simp
  · simp [hi]

theorem lt_of_mem_splitBits {w n x u : Nat} (h : u ∈ splitBits w n x) : u < 2 ^ w := by
  induction n generalizing x with
  | zero => cases h
  | succ n ih =>
    rcases List.mem_cons.mp h with rfl | h
    · exact Nat.mod_lt _ (Nat.two_pow_pos w)
    · exact ih h

theorem mem_of_mem_packUnits {us : List Nat} {act : List Bool} {u : Nat} (h : u ∈ packUnits us act) : u ∈ us := by
  obtain ⟨p, hp, rfl⟩ := List.mem_map.mp h
  exact (List.of_mem_zip (List.mem_of_mem_filter hp)).1

/-- Packing keeps each unit within its width (R131). -/
theorem packUnits_lt (f : Fmt) (v : VecData) (act : List Bool) (e : Nat) : (packUnits (unitsOf f v) act).getD e 0 < 2 ^ f.unitBits := by
  rw [List.getD_eq_getElem?_getD]
  cases hget : (packUnits (unitsOf f v) act)[e]? with
  | none => exact Nat.two_pow_pos _
  | some u => exact lt_of_mem_splitBits (mem_of_mem_packUnits (List.mem_of_getElem? hget))

/-- EXPAND gives an active place the next unit, and the others 0 (R132). -/
theorem spreadUnits_getD (us : List Nat) (act : List Bool) (e : Nat) :
    (spreadUnits us act).getD e 0 = if act.getD e false then us.getD ((act.take e).countP id) 0 else 0 := by
  induction act generalizing us e with
  | nil => simp [spreadUnits]
  | cons a as ih =>
    cases a <;> cases us <;> cases e <;> simp [spreadUnits, ih, List.getD_cons_zero, List.getD_cons_succ, -List.getD_eq_getElem?_getD]

/-! ### SEL, COMPRESS and EXPAND -/

/-- An instruction that writes all of VD with one vector, three beats on, and raises no flag (R149). -/
def wholeOut (o : VOp) (v : VecData) : VOut := ⟨[(3, .reg o.vd, v, BitVec.allOnes 256)], 1, 0, 0⟩

/-- What SEL leaves (R120, R124). -/
def Core.selected (k : Core) (o : VOp) : VecData :=
  mergeVec (k.vreg o.vb) (k.vreg o.va) (BitVec.ofNat 256 (byteMask (o.fmt.unitBits / 8) (activeUnits true (k.mreg o.mreg) o.fmt.units)))

theorem vecSelect_eq (k : Core) (o : VOp) : vecSelect k o = .ok (wholeOut o (k.selected o)) := rfl

theorem vecPack_compress {k : Core} {o : VOp} (h : o.vop = 0x50) : vecPack k o = .ok (wholeOut o (BitVec.ofNat 2048
    (joinBits o.fmt.unitBits (packUnits (unitsOf o.fmt (k.vreg o.va)) (activeUnits o.msk (k.mreg o.mreg) o.fmt.units))))) := by
  simp only [vecPack, h, if_true]
  rfl

theorem vecPack_expand {k : Core} {o : VOp} (h : o.vop = 0x51) : vecPack k o = .ok (wholeOut o (BitVec.ofNat 2048
    (joinBits o.fmt.unitBits (spreadUnits (unitsOf o.fmt (k.vreg o.va)) (activeUnits o.msk (k.mreg o.mreg) o.fmt.units))))) := by
  simp only [vecPack, h]
  rfl

theorem VecRow.exec_whole {s : State} {c : CoreId} {i : Instr} {op : Nat} {w : BitVec 64} {k : Core} {o : VOp}
    (h : VecRow s c i op w k o) {v : VecData} (hpaid : 16 ≤ k.guardLu)
    (hout : k.issueVec c.v (s.envelopeOk c) { o with vop := op } = applyRes k (.ok (wholeOut o v))) :
    ∃ k' : Core, exec i s = .next (s.withCore c k') ∧ k.Computed k' o [⟨k.beat + 3, .reg o.vd, v, BitVec.allOnes 256⟩] 1 0 0 ∧
      k'.vec.summ = k.vec.summ :=
  ⟨_, h.exec_computed hout hpaid, k.computed_spec (out := wholeOut o v) (ite_self 0).symm, by rw [Core.computed_vec]⟩

/-- Settles O17. SEL goes by MREG whatever MSK says (DEDUCED 33), and takes one beat in every format (DESIGN CHOICE 34). -/
theorem vectorSelectAndPack : Obligations.VectorSelectAndPack := by
  unfold Obligations.VectorSelectAndPack
  intro c w s h k o hpaid on va act gives
  have whole {i : Instr} (op : Nat) (hi : exec i s = .next (s.vecSlot c op w)) {v : VecData} {p : VecData → Prop}
      (hout : k.issueVec c.v (s.envelopeOk c) { o with vop := op } = applyRes k (.ok (wholeOut o v))) (hp : p v) : gives i p := by
    have hrow : VecRow s c i op w k o := ⟨hi, h, rfl, rfl⟩
    obtain ⟨k', hexec, hcomputed, hsumm⟩ := hrow.exec_whole hpaid hout
    exact ⟨k', v, hexec, hcomputed, hsumm, hp⟩
  refine ⟨whole 0x28 rfl (Core.issueVec_select _ _ _ rfl) fun e he => ?_,
    whole 0x50 rfl ((Core.issueVec_pack _ _ _ (.inl rfl)).trans (congrArg _ (vecPack_compress (o := { o with vop := 0x50 }) rfl))) fun e he => ?_,
    whole 0x51 rfl ((Core.issueVec_pack _ _ _ (.inr rfl)).trans (congrArg _ (vecPack_expand (o := { o with vop := 0x51 }) rfl))) fun e he => ?_⟩
  · exact (unitsOf_mergeVec _ _ _ he).trans (by rw [activeUnits_getD _ _ he]; rfl)
  · exact (unitsOf_joinBits _ he _).trans (Nat.mod_eq_of_lt (packUnits_lt ..))
  · refine (unitsOf_joinBits _ he _).trans ((Nat.mod_eq_of_lt ?_).trans (spreadUnits_getD ..))
    rw [spreadUnits_getD]
    split
    · exact unitsOf_lt ..
    · exact Nat.two_pow_pos _

end Sys2Proof.Machine
end

section
/-! The moves of the VMOVE slot, each commanded by itself (R121, R123, R129, R130, R148, R149, R156, R158, R256, DEDUCED 21). -/

namespace Sys2Proof.Machine

/-! ### A VMOVE slot that issues by itself -/

/-- Row `i` commands operation `op` of the VMOVE slot with fields `o`, in a core that can issue it and is then `k` (R148, DEDUCED 21). -/
structure MoveRow (s : State) (c : CoreId) (i : Instr) (op : Nat) (w : BitVec 64) (k : Core) (o : VOp) : Prop where
  row    : exec i s = .next (s.moveSlot c op w)
  ready  : s.slotReady c
  core   : s.slotCore c = k
  fields : k.fieldsOf w = o

theorem slotCharge_vmove (k d : Core) (w : BitVec 64) : slotCharge k d (.vmove w) = 4 := rfl

namespace MoveRow

variable {s : State} {c : CoreId} {i : Instr} {op : Nat} {w : BitVec 64} {k : Core} {o : VOp} (h : MoveRow s c i op w k o)
include h

/-- What the row of a VMOVE slot answers. -/
theorem exec_eq : exec i s = .next (s.finish c false (k.charged (.vmove w) (k.issueMove (s.envelopeOk c) { o with vop := op }))) := by
  obtain ⟨hrow, hready, rfl, rfl⟩ := h
  exact hrow.trans (congrArg Host.Outcome.next (State.slot_of_ready hready (.vmove w)
    fun k => k.issueMove (s.envelopeOk c) { VOp.ofSyl (effVec k.ex w) with vop := op }))

/-- A move whose charge the bucket holds is made (R352). -/
theorem exec_ok {d : Core} (hout : k.issueMove (s.envelopeOk c) { o with vop := op } = .ok d) (hpaid : 4 ≤ k.guardLu) :
    exec i s = .next (s.withCore c { d with guardLu := k.guardLu - 4 }) := by
  rw [h.exec_eq, hout, Core.charged_paid (slotCharge_vmove ..) hpaid]
  rfl

/-- One that waits changes nothing. -/
theorem exec_wait {x : WaitKind} {n : Nat} (hout : k.issueMove (s.envelopeOk c) { o with vop := op } = .wait x n) :
    exec i s = .next s := by
  rw [h.exec_eq, hout]
  rfl

/-- One that raises an event ends the run with it. -/
theorem exec_event {e n : Nat} (hout : k.issueMove (s.envelopeOk c) { o with vop := op } = .event e n) :
    exec i s = .next (s.coreFault c e n false) := by
  rw [h.exec_eq, hout, Core.charged_event]
  rfl

end MoveRow

/-! ### Loads and stores -/

/-- A move of one vector is on its way for two beats and occupies its path for one (R149). -/
theorem MoveRow.exec_vector {s : State} {c : CoreId} {i : Instr} {op : Nat} {w : BitVec 64} {k : Core} {o : VOp}
    (h : MoveRow s c i op w k o) (hpaid : 4 ≤ k.guardLu) {tgt : VTarget} {v : VecData}
    (hout : k.issueMove (s.envelopeOk c) { o with vop := op } = .ok (k.applyMove [(2, tgt, v, BitVec.allOnes 256)] 1)) :
    ∃ k' : Core, exec i s = .next (s.withCore c k') ∧ k'.vec.pend = k.vec.pend ++ [⟨k.beat + 2, tgt, v, BitVec.allOnes 256⟩] ∧
      k'.vec.freeM = k.beat + 1 :=
  ⟨_, h.exec_ok hout hpaid, rfl, rfl⟩

/-- Settles O21. A result is written under the full mask, whatever MSK says (DEDUCED 56). -/
theorem vectorLoadsAndStores : Obligations.VectorLoadsAndStores := by
  unfold Obligations.VectorLoadsAndStores
  intro c w s h k o hpaid store vb side moves
  have row {i : Instr} (op : Nat) (hi : exec i s = .next (s.moveSlot c op w)) : MoveRow s c i op w k o := ⟨hi, h, rfl, rfl⟩
  exact ⟨(row 0x80 rfl).exec_vector hpaid rfl, (row 0x81 rfl).exec_vector hpaid rfl, (row 0x82 rfl).exec_vector hpaid rfl,
    (row 0x83 rfl).exec_vector hpaid rfl⟩

/-! ### The sound -/

section sound

variable {k : Core} {o : VOp} {d : DrainTile} {rest : List DrainTile}

theorem Core.spop_empty (h : k.row.sound = []) : k.spopW o = .wait .soundEmpty 0 ∧ k.spopP o = .wait .soundEmpty 0 := by
  rw [Core.spopW, Core.spopP, h]
  exact ⟨rfl, rfl⟩

variable (hsound : k.row.sound = d :: rest)
include hsound

theorem Core.spop_tag_ne (h : d.tag.toNat ≠ o.fmt.tag) : k.spopW o = .event 0x1201 0 ∧ k.spopP o = .event 0x1201 0 := by
  rw [Core.spopW, Core.spopP, hsound]
  exact ⟨if_pos h, if_pos h⟩

variable (htag : d.tag.toNat = o.fmt.tag)
include htag

theorem Core.spopW_widened {vs : List VecData} (h : widenTile d = some vs) : k.spopW o = .ok (k.deliver d o.vd vs) := by
  simp only [Core.spopW, hsound, if_neg (not_not.mpr htag), h]

theorem Core.spopW_not_taken (h : widenTile d = none) : k.spopW o = .event 0x1201 0 := by
  simp only [Core.spopW, hsound, if_neg (not_not.mpr htag), h]

theorem Core.spopP_bytes : k.spopP o = .ok (k.deliver d o.vd
    ((List.range ((d.bytes + 255) / 256)).map fun j => BitVec.ofNat 2048 (d.data / 2 ^ (2048 * j)))) := by
  simp only [Core.spopP, hsound, if_neg (not_not.mpr htag)]

end sound

/-- What a pop of tile `d`, with `rest` behind it, leaves of core `k` where it delivers `vs` from register `vd` on (R129, R130). -/
def Core.Popped (k k' : Core) (d : DrainTile) (rest : List DrainTile) (vd : Nat) (vs : List VecData) : Prop :=
  k'.row.sound = rest ∧ k'.vec.origCube = d.cube ∧ k'.vec.origSlot = d.slot ∧ k'.vec.freeM = k.beat + vs.length ∧
    k'.row.freeing = k.row.freeing ++ [(k.beat + vs.length - 1, d.bytes)] ∧
    k'.vec.pend = k.vec.pend ++ (List.range vs.length).map fun j =>
      ⟨k.beat + (vs.length + 1), .reg ((vd + j) % 32), vs.getD j 0, BitVec.allOnes 256⟩

theorem Core.deliver_popped {k : Core} {d : DrainTile} {rest : List DrainTile} (h : k.row.sound = d :: rest) (vd : Nat)
    (vs : List VecData) (lu : Nat) : k.Popped { k.deliver d vd vs with guardLu := lu } d rest vd vs :=
  ⟨congrArg List.tail h, rfl, rfl, rfl, rfl, congrArg (k.vec.pend ++ ·) (List.map_map ..)⟩

/-! ### Queues -/

@[simp] theorem Core.raise_vec (k : Core) (beat : Nat) (f : Flags) : (k.raise beat f).vec = k.vec := by
  unfold Core.raise
  split <;> rfl

@[simp] theorem Core.raise_beat (k : Core) (beat : Nat) (f : Flags) : (k.raise beat f).beat = k.beat := by
  unfold Core.raise
  split <;> rfl

section pop

variable {k : Core} {n : Nat} {e : QEntry} {rest : List QEntry} (h : (k.queue n).entries = e :: rest)
include h

theorem Core.popEntry_eq : k.popEntry n =
    (k.setQueue n { k.queue n with entries := rest, popped := (k.queue n).popped + 1, taken := 0 }).raise k.beat e.flags := by
  rw [Core.popEntry, h]

/-- A pop leaves the vector engine and the beat. -/
theorem Core.popEntry_vec : (k.popEntry n).vec = k.vec ∧ (k.popEntry n).beat = k.beat := by
  rw [Core.popEntry_eq h, Core.raise_vec, Core.raise_beat]
  exact ⟨rfl, rfl⟩

theorem Core.popEntry_queue (hwf : Sparse.wf Queue.blank k.queues = true) :
    (k.popEntry n).queue n = { k.queue n with entries := rest, popped := (k.queue n).popped + 1, taken := 0 } := by
  rw [Core.popEntry_eq h, Core.raise_queue, Core.queue_setQueue k hwf, if_pos rfl]

/-- A data pop that meets a marker is an underflow (R158). -/
theorem Core.headData_marked (x : WaitKind) (hc : k.cancelHolds n = false) (hm : e.mark ≠ none) : k.headData n x = .event 0x1303 n := by
  rw [Core.headData, h]
  simp [hc, Option.isSome_iff_ne_none.mpr hm]

theorem Core.headData_unmarked (x : WaitKind) (hc : k.cancelHolds n = false) (hm : e.mark = none) : k.headData n x = .ok e := by
  rw [Core.headData, h]
  simp [hc, hm]

end pop

theorem Core.headData_empty {k : Core} {n : Nat} (h : (k.queue n).entries = []) (x : WaitKind) : k.headData n x = .wait x n := by
  rw [Core.headData, h]

/-! ### Pushes (R156, R249, R256) -/

/-- Whether an outbound queue takes an entry of an envelope: any entry, or for a message queue one whose envelope is valid (R256). -/
def Core.takes (k : Core) (env : Nat → Option Nat) (n e : Nat) : Prop := (k.queue n).farEnd = 2 → (env (e % 256)).isSome = true

section push

variable {k : Core} {env : Nat → Option Nat} {n : Nat} {e : QEntry}

theorem Core.pushOq_invalid (h : ¬k.takes env (16 + n % 16) e.env) : k.pushOq env n e = .event 0x3101 (16 + n % 16) := by
  obtain ⟨hfar, hno⟩ := Classical.not_imp.mp h
  rw [Core.pushOq, if_pos hfar, Option.not_isSome_iff_eq_none.mp hno]

variable (h : k.takes env (16 + n % 16) e.env)
include h

theorem Core.pushOq_full (hroom : (k.queue (16 + n % 16)).room = 0) : k.pushOq env n e = .wait .queueFull (16 + n % 16) := by
  unfold Core.pushOq
  by_cases hfar : (k.queue (16 + n % 16)).farEnd = 2
  · obtain ⟨cls, hcls⟩ := Option.isSome_iff_exists.mp (h hfar)
    simp only [hfar, hcls, hroom, if_true]
  · simp only [if_neg hfar, hroom, if_true]

/-- A queue with room takes the entry behind those it holds, with the number of the operation that it is of a message queue (R249). -/
theorem Core.pushOq_room (hwf : Sparse.wf Queue.blank k.queues = true) (hroom : (k.queue (16 + n % 16)).room ≠ 0) :
    ∃ (d : Core) (e' : QEntry), k.pushOq env n e = .ok d ∧ { e' with op := 0 } = { e with op := 0 } ∧ d.vec = k.vec ∧
      d.queue (16 + n % 16) = { k.queue (16 + n % 16) with
        entries := (k.queue (16 + n % 16)).entries ++ [e'], pushed := (k.queue (16 + n % 16)).pushed + 1 } := by
  unfold Core.pushOq
  by_cases hfar : (k.queue (16 + n % 16)).farEnd = 2
  · obtain ⟨cls, hcls⟩ := Option.isSome_iff_exists.mp (h hfar)
    simp only [hfar, hcls, if_neg hroom, if_true]
    exact ⟨_, { e with op := k.nextOp }, rfl, rfl, rfl, (Core.queue_setQueue k hwf ..).trans (if_pos rfl)⟩
  · simp only [if_neg hfar, if_neg hroom]
    exact ⟨_, e, rfl, rfl, rfl, (Core.queue_setQueue k hwf ..).trans (if_pos rfl)⟩

end push

/-! ### SPOP, QPOP and QPUSH -/

/-- The entry that a QPUSH puts into its queue (R148, R149). -/
def Core.pushedEntry (k : Core) (o : VOp) : QEntry := entryOf (k.vreg o.va) o.fmt o.fmt.count o.imm (k.clock + 2)

theorem Core.issueMove_qpop (k : Core) (env : Nat → Option Nat) (o : VOp) : k.issueMove env { o with vop := 0x86 } =
    (k.headData (o.aux % 16) .queueEmpty).bind fun e => .ok ((k.popEntry (o.aux % 16)).applyMove
      [(2, .reg o.vd, twoLines (e.lines.headD 0) ((e.lines.drop 1).headD 0), BitVec.allOnes 256)] 1) := rfl

theorem Core.issueMove_qpush (k : Core) (env : Nat → Option Nat) (o : VOp) : k.issueMove env { o with vop := 0x87 } =
    (k.pushOq env o.aux (k.pushedEntry o)).bind fun d => .ok (d.applyMove [] 1) := rfl

section queueMoves

variable {s : State} {c : CoreId} {i : Instr} {w : BitVec 64} {k : Core} {o : VOp}

/-- SPOP.W of a tile that the form takes, and SPOP.P of any. -/
theorem MoveRow.exec_popped {op : Nat} (h : MoveRow s c i op w k o) {d : DrainTile} {rest : List DrainTile} {vs : List VecData}
    (hpaid : 4 ≤ k.guardLu) (hsound : k.row.sound = d :: rest)
    (hout : k.issueMove (s.envelopeOk c) { o with vop := op } = .ok (k.deliver d o.vd vs)) :
    ∃ k' : Core, exec i s = .next (s.withCore c k') ∧ k.Popped k' d rest o.vd vs :=
  ⟨_, h.exec_ok hout hpaid, Core.deliver_popped hsound o.vd vs _⟩

section qpop

variable (h : MoveRow s c i 0x86 w k o)
include h

theorem MoveRow.exec_qpop_empty (he : (k.queue (o.aux % 16)).entries = []) : exec i s = .next s :=
  h.exec_wait (n := o.aux % 16) (x := .queueEmpty) (by
    rw [Core.issueMove_qpop, Core.headData_empty he]
    rfl)

variable {e : QEntry} {rest : List QEntry} (he : (k.queue (o.aux % 16)).entries = e :: rest) (hc : k.cancelHolds (o.aux % 16) = false)
include he hc

theorem MoveRow.exec_qpop_marked (hm : e.mark ≠ none) : exec i s = .next (s.coreFault c 0x1303 (o.aux % 16) false) :=
  h.exec_event (by
    rw [Core.issueMove_qpop, Core.headData_marked he _ hc hm]
    rfl)

theorem MoveRow.exec_qpop_pops (hwf : Sparse.wf Queue.blank k.queues = true) (hm : e.mark = none) (hpaid : 4 ≤ k.guardLu) :
    ∃ k' : Core, exec i s = .next (s.withCore c k') ∧ (k'.queue (o.aux % 16)).popped = (k.queue (o.aux % 16)).popped + 1 ∧
      (k'.queue (o.aux % 16)).entries = rest ∧ k'.vec.pend = k.vec.pend ++
        [⟨k.beat + 2, .reg o.vd, twoLines (e.lines.headD 0) ((e.lines.drop 1).headD 0), BitVec.allOnes 256⟩] := by
  obtain ⟨hvec, hbeat⟩ := Core.popEntry_vec he
  have hqueue := Core.popEntry_queue he hwf
  have hout := k.issueMove_qpop (s.envelopeOk c) o
  rw [Core.headData_unmarked he _ hc hm] at hout
  refine ⟨_, h.exec_ok hout hpaid, congrArg Queue.popped hqueue, congrArg Queue.entries hqueue, ?_⟩
  rw [← hvec, ← hbeat]
  rfl

end qpop

section qpush

variable (h : MoveRow s c i 0x87 w k o)
include h

theorem MoveRow.exec_qpush_invalid (hv : ¬k.takes (s.envelopeOk c) (16 + o.aux % 16) o.imm) :
    exec i s = .next (s.coreFault c 0x3101 (16 + o.aux % 16) false) :=
  h.exec_event (by
    rw [Core.issueMove_qpush, Core.pushOq_invalid (e := k.pushedEntry o) hv]
    rfl)

variable (hv : k.takes (s.envelopeOk c) (16 + o.aux % 16) o.imm)
include hv

theorem MoveRow.exec_qpush_full (hroom : (k.queue (16 + o.aux % 16)).room = 0) : exec i s = .next s :=
  h.exec_wait (n := 16 + o.aux % 16) (x := .queueFull) (by
    rw [Core.issueMove_qpush, Core.pushOq_full (e := k.pushedEntry o) hv hroom]
    rfl)

theorem MoveRow.exec_qpush_pushes (hwf : Sparse.wf Queue.blank k.queues = true) (hroom : (k.queue (16 + o.aux % 16)).room ≠ 0)
    (hpaid : 4 ≤ k.guardLu) : ∃ (k' : Core) (e : QEntry), exec i s = .next (s.withCore c k') ∧
      (k'.queue (16 + o.aux % 16)).entries = (k.queue (16 + o.aux % 16)).entries ++ [e] ∧
      (k'.queue (16 + o.aux % 16)).pushed = (k.queue (16 + o.aux % 16)).pushed + 1 ∧ { e with op := 0 } = k.pushedEntry o := by
  obtain ⟨d, e, hpush, he, -, hqueue⟩ := Core.pushOq_room (e := k.pushedEntry o) hv hwf hroom
  have hout := k.issueMove_qpush (s.envelopeOk c) o
  rw [hpush] at hout
  exact ⟨_, e, h.exec_ok hout hpaid, congrArg Queue.entries hqueue, congrArg Queue.pushed hqueue, he⟩

end qpush

end queueMoves

/-- Settles O22: the moves of the sound and of the queues, whose results go to their registers whatever MSK says, modulo 32
(DEDUCED 56). -/
theorem soundAndQueueMoves : Obligations.SoundAndQueueMoves := by
  unfold Obligations.SoundAndQueueMoves
  refine ⟨fun c w s h => ?_, fun c w s hc h => ?_⟩
  · have row {i : Instr} (op : Nat) (hi : exec i s = .next (s.moveSlot c op w)) :
        MoveRow s c i op w (s.slotCore c) ((s.slotCore c).fieldsOf w) := ⟨hi, h, rfl, rfl⟩
    refine ⟨fun hempty => ?_, fun d rest hsound => ⟨fun hne => ?_, fun htag hpaid => ⟨?_, fun vs hvs => ?_, fun hnone => ?_⟩⟩⟩
    · obtain ⟨hw, hp⟩ := Core.spop_empty hempty
      exact ⟨(row 0x84 rfl).exec_wait hw, (row 0x85 rfl).exec_wait hp⟩
    · obtain ⟨hw, hp⟩ := Core.spop_tag_ne hsound hne
      exact ⟨(row 0x84 rfl).exec_event hw, (row 0x85 rfl).exec_event hp⟩
    · exact (row (i := .vSpopP c w) 0x85 rfl).exec_popped hpaid hsound (Core.spopP_bytes hsound htag)
    · exact (row (i := .vSpopW c w) 0x84 rfl).exec_popped hpaid hsound (Core.spopW_widened hsound htag hvs)
    · exact (row 0x84 rfl).exec_event (Core.spopW_not_taken hsound htag hnone)
  · have hwf := State.slotCore_queues_wf hc c
    have hpop : MoveRow s c (.vQpop c w) 0x86 w (s.slotCore c) ((s.slotCore c).fieldsOf w) := ⟨rfl, h, rfl, rfl⟩
    have hpush : MoveRow s c (.vQpush c w) 0x87 w (s.slotCore c) ((s.slotCore c).fieldsOf w) := ⟨rfl, h, rfl, rfl⟩
    exact ⟨hpop.exec_qpop_empty, fun e rest he hcancel => ⟨hpop.exec_qpop_marked he hcancel, hpop.exec_qpop_pops he hcancel hwf⟩,
      hpush.exec_qpush_invalid, hpush.exec_qpush_full, fun hv hroom hpaid => hpush.exec_qpush_pushes hv hwf hroom hpaid⟩

end Sys2Proof.Machine
end

section
/-! Reductions (R81, R134): the one result of a vector's active elements. -/

namespace Sys2Proof.Machine

/-! ### The active elements -/

theorem elems_eq_map (f : Fmt) (v : VecData) : elems f v = (List.range f.count).map fun e => (elems f v).getD e 0 := by
  have hlen : (elems f v).length = f.count := length_splitBits ..
  refine List.ext_getElem (by simp [hlen]) fun e he _ => ?_
  rw [List.getElem_map, List.getElem_range, List.getD_eq_getElem _ _ he]

/-- What a reduction folds: each element's value beside its activity (R120, R134). -/
theorem zipWith_elems (f : Fmt) (v : VecData) (msk : Bool) (m : BitVec 256) :
    List.zipWith (fun e a => (f.decode e, a)) (elems f v) (activeUnits msk m f.count) =
      (List.range f.count).map fun e => (f.decode ((elems f v).getD e 0), !msk || bit m.toNat e) := by
  rw [elems_eq_map, activeUnits, List.zipWith_map, List.zipWith_self, ← elems_eq_map]
  rfl

/-- The values of the active elements (R120). -/
def Core.activeVals (k : Core) (o : VOp) : List Val :=
  (k.active o o.fmt.count).map fun e => o.fmt.decode ((elems o.fmt (k.vreg o.va)).getD e 0)

theorem Core.filter_activeVals (k : Core) (o : VOp) :
    (((List.range o.fmt.count).map fun e => (o.fmt.decode ((elems o.fmt (k.vreg o.va)).getD e 0),
      !o.msk || bit (k.mreg o.mreg).toNat e)).filter Prod.snd).map Prod.fst = k.activeVals o := by
  rw [List.filter_map, List.map_map]
  rfl

theorem toInt_intVal (i : Int) : (intVal i).toInt = i := by
  unfold intVal Val.toInt
  by_cases h : i < 0
  · simp [h, abs_of_neg h]
  · simp [h, abs_of_nonneg (not_lt.mp h)]

theorem Fmt.toInt_decode {f : Fmt} (h : f.isVecInt = true) (x : Nat) : (f.decode x).toInt = sext f.width x := by
  have hdecode : f.decode x = intVal (sext f.width x) := by
    revert h
    cases f <;> simp [Fmt.isVecInt, Fmt.decode, Fmt.float?]
  rw [hdecode, toInt_intVal]

/-- A fold over values that are there has a result (R81). -/
theorem foldMM_isSome (isMax : Bool) {l : List Val} (h : l ≠ []) : ∃ x, foldMM isMax l = some x := by
  induction l with
  | nil => exact absurd rfl h
  | cons v vs ih =>
    cases vs with
    | nil => exact ⟨v, rfl⟩
    | cons w ws =>
      obtain ⟨x, hx⟩ := ih (List.cons_ne_nil w ws)
      exact ⟨_, by rw [foldMM, hx, Option.map_some]; simp⟩

/-! ### Sums and extremes -/

/-- The reduction of a core's source vector, by kind: sum, maximum, minimum (R134). -/
def Core.reduced (k : Core) (o : VOp) (kind : Nat) : Nat × Flags :=
  reduceVec kind o.fmt (elems o.fmt (k.vreg o.va)) (activeUnits o.msk (k.mreg o.mreg) o.fmt.count)

section reduced

variable {k : Core} {o : VOp}

/-- Integer elements: the sum modulo 2^32, and the extremes with the format's own bounds (R134). -/
theorem Core.reduced_int (h : o.fmt.isVecInt = true) :
    let ints := (k.active o o.fmt.count).map fun e => sext o.fmt.width ((elems o.fmt (k.vreg o.va)).getD e 0)
    k.reduced o 0 = (wrapInt 32 ints.sum, 0) ∧
      k.reduced o 1 = (wrapInt 32 (ints.foldl max (-(2 ^ (o.fmt.width - 1) : Int))), 0) ∧
      k.reduced o 2 = (wrapInt 32 (ints.foldl min ((2 ^ (o.fmt.width - 1) : Int) - 1)), 0) := by
  intro ints
  have hint : o.fmt.isInt = true := by
    revert h
    cases o.fmt <;> decide
  have hints : (k.activeVals o).map Val.toInt = ints := by
    rw [Core.activeVals, List.map_map]
    exact List.map_congr_left fun e _ => Fmt.toInt_decode h _
  simp only [Core.reduced, reduceVec, zipWith_elems, Core.filter_activeVals, hints, hint, if_true, and_self]

/-- The format in which a floating-point reduction is computed (R134). -/
def Fmt.reduceFmt (f : Fmt) : FloatFmt := if f = .fp64 then fp64F else fp32F

variable (h : o.fmt.isInt = false)
include h

theorem Core.reduced_floatSum :
    let sum := treeSum o.fmt.reduceFmt 10 ((List.range o.fmt.count).map fun e =>
      if !o.msk || bit (k.mreg o.mreg).toNat e then o.fmt.decode ((elems o.fmt (k.vreg o.va)).getD e 0) else .fin false 0 0)
    k.reduced o 0 = ((rneTo o.fmt.reduceFmt sum.1).1, sum.2 ||| if (k.activeVals o).any Val.isNan then fNanIn else 0) := by
  simp only [Core.reduced, reduceVec, zipWith_elems, Core.filter_activeVals, List.map_map, h]
  rfl

/-- The extremes of no element are the infinities (R134). -/
theorem Core.reduced_floatEmpty (hnone : k.activeVals o = []) (kind : Nat) :
    k.reduced o (kind + 1) = (o.fmt.reduceFmt.withSign (kind + 1 == 1) (o.fmt.reduceFmt.inf.getD 0), 0) := by
  simp only [Core.reduced, reduceVec, zipWith_elems, Core.filter_activeVals, hnone, h]
  rfl

theorem Core.reduced_floatExtreme {kind : Nat} {x : Val} (hx : foldMM (kind + 1 == 1) (k.activeVals o) = some x) :
    k.reduced o (kind + 1) = ((rneTo o.fmt.reduceFmt x).1, if (k.activeVals o).any Val.isNan then fNanIn else 0) := by
  simp only [Core.reduced, reduceVec, zipWith_elems, Core.filter_activeVals, hx, h]
  rfl

end reduced

/-! ### The rows -/

theorem vecReduce_ok {k : Core} {o : VOp} (h : o.fmt.isArith = true) : vecReduce k o =
    .ok ⟨[(5, .reg o.vd, BitVec.ofNat 2048 (k.reduced o (o.vop - 0x48)).1, BitVec.allOnes 256)], 1, (k.reduced o (o.vop - 0x48)).2, 0⟩ := by
  rw [vecReduce, h]
  rfl

/-- A reduction leaves its one result in the low bytes of VD, five beats on (R134, R149). -/
theorem VecRow.exec_reduced {s : State} {c : CoreId} {i : Instr} {kind : Nat} {w : BitVec 64} {k : Core} {o : VOp}
    (h : VecRow s c i (0x48 + kind) w k o) (hkind : kind ≤ 2) (hfmt : o.fmt.isArith = true) (hpaid : 16 ≤ k.guardLu) {x : Nat} {fl : Flags}
    (hx : k.reduced o kind = (x, fl)) : ∃ k' : Core, exec i s = .next (s.withCore c k') ∧
      k.Computed k' o [⟨k.beat + 5, .reg o.vd, BitVec.ofNat 2048 x, BitVec.allOnes 256⟩] 1 0 fl := by
  have hout := vecReduce_ok (k := k) (o := { o with vop := 0x48 + kind }) hfmt
  rw [show k.reduced { o with vop := 0x48 + kind } (0x48 + kind - 0x48) = (x, fl) by rw [Nat.add_sub_cancel_left]; exact hx] at hout
  exact ⟨_, h.exec_computed ((Core.issueVec_reduce _ _ _ (Nat.le_add_right ..) (Nat.add_le_add_left hkind _)).trans
    (congrArg (applyRes k) hout)) hpaid, k.computed_spec (ite_self 0).symm⟩

/-- RSUM, RMAX and RMIN of a floating-point format whose active elements' values are `vals` (R134). -/
theorem Core.reduced_floatExtremes {k : Core} {o : VOp} (h : o.fmt.isInt = false) (hsome : k.activeVals o ≠ []) :
    ∃ x y : Val, foldMM true (k.activeVals o) = some x ∧ foldMM false (k.activeVals o) = some y ∧
      k.reduced o 1 = ((rneTo o.fmt.reduceFmt x).1, if (k.activeVals o).any Val.isNan then fNanIn else 0) ∧
      k.reduced o 2 = ((rneTo o.fmt.reduceFmt y).1, if (k.activeVals o).any Val.isNan then fNanIn else 0) := by
  obtain ⟨x, hx⟩ := foldMM_isSome true hsome
  obtain ⟨y, hy⟩ := foldMM_isSome false hsome
  exact ⟨x, y, hx, hy, Core.reduced_floatExtreme h hx, Core.reduced_floatExtreme h hy⟩

end Sys2Proof.Machine
end

section
/-! Conversion between groups of registers (R79, R525): places in a group, blocks of an MX format, and what CVT leaves. -/

namespace Sys2Proof.Machine

/-! ### Places in a group of registers -/

/-- A place of lists of one length that stand behind each other. -/
theorem flatMap_getD {α β : Type} (f : α → List β) (d : β) {size : Nat} (hpos : 0 < size) {l : List α} (hf : ∀ a ∈ l, (f a).length = size)
    (x : α) {e : Nat} (he : e < size * l.length) : (l.flatMap f).getD e d = (f (l.getD (e / size) x)).getD (e % size) d := by
  induction l generalizing e with
  | nil => simp at he
  | cons a as ih =>
    have hlen := hf a List.mem_cons_self
    rw [List.flatMap_cons]
    by_cases hlt : e < size
    · rw [List.getD_append _ _ _ _ (hlen.symm ▸ hlt), Nat.div_eq_of_lt hlt, Nat.mod_eq_of_lt hlt, List.getD_cons_zero]
    · obtain ⟨i, rfl⟩ := Nat.exists_eq_add_of_le (Nat.not_lt.mp hlt)
      rw [List.length_cons, Nat.mul_succ] at he
      rw [List.getD_append_right _ _ _ _ (by omega), hlen, Nat.add_sub_cancel_left, Nat.add_mod_left, Nat.add_div_left _ hpos,
        List.getD_cons_succ, ih (fun b hb => hf b (List.mem_cons_of_mem a hb)) (by omega)]

theorem getD_map_range {α : Type} (g : Nat → α) (d : α) {n e : Nat} (he : e < n) : ((List.range n).map g).getD e d = g e := by
  rw [List.getD_eq_getElem _ _ (by simpa using he), List.getElem_map, List.getElem_range]

theorem getD_range {n e : Nat} (he : e < n) : (List.range n).getD e 0 = e := by
  rw [List.getD_eq_getElem _ _ (by simpa using he), List.getElem_range]

/-- A run within a list of what stands at each place. -/
theorem take_drop_map_range {α : Type} (g : Nat → α) {n lo len : Nat} (h : lo + len ≤ n) :
    (((List.range n).map g).drop lo).take len = (List.range len).map fun i => g (lo + i) := by
  refine List.ext_getElem (by simp; omega) fun i _ _ => ?_
  simp

theorem Fmt.count_pos (f : Fmt) : 0 < f.count := by cases f <;> decide

theorem Fmt.count_dvd_max (f g : Fmt) : max f.count g.count / f.count * f.count = max f.count g.count := by
  cases f <;> cases g <;> decide

/-- An element of a source group of registers (R525). -/
theorem groupElems_getD (k : Core) (f : Fmt) (base : Nat) {n e : Nat} (he : e < n / f.count * f.count) :
    (groupElems k f base n).getD e 0 = (elems f (k.vreg (base + e / f.count))).getD (e % f.count) 0 := by
  have hreg : e / f.count < n / f.count := Nat.div_lt_of_lt_mul (by rwa [Nat.mul_comm] at he)
  have hlen : e < f.count * (List.range (n / f.count)).length := by rwa [List.length_range, Nat.mul_comm]
  rw [groupElems, flatMap_getD (fun j => elems f (k.vreg (base + j))) 0 f.count_pos (fun _ _ => length_splitBits ..) 0 hlen,
    getD_range hreg]

/-- An element of a destination group of registers: each holds its run of the results (R525). -/
theorem elems_joinRun (f : Fmt) (rs : List Nat) (e : Nat) :
    (elems f (BitVec.ofNat 2048 (joinBits f.width ((rs.drop (f.count * (e / f.count))).take f.count)))).getD (e % f.count) 0 =
      rs.getD e 0 % 2 ^ f.width := by
  have hlt := Nat.mod_lt e f.count_pos
  rw [elems_joinBits _ hlt]
  simp only [List.getD_eq_getElem?_getD, List.getElem?_take, List.getElem?_drop, hlt, if_true, Nat.div_add_mod]

/-! ### Blocks of an MX format (R79) -/

/-- The places of the active ones among as many as a list has. -/
def activePlaces (act : List Bool) : List Nat := (List.range act.length).filter fun p => act.getD p false

theorem activePlaces_cons (a : Bool) (as : List Bool) :
    activePlaces (a :: as) = (if a then [0] else []) ++ (activePlaces as).map Nat.succ := by
  rw [activePlaces, List.length_cons, List.range_succ_eq_map, List.filter_cons, List.filter_map, List.getD_cons_zero]
  cases a <;> rfl

/-- The values spread over the active places are found there, in order (R132). -/
theorem map_spreadUnits (us : List Nat) {act : List Bool} (h : us.length = (activePlaces act).length) :
    (activePlaces act).map (fun p => (spreadUnits us act).getD p 0) = us := by
  induction act generalizing us with
  | nil => exact (List.eq_nil_of_length_eq_zero h).symm
  | cons a as ih =>
    rw [activePlaces_cons] at h ⊢
    cases a with
    | false =>
      rw [if_neg Bool.false_ne_true, List.nil_append, List.length_map] at h
      rw [if_neg Bool.false_ne_true, List.nil_append, List.map_map]
      exact ih us h
    | true =>
      cases us with
      | nil => simp at h
      | cons u us =>
        have htail := ih us (by simpa using h)
        rw [if_pos rfl, List.map_append, List.map_map]
        exact congrArg (u :: ·) htail

theorem length_spreadUnits (us : List Nat) (act : List Bool) : (spreadUnits us act).length = act.length := by
  induction act generalizing us with
  | nil => rfl
  | cons a as ih => cases a <;> cases us <;> simp [spreadUnits, ih]

/-- A block's elements as the conversion deals them out are spread over its active places. -/
theorem foldl_deal_eq (blk : List (Val × Nat × Bool)) (acc es : List Nat) :
    (blk.foldl (fun (st : List Nat × List Nat) p =>
      if p.2.2 then (st.1 ++ [st.2.headD 0], st.2.tail) else (st.1 ++ [0], st.2)) (acc, es)).1 =
      acc ++ spreadUnits es (blk.map fun p => p.2.2) := by
  induction blk generalizing acc es with
  | nil => simp [spreadUnits]
  | cons p ps ih =>
    rw [List.foldl_cons, List.map_cons]
    cases p.2.2 <;> cases es <;>
      simp only [ih, spreadUnits, if_true, if_false, Bool.false_eq_true, List.headD_nil, List.headD_cons, List.tail_nil, List.tail_cons,
        List.append_assoc, List.cons_append, List.nil_append]

/-- One block of an MX conversion: its scale, its elements and its flags (R79, R525). -/
def cvtBlock (f : Fmt) (mode : RMode) (old : VecData) (b : Nat) (blk : List (Val × Nat × Bool)) : Nat × List Nat × Flags :=
  let on := blk.filter fun p => p.2.2
  let r := mxBlock f mode (on.map fun p => (p.1, p.2.1))
  if on.isEmpty then (scaleByte old b, List.replicate 32 0, 0) else (r.1, spreadUnits r.2.1 (blk.map fun p => p.2.2), r.2.2)

theorem cvtBlocks_eq (f : Fmt) (mode : RMode) (old : VecData) (n : Nat) (vs : List (Val × Nat × Bool)) (b : Nat) :
    cvtBlocks f mode old n vs b = (List.range n).map fun j => cvtBlock f mode old (b + j) ((vs.drop (32 * j)).take 32) := by
  induction n generalizing vs b with
  | zero => rfl
  | succ n ih =>
    rw [cvtBlocks, ih, List.range_succ_eq_map, List.map_cons, List.map_map]
    refine congrArg₂ List.cons ?_ (List.map_congr_left fun j _ => ?_)
    · simp only [foldl_deal_eq, List.nil_append]
      rfl
    · rw [List.drop_drop, Nat.add_assoc, Nat.add_comm 1, Nat.add_comm 32, ← Nat.mul_succ]
      rfl

end Sys2Proof.Machine
end

section
/-! CVT between groups of registers (R79, R82, R126, R525). -/

namespace Sys2Proof.Machine

/-- The source format of a CVT (R525). -/
def VOp.src (o : VOp) : Fmt := Fmt.ofTag o.aux

/-- The elements of a CVT: the wider format fills one vector or more (R525). -/
def VOp.cvtCount (o : VOp) : Nat := max o.src.count o.fmt.count

/-- The beats of a CVT (R116, DESIGN CHOICE 34). -/
def VOp.cvtBeats (o : VOp) : Nat := (o.cvtCount + cvtRate o.src - 1) / cvtRate o.src

/-- Whether element e of a CVT is active; a mask bit governs two elements of a 4-bit format (R120, R525). -/
def Core.cvtActive (k : Core) (o : VOp) (e : Nat) : Bool :=
  !o.msk || bit (k.mreg o.mreg).toNat (if o.cvtCount = 512 then e / 2 else e)

/-- Element e of the source group, scaled where its format is MX (R525). -/
def Core.cvtFrom (k : Core) (o : VOp) (e : Nat) : Val :=
  let x := (elems o.src (k.vreg (o.va + e / o.src.count))).getD (e % o.src.count) 0
  if o.src.isMx then o.src.decodeScaled x (bits (k.vreg (o.va + o.cvtCount / o.src.count)).toNat (8 * (e / 32)) 8) else o.src.decode x

/-- What a CVT converts at place e: the value, its random word, and whether it is active. -/
def Core.cvtAt (k : Core) (v : Nat) (o : VOp) (e : Nat) : Val × Nat × Bool := (k.cvtFrom o e, k.randomWord v o e, k.cvtActive o e)

/-- Element e in the destination format, with its flags (R76 to R78, R525). -/
def Core.cvtTo (k : Core) (v : Nat) (o : VOp) (e : Nat) : Nat × Flags :=
  convertVal o.fmt o.mode (k.randomWord v o e) (!o.ovf) (k.cvtFrom o e)

/-- Block b of a CVT into an MX format (R79, R525). -/
def Core.cvtBlockAt (k : Core) (v : Nat) (o : VOp) (b : Nat) : Nat × List Nat × Flags :=
  cvtBlock o.fmt o.mode (k.vreg (o.vd + o.cvtCount / o.fmt.count)) b ((List.range 32).map fun i => k.cvtAt v o (32 * b + i))

/-- The elements that a CVT leaves in its destination group, place by place. -/
def Core.cvtResults (k : Core) (v : Nat) (o : VOp) : List Nat :=
  if o.fmt.isMx then (List.range (o.cvtCount / 32)).flatMap fun b => (k.cvtBlockAt v o b).2.1
  else (List.range o.cvtCount).map fun e => if k.cvtActive o e then (k.cvtTo v o e).1 else 0

/-- The flags of a CVT: those of its blocks, or of its active elements (R82). -/
def Core.cvtFlags (k : Core) (v : Nat) (o : VOp) : Flags :=
  if o.fmt.isMx then orFlags ((List.range (o.cvtCount / 32)).map fun b => (k.cvtBlockAt v o b).2.2)
  else orFlags ((List.range o.cvtCount).map fun e => if k.cvtActive o e then (k.cvtTo v o e).2 else 0)

/-- The register of scales that a CVT into an MX format leaves after its group (R525). -/
def Core.cvtScales (k : Core) (v : Nat) (o : VOp) : VecData :=
  BitVec.ofNat 2048 (joinBits 8 ((List.range (o.cvtCount / 32)).map fun b => (k.cvtBlockAt v o b).1))

/-- The bytes of destination register j that a CVT writes: those of active elements (R120). -/
def Core.cvtMask (k : Core) (o : VOp) (j : Nat) : BitVec 256 :=
  BitVec.ofNat 256 (byteMask (o.fmt.unitBits / 8)
    ((List.range o.fmt.units).map fun u => k.cvtActive o (o.fmt.count * j + o.fmt.count / o.fmt.units * u)))

/-- Destination register j of a CVT. -/
def Core.cvtRegister (k : Core) (v : Nat) (o : VOp) (j : Nat) : VecData :=
  BitVec.ofNat 2048 (joinBits o.fmt.width (((k.cvtResults v o).drop (o.fmt.count * j)).take o.fmt.count))

/-- What a CVT answers (R525). -/
def Core.convertOut (k : Core) (v : Nat) (o : VOp) : VOut :=
  ⟨(List.range (o.cvtCount / o.fmt.count)).map (fun j => (o.cvtBeats + 3, .reg ((o.vd + j) % 32), k.cvtRegister v o j, k.cvtMask o j)) ++
    (if o.fmt.isMx then [(o.cvtBeats + 3, .reg ((o.vd + o.cvtCount / o.fmt.count) % 32), k.cvtScales v o, BitVec.allOnes 256)] else []),
    o.cvtBeats, k.cvtFlags v o, if drawsWords o then o.cvtCount else 0⟩

theorem VOp.cvtCount_src (o : VOp) : o.cvtCount / o.src.count * o.src.count = o.cvtCount := Fmt.count_dvd_max ..

theorem VOp.cvtCount_dst (o : VOp) : o.fmt.count * (o.cvtCount / o.fmt.count) = o.cvtCount := by
  rw [VOp.cvtCount, Nat.max_comm, Nat.mul_comm]
  exact Fmt.count_dvd_max ..

theorem cvtVals_eq (k : Core) (v : Nat) (o : VOp) :
    ((List.range o.cvtCount).map fun e =>
      (if o.src.isMx then o.src.decodeScaled ((groupElems k o.src o.va o.cvtCount).getD e 0)
          (scaleByte (k.vreg (o.va + o.cvtCount / o.src.count)) (e / 32))
        else o.src.decode ((groupElems k o.src o.va o.cvtCount).getD e 0),
        (if drawsWords o then k.draw v o.aux e else 0),
        ((List.range o.cvtCount).map fun e => !o.msk || (k.mreg o.mreg).toNat.testBit (if o.cvtCount = 512 then e / 2 else e)).getD e false)) =
      (List.range o.cvtCount).map (k.cvtAt v o) := by
  refine List.map_congr_left fun e he => ?_
  have hlt := List.mem_range.mp he
  rw [groupElems_getD k o.src o.va (by rwa [VOp.cvtCount_src]), getD_map_range _ _ hlt, Core.randomWord_eq]
  rfl

theorem Fmt.units_of_width (f : Fmt) : (f.width = 4 ∧ f.unitBits / 8 = 1 ∧ f.units = 256 ∧ f.count = 512) ∨
    (f.width ≠ 4 ∧ f.unitBits / 8 = f.width / 8 ∧ f.units = f.count ∧ f.count / f.count = 1) := by
  cases f <;> decide

/-- The bytes of a register's active units, a byte of two elements for a 4-bit format going by the first of them (R120). -/
theorem byteMask_units (f : Fmt) (act : Nat → Bool) :
    (if f.width = 4 then byteMask 1 ((List.range 256).map fun i => ((List.range f.count).map act).getD (2 * i) false)
      else byteMask (f.width / 8) ((List.range f.count).map act)) =
      byteMask (f.unitBits / 8) ((List.range f.units).map fun u => act (f.count / f.units * u)) := by
  rcases f.units_of_width with ⟨hwidth, hbytes, hunits, hcount⟩ | ⟨hwidth, hbytes, hunits, hone⟩
  · rw [if_pos hwidth, hbytes, hunits, hcount]
    refine congrArg (byteMask 1) (List.map_congr_left fun i hi => ?_)
    have := List.mem_range.mp hi
    rw [getD_map_range _ _ (by omega)]
  · simp only [if_neg hwidth, hbytes, hunits, hone, Nat.one_mul]

/-- The activity of a destination register's bytes is that of the elements they hold (R120). -/
theorem cvtMask_eq (k : Core) (o : VOp) {j : Nat} (hj : j < o.cvtCount / o.fmt.count) :
    BitVec.ofNat 256 (if o.fmt.width = 4 then byteMask 1 ((List.range 256).map fun i =>
        ((((List.range o.cvtCount).map (k.cvtActive o)).drop (o.fmt.count * j)).take o.fmt.count).getD (2 * i) false)
      else byteMask (o.fmt.width / 8) ((((List.range o.cvtCount).map (k.cvtActive o)).drop (o.fmt.count * j)).take o.fmt.count)) =
      k.cvtMask o j := by
  have hend : o.fmt.count * j + o.fmt.count ≤ o.cvtCount := by
    rw [← Nat.mul_succ]
    exact (Nat.mul_le_mul_left _ hj).trans o.cvtCount_dst.le
  rw [take_drop_map_range _ hend, byteMask_units]
  rfl

/-- The blocks of a CVT into an MX format, each of 32 places of the group (R525). -/
theorem cvtBlocks_at (k : Core) (v : Nat) (o : VOp) :
    cvtBlocks o.fmt o.mode (k.vreg (o.vd + o.cvtCount / o.fmt.count)) (o.cvtCount / 32) ((List.range o.cvtCount).map (k.cvtAt v o)) 0 =
      (List.range (o.cvtCount / 32)).map (k.cvtBlockAt v o) := by
  rw [cvtBlocks_eq]
  refine List.map_congr_left fun j hj => ?_
  have := List.mem_range.mp hj
  rw [take_drop_map_range _ (by omega), Nat.zero_add]
  rfl

/-- The registers of a destination group, whatever its elements are. -/
theorem cvtRegisters_eq (k : Core) (o : VOp) (rs : List Nat) :
    ((List.range (o.cvtCount / o.fmt.count)).map fun j => (o.cvtBeats + 3, VTarget.reg ((o.vd + j) % 32),
      BitVec.ofNat 2048 (joinBits o.fmt.width ((rs.drop (o.fmt.count * j)).take o.fmt.count)),
      BitVec.ofNat 256 (if o.fmt.width = 4 then byteMask 1 ((List.range 256).map fun i =>
          ((((List.range o.cvtCount).map (k.cvtActive o)).drop (o.fmt.count * j)).take o.fmt.count).getD (2 * i) false)
        else byteMask (o.fmt.width / 8) ((((List.range o.cvtCount).map (k.cvtActive o)).drop (o.fmt.count * j)).take o.fmt.count)))) =
      (List.range (o.cvtCount / o.fmt.count)).map fun j => (o.cvtBeats + 3, VTarget.reg ((o.vd + j) % 32),
        BitVec.ofNat 2048 (joinBits o.fmt.width ((rs.drop (o.fmt.count * j)).take o.fmt.count)), k.cvtMask o j) :=
  List.map_congr_left fun j hj => by rw [cvtMask_eq k o (List.mem_range.mp hj)]

theorem vecConvert_refused {k : Core} {o : VOp} (h : o.src = .e8m0 ∨ o.src = .raw ∨ o.fmt = .e8m0 ∨ o.fmt = .raw) (v : Nat) :
    vecConvert k v o = .event 0x1203 0 := if_pos h

theorem vecConvert_ok {k : Core} {o : VOp} (hvop : o.vop = 0x30)
    (hfmt : ¬(o.src = .e8m0 ∨ o.src = .raw ∨ o.fmt = .e8m0 ∨ o.fmt = .raw)) (v : Nat) : vecConvert k v o = .ok (k.convertOut v o) := by
  have hbeats : vecBeats o = o.cvtBeats := by rw [vecBeats, if_pos hvop]; rfl
  have hact : ((List.range o.cvtCount).map fun e => !o.msk || (k.mreg o.mreg).toNat.testBit (if o.cvtCount = 512 then e / 2 else e)) =
    (List.range o.cvtCount).map (k.cvtActive o) := rfl
  have hvals := cvtVals_eq k v o
  rw [hact] at hvals
  refine (if_neg hfmt).trans (congrArg Res.ok ?_)
  simp only [hbeats, ← VOp.src.eq_1, ← VOp.cvtCount.eq_1, hact, hvals, cvtBlocks_at, cvtRegisters_eq]
  cases hmx : o.fmt.isMx with
  | true =>
    simp only [Core.convertOut, Core.cvtRegister, Core.cvtResults, Core.cvtScales, Core.cvtFlags, hmx, if_true, foldl_or_map,
      List.flatMap_map, List.map_map]
    rfl
  | false =>
    have hfst : ((List.range o.cvtCount).map (Prod.fst ∘ (fun p : Val × Nat × Bool =>
        if p.2.2 then convertVal o.fmt o.mode p.2.1 (!o.ovf) p.1 else (0, 0)) ∘ k.cvtAt v o)) = k.cvtResults v o := by
      simp only [Core.cvtResults, hmx]
      exact List.map_congr_left fun e _ => apply_ite Prod.fst ..
    have hsnd : orFlags ((List.range o.cvtCount).map (Prod.snd ∘ (fun p : Val × Nat × Bool =>
        if p.2.2 then convertVal o.fmt o.mode p.2.1 (!o.ovf) p.1 else (0, 0)) ∘ k.cvtAt v o)) = k.cvtFlags v o := by
      simp only [Core.cvtFlags, hmx]
      exact congrArg orFlags (List.map_congr_left fun e _ => apply_ite Prod.snd ..)
    simp only [Core.convertOut, Core.cvtRegister, hmx, Bool.false_eq_true, if_false, foldl_or_map, List.map_map, hfst, hsnd]

/-! ### The elements that a CVT leaves -/

/-- An active element of a format without scales (R76 to R78, R525). -/
theorem cvtRegister_plain {k : Core} {v : Nat} {o : VOp} (hmx : o.fmt.isMx = false) {e : Nat} (he : e < o.cvtCount)
    (hon : k.cvtActive o e = true) :
    (elems o.fmt (k.cvtRegister v o (e / o.fmt.count))).getD (e % o.fmt.count) 0 = (k.cvtTo v o e).1 % 2 ^ o.fmt.width := by
  rw [Core.cvtRegister, elems_joinRun, Core.cvtResults, hmx, if_neg Bool.false_ne_true, getD_map_range _ _ he, if_pos hon]

/-- The active elements of block b of a CVT (R79, R525). -/
def Core.cvtPlaces (k : Core) (o : VOp) (b : Nat) : List Nat := ((List.range 32).map (32 * b + ·)).filter (k.cvtActive o)

/-- Block b in the MX format: its scale, its elements and its flags (R79). -/
def Core.mxBlockAt (k : Core) (v : Nat) (o : VOp) (b : Nat) : Nat × List Nat × Flags :=
  mxBlock o.fmt o.mode ((k.cvtPlaces o b).map fun e => (k.cvtFrom o e, k.randomWord v o e))

theorem length_mxBlock (f : Fmt) (mode : RMode) (vs : List (Val × Nat)) : (mxBlock f mode vs).2.1.length = vs.length := by
  unfold mxBlock
  simp only
  split
  · simp
  · split <;> simp

/-- A block without an active element keeps its scale (R525); any other is converted, its elements at their places (R79). -/
theorem cvtBlockAt_eq (k : Core) (v : Nat) (o : VOp) (b : Nat) : k.cvtBlockAt v o b =
    if k.cvtPlaces o b = [] then (scaleByte (k.vreg (o.vd + o.cvtCount / o.fmt.count)) b, List.replicate 32 0, 0)
    else ((k.mxBlockAt v o b).1, spreadUnits (k.mxBlockAt v o b).2.1 ((List.range 32).map fun i => k.cvtActive o (32 * b + i)),
      (k.mxBlockAt v o b).2.2) := by
  have hon : (((List.range 32).map fun i => k.cvtAt v o (32 * b + i)).filter fun p => p.2.2) = (k.cvtPlaces o b).map (k.cvtAt v o) := by
    rw [Core.cvtPlaces, List.filter_map, List.filter_map, List.map_map]
    rfl
  rw [Core.cvtBlockAt, cvtBlock, hon]
  simp only [List.isEmpty_iff, List.map_eq_nil_iff, List.map_map]
  rfl

theorem length_cvtBlockAt (k : Core) (v : Nat) (o : VOp) (b : Nat) : (k.cvtBlockAt v o b).2.1.length = 32 := by
  rw [cvtBlockAt_eq]
  split <;> simp [length_spreadUnits]

theorem cvtPlaces_eq (k : Core) (o : VOp) (b : Nat) :
    k.cvtPlaces o b = (activePlaces ((List.range 32).map fun i => k.cvtActive o (32 * b + i))).map (32 * b + ·) := by
  rw [Core.cvtPlaces, List.filter_map, activePlaces, List.length_map, List.length_range]
  refine congrArg (List.map _) (List.filter_congr fun p hp => ?_)
  rw [getD_map_range _ _ (List.mem_range.mp hp)]
  rfl

/-- The elements that a block with active ones leaves at their places (R79). -/
theorem cvtResults_block {k : Core} {v : Nat} {o : VOp} (hmx : o.fmt.isMx = true) {b : Nat} (hb : b < o.cvtCount / 32)
    (hsome : k.cvtPlaces o b ≠ []) : (k.cvtPlaces o b).map (fun e => (k.cvtResults v o).getD e 0) = (k.mxBlockAt v o b).2.1 := by
  have hlen : (k.mxBlockAt v o b).2.1.length = (activePlaces ((List.range 32).map fun i => k.cvtActive o (32 * b + i))).length := by
    rw [Core.mxBlockAt, length_mxBlock, List.length_map, cvtPlaces_eq, List.length_map]
  rw [cvtPlaces_eq, List.map_map]
  refine Eq.trans (List.map_congr_left fun p hp => ?_) (map_spreadUnits _ hlen)
  have hp32 : p < 32 := by
    have := List.mem_range.mp (List.mem_of_mem_filter hp)
    rwa [List.length_map, List.length_range] at this
  rw [Function.comp_apply, Core.cvtResults, hmx, if_pos rfl,
    flatMap_getD (fun b => (k.cvtBlockAt v o b).2.1) 0 (by decide) (fun b _ => length_cvtBlockAt k v o b) 0
      (by rw [List.length_range]; omega), show (32 * b + p) / 32 = b by omega, show (32 * b + p) % 32 = p by omega,
    getD_range hb, cvtBlockAt_eq, if_neg hsome]

theorem cvtRegister_mx {k : Core} {v : Nat} {o : VOp} (hmx : o.fmt.isMx = true) {b : Nat} (hb : b < o.cvtCount / 32)
    (hsome : k.cvtPlaces o b ≠ []) {i : Nat} (hi : i < (k.cvtPlaces o b).length) :
    (elems o.fmt (k.cvtRegister v o ((k.cvtPlaces o b).getD i 0 / o.fmt.count))).getD ((k.cvtPlaces o b).getD i 0 % o.fmt.count) 0 =
      (k.mxBlockAt v o b).2.1.getD i 0 % 2 ^ o.fmt.width := by
  have hplace := congrArg (·.getD i 0) (cvtResults_block (v := v) hmx hb hsome)
  rw [List.getD_eq_getElem _ _ (by simpa using hi), List.getElem_map] at hplace
  rw [Core.cvtRegister, elems_joinRun, ← hplace, List.getD_eq_getElem _ _ hi]

/-! ### The scales and flags that a CVT leaves -/

theorem VOp.cvtCount_le (o : VOp) : o.cvtCount ≤ 512 := by
  have hle : ∀ f : Fmt, f.count ≤ 512 := fun f => by cases f <;> decide
  exact Nat.max_le.mpr ⟨hle _, hle _⟩

/-- The scale byte of a block (R525). -/
theorem bits_cvtScales (k : Core) (v : Nat) {o : VOp} {b : Nat} (hb : b < o.cvtCount / 32) :
    bits (k.cvtScales v o).toNat (8 * b) 8 = (k.cvtBlockAt v o b).1 % 256 := by
  have hle := o.cvtCount_le
  rw [Core.cvtScales, bits_ofNat_joinBits (by omega), getD_map_range _ _ hb]
  rfl

/-- A block without an active element keeps its scale (R525). -/
theorem bits_cvtScales_kept {k : Core} (v : Nat) {o : VOp} {b : Nat} (hb : b < o.cvtCount / 32) (hnone : k.cvtPlaces o b = []) :
    bits (k.cvtScales v o).toNat (8 * b) 8 = bits (k.vreg (o.vd + o.cvtCount / o.fmt.count)).toNat (8 * b) 8 := by
  rw [bits_cvtScales k v hb, cvtBlockAt_eq, if_pos hnone]
  exact Nat.mod_eq_of_lt (bits_lt ..)

/-- Any other takes the scale of its active elements (R79). -/
theorem bits_cvtScales_block {k : Core} (v : Nat) {o : VOp} {b : Nat} (hb : b < o.cvtCount / 32) (hsome : k.cvtPlaces o b ≠ []) :
    bits (k.cvtScales v o).toNat (8 * b) 8 = (k.mxBlockAt v o b).1 % 256 := by
  rw [bits_cvtScales k v hb, cvtBlockAt_eq, if_neg hsome]

theorem cvtScales_lt (k : Core) (v : Nat) (o : VOp) : (k.cvtScales v o).toNat < 2 ^ (o.cvtCount / 4) := by
  have hlt := joinBits_lt 8 ((List.range (o.cvtCount / 32)).map fun b => (k.cvtBlockAt v o b).1)
  rw [List.length_map, List.length_range] at hlt
  refine lt_of_le_of_lt ?_ (hlt.trans_le (Nat.pow_le_pow_right (by decide) (by omega)))
  rw [Core.cvtScales, BitVec.toNat_ofNat]
  exact Nat.mod_le ..

theorem cvtFlags_eq (k : Core) (v : Nat) (o : VOp) : k.cvtFlags v o =
    if o.fmt.isMx then orFlags ((List.range (o.cvtCount / 32)).map fun b => if k.cvtPlaces o b = [] then 0 else (k.mxBlockAt v o b).2.2)
    else orFlags (((List.range o.cvtCount).filter (k.cvtActive o)).map fun e => (k.cvtTo v o e).2) := by
  rw [Core.cvtFlags, orFlags_map_ite]
  refine ite_congr rfl (fun _ => congrArg orFlags (List.map_congr_left fun b _ => ?_)) fun _ => rfl
  rw [cvtBlockAt_eq]
  split <;> rfl

end Sys2Proof.Machine
end

section
/-! What RSUM, RMAX, RMIN and CVT leave (R134, R525). -/

namespace Sys2Proof.Machine

theorem convertOut_results (k : Core) (v : Nat) (o : VOp) : (k.convertOut v o).results k =
    ((List.range (o.cvtCount / o.fmt.count)).map fun j =>
      ⟨k.beat + (o.cvtBeats + 3), .reg ((o.vd + j) % 32), k.cvtRegister v o j, k.cvtMask o j⟩) ++
    if o.fmt.isMx then
      [⟨k.beat + (o.cvtBeats + 3), .reg ((o.vd + o.cvtCount / o.fmt.count) % 32), k.cvtScales v o, BitVec.allOnes 256⟩] else [] := by
  rw [VOut.results, Core.convertOut, List.map_append, List.map_map, apply_ite (List.map _)]
  rfl

theorem Core.convertOut_computed (k : Core) (v : Nat) (o : VOp) :
    k.Computed (k.computed (k.convertOut v o)) o ((k.convertOut v o).results k) o.cvtBeats o.cvtCount (k.cvtFlags v o) :=
  k.computed_spec (drawsWords_drawn o o.cvtCount)

theorem VecRow.exec_convert_refused {s : State} {c : CoreId} {i : Instr} {w : BitVec 64} {k : Core} {o : VOp} (h : VecRow s c i 0x30 w k o)
    (hfmt : o.src = .e8m0 ∨ o.src = .raw ∨ o.fmt = .e8m0 ∨ o.fmt = .raw) : exec i s = .next (s.coreFault c 0x1203 0 false) :=
  h.exec_event ((Core.issueVec_convert _ _ _ rfl).trans (congrArg (applyRes k) (vecConvert_refused (o := { o with vop := 0x30 }) hfmt c.v)))

theorem VecRow.exec_convert {s : State} {c : CoreId} {i : Instr} {w : BitVec 64} {k : Core} {o : VOp} (h : VecRow s c i 0x30 w k o)
    (hfmt : ¬(o.src = .e8m0 ∨ o.src = .raw ∨ o.fmt = .e8m0 ∨ o.fmt = .raw)) (hpaid : 16 * o.cvtBeats ≤ k.guardLu) :
    exec i s = .next (s.withCore c (k.computed (k.convertOut c.v o))) :=
  h.exec_computed (out := k.convertOut c.v o) ((Core.issueVec_convert _ _ _ rfl).trans
    (congrArg (applyRes k) (vecConvert_ok (o := { o with vop := 0x30 }) rfl hfmt c.v))) hpaid

/-- Settles O19: the reductions, and the conversion between groups of registers, which takes INT4 at the rate of the 8-bit formats
(DESIGN CHOICE 34), counts registers modulo 32 (DEDUCED 56) and has AUX both as the source's tag and as the stream (DEDUCED 32). -/
theorem vectorReduceAndConvert : Obligations.VectorReduceAndConvert := by
  unfold Obligations.VectorReduceAndConvert
  refine ⟨fun c w s h => ?_, fun c w s h => ?_⟩
  · intro k o hpaid wd active raw on ints ff vals nan gives
    have row {i : Instr} (kind : Nat) (hi : exec i s = .next (s.vecSlot c (0x48 + kind) w)) : VecRow s c i (0x48 + kind) w k o :=
      ⟨hi, h, rfl, rfl⟩
    have hnan : (if (k.activeVals o).any Val.isNan then fNanIn else 0) = nan := by
      rw [Core.activeVals, List.any_map]
      rfl
    refine ⟨fun hint => ?_, fun harith hno => ?_⟩
    · have harith : o.fmt.isArith = true := by
        revert hint
        cases o.fmt <;> decide
      obtain ⟨hsum, hmax, hmin⟩ := Core.reduced_int (k := k) hint
      exact ⟨(row 0 rfl).exec_reduced (by decide) harith hpaid hsum, (row 1 rfl).exec_reduced (by decide) harith hpaid hmax,
        (row 2 rfl).exec_reduced (by decide) harith hpaid hmin⟩
    · have hint : o.fmt.isInt = false := by
        revert harith hno
        cases o.fmt <;> decide
      refine ⟨(row 0 rfl).exec_reduced (by decide) harith hpaid ((Core.reduced_floatSum hint).trans (by rw [hnan]; rfl)),
        fun hnone => ?_, fun hsome => ?_⟩
      · have hvals : k.activeVals o = [] := List.map_eq_nil_iff.mpr hnone
        exact ⟨(row 1 rfl).exec_reduced (by decide) harith hpaid (Core.reduced_floatEmpty hint hvals 0),
          (row 2 rfl).exec_reduced (by decide) harith hpaid (Core.reduced_floatEmpty hint hvals 1)⟩
      · have hvals : k.activeVals o ≠ [] := fun hnil => hsome (List.map_eq_nil_iff.mp hnil)
        obtain ⟨x, y, hx, hy, hmax, hmin⟩ := Core.reduced_floatExtremes hint hvals
        rw [hnan] at hmax hmin
        exact ⟨x, y, hx, hy, (row 1 rfl).exec_reduced (by decide) harith hpaid hmax,
          (row 2 rfl).exec_reduced (by decide) harith hpaid hmin⟩
  · intro k o src dst
    have hrow : VecRow s c (.vCvt c w) 0x30 w k o := ⟨rfl, h, rfl, rfl⟩
    refine ⟨hrow.exec_convert_refused, ?_⟩
    intro hs8 hsr hd8 hdr n t occ active from_ word block mask flags hpaid
    have hspec := k.convertOut_computed c.v o
    rw [convertOut_results, cvtFlags_eq] at hspec
    refine ⟨_, k.cvtRegister c.v o, k.cvtScales c.v o, hrow.exec_convert (by simp only [not_or]; exact ⟨hs8, hsr, hd8, hdr⟩) hpaid, hspec,
      cvtScales_lt k c.v o, fun e he hon hmx => cvtRegister_plain hmx he hon, fun hmx b hb => ⟨bits_cvtScales_kept c.v hb,
        fun hsome => ⟨bits_cvtScales_block c.v hb hsome, fun j hj => cvtRegister_mx hmx hb hsome hj⟩⟩⟩

end Sys2Proof.Machine
end

section
/-! Special functions (R116, R125, R149): their issue, the results of special inputs (Table 4 of spec/04), and the values that are exact. -/

namespace Sys2Proof.Machine

/-! ### Issue -/

/-- A special function of element e, with NAN_IN where it is NaN (R82, R125). -/
def Core.specialAt (k : Core) (v : Nat) (o : VOp) (ff : FloatFmt) (fn : SpecialFn) (e : Nat) : Nat × Flags :=
  let x := ff.decode ((elems o.fmt (k.vreg o.va)).getD e 0)
  let r := special ff o.mode (k.randomWord v o e) fn x
  (r.1, r.2 ||| flagIf x.isNan fNanIn)

/-- The beats of a special function (R116). -/
def VOp.specialBeats (o : VOp) : Nat := if o.fmt = .fp64 then 8 else o.fmt.count / 16

theorem vecBeats_special {o : VOp} (hlo : 0x38 ≤ o.vop) (hhi : o.vop ≤ 0x41) : vecBeats o = o.specialBeats := by
  rw [vecBeats, if_neg (by omega), if_pos ⟨hlo, hhi⟩]
  rfl

theorem vecSpecial_ok {k : Core} {o : VOp} {ff : FloatFmt} {fn : SpecialFn}
    (hfmt : o.fmt = .fp64 ∨ o.fmt = .fp32 ∨ o.fmt = .bf16 ∨ o.fmt = .fp16) (hff : o.fmt.float? = some ff)
    (hfn : specialOf o.vop = some fn) (v : Nat) :
    vecSpecial k v o = .ok (k.elementOut o (vecBeats o + 5) (vecBeats o) (k.specialAt v o ff fn)) := by
  rcases hfmt with h | h | h | h <;> rw [h] at hff <;> cases hff <;>
    simp only [vecSpecial, Core.elementOut, Core.elementResults, Core.resultMask, Core.specialAt, hfn, h, Fmt.float?, Core.randomWord_eq]

theorem VecRow.exec_special {s : State} {c : CoreId} {i : Instr} {op : Nat} {w : BitVec 64} {k : Core} {o : VOp}
    (h : VecRow s c i op w k o) (hlo : 0x38 ≤ op) (hhi : op ≤ 0x41) {ff : FloatFmt} {fn : SpecialFn}
    (hfmt : o.fmt = .fp64 ∨ o.fmt = .fp32 ∨ o.fmt = .bf16 ∨ o.fmt = .fp16) (hff : o.fmt.float? = some ff)
    (hfn : specialOf op = some fn) (hpaid : 16 * o.specialBeats ≤ k.guardLu) :
    ∃ (k' : Core) (r : VecData), exec i s = .next (s.withCore c k') ∧
      k.Computed k' o [⟨k.beat + (o.specialBeats + 5), .reg o.vd, r, k.resultMask o⟩] o.specialBeats o.fmt.count
        (orFlags ((k.active o o.fmt.count).map fun e => (k.specialAt c.v o ff fn e).2)) ∧
      ∀ e ∈ k.active o o.fmt.count, (elems o.fmt r).getD e 0 = (k.specialAt c.v o ff fn e).1 % 2 ^ o.fmt.width := by
  have hout := vecSpecial_ok (k := k) (o := { o with vop := op }) hfmt hff hfn c.v
  rw [vecBeats_special (o := { o with vop := op }) hlo hhi] at hout
  exact h.exec_elements hpaid ((Core.issueVec_special _ _ _ hlo hhi).trans (congrArg (applyRes k) hout))

end Sys2Proof.Machine
end

section
/-! Special inputs of the special functions (Table 4 of spec/04, R125), the values that are exact, and the odd functions. -/

namespace Sys2Proof.Machine

/-! ### Table 4 -/

/-- The formats of the special functions (R125). -/
def specialFmts : List FloatFmt := [fp64F, fp32F, bf16F, fp16F]

theorem forall_specialFmts {p : FloatFmt → Prop} (h64 : p fp64F) (h32 : p fp32F) (hb : p bf16F) (h16 : p fp16F) :
    ∀ f ∈ specialFmts, p f := by
  simp only [specialFmts, List.mem_cons, List.not_mem_nil, or_false]
  rintro f (rfl | rfl | rfl | rfl) <;> assumption

theorem round_one : ∀ f ∈ specialFmts, (f.round .rne 0 false (.fin false 1 0)).1 = f.bias * 2 ^ f.mbits :=
  forall_specialFmts rfl rfl rfl rfl

theorem round_half : ∀ f ∈ specialFmts, f.round .rne 0 false (.fin false 1 (-1)) = (f.bias * 2 ^ f.mbits - 2 ^ f.mbits, 0) :=
  forall_specialFmts rfl rfl rfl rfl

section

variable (f : FloatFmt) (mode : RMode) (r : Nat)

/-- A special function of a value that is not zero is computed. -/
theorem special_fin (fn : SpecialFn) (neg : Bool) {m : Nat} (hm : 0 < m) (e : Int) :
    special f mode r fn (.fin neg m e) = specialFinite f mode r fn neg m e := if_neg hm.ne'

/-- LN, LOG2, SQRT and RSQRT of a negative value are NaN, with NV (Table 4 of spec/04). -/
theorem special_negative {fn : SpecialFn} (hfn : fn = .ln ∨ fn = .log2 ∨ fn = .sqrt ∨ fn = .rsqrt) {m : Nat} (hm : 0 < m) (e : Int) :
    special f mode r fn (.fin true m e) = (f.qnan, fNv) := by
  rw [special_fin f mode r fn true hm]
  rcases hfn with rfl | rfl | rfl | rfl <;> rfl

/-! ### Exact values -/

/-- LN and LOG2 of 1 are +0 (R125). -/
theorem special_log_one {fn : SpecialFn} (hfn : fn = .ln ∨ fn = .log2) (j : Nat) :
    special f mode r fn (.fin false (2 ^ j) (-(j : Int))) = (0, 0) := by
  rw [special_fin f mode r fn false (Nat.two_pow_pos j)]
  rcases hfn with rfl | rfl <;> simp [specialFinite, lnParts, Nat.log2_two_pow, fNone]

/-- EXP2 of an integer is a power of two, rounded once (R125). -/
theorem special_exp2_int (neg : Bool) {j : Nat} (hpos : 0 < j) (hlt : j < 2 ^ 12) :
    special f mode r .exp2 (.fin neg j 0) = f.round mode r false (.fin false 1 (if neg then -(j : Int) else j)) := by
  have hlog : Nat.log2 j < 12 := (Nat.log2_lt hpos.ne').mpr hlt
  have hsmall : ¬log2Mag j 0 < -100 := by
    unfold log2Mag
    omega
  have hclamp : clampArg j 0 = (j, 0) := if_neg (by unfold log2Mag; omega)
  rw [special_fin f mode r _ neg hpos]
  simp [specialFinite, hsmall, hclamp]

/-- LOG2 of a power of two is an integer, rounded once (R125). -/
theorem special_log2_pow {j : Int} (hj : j ≠ 0) :
    special f mode r .log2 (.fin false 1 j) = f.round mode r false (.fin (decide (j < 0)) j.natAbs 0) := by
  rw [special_fin f mode r _ false Nat.one_pos]
  have hlog : Nat.log2 1 = 0 := by decide
  simp [specialFinite, lnParts, hlog, hj]

end

/-! ### Odd functions -/

/-- A result with its sign set. -/
def FloatFmt.negated (f : FloatFmt) (p : Nat × Flags) : Nat × Flags := (f.withSign true p.1, p.2)

theorem FloatFmt.negated_inj {f : FloatFmt} {p q : Nat × Flags} : f.negated p = f.negated q ↔ p = q := by
  simp [FloatFmt.negated, FloatFmt.withSign, Prod.ext_iff]

section odd

variable {f : FloatFmt} {mode : RMode} (hmode : mode = .rne ∨ mode = .rtz) (hf : f.inf ≠ none ∧ f.nan ≠ none)

include hmode in
/-- To nearest and towards zero a magnitude is rounded alike under both signs. -/
theorem roundMagnitude_neg (f : FloatFmt) (r m : Nat) (e : Int) (sticky : Bool) :
    f.roundMagnitude mode r ⟨true, m, e, sticky⟩ = f.roundMagnitude mode r ⟨false, m, e, sticky⟩ := by
  rcases hmode with rfl | rfl <;> rfl

include hmode hf

theorem overflowNonsat_neg : f.overflowNonsat mode true = f.withSign true (f.overflowNonsat mode false) := by
  obtain ⟨hinf, -⟩ := hf
  obtain ⟨i, hi⟩ := Option.ne_none_iff_exists'.mp hinf
  rcases hmode with rfl | rfl <;> simp [FloatFmt.overflowNonsat, hi, FloatFmt.withSign]

theorem roundApprox_neg (r m : Nat) (e : Int) (sticky : Bool) :
    f.roundApprox mode r false ⟨true, m, e, sticky⟩ = f.negated (f.roundApprox mode r false ⟨false, m, e, sticky⟩) := by
  unfold FloatFmt.roundApprox
  simp only [roundMagnitude_neg hmode, hf.2, decide_false, Bool.or_self, Bool.false_eq_true, if_false]
  split
  · rfl
  · split
    · exact Prod.ext (overflowNonsat_neg hmode hf) rfl
    · rfl

theorem roundEncl_neg (r : Nat) (g : Nat → Encl) {ps : List Nat} (hps : ps ≠ []) :
    roundEncl f mode r true g ps = f.negated (roundEncl f mode r false g ps) := by
  induction ps with
  | nil => exact absurd rfl hps
  | cons p ps ih =>
    simp only [roundEncl, roundApprox_neg hmode hf, FloatFmt.negated_inj]
    split
    · rfl
    next hgo =>
      refine ih fun hnil => hgo ?_
      rw [hnil]
      simp

/-- TANH and ERF are odd (R125). -/
theorem special_odd {fn : SpecialFn} (hfn : fn = .tanh ∨ fn = .erf) (r m : Nat) (e : Int) :
    special f mode r fn (.fin true m e) = f.negated (special f mode r fn (.fin false m e)) := by
  rcases Nat.eq_zero_or_pos m with rfl | hm
  · rcases hfn with rfl | rfl <;> rfl
  · rw [special_fin f mode r fn true hm, special_fin f mode r fn false hm]
    have hps : specialPrecisions ≠ [] := by decide
    rcases hfn with rfl | rfl <;> simp only [specialFinite, nearApprox, roundApprox_neg hmode hf, roundEncl_neg hmode hf _ _ hps] <;>
      split_ifs <;> rfl

end odd

end Sys2Proof.Machine
end

section
/-! The one rounding (R55, R76) over the real numbers: which encodings lie next to a magnitude, and which of them each mode takes. -/

namespace Sys2Proof.Machine

/-! ### Magnitudes as real numbers -/

/-- The real number m · 2^e. -/
noncomputable def dyadic (m : Nat) (e : Int) : ℝ := m * 2 ^ e

theorem dyadic_lt {m n : Nat} {e : Int} : dyadic m e < dyadic n e ↔ m < n := by
  rw [dyadic, dyadic, mul_lt_mul_iff_left₀ (zpow_pos two_pos e), Nat.cast_lt]

theorem dyadic_le {m n : Nat} {e : Int} : dyadic m e ≤ dyadic n e ↔ m ≤ n := by
  rw [dyadic, dyadic, mul_le_mul_iff_left₀ (zpow_pos two_pos e), Nat.cast_le]

/-- The same number with a smaller exponent. -/
theorem dyadic_add (m d : Nat) (e : Int) : dyadic m (e + d) = dyadic (m * 2 ^ d) e := by
  rw [dyadic, dyadic, zpow_add₀ two_ne_zero, zpow_natCast]
  push_cast
  ring

/-- The magnitude that an encoding denotes, as if the exponent had no upper bound (R52). -/
noncomputable def FloatFmt.magnitude (f : FloatFmt) (y : Nat) : ℝ :=
  if y / 2 ^ f.mbits = 0 then dyadic (y % 2 ^ f.mbits) f.qmin
  else dyadic (y % 2 ^ f.mbits + 2 ^ f.mbits) (f.qmin + (y / 2 ^ f.mbits : Nat) - 1)

theorem FloatFmt.magnitude_fields (f : FloatFmt) (i : Nat) {m : Nat} (hm : m < 2 ^ f.mbits) :
    f.magnitude (i * 2 ^ f.mbits + m) = if i = 0 then dyadic m f.qmin else dyadic (m + 2 ^ f.mbits) (f.qmin + i - 1) := by
  have hdiv : (i * 2 ^ f.mbits + m) / 2 ^ f.mbits = i := by
    rw [Nat.mul_comm, Nat.mul_add_div (Nat.two_pow_pos _), Nat.div_eq_of_lt hm, Nat.add_zero]
  have hmod : (i * 2 ^ f.mbits + m) % 2 ^ f.mbits = m := by
    rw [Nat.mul_comm, Nat.mul_add_mod, Nat.mod_eq_of_lt hm]
  rw [FloatFmt.magnitude, hdiv, hmod]

/-- The encoding of n units of 2^q on the grid of a format: n has at most a carry more than the format's bits, and no fewer unless the
grid is the subnormal one (R52, R55). -/
theorem FloatFmt.magnitude_grid (f : FloatFmt) {n : Nat} {q : Int} (hn : n ≤ 2 ^ (f.mbits + 1)) (hq : f.qmin ≤ q)
    (hnorm : q = f.qmin ∨ 2 ^ f.mbits ≤ n) : f.magnitude ((q - f.qmin).toNat * 2 ^ f.mbits + n) = dyadic n q := by
  obtain ⟨j, rfl⟩ := Int.le.dest hq
  have hj : (f.qmin + j - f.qmin).toNat = j := by omega
  rw [hj]
  rcases Nat.lt_or_ge n (2 ^ f.mbits) with hlow | hhigh
  · have hzero : j = 0 := by omega
    subst hzero
    rw [f.magnitude_fields 0 hlow, if_pos rfl, Nat.cast_zero, add_zero]
  · obtain ⟨m, rfl⟩ := Nat.exists_eq_add_of_le hhigh
    rw [Nat.pow_succ] at hn
    rcases Nat.lt_or_ge m (2 ^ f.mbits) with hm | hm
    · rw [show j * 2 ^ f.mbits + (2 ^ f.mbits + m) = (j + 1) * 2 ^ f.mbits + m by ring, f.magnitude_fields _ hm, if_neg (by omega),
        Nat.add_comm m]
      congr 1
      push_cast
      ring
    · have hcarry : m = 2 ^ f.mbits := by omega
      subst hcarry
      rw [show j * 2 ^ f.mbits + (2 ^ f.mbits + 2 ^ f.mbits) = (j + 2) * 2 ^ f.mbits + 0 by ring,
        f.magnitude_fields _ (Nat.two_pow_pos _), if_neg (by omega), Nat.zero_add,
        show f.qmin + ((j + 2 : Nat) : Int) - 1 = f.qmin + j + (1 : Nat) by push_cast; ring, dyadic_add]
      congr 1
      ring

/-- Every encoding is a number of units on its grid. -/
theorem FloatFmt.exists_grid (f : FloatFmt) (y : Nat) : ∃ (n : Nat) (q : Int), n < 2 ^ (f.mbits + 1) ∧ f.qmin ≤ q ∧
    (q = f.qmin ∨ 2 ^ f.mbits ≤ n) ∧ y = (q - f.qmin).toNat * 2 ^ f.mbits + n := by
  have hmod := Nat.mod_lt y (Nat.two_pow_pos f.mbits)
  have hsplit := Nat.div_add_mod' y (2 ^ f.mbits)
  rw [Nat.pow_succ]
  cases hi : y / 2 ^ f.mbits with
  | zero => exact ⟨y % 2 ^ f.mbits, f.qmin, by omega, le_rfl, .inl rfl, by rw [hi] at hsplit; simpa using hsplit.symm⟩
  | succ j =>
    refine ⟨2 ^ f.mbits + y % 2 ^ f.mbits, f.qmin + j, by omega, by omega, .inr (by omega), ?_⟩
    rw [hi, Nat.succ_mul] at hsplit
    rw [show (f.qmin + (j : Int) - f.qmin).toNat = j by omega]
    omega

theorem FloatFmt.magnitude_strictMono (f : FloatFmt) : StrictMono f.magnitude := by
  refine strictMono_nat_of_lt_succ fun y => ?_
  obtain ⟨n, q, hn, hq, hnorm, rfl⟩ := f.exists_grid y
  rw [f.magnitude_grid hn.le hq hnorm, Nat.add_assoc, f.magnitude_grid hn hq (hnorm.imp_right Nat.le_succ_of_le), dyadic_lt]
  exact Nat.lt_succ_self n

/-! ### Rounding to a multiple of a power of two -/

/-- A positive magnitude `x` that an approximation stands for: the integer part of it in units of 2^e, sticky where more is left. -/
structure Approx.Encloses (a : Approx) (x : ℝ) : Prop where
  pos   : a.neg = false
  low   : dyadic a.m a.e ≤ x
  high  : x < dyadic (a.m + 1) a.e
  exact : a.sticky = false ↔ x = dyadic a.m a.e

section roundMag

variable {a : Approx} {q : Int} (hq : a.e < q)
include hq

theorem roundMag_cases (mode : RMode) (r : Nat) :
    (roundMag mode r a q).1 = a.m / 2 ^ (q - a.e).toNat ∨ (roundMag mode r a q).1 = a.m / 2 ^ (q - a.e).toNat + 1 := by
  rw [roundMag, if_neg (not_le.mpr hq)]
  exact (ite_eq_or_eq _ _ _).symm

/-- What is a multiple already stays. -/
theorem roundMag_exact (hrem : a.m % 2 ^ (q - a.e).toNat = 0) (hsticky : a.sticky = false) (mode : RMode) (r : Nat) :
    (roundMag mode r a q).1 = a.m / 2 ^ (q - a.e).toNat := by
  have hhalf := Nat.two_pow_pos ((q - a.e).toNat - 1)
  have hr := Nat.mod_lt r (Nat.two_pow_pos 32)
  rw [roundMag, if_neg (not_le.mpr hq)]
  cases mode <;> simp [hrem, hsticky, hr, hhalf.ne, -Nat.reducePow]

/-- Downwards and towards zero a positive magnitude is cut. -/
theorem roundMag_down (hpos : a.neg = false) (r : Nat) :
    (roundMag .rdn r a q).1 = a.m / 2 ^ (q - a.e).toNat ∧ (roundMag .rtz r a q).1 = a.m / 2 ^ (q - a.e).toNat := by
  rw [roundMag, roundMag, if_neg (not_le.mpr hq), if_neg (not_le.mpr hq)]
  simp [hpos]

/-- Upwards a positive magnitude that is no multiple takes the next. -/
theorem roundMag_up (hpos : a.neg = false) (hmore : ¬(a.m % 2 ^ (q - a.e).toNat = 0 ∧ a.sticky = false)) (r : Nat) :
    (roundMag .rup r a q).1 = a.m / 2 ^ (q - a.e).toNat + 1 := by
  rw [roundMag, if_neg (not_le.mpr hq)]
  rw [not_and_or, Bool.not_eq_false] at hmore
  simp [hpos, hmore]

end roundMag

/-- The multiple of 2^q below a magnitude, the one above it, and when it is the lower one. -/
theorem Approx.Encloses.units {a : Approx} {x : ℝ} (h : a.Encloses x) {q : Int} (hq : a.e < q) :
    dyadic (a.m / 2 ^ (q - a.e).toNat) q ≤ x ∧ x < dyadic (a.m / 2 ^ (q - a.e).toNat + 1) q ∧
      (x = dyadic (a.m / 2 ^ (q - a.e).toNat) q ↔ a.m % 2 ^ (q - a.e).toNat = 0 ∧ a.sticky = false) := by
  obtain ⟨d, rfl⟩ := Int.le.dest hq.le
  rw [show (a.e + d - a.e).toNat = d by omega, dyadic_add, dyadic_add]
  have hsplit := Nat.div_add_mod' a.m (2 ^ d)
  have hrem := Nat.mod_lt a.m (Nat.two_pow_pos d)
  have hnext : a.m + 1 ≤ (a.m / 2 ^ d + 1) * 2 ^ d := by
    rw [Nat.succ_mul]
    omega
  refine ⟨(dyadic_le.mpr (by omega)).trans h.low, h.high.trans_le (dyadic_le.mpr hnext), fun hx => ?_, fun ⟨hzero, hsticky⟩ => ?_⟩
  · have hle : a.m ≤ a.m / 2 ^ d * 2 ^ d := dyadic_le.mp (h.low.trans_eq hx)
    have heq : a.m / 2 ^ d * 2 ^ d = a.m := by omega
    exact ⟨by omega, h.exact.mpr (heq ▸ hx)⟩
  · rw [show a.m / 2 ^ d * 2 ^ d = a.m by omega]
    exact h.exact.mp hsticky

/-! ### Rounding into a format -/

/-- `g` rounds magnitude `x` in every mode to encoding `y`, the last that is not above it, or to the next (R76); the greatest finite
encoding has the infinity next to it (R77). -/
structure FloatFmt.Rounds (f : FloatFmt) (x : ℝ) (y : Nat) (g : RMode → Nat → Nat) : Prop where
  low   : f.magnitude y ≤ x
  high  : y < f.maxFin → x < f.magnitude (y + 1)
  near  : ∀ mode r, g mode r = y ∨ g mode r = y + 1
  exact : x = f.magnitude y → ∀ mode r, g mode r = y
  down  : ∀ r, g .rdn r = y ∧ g .rtz r = y
  up    : x ≠ f.magnitude y → ∀ r, g .rup r = y + 1

/-- A magnitude known to more bits than the format has is rounded to an encoding beside it (R55, R76). -/
theorem FloatFmt.roundMagnitude_rounds (f : FloatFmt) {a : Approx} {x : ℝ} (h : a.Encloses x) (hbits : f.mbits < Nat.log2 a.m) :
    ∃ y, f.Rounds x y fun mode r => (f.roundMagnitude mode r a).mag := by
  have hm : a.m ≠ 0 := fun h0 => by simp [h0, Nat.log2_zero] at hbits
  have hlog := Nat.lt_log2_self (n := a.m)
  have hself := Nat.log2_self_le hm
  generalize hq : max (a.e + Nat.log2 a.m - f.mbits) f.qmin = q
  have hmag : ∀ mode r, (f.roundMagnitude mode r a).mag = (q - f.qmin).toNat * 2 ^ f.mbits + (roundMag mode r a q).1 :=
    fun mode r => by rw [← hq]; rfl
  have hqe : a.e < q := by omega
  obtain ⟨hlow, hhigh, hexact⟩ := h.units hqe
  have hcases := roundMag_cases hqe
  have hsame := roundMag_exact hqe
  have hdown := roundMag_down hqe h.pos
  have hup := roundMag_up hqe h.pos
  obtain ⟨d, hd⟩ : ∃ d, (q - a.e).toNat = d := ⟨_, rfl⟩
  rw [hd] at hlow hhigh hexact hcases hsame hdown hup
  have hn : a.m / 2 ^ d < 2 ^ (f.mbits + 1) := by
    refine Nat.div_lt_of_lt_mul (hlog.trans_le ?_)
    rw [← Nat.pow_add]
    exact Nat.pow_le_pow_right (by decide) (by omega)
  have hnorm : q = f.qmin ∨ 2 ^ f.mbits ≤ a.m / 2 ^ d := by
    by_cases hsub : q = f.qmin
    · exact .inl hsub
    · refine .inr ((Nat.le_div_iff_mul_le (Nat.two_pow_pos d)).mpr (le_trans (le_of_eq ?_) hself))
      rw [← Nat.pow_add]
      congr 1
      omega
  have hat := f.magnitude_grid hn.le (by omega) hnorm
  have hnext := f.magnitude_grid (n := a.m / 2 ^ d + 1) hn (by omega) (hnorm.imp_right Nat.le_succ_of_le)
  refine ⟨(q - f.qmin).toNat * 2 ^ f.mbits + a.m / 2 ^ d, ?_⟩
  rw [← hat] at hlow hexact
  rw [← hnext, ← Nat.add_assoc] at hhigh
  exact {
    low := hlow
    high := fun _ => hhigh
    near := fun mode r => by rw [hmag]; have := hcases mode r; omega
    exact := fun hx mode r => by
      obtain ⟨hrem, hsticky⟩ := hexact.mp hx
      rw [hmag, hsame hrem hsticky]
    down := fun r => by
      obtain ⟨hrdn, hrtz⟩ := hdown r
      rw [hmag, hmag, hrdn, hrtz]
      exact ⟨rfl, rfl⟩
    up := fun hx r => by rw [hmag, hup (mt hexact.mpr hx), Nat.add_assoc] }

end Sys2Proof.Machine
end

section
/-! A rounded result beside the exact one, as the model's comparison of exact values sees it (R76, R77, R80). -/

namespace Sys2Proof.Machine

/-! ### The overflow rule -/

/-- An infinity follows the greatest finite encoding below the sign, and there is a NaN (R52). -/
structure FloatFmt.Wide (f : FloatFmt) : Prop where
  inf  : f.inf = some (f.maxFin + 1)
  nan  : f.nan ≠ none
  sign : f.maxFin + 1 < 2 ^ f.signBit
  bits : f.mbits ≤ 52

theorem FloatFmt.wide_of_special : ∀ f ∈ specialFmts, f.Wide :=
  forall_specialFmts ⟨rfl, nofun, by decide, by decide⟩ ⟨rfl, nofun, by decide, by decide⟩ ⟨rfl, nofun, by decide, by decide⟩
    ⟨rfl, nofun, by decide, by decide⟩

section

variable {f : FloatFmt} {a : Approx} (hpos : a.neg = false) (hm : a.m ≠ 0)
include hpos hm

theorem roundApprox_of_le {mode : RMode} {r : Nat} (h : (f.roundMagnitude mode r a).mag ≤ f.maxFin) :
    (f.roundApprox mode r false a).1 = (f.roundMagnitude mode r a).mag := by
  simp [FloatFmt.roundApprox, hm, not_lt.mpr h, hpos, FloatFmt.withSign]

variable (hf : f.Wide)
include hf

/-- An overflow gives the greatest finite value towards zero and downwards, the infinity otherwise (R77). -/
theorem roundApprox_of_gt {mode : RMode} {r : Nat} (h : f.maxFin < (f.roundMagnitude mode r a).mag) :
    (f.roundApprox mode r false a).1 = if mode = .rtz ∨ mode = .rdn then f.maxFin else f.maxFin + 1 := by
  simp only [FloatFmt.roundApprox, hm, if_false, gt_iff_lt, h, if_true, hf.nan, Bool.false_or, decide_false, Bool.false_eq_true,
    FloatFmt.overflowNonsat, hf.inf, hpos, FloatFmt.withSign]
  cases mode <;> rfl

/-- Rounding a positive magnitude gives the finite encoding below it or the next one. -/
theorem roundApprox_rounds {x : ℝ} (h : a.Encloses x) (hbits : f.mbits < Nat.log2 a.m) :
    ∃ y ≤ f.maxFin, f.Rounds x y fun mode r => (f.roundApprox mode r false a).1 := by
  obtain ⟨y, hy⟩ := f.roundMagnitude_rounds h hbits
  rcases Nat.lt_or_ge f.maxFin y with hover | hfits
  · have hgt (mode : RMode) (r : Nat) : f.maxFin < (f.roundMagnitude mode r a).mag := by
      have := hy.near mode r
      omega
    have hlt : f.magnitude f.maxFin < x := (f.magnitude_strictMono hover).trans_le hy.low
    exact ⟨f.maxFin, le_rfl, {
      low := hlt.le
      high := fun h => absurd h (lt_irrefl _)
      near := fun mode r => by
        rw [roundApprox_of_gt hpos hm hf (hgt mode r)]
        exact ite_eq_or_eq _ _ _
      exact := fun h => absurd h hlt.ne'
      down := fun r => ⟨roundApprox_of_gt hpos hm hf (hgt .rdn r), roundApprox_of_gt hpos hm hf (hgt .rtz r)⟩
      up := fun _ r => roundApprox_of_gt hpos hm hf (hgt .rup r) }⟩
  · have hsame (mode : RMode) (r : Nat) : (f.roundApprox mode r false a).1 = (f.roundMagnitude mode r a).mag := by
      rcases Nat.lt_or_ge f.maxFin (f.roundMagnitude mode r a).mag with hgt | hle
      · have hnext : (f.roundMagnitude mode r a).mag = f.maxFin + 1 := by
          have := hy.near mode r
          omega
        rw [roundApprox_of_gt hpos hm hf hgt, hnext, if_neg]
        rintro (rfl | rfl)
        · exact absurd (hy.down r).2 (by omega)
        · exact absurd (hy.down r).1 (by omega)
      · exact roundApprox_of_le hpos hm hle
    exact ⟨y, hfits, (funext₂ hsame : (fun mode r => (f.roundApprox mode r false a).1) = _) ▸ hy⟩

end

/-! ### Exact values -/

theorem signedAt_pos (m : Nat) {e u : Int} (h : u ≤ e) : ((signedAt false m e u : Int) : ℝ) * 2 ^ u = dyadic m e := by
  obtain ⟨d, rfl⟩ := Int.le.dest h
  rw [dyadic_add, signedAt, show (u + (d : Int) - u).toNat = d by omega, dyadic]
  simp

/-- Positive finite values are compared as the numbers they are. -/
theorem Val.lt_fin {m n : Nat} {e g : Int} : Val.lt (.fin false m e) (.fin false n g) = true ↔ dyadic m e < dyadic n g := by
  rw [← signedAt_pos m (min_le_left e g), ← signedAt_pos n (min_le_right e g), mul_lt_mul_iff_left₀ (zpow_pos two_pos _), Int.cast_lt]
  exact decide_eq_true_iff

theorem dyadic_mul (m n : Nat) (e g : Int) : dyadic (m * n) (e + g) = dyadic m e * dyadic n g := by
  rw [dyadic, dyadic, dyadic, zpow_add₀ two_ne_zero]
  push_cast
  ring

theorem dyadic_nonneg (m : Nat) (e : Int) : 0 ≤ dyadic m e := mul_nonneg m.cast_nonneg (zpow_pos two_pos e).le

theorem dyadic_pos {m : Nat} (hm : 0 < m) (e : Int) : 0 < dyadic m e := mul_pos (Nat.cast_pos.mpr hm) (zpow_pos two_pos e)

section decode

variable {f : FloatFmt} {y : Nat}

/-- A finite encoding without a sign denotes its magnitude (R52). -/
theorem FloatFmt.decode_magnitude (hsign : f.maxFin < 2 ^ f.signBit) (hy : y ≤ f.maxFin) :
    ∃ m e, f.decode y = .fin false m e ∧ dyadic m e = f.magnitude y := by
  have hmod : y % 2 ^ f.signBit = y := Nat.mod_eq_of_lt (by omega)
  have hbit : bit y f.signBit = false := Nat.testBit_lt_two_pow (by omega)
  simp only [FloatFmt.decode, FloatFmt.magnitude, hmod, hbit, hy, if_true]
  split
  · exact ⟨_, _, rfl, rfl⟩
  · exact ⟨_, _, rfl, rfl⟩

/-- Past the finite encodings stand the infinity and the NaNs. -/
theorem FloatFmt.decode_beyond (hlow : f.maxFin < y) (hy : y < 2 ^ f.signBit) :
    f.decode y = if f.inf = some y then .inf false else .nan := by
  have hbit : bit y f.signBit = false := Nat.testBit_lt_two_pow hy
  simp only [FloatFmt.decode, Nat.mod_eq_of_lt hy, hbit, not_le.mpr hlow, if_false]

end decode

/-! ### The exact result as a comparison -/

/-- `scaled` and `goal` compare a value with the exact result `x`: `scaled` increases, and takes `x` to `goal`. -/
structure Compares (scaled : Val → Val) (goal : Val) (x : ℝ) : Prop where
  above   : ∀ m e, Val.lt goal (scaled (.fin false m e)) = true ↔ x < dyadic m e
  below   : ∀ m e, Val.lt (scaled (.fin false m e)) goal = true ↔ dyadic m e < x
  inf_lt  : Val.lt (scaled (.inf false)) goal = false
  lt_inf  : Val.lt goal (scaled (.inf false)) = true
  nan     : (scaled .nan).isNan = true

/-- What rounding once by each mode means for `result` (R76): no more than the exact result downwards, no less upwards, neighbours, and
the exact result where the format has it. -/
def FloatFmt.RoundedOnce (f : FloatFmt) (result : RMode → Nat) (scaled : Val → Val) (goal : Val) : Prop :=
  Val.lt goal (scaled (f.decode (result .rdn))) = false ∧ Val.lt (scaled (f.decode (result .rup))) goal = false ∧
  result .rtz = result .rdn ∧ (result .rup = result .rdn ∨ result .rup = result .rdn + 1) ∧
  (result .rne = result .rdn ∨ result .rne = result .rup) ∧
  (∀ y, y < 2 ^ f.signBit → Val.eq (scaled (f.decode y)) goal = true → ∀ mode, result mode = y)

section

variable {f : FloatFmt} (hf : f.Wide) {x : ℝ} {scaled : Val → Val} {goal : Val} (hc : Compares scaled goal x)
include hf hc

theorem Compares.not_above {y : Nat} (hy : y ≤ f.maxFin) (h : f.magnitude y ≤ x) : Val.lt goal (scaled (f.decode y)) = false := by
  obtain ⟨m, e, hdec, hval⟩ := FloatFmt.decode_magnitude (by have := hf.sign; omega) hy
  rw [hdec, ← Bool.not_eq_true, hc.above, hval]
  exact not_lt.mpr h

theorem Compares.not_below {y : Nat} (hy : y ≤ f.maxFin) (h : x ≤ f.magnitude y) : Val.lt (scaled (f.decode y)) goal = false := by
  obtain ⟨m, e, hdec, hval⟩ := FloatFmt.decode_magnitude (by have := hf.sign; omega) hy
  rw [hdec, ← Bool.not_eq_true, hc.below, hval]
  exact not_lt.mpr h

/-- The infinity after the finite encodings is not below. -/
theorem Compares.not_below_inf : Val.lt (scaled (f.decode (f.maxFin + 1))) goal = false := by
  rw [FloatFmt.decode_beyond (Nat.lt_succ_self _) hf.sign, if_pos hf.inf]
  exact hc.inf_lt

/-- An encoding that compares equal is finite, and its magnitude is the exact result. -/
theorem Compares.eq_magnitude {y : Nat} (hy : y < 2 ^ f.signBit) (h : Val.eq (scaled (f.decode y)) goal = true) :
    y ≤ f.maxFin ∧ x = f.magnitude y := by
  simp only [Val.eq, Bool.and_eq_true, Bool.not_eq_true'] at h
  obtain ⟨⟨⟨hnan, -⟩, hbelow⟩, habove⟩ := h
  rcases Nat.lt_or_ge f.maxFin y with hlow | hle
  · rw [FloatFmt.decode_beyond hlow hy] at hnan habove
    split at habove
    · exact absurd (hc.lt_inf.symm.trans habove) (by decide)
    next hinf =>
      rw [if_neg hinf, hc.nan] at hnan
      exact absurd hnan (by decide)
  · obtain ⟨m, e, hdec, hval⟩ := FloatFmt.decode_magnitude (by have := hf.sign; omega) hle
    rw [hdec] at hbelow habove
    rw [← Bool.not_eq_true, hc.below, not_lt, hval] at hbelow
    rw [← Bool.not_eq_true, hc.above, not_lt, hval] at habove
    exact ⟨hle, hbelow.antisymm habove⟩

/-- A result between the finite encoding below the exact one and the next is rounded once. -/
theorem FloatFmt.Rounds.roundedOnce {y r : Nat} {g : RMode → Nat → Nat} (hr : f.Rounds x y g) (hy : y ≤ f.maxFin) :
    f.RoundedOnce (fun mode => g mode r) scaled goal := by
  obtain ⟨hdn, htz⟩ := hr.down r
  refine ⟨?_, ?_, htz.trans hdn.symm, ?_, ?_, fun z hz heq mode => ?_⟩
  · simp only [hdn]
    exact hc.not_above hf hy hr.low
  · by_cases hx : x = f.magnitude y
    · simp only [hr.exact hx]
      exact hc.not_below hf hy hx.le
    · simp only [hr.up hx]
      rcases Nat.lt_or_ge y f.maxFin with hlt | hge
      · exact hc.not_below hf hlt (hr.high hlt).le
      · rw [show y = f.maxFin by omega]
        exact hc.not_below_inf hf
  · simp only [hdn]
    exact hr.near .rup r
  · by_cases hx : x = f.magnitude y
    · simp only [hr.exact hx, true_or]
    · simp only [hdn, hr.up hx]
      exact hr.near .rne r
  · obtain ⟨hfin, hx⟩ := hc.eq_magnitude hf hz heq
    have hzy : z = y := by
      refine le_antisymm (not_lt.mp fun hlt => ?_) (f.magnitude_strictMono.le_iff_le.mp (hr.low.trans_eq hx))
      have hnext : f.magnitude (y + 1) ≤ f.magnitude z := f.magnitude_strictMono.monotone hlt
      exact absurd (hr.high (by omega)) (not_lt.mpr (hx ▸ hnext))
    rw [hzy] at hx ⊢
    exact hr.exact hx mode r

/-- The rounding of an approximation of the exact result, to more bits than a format has, is rounded once. -/
theorem Approx.Encloses.roundedOnce {a : Approx} (h : a.Encloses x) (hbits : 52 < Nat.log2 a.m) (r : Nat) :
    f.RoundedOnce (fun mode => (f.roundApprox mode r false a).1) scaled goal := by
  have hm : a.m ≠ 0 := fun h0 => by simp [h0, Nat.log2_zero] at hbits
  obtain ⟨y, hy, hr⟩ := roundApprox_rounds h.pos hm hf h (hf.bits.trans_lt hbits)
  exact hr.roundedOnce hf hc hy

end

end Sys2Proof.Machine
end

section
/-! The quotients and square roots of the model (R125) enclose the exact ones. -/

namespace Sys2Proof.Machine

/-! ### Square roots by successive bits -/

theorem isqrtFrom_spec (i x acc : Nat) (hlow : acc * acc ≤ x) (hhigh : x < (acc + 2 ^ i) * (acc + 2 ^ i)) :
    isqrtFrom i x acc * isqrtFrom i x acc ≤ x ∧ x < (isqrtFrom i x acc + 1) * (isqrtFrom i x acc + 1) := by
  induction i generalizing acc with
  | zero => exact ⟨hlow, hhigh⟩
  | succ i ih =>
    rw [Nat.pow_succ, Nat.mul_two, ← Nat.add_assoc] at hhigh
    rw [isqrtFrom]
    split
    next hbit => exact ih _ hbit hhigh
    next hbit => exact ih _ hlow (not_le.mp hbit)

theorem isqrt_eq_sqrt (x : Nat) : isqrt x = Nat.sqrt x := by
  refine Nat.eq_sqrt.mpr (isqrtFrom_spec _ x 0 (Nat.zero_le x) ?_)
  rw [Nat.zero_add, ← Nat.pow_add]
  exact Nat.lt_log2_self.trans_le (Nat.pow_le_pow_right (by decide) (by omega))

/-! ### Enclosures -/

/-- An approximation by the integer part `s` of `c`, in units of 2^h. -/
theorem encloses_scaled {s : Nat} {h : Int} {sticky : Bool} {c : ℝ} (hlow : s ≤ c) (hhigh : c < s + 1) (hexact : sticky = false ↔ c = s) :
    (⟨false, s, h, sticky⟩ : Approx).Encloses (c * 2 ^ h) where
  pos := rfl
  low := mul_le_mul_of_nonneg_right hlow (zpow_pos two_pos h).le
  high := by
    rw [dyadic, Nat.cast_succ]
    exact mul_lt_mul_of_pos_right hhigh (zpow_pos two_pos h)
  exact := hexact.trans (mul_left_inj' (zpow_pos two_pos h).ne').symm

/-- The integer part of a quotient. -/
theorem div_floor (a : Nat) {b : Nat} (hb : 0 < b) : ((a / b : Nat) : ℝ) ≤ (a : ℝ) / b ∧ (a : ℝ) / b < (a / b : Nat) + 1 ∧
    (a % b = 0 ↔ (a : ℝ) / b = (a / b : Nat)) := by
  obtain ⟨hlow, hhigh⟩ := (Nat.floor_eq_iff (by positivity : (0 : ℝ) ≤ a / b)).mp (Nat.floor_div_eq_div a b)
  refine ⟨hlow, hhigh, ?_⟩
  have hsplit := Nat.div_add_mod' a b
  rw [div_eq_iff (Nat.cast_ne_zero.mpr hb.ne'), ← Nat.cast_mul, Nat.cast_inj]
  omega

/-- The square root of the integer part `q` of `c` stands for the square root of `c`. -/
theorem encloses_sqrt {q : Nat} {h : Int} {more : Bool} {c : ℝ} (hlow : q ≤ c) (hhigh : c < q + 1) (hexact : more = false ↔ c = q) :
    (⟨false, isqrt q, h, isqrt q * isqrt q != q || more⟩ : Approx).Encloses (√c * 2 ^ h) := by
  rw [isqrt_eq_sqrt]
  have hc : (0 : ℝ) ≤ c := q.cast_nonneg.trans hlow
  have hle : ((Nat.sqrt q : ℝ)) * Nat.sqrt q ≤ q := by exact_mod_cast Nat.sqrt_le q
  have hlt : (q : ℝ) + 1 ≤ (Nat.sqrt q + 1) * (Nat.sqrt q + 1) := by exact_mod_cast Nat.lt_succ_sqrt q
  refine encloses_scaled (Real.le_sqrt_of_sq_le ?_) ((Real.sqrt_lt' (by positivity)).mpr ?_) ?_
  · rw [sq]
    exact hle.trans hlow
  · rw [sq]
    exact hhigh.trans_le hlt
  · rw [Bool.or_eq_false_iff, bne_eq_false_iff_eq, hexact, Real.sqrt_eq_iff_mul_self_eq hc (Nat.cast_nonneg _)]
    refine ⟨fun ⟨hsquare, hint⟩ => ?_, fun hsquare => ?_⟩
    · rw [hint, ← Nat.cast_mul, hsquare]
    · have hint : c = q := le_antisymm (hsquare ▸ hle) hlow
      exact ⟨by exact_mod_cast hsquare.symm.trans hint, hint⟩

end Sys2Proof.Machine
end

section
/-! RCP, SQRT and RSQRT are rounded once (R125): how close the model's approximations are, and what their results are compared with. -/

namespace Sys2Proof.Machine

/-! ### The exact results, enclosed to 53 bits or more -/

theorem log2_isqrt_of_le {q : Nat} (h : 2 ^ 106 ≤ q) : 52 < Nat.log2 (isqrt q) := by
  rw [isqrt_eq_sqrt]
  have hsqrt : 2 ^ 53 ≤ Nat.sqrt q := Nat.le_sqrt.mpr h
  exact (Nat.le_log2 (by omega)).mpr hsqrt

theorem sqrt_scaled_mul_self {c : ℝ} (hc : 0 ≤ c) (j : Int) : √c * 2 ^ j * (√c * 2 ^ j) = c * 2 ^ (2 * j) := by
  rw [mul_mul_mul_comm, Real.mul_self_sqrt hc, ← zpow_add₀ two_ne_zero, two_mul]

/-- The model's reciprocal square root of m · 2^e, to at least 100 bits (R125). -/
def rsqrtApprox (m : Nat) (e : Int) : Approx :=
  let k : Nat := 512 + 2 * Nat.log2 m + (if e % 2 = 0 then 0 else 1)
  ⟨false, isqrt (2 ^ k / m), -((k : Int) + e) / 2, isqrt (2 ^ k / m) * isqrt (2 ^ k / m) != 2 ^ k / m || 2 ^ k % m != 0⟩

section

variable {m : Nat} (hm : 0 < m) (e : Int)
include hm

/-- A quotient by m has the bits that its numerator has past those of m. -/
theorem le_two_pow_div {n k : Nat} (h : n + Nat.log2 m + 1 ≤ k) : 2 ^ n ≤ 2 ^ k / m := by
  refine (Nat.le_div_iff_mul_le hm).mpr ((Nat.mul_le_mul_left _ Nat.lt_log2_self.le).trans ?_)
  rw [← Nat.pow_add]
  exact Nat.pow_le_pow_right (by decide) h

/-- The model's reciprocal stands for the number whose product with m · 2^e is 1. -/
theorem divApprox_encloses : ∃ x, 0 < x ∧ x * dyadic m e = 1 ∧ (divApprox false 1 0 m e).Encloses x ∧
    52 < Nat.log2 (divApprox false 1 0 m e).m := by
  have hm' : (0 : ℝ) < m := Nat.cast_pos.mpr hm
  obtain ⟨k, hk⟩ : ∃ k, 200 + Nat.log2 m = k := ⟨_, rfl⟩
  obtain ⟨hlow, hhigh, hexact⟩ := div_floor (1 * 2 ^ k) hm
  have hbits : 2 ^ 53 ≤ 1 * 2 ^ k / m := by
    rw [Nat.one_mul]
    exact le_two_pow_div hm (by omega)
  rw [divApprox, hk]
  refine ⟨_, ?_, ?_, encloses_scaled (h := 0 - e - k) hlow hhigh (bne_eq_false_iff_eq.trans hexact),
    (Nat.le_log2 ((Nat.two_pow_pos 53).trans_le hbits).ne').mpr hbits⟩
  · positivity
  · rw [dyadic, zpow_sub₀ two_ne_zero, zpow_sub₀ two_ne_zero, zpow_natCast]
    push_cast
    field_simp

/-- The model's square root stands for that of m · 2^e. -/
theorem sqrtApprox_encloses : ∃ x, 0 < x ∧ x * x = dyadic m e ∧ (sqrtApprox m e).Encloses x ∧ 52 < Nat.log2 (sqrtApprox m e).m := by
  have hm' : (0 : ℝ) < m := Nat.cast_pos.mpr hm
  obtain ⟨k, hk⟩ : ∃ k : Nat, 256 + (if e % 2 = 0 then 0 else 1) = k := ⟨_, rfl⟩
  obtain ⟨j, rfl⟩ : ∃ j : Int, e = 2 * j + k := ⟨(e - k) / 2, by split at hk <;> omega⟩
  have hbits : 2 ^ 106 ≤ m * 2 ^ k := le_mul_of_one_le_of_le hm (Nat.pow_le_pow_right (by decide) (by omega))
  have hencl := encloses_sqrt (q := m * 2 ^ k) (h := j) (more := false) le_rfl (lt_add_one _) (by simp)
  rw [Bool.or_false] at hencl
  rw [sqrtApprox, hk, show (2 * j + k - k : Int) / 2 = j by omega]
  refine ⟨_, ?_, ?_, hencl, log2_isqrt_of_le hbits⟩
  · push_cast
    positivity
  · rw [sqrt_scaled_mul_self (Nat.cast_nonneg _), Int.add_comm, dyadic, zpow_add₀ two_ne_zero, zpow_natCast]
    push_cast
    ring

/-- The model's reciprocal square root stands for the number whose square's product with m · 2^e is 1. -/
theorem rsqrtApprox_encloses : ∃ x, 0 < x ∧ x * x * dyadic m e = 1 ∧ (rsqrtApprox m e).Encloses x ∧
    52 < Nat.log2 (rsqrtApprox m e).m := by
  have hm' : (0 : ℝ) < m := Nat.cast_pos.mpr hm
  obtain ⟨k, hk⟩ : ∃ k : Nat, 512 + 2 * Nat.log2 m + (if e % 2 = 0 then 0 else 1) = k := ⟨_, rfl⟩
  obtain ⟨j, hj⟩ : ∃ j : Int, e = -(2 * j) - k := ⟨-(e + k) / 2, by split at hk <;> omega⟩
  obtain ⟨hlow, hhigh, hexact⟩ := div_floor (2 ^ k) hm
  have hencl := encloses_sqrt (h := j) hlow hhigh (bne_eq_false_iff_eq.trans hexact)
  rw [rsqrtApprox, hk, show -((k : Int) + e) / 2 = j by omega]
  refine ⟨_, ?_, ?_, hencl, log2_isqrt_of_le (le_two_pow_div hm (by omega))⟩
  · positivity
  · rw [sqrt_scaled_mul_self (by positivity), hj, dyadic, zpow_sub₀ two_ne_zero, zpow_neg, zpow_natCast]
    push_cast
    field_simp

end

/-! ### What each result is compared with -/

section

theorem dyadic_one : dyadic 1 0 = 1 := by simp [dyadic]

variable {m : Nat} {e : Int} {x : ℝ}

theorem compares_sqrt (hx : 0 < x) (h : x * x = dyadic m e) : Compares (fun y => Val.mul y y) (.fin false m e) x where
  above n g := Val.lt_fin.trans (by rw [dyadic_mul, ← h, mul_self_lt_mul_self_iff hx.le (dyadic_nonneg n g)])
  below n g := Val.lt_fin.trans (by rw [dyadic_mul, ← h, mul_self_lt_mul_self_iff (dyadic_nonneg n g) hx.le])
  inf_lt := rfl
  lt_inf := rfl
  nan := rfl

variable (hm : 0 < m)
include hm

theorem mul_inf : Val.mul (.inf false) (.fin false m e) = .inf false := if_neg hm.ne'

theorem compares_rcp (h : x * dyadic m e = 1) : Compares (fun y => Val.mul y (.fin false m e)) (.fin false 1 0) x where
  above n g := Val.lt_fin.trans (by rw [dyadic_mul, dyadic_one, ← h, mul_lt_mul_iff_left₀ (dyadic_pos hm e)])
  below n g := Val.lt_fin.trans (by rw [dyadic_mul, dyadic_one, ← h, mul_lt_mul_iff_left₀ (dyadic_pos hm e)])
  inf_lt := by rw [mul_inf hm]; rfl
  lt_inf := by rw [mul_inf hm]; rfl
  nan := rfl

theorem compares_rsqrt (hx : 0 < x) (h : x * x * dyadic m e = 1) :
    Compares (fun y => Val.mul (Val.mul y y) (.fin false m e)) (.fin false 1 0) x where
  above n g := Val.lt_fin.trans (by
    rw [dyadic_mul, dyadic_mul, dyadic_one, ← h, mul_lt_mul_iff_left₀ (dyadic_pos hm e),
      mul_self_lt_mul_self_iff hx.le (dyadic_nonneg n g)])
  below n g := Val.lt_fin.trans (by
    rw [dyadic_mul, dyadic_mul, dyadic_one, ← h, mul_lt_mul_iff_left₀ (dyadic_pos hm e),
      mul_self_lt_mul_self_iff (dyadic_nonneg n g) hx.le])
  inf_lt := by rw [show Val.mul (.inf false) (.inf false) = .inf false from rfl, mul_inf hm]; rfl
  lt_inf := by rw [show Val.mul (.inf false) (.inf false) = .inf false from rfl, mul_inf hm]; rfl
  nan := rfl

end

end Sys2Proof.Machine
end

section
/-! The special functions settled: their issue, Table 4 of spec/04, and one rounding of RCP, SQRT and RSQRT. -/

namespace Sys2Proof.Machine

/-- A value above zero that is no infinity is a positive number. -/
theorem exists_pos_of_lt {v : Val} (hinf : v.isInf = false) (hpos : Val.lt (.fin false 0 0) v = true) : ∃ m e, v = .fin false m e ∧ 0 < m := by
  cases v with
  | nan => exact absurd hpos Bool.false_ne_true
  | inf neg => exact absurd hinf Bool.true_eq_false.mp
  | fin neg m e =>
    have hlt : signedAt false 0 0 (min 0 e) < signedAt neg m e (min 0 e) := of_decide_eq_true hpos
    cases neg with
    | false =>
      refine ⟨m, e, rfl, Nat.pos_of_ne_zero fun hm => ?_⟩
      simp [signedAt, hm] at hlt
    | true =>
      simp only [signedAt, Nat.zero_mul, Nat.cast_zero, if_true, Bool.false_eq_true, if_false] at hlt
      omega

/-- RCP, SQRT and RSQRT of a positive finite value are rounded once (R125). -/
theorem special_roundedOnce {f : FloatFmt} (hf : f.Wide) (r : Nat) {m : Nat} (hm : 0 < m) (e : Int) :
    f.RoundedOnce (fun mode => (special f mode r .sqrt (.fin false m e)).1) (fun y => Val.mul y y) (.fin false m e) ∧
    f.RoundedOnce (fun mode => (special f mode r .rcp (.fin false m e)).1) (fun y => Val.mul y (.fin false m e)) (.fin false 1 0) ∧
    f.RoundedOnce (fun mode => (special f mode r .rsqrt (.fin false m e)).1) (fun y => Val.mul (Val.mul y y) (.fin false m e))
      (.fin false 1 0) := by
  simp only [special_fin _ _ _ _ _ hm]
  obtain ⟨_, hs, hsqrt, hsa, hsbits⟩ := sqrtApprox_encloses hm e
  obtain ⟨_, -, hrcp, hra, hrbits⟩ := divApprox_encloses hm e
  obtain ⟨_, hq, hrsqrt, hqa, hqbits⟩ := rsqrtApprox_encloses hm e
  exact ⟨hsa.roundedOnce hf (compares_sqrt hs hsqrt) hsbits r, hra.roundedOnce hf (compares_rcp hm hrcp) hrbits r,
    hqa.roundedOnce hf (compares_rsqrt hm hq hrsqrt) hqbits r⟩

theorem FloatFmt.inf_nan_of_special : ∀ f ∈ specialFmts, f.inf ≠ none ∧ f.nan ≠ none :=
  forall_specialFmts ⟨nofun, nofun⟩ ⟨nofun, nofun⟩ ⟨nofun, nofun⟩ ⟨nofun, nofun⟩

/-- Settles O18. The exact results of RCP, SQRT and RSQRT are enclosed by quotients and square roots of more bits than a format has, which
makes every mode's result one of the two encodings beside them; TANH and ERF are odd where the mode treats both signs alike. That the flags
enter ARSTAT at issue is the model's choice (DEDUCED 56). -/
theorem vectorSpecialFunctions : Obligations.VectorSpecialFunctions := by
  unfold Obligations.VectorSpecialFunctions
  refine ⟨fun c w s ff h => ?_, fun ff mode r hff => ?_, fun ff r x hff => ?_⟩
  · intro k o hfmt hff occ hpaid word va on gives
    have row {i : Instr} (op : Nat) (fn : SpecialFn) (hi : exec i s = .next (s.vecSlot c op w)) (hfn : specialOf op = some fn)
        (hlo : 0x38 ≤ op := by decide) (hhi : op ≤ 0x41 := by decide) : gives i fn :=
      VecRow.exec_special ⟨hi, h, rfl, rfl⟩ hlo hhi hfmt hff hfn hpaid
    exact ⟨row 0x38 _ rfl rfl, row 0x39 _ rfl rfl, row 0x3A _ rfl rfl, row 0x3B _ rfl rfl, row 0x3C _ rfl rfl, row 0x3D _ rfl rfl,
      row 0x3E _ rfl rfl, row 0x3F _ rfl rfl, row 0x40 _ rfl rfl, row 0x41 _ rfl rfl⟩
  · intro gives inf one nan zero
    have hone : (ff.round .rne 0 false (.fin false 1 0)).1 = one := round_one ff hff
    have ones {fn : SpecialFn} {v : Val} (h : special ff mode r fn v = ((ff.round .rne 0 false (.fin false 1 0)).1, 0)) : gives fn v one 0 :=
      h.trans (congrArg (·, 0) hone)
    have negOnes {fn : SpecialFn} {v : Val} (h : special ff mode r fn v = (ff.withSign true (ff.round .rne 0 false (.fin false 1 0)).1, 0)) :
        gives fn v (ff.withSign true one) 0 := h.trans (congrArg (fun x => (ff.withSign true x, 0)) hone)
    refine ⟨fun fn => rfl, fun n e => ⟨ones rfl, ones rfl, rfl, rfl, rfl, rfl, rfl, rfl, rfl, round_half ff hff⟩,
      rfl, rfl, rfl, rfl, rfl, rfl, rfl, ones rfl, ones rfl, ones rfl, rfl, rfl, rfl, rfl, rfl, rfl, rfl,
      negOnes rfl, negOnes rfl, rfl,
      fun m e hm => ⟨special_negative ff mode r (by simp) hm e, special_negative ff mode r (by simp) hm e,
        special_negative ff mode r (by simp) hm e, special_negative ff mode r (by simp) hm e⟩,
      fun j => ⟨special_log_one ff mode r (.inl rfl) j, special_log_one ff mode r (.inr rfl) j⟩,
      fun n j => special_exp2_int ff mode r n, fun j => special_log2_pow ff mode r,
      fun m e hmode fn hfn => special_odd hmode (FloatFmt.inf_nan_of_special ff hff) hfn r m e⟩
  · intro v one hnan hinf hpos
    obtain ⟨m, e, hv, hm⟩ := exists_pos_of_lt hinf hpos
    rw [hv]
    exact special_roundedOnce (FloatFmt.wide_of_special ff hff) r hm e

end Sys2Proof.Machine
end

section
/-! Results that land before a beat issues (R120, R149): which registers they write, and what they leave of the core's other state. -/

namespace Sys2Proof.Machine

/-! ### Bytes of a merged vector -/

/-- A byte of a merged vector comes from the new one where its mask bit is set (R120). -/
theorem bits_mergeVec (old new : VecData) (mask : BitVec 256) {b : Nat} (hb : b < 256) :
    bits (mergeVec old new mask).toNat (8 * b) 8 = if bit mask.toNat b then bits new.toNat (8 * b) 8 else bits old.toNat (8 * b) 8 := by
  rw [← apply_ite (fun v : VecData => bits v.toNat (8 * b) 8)]
  change _ = bits (if mask.toNat.testBit b then new else old).toNat (8 * b) 8
  refine Nat.eq_of_testBit_eq fun i => ?_
  simp only [bits, Nat.testBit_mod_two_pow, Nat.testBit_shiftRight]
  by_cases hi : i < 8
  · have hplace : (8 * b + i) / 8 = b := by omega
    rw [testBit_mergeVec _ _ _ (by omega), hplace, ← apply_ite (fun v : VecData => v.toNat.testBit (8 * b + i))]
  · simp [hi]

/-! ### What one result writes -/

/-- A result for a register merges into it under its byte mask. -/
theorem Core.land_reg_vreg {k : Core} (h : Sparse.wf 0 k.vec.regs = true) {w : VWrite} {j : Nat} (hw : w.tgt = .reg j) (n : Nat) :
    (k.land w).vreg n = if n % 32 = j % 32 then mergeVec (k.vreg j) w.data w.mask else k.vreg n := by
  unfold Core.land
  rw [hw]
  exact Sparse.get_set _ _ _ h

theorem Core.land_vreg_other {k : Core} (h : Sparse.wf 0 k.vec.regs = true) {w : VWrite} {n : Nat}
    (hw : ∀ j, w.tgt = .reg j → j % 32 ≠ n % 32) : (k.land w).vreg n = k.vreg n := by
  cases htgt : w.tgt with
  | reg j => rw [k.land_reg_vreg h htgt, if_neg (hw j htgt).symm]
  | mask _ | cache _ | tile _ _ _ _ => simp only [Core.land, htgt]; rfl

theorem Core.land_regs_wf {k : Core} (h : Sparse.wf 0 k.vec.regs = true) (w : VWrite) : Sparse.wf 0 (k.land w).vec.regs = true := by
  unfold Core.land
  split
  · exact Sparse.wf_set _ _ h
  · exact h
  · exact h
  · exact h

theorem Core.land_pend (k : Core) (w : VWrite) : (k.land w).vec.pend = k.vec.pend := by
  unfold Core.land
  split <;> rfl

/-! ### What the results due write -/

/-- The core whose results due have left the list of those on their way, before they are written. -/
def Core.undue (k : Core) : Core := { k with vec := { k.vec with pend := k.vec.pend.filter (fun w => k.beat < w.ready) } }

/-- The results due by a core's beat. -/
def Core.due (k : Core) : List VWrite := k.vec.pend.filter (fun w => w.ready ≤ k.beat)

theorem Core.landDue_eq (k : Core) : k.landDue = k.due.foldl Core.land k.undue := rfl

theorem Core.landDue_pend (k : Core) : k.landDue.vec.pend = k.vec.pend.filter (fun w => k.beat < w.ready) :=
  List.foldlRecOn (motive := fun d : Core => d.vec.pend = _) k.due Core.land rfl fun d hd w _ => (d.land_pend w).trans hd

/-- A register that no result is due for keeps its value (R149). -/
theorem Core.landDue_vreg_other {k : Core} (h : Sparse.wf 0 k.vec.regs = true) {n : Nat}
    (hn : ∀ w ∈ k.due, ∀ j, w.tgt = .reg j → j % 32 ≠ n % 32) : k.landDue.vreg n = k.vreg n :=
  (List.foldlRecOn (motive := fun d : Core => Sparse.wf 0 d.vec.regs = true ∧ d.vreg n = k.vreg n) k.due Core.land
    (b := k.undue) ⟨h, rfl⟩ fun _ hd w hw => ⟨Core.land_regs_wf hd.1 w, (Core.land_vreg_other hd.1 (hn w hw)).trans hd.2⟩).2

/-- The one result on its way, for a register, is merged into it when it is due. -/
theorem Core.landDue_vreg_single {k : Core} (h : Sparse.wf 0 k.vec.regs = true) {n rd : Nat} {r : VecData} {m : BitVec 256}
    (hp : k.vec.pend = [⟨rd, .reg n, r, m⟩]) (hrd : rd ≤ k.beat) : k.landDue.vreg n = mergeVec (k.vreg n) r m := by
  have hdue : k.due = [⟨rd, .reg n, r, m⟩] := by simp [Core.due, hp, hrd]
  rw [Core.landDue_eq, hdue, List.foldl_cons, List.foldl_nil, Core.land_reg_vreg (k := k.undue) h rfl, if_pos rfl]
  rfl

/-- Settles O23: a result due merges into its register under its byte mask, and touches no other register. -/
theorem resultsLand : Obligations.ResultsLand := by
  unfold Obligations.ResultsLand
  refine ⟨fun k n r m rd b hwf _ hp hrd hb => ?_, fun k n hwf hn hno => ?_, Core.landDue_pend⟩
  · rw [Core.landDue_vreg_single hwf hp hrd, bits_mergeVec _ _ _ hb]
  · refine Core.landDue_vreg_other hwf fun w hw j hj => ?_
    obtain ⟨hmem, hready⟩ := List.mem_filter.mp hw
    rw [Nat.mod_eq_of_lt hn]
    exact hno w hmem (of_decide_eq_true hready) j hj

end Sys2Proof.Machine
end

section
/-! What the issue of slots can change of a core (R140, R146 to R151): neither the sequencers nor the image, the beat or the pilot, nor buoys,
tallies, fences and what stops a core. -/

namespace Sys2Proof.Machine

/-! ### Answers in turn -/

/-- An answer that another step follows is given where both are. -/
theorem Res.bind_eq_ok {α β : Type} {r : Res α} {f : α → Res β} {b : β} : r.bind f = .ok b ↔ ∃ a, r = .ok a ∧ f a = .ok b := by
  cases r with
  | ok a => simp [Res.bind]
  | wait _ _ | event _ _ => simp [Res.bind]

theorem Res.ok_eq_ok {α : Type} {a b : α} : Res.ok a = Res.ok b ↔ a = b := ⟨fun h => by injection h, congrArg _⟩

/-! ### What slots leave alone -/

/-- Core `k` with what slots and the results that land may change as in `d`. -/
def Core.keepIssue (k d : Core) : Core :=
  { k with tile := d.tile, row := d.row, vec := d.vec, queues := d.queues, qmem := d.qmem, csr := d.csr, arstat := d.arstat
           ops := d.ops, nextOp := d.nextOp, nextTxn := d.nextTxn, outst := d.outst, guardLu := d.guardLu }

/-- Core `d` differs from core `k` at most in what slots and the results that land may change. -/
def Core.IssuesTo (k d : Core) : Prop := d = k.keepIssue d

namespace Core.IssuesTo

variable {k d e : Core}

theorem refl (k : Core) : k.IssuesTo k := rfl

theorem trans (h : k.IssuesTo d) (g : d.IssuesTo e) : k.IssuesTo e := by
  unfold Core.IssuesTo at *
  rw [h] at g
  exact g

/-- What does not look at the parts that slots change is kept. -/
theorem keeps {β : Type} (h : k.IssuesTo d) (g : Core → β) (hg : ∀ a b : Core, g (a.keepIssue b) = g a) : g d = g k := by
  rw [h, hg]

theorem seq (h : k.IssuesTo d) (i : SeqId) : d.seq i = k.seq i := h.keeps (·.seq i) fun _ _ => by cases i <;> rfl
theorem img (h : k.IssuesTo d) : d.img = k.img := h.keeps (·.img) fun _ _ => rfl
theorem beat (h : k.IssuesTo d) : d.beat = k.beat := h.keeps (·.beat) fun _ _ => rfl
theorem traceEnd (h : k.IssuesTo d) : d.traceEnd = k.traceEnd := h.keeps (·.traceEnd) fun _ _ => rfl
theorem pilot (h : k.IssuesTo d) : d.pilot = k.pilot := h.keeps (·.pilot) fun _ _ => rfl

end Core.IssuesTo

/-! ### The operations of slots -/

section slots

variable (k : Core)

theorem Core.raise_issuesTo (beat : Nat) (f : Flags) : k.IssuesTo (k.raise beat f) := by
  unfold Core.raise
  split
  · exact .refl k
  · rfl

theorem Core.setQueue_issuesTo (n : Nat) (q : Queue) : k.IssuesTo (k.setQueue n q) := rfl

theorem Core.popEntry_issuesTo (n : Nat) : k.IssuesTo (k.popEntry n) := by
  unfold Core.popEntry
  simp only
  split
  · exact .refl k
  · exact (k.setQueue_issuesTo _ _).trans (Core.raise_issuesTo _ _ _)

theorem Core.land_issuesTo (w : VWrite) : k.IssuesTo (k.land w) := by
  unfold Core.land
  split <;> rfl

theorem Core.landDue_issuesTo : k.IssuesTo k.landDue :=
  List.foldlRecOn (motive := k.IssuesTo) k.due Core.land rfl fun d hd w _ => hd.trans (d.land_issuesTo w)

theorem Core.applyOut_issuesTo (r : VOut) : k.IssuesTo (k.applyOut r) :=
  Core.IssuesTo.trans (d := (k.addWrites r.writes).raise k.beat r.flags)
    (Core.IssuesTo.trans (d := k.addWrites r.writes) rfl (Core.raise_issuesTo _ _ _)) rfl

end slots

/-! ### What a slot answers -/

/-- Where an answer is a core, it differs from `k` at most in what slots may change. -/
def Core.Leads (k : Core) : Res Core → Prop
  | .ok d => k.IssuesTo d
  | _ => True

theorem Core.Leads.bind {α : Type} {k : Core} {r : Res α} {f : α → Res Core} (h : ∀ a, r = .ok a → k.Leads (f a)) : k.Leads (r.bind f) := by
  cases r with
  | ok a => exact h a rfl
  | wait _ _ | event _ _ => trivial

theorem Core.Leads.ite {k : Core} {p : Prop} [Decidable p] {r r' : Res Core} (h : k.Leads r) (h' : k.Leads r') :
    k.Leads (if p then r else r') := by
  split
  · exact h
  · exact h'

section answers

variable (k : Core) (env : Nat → Option Nat) (o : VOp)

theorem Core.issueMatrix_leads (w : BitVec 64) : k.Leads (k.issueMatrix w) := by
  refine .bind fun l _ => .ite trivial ?_
  split
  · trivial
  · split
    · trivial
    · dsimp only
      split
      · exact Core.IssuesTo.trans (d := k.enterATile ..) rfl (Core.popEntry_issuesTo _ _)
      · exact rfl

theorem Core.issueBpath_leads (w : BitVec 64) : k.Leads (k.issueBpath w) :=
  .ite (.refl k) <| .ite trivial <| .ite trivial rfl

theorem Core.applyRes_leads (r : Res VOut) : k.Leads (applyRes k r) := .bind fun out _ => k.applyOut_issuesTo out

theorem Core.pushOq_leads (n : Nat) (e : QEntry) : k.Leads (k.pushOq env n e) := by
  unfold Core.pushOq
  dsimp only
  refine .ite ?_ (.ite trivial (k.setQueue_issuesTo _ _))
  split
  · trivial
  · exact .ite trivial rfl

theorem Core.pushOq_ok {n : Nat} {e : QEntry} {d : Core} (h : k.pushOq env n e = .ok d) : k.IssuesTo d := by
  have hleads := k.pushOq_leads env n e
  rwa [h] at hleads

/-- The compute path occupied for a beat. -/
theorem Core.freeC_issuesTo (b : Nat) : k.IssuesTo { k with vec := { k.vec with freeC := b } } := rfl

/-- What is pushed with the compute path occupied, before the packing buffer is set. -/
theorem Core.packed_leads {b n m : Nat} {e : QEntry} {q : Core → Queue} :
    k.Leads (({ k with vec := { k.vec with freeC := b } } : Core).pushOq env n e |>.bind fun c => .ok (c.setQueue m (q c))) :=
  .bind fun c hc => ((k.freeC_issuesTo _).trans (Core.pushOq_ok _ env hc)).trans (c.setQueue_issuesTo _ _)

theorem Core.compressQ_leads : k.Leads (k.compressQ env o) := .ite rfl (k.packed_leads env)

theorem Core.flushOq_leads : k.Leads (k.flushOq env o) := .ite rfl (k.packed_leads env)

theorem Core.takeUnits_ok {k : Core} {f : Fmt} {n fuel u : Nat} {acc : List Nat} {p : Core × List Nat}
    (h : k.takeUnits f n fuel u acc = .ok p) : k.IssuesTo p.1 := by
  induction fuel generalizing k u acc with
  | zero =>
    simp only [Core.takeUnits, Res.ok_eq_ok] at h
    exact h ▸ .refl k
  | succ fuel ih =>
    cases u with
    | zero =>
      simp only [Core.takeUnits, Res.ok_eq_ok] at h
      exact h ▸ .refl k
    | succ u =>
      obtain ⟨e, -, h⟩ := Res.bind_eq_ok.mp h
      dsimp only at h
      split at h
      · exact Res.ok_eq_ok.mp h ▸ k.setQueue_issuesTo _ _
      · exact (k.popEntry_issuesTo n).trans (ih h)

theorem Core.expandQ_leads : k.Leads (k.expandQ o) :=
  .bind fun p hp => .ite trivial ((Core.takeUnits_ok hp).trans (p.1.applyOut_issuesTo _))

theorem Core.summ_leads : k.Leads (k.summ o) := by
  unfold Core.summ
  split
  · trivial
  · exact .ite trivial ((k.raise_issuesTo _ _).trans rfl)

theorem Core.issueVec_leads (v : Nat) : k.Leads (k.issueVec v env o) := by
  have computes (r : Res VOut) := k.applyRes_leads r
  exact .ite (computes _) <| .ite (computes _) <| .ite (computes _) <| .ite (computes _) <| .ite (computes _) <| .ite (computes _) <|
    .ite (computes _) <| .ite (k.compressQ_leads env o) <| .ite (k.expandQ_leads o) <| .ite (k.flushOq_leads env o) <|
    .ite (k.summ_leads o) trivial

theorem Core.applyMove_issuesTo (ws : List (Nat × VTarget × VecData × BitVec 256)) (occ : Nat) : k.IssuesTo (k.applyMove ws occ) := rfl

theorem Core.deliver_issuesTo (d : DrainTile) (vd : Nat) (vs : List VecData) : k.IssuesTo (k.deliver d vd vs) := rfl

theorem Core.spopW_leads : k.Leads (k.spopW o) := by
  unfold Core.spopW
  split
  · trivial
  next d _ _ =>
    refine .ite trivial ?_
    cases widenTile d with
    | none => trivial
    | some vs => exact k.deliver_issuesTo _ _ _

theorem Core.spopP_leads : k.Leads (k.spopP o) := by
  unfold Core.spopP
  split
  · trivial
  · exact .ite trivial (k.deliver_issuesTo _ _ _)

theorem Core.qpop_leads : k.Leads (k.qpop o) := .bind fun _ _ => (k.popEntry_issuesTo _).trans rfl

theorem Core.qpush_leads : k.Leads (k.qpush env o) := .bind fun _ hc => (Core.pushOq_ok _ env hc).trans rfl

theorem Core.issueMove_leads : k.Leads (k.issueMove env o) := by
  unfold Core.issueMove
  split
  · exact k.applyMove_issuesTo _ _
  · exact k.applyMove_issuesTo _ _
  · exact k.applyMove_issuesTo _ _
  · exact k.applyMove_issuesTo _ _
  · exact k.spopW_leads o
  · exact k.spopP_leads o
  · exact k.qpop_leads o
  · exact k.qpush_leads env o
  · trivial

theorem Core.acceptStream_leads (i : SeqId) (owned : Nat → Nat → Bool) (w : BitVec 64) : k.Leads (k.acceptStream i owned w) := by
  refine .ite trivial ?_
  dsimp only
  split
  · trivial
  · exact .ite rfl rfl

end answers

/-! ### The slots of a bundle -/

theorem Core.issueSlot_leads (x : Ctx) (i : SeqId) (k : Core) (w : Slot) : k.Leads (k.issueSlot x i w) := by
  cases w with
  | matrix w => exact k.issueMatrix_leads _
  | bpath w => exact k.issueBpath_leads _
  | vec w => exact k.issueVec_leads _ _ _
  | vmove w => exact k.issueMove_leads _ _
  | stream w => exact k.acceptStream_leads _ _ _

/-- The slots of a bundle change a core at most in what each slot may change. -/
theorem Core.issueSlots_leads (x : Ctx) (i : SeqId) (k : Core) (l : List Slot) : k.Leads (k.issueSlots x i l) :=
  List.foldlRecOn (motive := k.Leads) l _ (.refl k) fun r hr w _ => .bind fun d hd => by
    subst hd
    have hslot := d.issueSlot_leads x i w
    cases hw : d.issueSlot x i w with
    | ok e =>
      rw [hw] at hslot
      exact Core.IssuesTo.trans hr hslot
    | wait _ _ | event _ _ => trivial

end Sys2Proof.Machine
end

section
/-! The issue of a control bundle (R140, R147, R152, R153, R162): what follows once its slots have issued, and where its sequencer goes
next. -/

namespace Sys2Proof

/-- What entries changed in place and those dropped as blank keep of a read. -/
theorem Sparse.get_mapFilter_keeps {α β : Type} [DecidableEq α] {d : α} {m : Sparse α} (hm : Sparse.wf d m = true) {f : Nat × α → α}
    (g : α → β) (hg : ∀ e, g (f e) = g e.2) (i : Nat) :
    g (Sparse.get d ((m.map fun e => (e.1, f e)).filter fun e => decide (e.2 ≠ d)) i) = g (Sparse.get d m i) := by
  suffices ∀ a, Sparse.wfFrom d a m = true →
      g (Sparse.get d ((m.map fun e => (e.1, f e)).filter fun e => decide (e.2 ≠ d)) i) = g (Sparse.get d m i) from this 0 hm
  clear hm
  induction m with
  | nil => exact fun _ _ => rfl
  | cons e m ih =>
    intro a hm
    simp only [Sparse.wfFrom, Bool.and_eq_true, decide_eq_true_eq] at hm
    have hrest := ih _ hm.2
    rw [List.map_cons, List.filter_cons]
    by_cases hi : i = e.1
    · have hhead : g (Sparse.get d (e :: m) i) = g (f e) := by rw [hg, Sparse.get, if_pos hi]
      rw [hhead]
      split
      · rw [Sparse.get, if_pos hi]
      next hblank =>
        have hd : f e = d := by simpa using hblank
        rw [hrest, Sparse.get_of_wfFrom hm.2 (by omega), hd]
    · have htail : Sparse.get d (e :: m) i = Sparse.get d m i := by rw [Sparse.get, if_neg hi]
      rw [htail]
      split
      · rw [Sparse.get, if_neg hi, hrest]
      · exact hrest

end Sys2Proof

namespace Sys2Proof.Machine

/-! ### What a core's fault keeps of the cores -/

section fault

variable {s : State} {β : Type}

theorem State.mapCores_core_keeps (h : s.canonical = true) (l : Nat) {f : Core → Core} (g : Core → β) (hg : ∀ k, g (f k) = g k) (c : CoreId) :
    g ((s.mapCores l f).core c) = g (s.core c) := by
  obtain ⟨-, hcores, -⟩ := State.canonical_iff.mp h
  have hmap : (fun p : Nat × Core => if p.1 / 512 = l then (p.1, f p.2) else p) =
      fun p => (p.1, if p.1 / 512 = l then f p.2 else p.2) := by
    funext p
    split <;> rfl
  unfold State.core State.mapCores
  rw [hmap]
  refine Sparse.get_mapFilter_keeps hcores g (fun e => ?_) _
  split
  · exact hg _
  · rfl

@[simp] theorem State.answerStart_cores (s : State) (l tide : Nat) : (s.answerStart l tide).cores = s.cores := by
  unfold State.answerStart
  dsimp only
  split
  · rfl
  · rw [State.answerOpt_cores, State.setLagoon_cores]

/-- A lagoon's fault stops its cores and changes no others. -/
theorem State.faultLagoon_cores (s : State) (l code : Nat) :
    (s.faultLagoon l code).cores = s.cores ∨ (s.faultLagoon l code).cores = (s.stopCores l).cores := by
  unfold State.faultLagoon State.endFaulted
  dsimp only
  split
  · right
    rw [State.answerOpt_cores, State.setLagoon_cores, State.answerStart_cores, State.moveLagoon_cores]
    exact foldl_keeps (fun a : State => a.cores) (fun a n => a.setStack_cores n _) _ _
  · exact .inl rfl

/-- What stopping a core leaves alone a fault leaves alone of every core. -/
theorem State.coreFault_core_keeps (h : s.canonical = true) (c : CoreId) (code obj : Nat) (access : Bool) (g : Core → β)
    (hg : ∀ k : Core, g k.stopHere = g k) (i : CoreId) : g ((s.coreFault c code obj access).core i) = g (s.core i) := by
  unfold State.coreFault State.fault
  dsimp only
  generalize hr : s.raise _ _ _ _ _ _ = r
  have hcanon : r.canonical = true := by rw [← hr, State.raise_canonical, h]
  have hcores : r.cores = s.cores := by rw [← hr, State.raise_cores]
  unfold State.core
  rcases r.faultLagoon_cores c.lagoon code with heq | heq
  · rw [heq, hcores]
  · rw [heq, ← hcores]
    exact State.mapCores_core_keeps hcanon _ g hg i

theorem Core.stopHere_beat (k : Core) : k.stopHere.beat = k.beat := Core.raise_beat ..

end fault

/-! ### The record of a beat -/

/-- What does not look at the ledger keeps its value when a beat is recorded. -/
theorem State.beatIssued_core_keeps {β : Type} {s : State} (h : Sparse.wf Core.blank s.cores = true) (c : CoreId) (before : Nat) (g : Core → β)
    (hg : ∀ (k : Core) x, g { k with ledger := x } = g k) : g ((s.beatIssued c before).core c) = g (s.core c) := by
  have hset (x : Ledger) : g ((s.setCore c { s.core c with ledger := x }).core c) = g (s.core c) := by
    rw [State.core, State.setCore, Sparse.get_set_same _ _ h, hg]
  unfold State.beatIssued
  dsimp only
  split
  · rfl
  · split
    · rw [State.core, State.answerStart_cores]
      exact hset _
    · exact hset _

theorem State.beatIssued_cores_wf {s : State} (h : Sparse.wf Core.blank s.cores = true) (c : CoreId) (before : Nat) :
    Sparse.wf Core.blank (s.beatIssued c before).cores = true := by
  unfold State.beatIssued
  dsimp only
  split
  · exact h
  · split
    · rw [State.answerStart_cores]
      exact Sparse.wf_set _ _ h
    · exact Sparse.wf_set _ _ h

theorem State.beatIssued_of_same {s : State} {c : CoreId} {before : Nat} (h : (s.core c).beat = before) : s.beatIssued c before = s := if_pos h

/-! ### The issue of a bundle whose waits have ended -/

/-- A bundle's control operation is none that has steps of its own before it issues: a FENCE or a BARRIER posts, and a BARRIER arrives. -/
def Bundle.plain (b : Bundle) : Prop := Cop.ofCode b.cop ≠ .fence ∧ Cop.ofCode b.cop ≠ .barrier

theorem Bundle.plain_of_cop {b : Bundle} {o : Cop} (h : isCop o b = true) (hf : o ≠ .fence) (hb : o ≠ .barrier) : b.plain := by
  have hcop : Cop.ofCode b.cop = o := beq_iff_eq.mp h
  exact ⟨hcop.trans_ne hf, hcop.trans_ne hb⟩

theorem Core.ownSteps_of_plain {k : Core} {i : SeqId} (h : (k.bundle i).plain) : (k.postOwnFence i).arrive i = k := by
  obtain ⟨hf, hb⟩ := h
  have hpost : k.postOwnFence i = k := by
    unfold Core.postOwnFence needsFence
    cases hcop : Cop.ofCode (k.bundle i).cop <;> simp_all
  rw [hpost]
  simp [Core.arrive, hb]

theorem Core.copBefore_of_plain {k : Core} {i : SeqId} {b : Bundle} (h : b.plain) : k.copBefore i b = k := by
  unfold Core.copBefore
  dsimp only
  split
  next hcop => exact absurd hcop h.1
  next => rfl

/-- The core once a bundle's slots have issued and are paid, before its control operation acts. -/
def State.paidCore (s : State) (c : CoreId) (q : SeqId) (k : Core) : Core :=
  { k with guardLu := (s.issueCore c q).guardLu - slotsCharge (s.issueCore c q) k ((s.core c).bundle q).slots }

/-- Where a beat passes with the bundle, the execute sequencer's, the core at its end. -/
def State.beatEnd (s : State) (c : CoreId) (q : SeqId) (d : Core) : Core :=
  let b := (s.core c).bundle q
  match q with
  | .access => d
  | .execute => { d with trace := (s.issueCore c q).traceEntry b :: d.trace }.endBeat
      (decide (Cop.ofCode b.cop = Cop.select ∨ Cop.ofCode b.cop = Cop.take))

theorem Core.applyPend_seq (k : Core) (p : PendCsr) (i : SeqId) : (k.applyPend p).seq i = k.seq i ∧ (k.applyPend p).beat = k.beat := by
  unfold Core.applyPend
  dsimp only
  repeat' split
  all_goals exact ⟨by cases i <;> rfl, rfl⟩

theorem Core.choiceTaken_seq (k : Core) (i : SeqId) : k.choiceTaken.seq i = k.seq i ∧ k.choiceTaken.beat = k.beat :=
  List.foldlRecOn (motive := fun d : Core => d.seq i = k.seq i ∧ d.beat = k.beat) _ Core.applyPend ⟨by cases i <;> rfl, rfl⟩
    fun d hd p _ => ⟨(d.applyPend_seq p i).1.trans hd.1, (d.applyPend_seq p i).2.trans hd.2⟩

theorem Core.endBeat_seq (k : Core) (took : Bool) (i : SeqId) : (k.endBeat took).seq i = k.seq i ∧ (k.endBeat took).beat = k.beat + 1 := by
  unfold Core.endBeat
  dsimp only
  split
  · obtain ⟨hseq, hbeat⟩ := Core.choiceTaken_seq { k.captureReads k.beat with
      beat := k.beat + 1, row := { (k.captureReads k.beat).row with freeing := (k.captureReads k.beat).row.freeing.filter fun p => k.beat < p.1 } } i
    exact ⟨hseq.trans (by cases i <;> rfl), hbeat⟩
  · exact ⟨by cases i <;> rfl, rfl⟩


theorem State.beatEnd_seq (s : State) (c : CoreId) (q : SeqId) (d : Core) : (s.beatEnd c q d).seq q = d.seq q := by
  cases q with
  | execute => exact (Core.endBeat_seq _ _ .execute).1
  | access => rfl

theorem State.beatEnd_beat (s : State) (c : CoreId) (q : SeqId) (d : Core) :
    (s.beatEnd c q d).beat = d.beat + if q = .execute then 1 else 0 := by
  cases q with
  | execute => exact (Core.endBeat_seq _ _ .execute).2
  | access => rfl

/-- Where a sequencer goes next changes nothing of its core but itself. -/
theorem Core.exists_flow_eq (k : Core) (i : SeqId) (b : Bundle) : ∃ r, k.flow i b = k.setSeq i r := by
  have hset (q : Seq) : ∃ r, k.setSeq i q = k.setSeq i r := ⟨q, rfl⟩
  have hself : ∃ r, k = k.setSeq i r := ⟨k.seq i, by cases i <;> rfl⟩
  unfold Core.flow
  dsimp only
  split
  case h_1 | h_2 => rw [← apply_ite (k.setSeq i)]; exact hset _
  case h_4 => split <;> exact hset _
  case h_5 | h_6 =>
    split
    · exact hset _
    · exact hset _
    · exact hself
  all_goals exact hset _

theorem Core.flow_beat (k : Core) (i : SeqId) (b : Bundle) : (k.flow i b).beat = k.beat := by
  obtain ⟨r, hr⟩ := k.exists_flow_eq i b
  rw [hr, Core.setSeq_beat]

/-- The choice that a sequencer has taken and the tables of its image are not among what slots change. -/
theorem Core.IssuesTo.choose {k d : Core} (h : k.IssuesTo d) (i : SeqId) (b : Bundle) : d.choose i b = k.choose i b :=
  h.keeps (·.choose i b) fun _ _ => by cases i <;> rfl

/-- Where a sequencer goes next does not depend on what the bundle's slots change. -/
theorem Core.IssuesTo.flow_seq {k d : Core} (h : k.IssuesTo d) (i : SeqId) (b : Bundle) : (d.flow i b).seq i = (k.flow i b).seq i := by
  have hcall (a : Nat) : d.callTable a = k.callTable a := h.keeps (·.callTable a) fun _ _ => rfl
  unfold Core.flow
  simp only [h.seq i, h.img, h.choose i b, hcall]
  split
  case h_4 => split <;> simp only [Core.setSeq_seq]
  case h_5 | h_6 => split <;> simp only [Core.setSeq_seq, h.seq i]
  all_goals simp only [apply_ite (Core.seq · i), Core.setSeq_seq]

namespace State.Issuing

variable {s : State} {c : CoreId} {q : SeqId} {k : Core}

/-- What its slots leave of a core in which a bundle issues. -/
theorem paid (h : s.Issuing c q k) (hb : ((s.core c).bundle q).plain) : (s.core c).IssuesTo (s.paidCore c q k) := by
  have hcore : (s.core c).IssuesTo (s.issueCore c q) := by
    cases q with
    | execute => exact Core.landDue_issuesTo _
    | access => exact .refl _
  have hslots := Core.issueSlots_leads (s.ctx c) q (s.issueCore c q) ((s.core c).bundle q).slots
  have hissued := h.slots
  rw [Core.copBefore_of_plain hb] at hissued
  rw [hissued] at hslots
  exact (hcore.trans hslots).trans rfl

/-- A bundle whose waits have ended issues: its control operation acts on what its slots leave (R140). -/
theorem issueBundle_eq (h : s.Issuing c q k) : (s.core c).issueBundle (s.ctx c) q =
    ((s.paidCore c q k).copEffect (s.ctx c) q ((s.core c).bundle q)).bind fun d =>
      .ok (s.beatEnd c q (d.flow q ((s.core c).bundle q))) := by
  have hbody : (s.issueCore c q).issueBody (s.ctx c) q ((s.core c).bundle q) =
      ((s.paidCore c q k).copEffect (s.ctx c) q ((s.core c).bundle q)).bind fun d => .ok (d.flow q ((s.core c).bundle q)) := by
    simp only [Core.issueBody, h.slots, Res.bind, if_neg (Nat.not_lt.mpr h.charge)]
    rfl
  have hready := h.ready
  cases q with
  | access =>
    simp only [State.issueCore] at hbody hready
    simp only [Core.issueBundle, hready, hbody]
    rfl
  | execute =>
    simp only [State.issueCore] at hbody hready
    simp only [Core.issueBundle, hready, hbody]
    cases (s.paidCore c .execute k).copEffect (s.ctx c) .execute ((s.core c).bundle .execute) <;> rfl

theorem control_eq (h : s.Issuing c q k) (hb : ((s.core c).bundle q).plain) {p : Bundle → Bool} (hp : p ((s.core c).bundle q) = true) :
    s.control c q p = (s.finish c (q == .access) (((s.paidCore c q k).copEffect (s.ctx c) q ((s.core c).bundle q)).bind fun d =>
      .ok (s.beatEnd c q (d.flow q ((s.core c).bundle q))))).beatIssued c (s.core c).beat := by
  have hsound : (List.range ((s.core c).bundle q).size).find? (fun i => s.badWord c 3 (((s.core c).seq q).addr + i)) = none := by
    simpa using h.sound
  have hstep : (s.core c).seqStep (s.ctx c) q = (s.core c).issueBundle (s.ctx c) q := by
    unfold Core.seqStep
    rw [if_pos h.may, Core.ownSteps_of_plain hb]
    dsimp only
    split
    next hw => rw [if_pos rfl, hw]
    · rfl
  unfold State.control State.seqIssue
  dsimp only
  rw [if_pos hp, if_pos h.runs, hsound]
  dsimp only
  rw [State.act_of_unmarked h.marks, hstep, h.issueBundle_eq]

/-- A control operation that acts takes its sequencer on, and with the execute sequencer's bundle a beat passes (R140). -/
theorem control_ok (h : s.Issuing c q k) (hs : s.canonical = true) (hb : ((s.core c).bundle q).plain) {p : Bundle → Bool}
    (hp : p ((s.core c).bundle q) = true) {d : Core}
    (hd : (s.paidCore c q k).copEffect (s.ctx c) q ((s.core c).bundle q) = .ok d) (hbeat : d.beat = (s.core c).beat) :
    ((s.control c q p).core c).seq q = (d.flow q ((s.core c).bundle q)).seq q ∧
      (q = .execute → ((s.control c q p).core c).beat = (s.core c).beat + 1) := by
  obtain ⟨-, hcores, -⟩ := State.canonical_iff.mp hs
  have hwf (x : Core) : Sparse.wf Core.blank (s.withCore c x).cores = true := Sparse.wf_set _ _ hcores
  rw [h.control_eq hb hp, hd]
  simp only [Res.bind, State.finish]
  rw [State.beatIssued_core_keeps (hwf _) c _ (·.seq q) (fun _ _ => by cases q <;> rfl),
    State.beatIssued_core_keeps (hwf _) c _ (·.beat) (fun _ _ => rfl), State.withCore_core_same hs, State.beatEnd_seq,
    State.beatEnd_beat, Core.flow_beat, hbeat]
  exact ⟨rfl, fun hq => by rw [if_pos hq]⟩

/-- A control operation that raises an event ends the run. -/
theorem control_event (h : s.Issuing c q k) (hs : s.canonical = true) (hb : ((s.core c).bundle q).plain) {p : Bundle → Bool}
    (hp : p ((s.core c).bundle q) = true) {e n : Nat}
    (hd : (s.paidCore c q k).copEffect (s.ctx c) q ((s.core c).bundle q) = .event e n) :
    s.control c q p = s.coreFault c e n (q == .access) := by
  rw [h.control_eq hb hp, hd]
  exact State.beatIssued_of_same (State.coreFault_core_keeps hs c e n _ (·.beat) Core.stopHere_beat c)

end State.Issuing

end Sys2Proof.Machine
end

section
/-! Where control bundles take their sequencer (Table 2 of spec/05; R147, R152, R153, R162). -/

namespace Sys2Proof.Machine

/-! ### Registers that INC leaves alone -/

/-- INC changes index registers alone (R147). -/
theorem Seq.applyInc_keeps {β : Type} (g : Seq → β) (hg : ∀ (q : Seq) x, g { q with x := x } = g q) (q : Seq) (inc : Nat) :
    g (q.applyInc inc) = g q := by
  refine List.foldlRecOn (motive := fun r : Seq => g r = g q) _ _ rfl fun r hr n _ => ?_
  split
  · unfold Seq.setX
    split
    · exact hr
    · exact (hg r _).trans hr
  · exact hr

@[simp] theorem Seq.applyInc_rep (q : Seq) (inc : Nat) : (q.applyInc inc).rep = q.rep := q.applyInc_keeps (·.rep) (fun _ _ => rfl) inc
@[simp] theorem Seq.applyInc_stack (q : Seq) (inc : Nat) : (q.applyInc inc).stack = q.stack := q.applyInc_keeps (·.stack) (fun _ _ => rfl) inc
@[simp] theorem Seq.applyInc_choices (q : Seq) (inc : Nat) : (q.applyInc inc).choices = q.choices :=
  q.applyInc_keeps (·.choices) (fun _ _ => rfl) inc
@[simp] theorem Seq.applyInc_loops (q : Seq) (inc : Nat) : (q.applyInc inc).loops = q.loops := q.applyInc_keeps (·.loops) (fun _ _ => rfl) inc

/-! ### Where a sequencer goes next -/

section flow

variable {k : Core} {i : SeqId} {b : Bundle}

theorem Core.flow_nop (h : isCop .nop b = true) : (k.flow i b).seq i = ((k.seq i).applyInc b.inc).moveTo ((k.seq i).addr + b.size) := by
  rw [Core.flow, beq_iff_eq.mp h]
  exact Core.setSeq_seq _ _ _

/-- REPEAT issues its bundle again until it has issued N + 1 times (R152). -/
theorem Core.flow_repeat (h : isCop .repeat b = true) : (k.flow i b).seq i = if (k.seq i).rep < bits b.carg 0 16
    then { (k.seq i).applyInc b.inc with rep := (k.seq i).rep + 1 }
    else { (k.seq i).applyInc b.inc with rep := 0 }.moveTo ((k.seq i).addr + b.size) := by
  rw [Core.flow, beq_iff_eq.mp h]
  simp only [Seq.applyInc_rep, apply_ite (Core.seq · i), Core.setSeq_seq]

/-- LOOP enters its body, or skips it where it is to run no times (R152). -/
theorem Core.flow_loop (h : isCop .loop b = true) : (k.flow i b).seq i =
    let next := (k.seq i).addr + b.size
    let stop := skipBundles k.img.prog (bits b.carg 16 13) next
    let times := if bit b.carg 15 then (k.seq i).getX 15 else bits b.carg 0 15 + 1
    let q1 := (k.seq i).applyInc b.inc
    if times = 0 then q1.moveTo stop
    else { q1 with loops := ⟨bits b.carg 29 3, next, stop, times, (k.seq i).stack.length⟩ :: (k.seq i).loops, addr := next % 16384 } := by
  rw [Core.flow, beq_iff_eq.mp h]
  simp only [Seq.applyInc_stack, Seq.applyInc_loops, apply_ite (Core.seq · i), Core.setSeq_seq]

theorem Core.flow_call (h : isCop .call b = true) : (k.flow i b).seq i = { (k.seq i).applyInc b.inc with
    stack := ((k.seq i).addr + b.size) :: (k.seq i).stack
    addr := Sparse.get 0 (k.callTable (k.seq i).addr) (bits b.carg 0 16) % 16384 } := by
  rw [Core.flow, beq_iff_eq.mp h]
  simp only [Seq.applyInc_stack, Core.setSeq_seq]

theorem Core.flow_ret (h : isCop .ret b = true) {a : Nat} {rest : List Nat} (hs : (k.seq i).stack = a :: rest) :
    (k.flow i b).seq i = { (k.seq i).applyInc b.inc with stack := rest }.moveTo a := by
  rw [Core.flow, beq_iff_eq.mp h]
  simp only [Seq.applyInc_stack, hs, Core.setSeq_seq]

theorem Core.flow_setx (h : isCop .setx b = true) : (k.flow i b).seq i = if bit b.carg 27
    then (((k.seq i).applyInc b.inc).setXS (bits b.carg 28 4) (bits b.carg 0 16)).moveTo ((k.seq i).addr + b.size)
    else (((k.seq i).applyInc b.inc).setX (bits b.carg 28 4) (bits b.carg 0 16)).moveTo ((k.seq i).addr + b.size) := by
  rw [Core.flow, beq_iff_eq.mp h]
  exact (Core.setSeq_seq _ _ _).trans (apply_ite (Seq.moveTo · _) _ _ _)

theorem Core.flow_finish (h : isCop .finish b = true) : (k.flow i b).seq i = { (k.seq i).applyInc b.inc with ended := true } := by
  rw [Core.flow, beq_iff_eq.mp h]
  exact Core.setSeq_seq _ _ _

end flow

/-! ### Control operations that only say where the sequencer goes next -/

/-- Whether a control operation touches neither buoys, tallies, queues nor choices, and waits for nothing. -/
def Cop.idle : Cop → Bool
  | .nop | .repeat | .loop | .call | .ret | .setx | .finish => true
  | _ => false

theorem Core.copEffect_idle {k : Core} {x : Ctx} {i : SeqId} {b : Bundle} {o : Cop} (ho : Cop.ofCode b.cop = o) (hidle : o.idle = true) :
    k.copEffect x i b = .ok k := by
  unfold Core.copEffect
  rw [ho]
  match o, hidle with
  | .nop, _ | .repeat, _ | .loop, _ | .call, _ | .ret, _ | .setx, _ | .finish, _ => rfl

/-- A bundle whose control operation changes no object of the core goes on from the registers as they stood (R147). -/
theorem State.Issuing.goes_on {s : State} {c : CoreId} {q : SeqId} {k : Core} (h : s.Issuing c q k) (hs : s.canonical = true) {o : Cop}
    (ho : isCop o ((s.core c).bundle q) = true) (hplain : ((s.core c).bundle q).plain)
    (heff : (s.paidCore c q k).copEffect (s.ctx c) q ((s.core c).bundle q) = .ok (s.paidCore c q k)) :
    ((s.control c q (isCop o)).core c).seq q = ((s.core c).flow q ((s.core c).bundle q)).seq q ∧
      (q = .execute → ((s.control c q (isCop o)).core c).beat = (s.core c).beat + 1) := by
  rw [← (h.paid hplain).flow_seq]
  exact h.control_ok hs hplain ho heff (h.paid hplain).beat

theorem Cop.plain_of_idle {b : Bundle} {o : Cop} (ho : isCop o b = true) (hidle : o.idle = true) : b.plain :=
  Bundle.plain_of_cop ho (by rintro rfl; cases hidle) (by rintro rfl; cases hidle)

/-- Settles O4: the control operations that act on no object go where their flow says, from the registers at the start of the issue. -/
theorem controlFlowBundles : Obligations.ControlFlowBundles := by
  unfold Obligations.ControlFlowBundles
  refine ⟨fun c q s k hs h => ?_, fun c q s k hs h hloop => ?_⟩
  · intro b q0 q1 next goes
    have issues {i : Instr} {o : Cop} {r : Seq} (ho : isCop o b = true) (hi : exec i s = .next (s.control c q (isCop o)))
        (hr : ((s.core c).flow q b).seq q = r) (hidle : o.idle = true := by rfl) : goes i r := by
      obtain ⟨hseq, hbeat⟩ := h.goes_on hs ho (Cop.plain_of_idle ho hidle) (Core.copEffect_idle (beq_iff_eq.mp ho) hidle)
      exact ⟨_, hi, hseq.trans hr, hbeat⟩
    exact ⟨fun ho => issues ho rfl (Core.flow_nop ho), fun ho => issues ho rfl (Core.flow_repeat ho),
      fun ho => issues ho rfl (Core.flow_call ho), fun ho a rest hstack => issues ho rfl (Core.flow_ret ho hstack),
      fun ho => issues ho rfl (Core.flow_setx ho), fun ho => issues ho rfl (Core.flow_finish ho)⟩
  · obtain ⟨hseq, -⟩ := h.goes_on hs hloop (Cop.plain_of_idle hloop rfl) (Core.copEffect_idle (beq_iff_eq.mp hloop) rfl)
    exact ⟨_, rfl, hseq.trans (Core.flow_loop hloop)⟩


/-! ### Choices (R162) -/

section choice

variable {k : Core} {i : SeqId} {b : Bundle} {w : BitVec 32} {rest : List (BitVec 32)} (hc : (k.seq i).choices = w :: rest)
include hc

/-- TAKE accepts a choice without a variant alone. -/
theorem Core.choose_take (h : isCop .take b = true) : k.choose i b =
    if bits w.toNat 0 16 = 0xFFFF then .ok (none, bits w.toNat 16 16) else .event 0x1301 0 := by
  unfold Core.choose
  simp only [hc, beq_iff_eq.mp h, if_true]

/-- SELECT accepts the number of a variant of its set. -/
theorem Core.choose_select (h : isCop .select b = true) : k.choose i b =
    let vs := Sparse.get [] (k.variantTable (k.seq i).addr) (bits b.carg 0 16)
    let v := bits w.toNat 0 16
    if v = 0xFFFF ∨ vs.length ≤ v then .event 0x1301 0 else .ok (some (vs.getD v 0), bits w.toNat 16 16) := by
  unfold Core.choose
  simp only [hc, beq_iff_eq.mp h, reduceCtorEq, if_false]

theorem Core.flow_take (h : isCop .take b = true) (hv : bits w.toNat 0 16 = 0xFFFF) : (k.flow i b).seq i =
    { ((k.seq i).applyInc b.inc).setX 15 (bits w.toNat 16 16) with choices := rest }.moveTo ((k.seq i).addr + b.size) := by
  rw [Core.flow, beq_iff_eq.mp h]
  simp only [Core.choose_take hc h, hv, if_true, Core.setSeq_seq, Seq.applyInc_choices, hc, List.tail_cons]

theorem Core.flow_select (h : isCop .select b = true) {a arg : Nat} (hv : k.choose i b = .ok (some a, arg)) : (k.flow i b).seq i =
    { ((k.seq i).applyInc b.inc).setX 15 arg with
      choices := rest, stack := ((k.seq i).addr + b.size) :: (k.seq i).stack, addr := a % 16384 } := by
  rw [Core.flow, beq_iff_eq.mp h]
  simp only [hv, Core.setSeq_seq, Seq.applyInc_choices, Seq.applyInc_stack, hc, List.tail_cons]

end choice

theorem Core.copEffect_choice {k : Core} (x : Ctx) (i : SeqId) {b : Bundle} (h : isCop .select b = true ∨ isCop .take b = true) :
    k.copEffect x i b = (k.choose i b).bind fun _ => .ok k := by
  unfold Core.copEffect
  rcases h with h | h <;> rw [beq_iff_eq.mp h]

/-- Settles O5: the choice at the head of the queue is taken by the flow of SELECT or TAKE, or stops the run. -/
theorem choiceBundles : Obligations.ChoiceBundles := by
  unfold Obligations.ChoiceBundles
  intro c q s k w rest hs h hc b q0 q1 next vs v
  have effect (hb : b.plain) (hchoice : isCop .select b = true ∨ isCop .take b = true) :
      (s.paidCore c q k).copEffect (s.ctx c) q b = ((s.core c).choose q b).bind fun _ => .ok (s.paidCore c q k) := by
    rw [Core.copEffect_choice _ _ hchoice, (h.paid hb).choose]
  refine ⟨fun ho => ?_, fun ho => ?_⟩
  · have hplain : b.plain := Bundle.plain_of_cop ho nofun nofun
    have heff := effect hplain (.inr ho)
    rw [Core.choose_take hc ho] at heff
    refine ⟨fun hv => ?_, fun hv => ?_⟩
    · rw [if_pos hv] at heff
      exact ⟨_, rfl, (h.goes_on hs ho hplain heff).1.trans (Core.flow_take hc ho hv)⟩
    · rw [if_neg hv] at heff
      exact congrArg _ (h.control_event hs hplain ho heff)
  · have hplain : b.plain := Bundle.plain_of_cop ho nofun nofun
    have heff := effect hplain (.inl ho)
    have hchoose := Core.choose_select hc ho
    refine ⟨fun hv hlen => ?_, fun hv => ?_⟩
    · rw [if_neg (not_or.mpr ⟨hv, Nat.not_le.mpr hlen⟩)] at hchoose
      rw [hchoose] at heff
      exact ⟨_, rfl, (h.goes_on hs ho hplain heff).1.trans (Core.flow_select hc ho hchoose)⟩
    · rw [if_pos hv] at hchoose
      rw [hchoose] at heff
      exact congrArg _ (h.control_event hs hplain ho heff)

end Sys2Proof.Machine
end

section
/-! Empty beats and the end of a trace (R141), the completion of fences (R250) and the release of barriers (R254). -/

namespace Sys2Proof.Machine

/-! ### The end of a core's run -/

theorem Core.setQueues_issuesTo (k : Core) (f : Nat → Core → Queue) (l : List Nat) :
    k.IssuesTo (l.foldl (fun a n => a.setQueue n (f n a)) k) :=
  List.foldlRecOn (motive := k.IssuesTo) l _ (.refl k) fun a ha n _ => ha.trans (a.setQueue_issuesTo n _)

/-- The end of its run leaves a core's beat, its trace and its pilot, and stops it (R141, R169). -/
theorem Core.endRun_fields (k : Core) :
    k.endRun.beat = k.beat ∧ k.endRun.traceEnd = k.traceEnd ∧ k.endRun.pilot = k.pilot ∧ k.endRun.stopped = true := by
  unfold Core.endRun
  dsimp only
  generalize hr : k.raise k.beat _ = r
  have hraise : k.IssuesTo r := hr ▸ k.raise_issuesTo _ _
  refine ⟨?_, ?_, ?_, rfl⟩
  · exact (Core.setQueues_issuesTo _ _ _).beat.trans hraise.beat
  · exact (Core.setQueues_issuesTo _ _ _).traceEnd.trans hraise.traceEnd
  · exact (Core.setQueues_issuesTo _ _ _).pilot.trans hraise.pilot

theorem State.drainIfEnded_cores (s : State) (l : Nat) : (s.drainIfEnded l).cores = s.cores := by
  unfold State.drainIfEnded
  dsimp only
  split
  · rw [State.answerStart_cores, State.moveLagoon_cores, State.setLagoon_cores]
  · rfl

/-- A core whose trace has ended and whose pilot has finished ends its run; any other stays as it is (R141). -/
theorem State.coreEnd_core {s : State} (h : Sparse.wf Core.blank s.cores = true) (c : CoreId) :
    (s.coreEnd c).core c = if (s.core c).runEnded ∧ !(s.core c).stopped then (s.core c).endRun else s.core c := by
  unfold State.coreEnd
  dsimp only
  split
  · have hset : (s.setCore c (s.core c).endRun).core c = (s.core c).endRun := Sparse.get_set_same _ _ h
    rw [State.core, State.drainIfEnded_cores]
    split
    · rw [State.raise_cores]
      exact hset
    · exact hset
  · rfl

/-! ### Empty beats -/

theorem Core.finishBops_issuesTo (k : Core) : k.IssuesTo k.finishBops := by
  unfold Core.finishBops
  split
  · exact .refl k
  · exact List.foldlRecOn (motive := k.IssuesTo) _ _ (.refl k) fun a ha n _ =>
      List.foldlRecOn (motive := k.IssuesTo) _ _ ha fun b hb i _ => hb.trans rfl

theorem Core.landedBy_issuesTo (k : Core) (n : Nat) : k.IssuesTo (k.landedBy n) :=
  List.foldlRecOn (motive := k.IssuesTo) _ _ (.refl k) fun a ha i _ => by
    have hland := Core.landDue_issuesTo { a with beat := k.beat + i }
    unfold Core.IssuesTo at *
    rw [hland, ha]
    rfl

section emptyBeat

variable {k : Core}

/-- A core after END whose row has caught up: an empty beat may issue, or the trace may end (R141). -/
structure Core.AtEnd (k : Core) : Prop where
  ended : k.ex.ended = true
  open_ : k.traceEnd = false
  runs : k.stopped = false
  free : k.ex.halted = false
  caughtUp : k.rowCaughtUp = true

theorem Core.AtEnd.emptyBeat_settled (h : k.AtEnd) (hset : k.settled = true) :
    k.emptyBeat.beat = k.beat ∧ k.emptyBeat.traceEnd = true := by
  obtain ⟨hended, hopen, hruns, hfree, hrow⟩ := h
  have hland : k.IssuesTo k.finishBops.landLater := k.finishBops_issuesTo.trans (Core.landedBy_issuesTo _ _)
  unfold Core.emptyBeat
  simp only [hended, hopen, hruns, hfree, hrow, hset, Bool.not_false, and_self, if_true]
  exact ⟨hland.beat, trivial⟩

theorem Core.AtEnd.emptyBeat_unsettled (h : k.AtEnd) (hset : k.settled = false) :
    k.emptyBeat.beat = k.beat + 1 ∧ k.emptyBeat.traceEnd = false := by
  obtain ⟨hended, hopen, hruns, hfree, hrow⟩ := h
  have hland := k.landDue_issuesTo
  unfold Core.emptyBeat
  simp only [hended, hopen, hruns, hfree, hrow, hset, Bool.not_false, and_self, if_true, Bool.false_eq_true, if_false]
  exact ⟨congrArg (· + 1) hland.beat, hland.traceEnd.trans hopen⟩

end emptyBeat

theorem State.not_stopped_of_issues {s : State} {c : CoreId} (h : s.issues c = true) : (s.core c).stopped = false := by
  simp only [State.issues, Bool.and_eq_true, Bool.not_eq_true'] at h
  exact h.2

/-- What EMPTY_BEAT leaves of the beat and of the trace, the end of the core's run aside. -/
theorem exec_emptyBeat {s : State} {c : CoreId} (hs : s.canonical = true) (h : s.issues c = true) (hm : s.marks c = []) :
    ∃ t : State, exec (.emptyBeat c) s = .next t ∧ (t.core c).beat = (s.core c).emptyBeat.beat ∧
      (t.core c).traceEnd = (s.core c).emptyBeat.traceEnd := by
  obtain ⟨-, hcores, -⟩ := State.canonical_iff.mp hs
  generalize hd : (s.core c).emptyBeat = d
  have hwf : Sparse.wf Core.blank (s.withCore c d).cores = true := Sparse.wf_set _ _ hcores
  have hexec : exec (.emptyBeat c) s = .next (((s.withCore c d).beatIssued c (s.core c).beat).coreEnd c) := by
    change Host.Outcome.next (s.emptyBeat c) = _
    rw [State.emptyBeat, if_pos h, State.act_of_unmarked hm, hd]
    rfl
  have hissued : (((s.withCore c d).beatIssued c (s.core c).beat).core c).beat = d.beat ∧
      (((s.withCore c d).beatIssued c (s.core c).beat).core c).traceEnd = d.traceEnd := by
    rw [State.beatIssued_core_keeps hwf c _ (·.beat) (fun _ _ => rfl), State.beatIssued_core_keeps hwf c _ (·.traceEnd) (fun _ _ => rfl),
      State.withCore_core_same hs]
    exact ⟨rfl, rfl⟩
  refine ⟨_, hexec, ?_⟩
  rw [State.coreEnd_core (State.beatIssued_cores_wf hwf c _)]
  obtain ⟨hbeat, htrace, -⟩ := Core.endRun_fields (((s.withCore c d).beatIssued c (s.core c).beat).core c)
  split
  · exact ⟨hbeat.trans hissued.1, htrace.trans hissued.2⟩
  · exact hissued

/-! ### Fences -/

theorem Core.setSeq_fences (k : Core) (i : SeqId) (q : Seq) : (k.setSeq i q).fences = k.fences := by cases i <;> rfl

/-- A fence that completes is posted no more (R250). -/
theorem Core.fenceComplete_fences (k : Core) (f : Fence) : (k.fenceComplete f).fences = k.fences.filter fun g => g.id ≠ f.id := by
  unfold Core.fenceComplete
  dsimp only
  rw [apply_ite Core.fences, Core.setSeq_fences, ite_self]
  cases f.buoy <;> rfl

/-- A fence that completes sets the buoy that it names (R250). -/
theorem Core.fenceComplete_buoy {k : Core} (h : Sparse.wf Buoy.blank k.buoys = true) {f : Fence} {m : Nat} (hm : f.buoy = some m) :
    ((k.fenceComplete f).buoy m).set = true := by
  have hset : ((k.setBuoy m).buoy m).set = true := by rw [Core.setBuoy, Core.buoy_putBuoy _ h, if_pos rfl]
  unfold Core.fenceComplete Core.buoy
  dsimp only
  rw [hm, apply_ite Core.buoys, Core.setSeq_buoys, ite_self]
  exact hset

theorem exec_fenceComplete {s : State} {c : CoreId} {n : Nat} {f : Fence} (hf : (s.core c).fences.find? (fun g => g.id == n) = some f)
    (hp : s.paced c = true) (hready : (s.core c).fenceReady f = true) :
    exec (.fenceComplete c n) s = .next (s.withCore c ((s.core c).fenceComplete f)) := by
  change Host.Outcome.next _ = _
  rw [hf]
  simp only [hp, hready, Bool.and_self, if_true]
  rfl

/-! ### Barriers -/

theorem State.place_cores (s : State) (xs : List Nat) (n : Nat) : (s.place xs n).1.cores = s.cores := by
  unfold State.place State.enter
  split
  · rfl
  · cases xs <;> rfl

theorem State.place_lagoons (s : State) (xs : List Nat) (n : Nat) : (s.place xs n).1.lagoons = s.lagoons := by
  unfold State.place State.enter
  split
  · rfl
  · cases xs <;> rfl

/-- The sequencer of a core that is the member of a barrier: in unified mode the one that issues every bundle (R139, R253). -/
def Core.memberSeq (k : Core) (access : Bool) : SeqId := if access && k.img.split then .access else .execute

/-- The sequencer that is a member of a barrier has been released. -/
def State.isReleased (s : State) (l : Nat) (m : Nat × Bool) : Prop :=
  ((s.core ⟨l, m.1⟩).seq ((s.core ⟨l, m.1⟩).memberSeq m.2)).released = true

/-- The core of a released member: a signal of number `way` releases its sequencer (R254, R255). -/
def Core.released (k : Core) (access : Bool) (way : Nat) : Core :=
  k.setSeq (k.memberSeq access) { k.seq (k.memberSeq access) with released := true, way := way }

/-- A release changes its member alone, beside the fabric that its signal enters (R255). -/
theorem State.releaseMember_eq (s : State) (l last : Nat) (m : Nat × Bool) : ∃ (t : State) (way : Nat), t.cores = s.cores ∧
    t.lagoons = s.lagoons ∧ s.releaseMember l last m = t.setCore ⟨l, m.1⟩ ((s.core ⟨l, m.1⟩).released m.2 way) := by
  obtain ⟨p, hp⟩ : ∃ p, s.place (s.lanesTo (s.core ⟨l, last⟩).img.phys (s.coreRegion ⟨l, last⟩) (s.coreRegion ⟨l, m.1⟩)) 1 = p := ⟨_, rfl⟩
  have hcores : p.1.cores = s.cores := hp ▸ s.place_cores _ _
  have hcore : p.1.core ⟨l, m.1⟩ = s.core ⟨l, m.1⟩ := by rw [State.core, hcores, State.core]
  refine ⟨p.1, p.2, hcores, hp ▸ s.place_lagoons _ _, ?_⟩
  rw [← hcore]
  unfold State.releaseMember
  rw [hp]
  rfl

theorem State.releaseMember_lagoons (s : State) (l last : Nat) (m : Nat × Bool) : (s.releaseMember l last m).lagoons = s.lagoons := by
  obtain ⟨t, way, -, hlagoons, heq⟩ := s.releaseMember_eq l last m
  rw [heq, State.setCore_lagoons, hlagoons]

theorem Core.released_seq (k : Core) (a a' : Bool) (way : Nat) (h : a = a' ∨ (k.seq (k.memberSeq a')).released = true) :
    ((k.released a way).seq ((k.released a way).memberSeq a')).released = true := by
  have hmember : (k.released a way).memberSeq a' = k.memberSeq a' := by rw [Core.memberSeq, Core.released, Core.setSeq_img, Core.memberSeq]
  rw [hmember, Core.released]
  by_cases hsame : k.memberSeq a' = k.memberSeq a
  · rw [hsame, Core.setSeq_seq]
  · rw [Core.setSeq_other _ hsame]
    exact h.resolve_left fun ha => hsame (ha ▸ rfl)

section release

variable {s : State} (h : Sparse.wf Core.blank s.cores = true) (l last : Nat) (m : Nat × Bool)
include h

theorem State.releaseMember_cores_wf : Sparse.wf Core.blank (s.releaseMember l last m).cores = true := by
  obtain ⟨t, way, hcores, -, heq⟩ := s.releaseMember_eq l last m
  rw [heq]
  exact Sparse.wf_set _ _ (hcores ▸ h)

/-- A release releases its member and leaves released whoever was (R254). -/
theorem State.isReleased_releaseMember {m' : Nat × Bool} (hm : m = m' ∨ s.isReleased l m') : (s.releaseMember l last m).isReleased l m' := by
  obtain ⟨t, way, hcores, -, heq⟩ := s.releaseMember_eq l last m
  have hcore (v : Nat) : (s.releaseMember l last m).core ⟨l, v⟩ =
      if v = m.1 then (s.core ⟨l, m.1⟩).released m.2 way else s.core ⟨l, v⟩ := by
    rw [heq, State.core, State.setCore, Sparse.get_set _ _ _ (hcores ▸ h), hcores]
    simp only [Nat.add_left_cancel_iff]
    rfl
  unfold State.isReleased
  rw [hcore]
  split
  next hv => exact Core.released_seq _ _ _ _ (hm.imp (congrArg Prod.snd) fun hrel => by rwa [← hv])
  next hv => exact hm.resolve_left fun heq => hv (heq ▸ rfl)

end release

/-- Releases one after another release every member (R254). -/
theorem State.isReleased_foldl {s : State} (h : Sparse.wf Core.blank s.cores = true) (l last : Nat) (ms : List (Nat × Bool)) {m : Nat × Bool}
    (hm : m ∈ ms ∨ s.isReleased l m) : (ms.foldl (State.releaseMember l last) s).isReleased l m := by
  induction ms generalizing s with
  | nil => exact hm.resolve_left List.not_mem_nil
  | cons x ms ih =>
    refine ih (State.releaseMember_cores_wf h l last x) ?_
    rcases hm with hmem | hrel
    · rcases List.mem_cons.mp hmem with rfl | hrest
      · exact .inr (State.isReleased_releaseMember h l last m (.inl rfl))
      · exact .inl hrest
    · exact .inr (State.isReleased_releaseMember h l last x (.inr hrel))

theorem State.foldl_releaseMember_lagoon (s : State) (l last : Nat) (ms : List (Nat × Bool)) (i : Nat) :
    (ms.foldl (State.releaseMember l last) s).lagoon i = s.lagoon i :=
  foldl_keeps (·.lagoon i) (fun t m => congrArg (Sparse.get Lagoon.blank · i) (t.releaseMember_lagoons l last m)) ms s

/-- A lagoon in which barrier b has completed an episode (R254). -/
def Lagoon.nextEpisode (x : Lagoon) (b : Nat) : Lagoon :=
  { x with barriers := x.barriers.map fun e => if e.num = b then { e with episodes := e.episodes + 1 } else e }

theorem Lagoon.exists_of_mem_nextEpisode (x : Lagoon) {b : Nat} {e : BarrierDef} (he : e ∈ (x.nextEpisode b).barriers) (hnum : e.num = b) :
    ∃ e0 ∈ x.barriers, e0.num = b ∧ e.episodes = e0.episodes + 1 := by
  obtain ⟨e0, hmem, rfl⟩ := List.mem_map.mp he
  split at hnum
  next hb => exact ⟨e0, hmem, hb, by rw [if_pos hb]⟩
  next hb => exact absurd hnum hb

theorem exec_barrierRelease {s : State} {l b : Nat} {d : BarrierDef} (hd : (s.lagoon l).barriers.find? (fun e => e.num == b) = some d)
    (hrun : (s.lagoon l).st = .running) (harrived : d.members.all (s.arrived l b) = true) :
    exec (.barrierRelease l b) s =
      .next (d.members.foldl (State.releaseMember l d.last) (s.setLagoon l ((s.lagoon l).nextEpisode b))) := by
  change Host.Outcome.next _ = _
  rw [hd]
  dsimp only
  rw [if_pos ⟨hrun, harrived⟩]
  rfl

/-- Settles O9: END's empty beats, a fence that may complete and a barrier at which every member has arrived. That a trace settled at END's
own beat ends with that beat is DEDUCED 37. -/
theorem beatsAndBarriersEnd : Obligations.BeatsAndBarriersEnd := by
  unfold Obligations.BeatsAndBarriersEnd
  refine ⟨fun c s hs hissues hended hfree hopen hrow hm => ?_, fun c n s f hs hf hpaced hmet hbuoy => ?_,
    fun l b s d hs hd hrun harrived _ => ?_⟩
  · have hend : (s.core c).AtEnd := ⟨hended, hopen, State.not_stopped_of_issues hissues, hfree, hrow⟩
    obtain ⟨t, hexec, hbeat, htrace⟩ := exec_emptyBeat hs hissues hm
    refine ⟨fun hset => ⟨t, hexec, ?_⟩, fun hset => ⟨t, hexec, ?_⟩⟩
    · rw [hbeat, htrace]
      exact hend.emptyBeat_unsettled hset
    · rw [hbeat, htrace]
      exact hend.emptyBeat_settled hset
  · obtain ⟨-, -, -, -, -, -, -, -, -, hbuoys, -⟩ := Core.canonical_iff.mp (State.core_canonical hs c)
    have hid : f.id = n := by simpa using List.find?_some hf
    have hready : (s.core c).fenceReady f = true := by
      unfold Core.fenceReady
      rw [hmet]
      cases hb : f.buoy with
      | none => rfl
      | some m => simp [hbuoy m hb]
    refine ⟨exec_fenceComplete hf hpaced hready, ?_, fun m hb => Core.fenceComplete_buoy hbuoys hb⟩
    rw [Core.fenceComplete_fences, hid]
  · obtain ⟨-, hcores, hlagoons, -⟩ := State.canonical_iff.mp hs
    refine ⟨_, exec_barrierRelease hd hrun harrived, fun e he hnum => ?_, fun m hm => ?_⟩
    · rw [State.foldl_releaseMember_lagoon, State.setLagoon_lagoon s hlagoons, if_pos rfl] at he
      exact (s.lagoon l).exists_of_mem_nextEpisode he hnum
    · exact State.isReleased_foldl (s := s.setLagoon l ((s.lagoon l).nextEpisode b)) hcores l d.last d.members (.inl hm)

end Sys2Proof.Machine
end

section
/-! The stream engine's markers and the end of a CANCEL (R158, R198, R527). -/

namespace Sys2Proof.Machine

/-! ### What the engine's later work leaves of a queue -/

/-- From core `k` to core `d` entries have only joined queue n at its tail, and operations have only gone. -/
structure Core.Fills (n : Nat) (k d : Core) : Prop where
  wf : Sparse.wf Queue.blank k.queues = true → Sparse.wf Queue.blank d.queues = true
  entries : Sparse.wf Queue.blank k.queues = true → ∃ more, (d.queue n).entries = (k.queue n).entries ++ more
  ops : d.ops.length ≤ k.ops.length

namespace Core.Fills

variable {n : Nat} {k d e : Core}

/-- A step that leaves the queues alone and adds no operation. -/
theorem of_queues (hq : d.queues = k.queues) (ho : d.ops.length ≤ k.ops.length) : k.Fills n d where
  wf h := hq ▸ h
  entries _ := ⟨[], by rw [Core.queue, hq, List.append_nil, Core.queue]⟩
  ops := ho

theorem refl (k : Core) : k.Fills n k := of_queues rfl le_rfl

theorem trans (h : k.Fills n d) (g : d.Fills n e) : k.Fills n e where
  wf hk := g.wf (h.wf hk)
  entries hk := by
    obtain ⟨xs, hxs⟩ := h.entries hk
    obtain ⟨ys, hys⟩ := g.entries (h.wf hk)
    exact ⟨xs ++ ys, by rw [hys, hxs, List.append_assoc]⟩
  ops := g.ops.trans h.ops

/-- An entry that enters a queue at its tail. -/
theorem push (k : Core) (m : Nat) {q : Queue} {x : QEntry} (hq : q.entries = (k.queue m).entries ++ [x]) : k.Fills n (k.setQueue m q) where
  wf h := Sparse.wf_set _ _ h
  entries h := by
    rw [Core.queue_setQueue k h]
    split
    next hnm =>
      have hsame : k.queue n = k.queue m := by rw [Core.queue, hnm, Core.queue]
      exact ⟨[x], by rw [hq, hsame]⟩
    next => exact ⟨[], (List.append_nil _).symm⟩
  ops := le_rfl

end Core.Fills

section settle

variable (n : Nat) (k : Core)

theorem Core.setOp_fills (o : StreamOp) : k.Fills n (k.setOp o) := .of_queues rfl (List.length_map _).le

theorem Core.writeUnit_fills (o : StreamOp) (u : Nat) (es : List (Nat × Nat)) : k.Fills n (k.writeUnit o u es).1 := by
  unfold Core.writeUnit
  dsimp only
  split
  · exact .of_queues rfl le_rfl
  · split
    · exact .of_queues rfl le_rfl
    · exact .push k o.first rfl

theorem Core.pourUnits_fills (fuel id : Nat) : k.Fills n (Core.pourUnits fuel k id) := by
  induction fuel generalizing k with
  | zero => exact .refl k
  | succ fuel ih =>
    unfold Core.pourUnits
    split
    · exact .refl k
    · split
      · exact .refl k
      · dsimp only
        split
        · exact .refl k
        · exact ((k.writeUnit_fills n _ _ _).trans (Core.setOp_fills n _ _)).trans (ih _)

theorem Core.retireOp_fills (id : Nat) : k.Fills n (k.retireOp id) := by
  unfold Core.retireOp
  split
  · exact .refl k
  · split
    · exact .of_queues rfl (List.length_filter_le _ _)
    · exact .refl k

/-- What follows a change of the engine's operations only adds to queues: data that has arrived enters, operations end (R156, R171). -/
theorem Core.settleOps_fills : k.Fills n k.settleOps :=
  List.foldlRecOn (motive := k.Fills n) k.ops _ (.refl k) fun d hd o _ =>
    (hd.trans (d.pourUnits_fills n _ o.id)).trans (Core.retireOp_fills n _ o.id)

end settle

/-! ### Markers that enter -/

/-- The entry of a marker with a label (R158). -/
def labelEntry (l : BitVec 8) : QEntry := ⟨[], [], 0xF, 0, some l, 0, 0, 0, false, 0⟩

/-- The core in which a marker operation has entered its queue and is gone. -/
def Core.marked (k : Core) (n : Nat) (o : StreamOp) : Core :=
  { k.setQueue n { k.queue n with
      entries := (k.queue n).entries ++ [labelEntry o.label], resv := (k.queue n).resv - o.reserved, pushed := (k.queue n).pushed + 1 } with
    ops := k.ops.filter fun p => p.id ≠ o.id }

section qmark

variable {k : Core} {n : Nat} {o : StreamOp} (ho : k.ops.find? (fun p => p.kind == 4 && p.first == n) = some o)
include ho

theorem Core.streamQmark_eq (hfirst : k.earlierInto o = false) (hroom : o.reserved ≠ 0 ∨ (k.queue n).room ≠ 0)
    (hcancel : k.cancels.any (fun x => bit x.mask n && !x.ops.contains o.id) = false) :
    k.streamQmark n = (k.marked n o).settleOps := by
  have hgo : ¬(k.earlierInto o = true ∨ (o.reserved = 0 ∧ (k.queue n).room = 0) ∨
      k.cancels.any (fun x => bit x.mask n && !x.ops.contains o.id) = true) := by
    rw [hfirst, hcancel]
    tauto
  unfold Core.streamQmark
  rw [ho]
  exact if_neg hgo

theorem Core.marked_ops_length : (k.marked n o).ops.length < k.ops.length :=
  List.length_filter_lt_length_iff_exists.mpr ⟨o, List.mem_of_find?_eq_some ho, by simp⟩

/-- A waiting QMARK that may enter leaves its label at the tail of its queue; what the engine does then only adds to the queue (R527). -/
theorem exec_streamQmark {s : State} {c : CoreId} (hk : s.core c = k) (hlive : s.live c = true)
    (hwf : Sparse.wf Queue.blank k.queues = true) (hfirst : k.earlierInto o = false) (hroom : o.reserved ≠ 0 ∨ (k.queue n).room ≠ 0)
    (hcancel : k.cancels.any (fun x => bit x.mask n && !x.ops.contains o.id) = false) :
    ∃ (k' : Core) (more : List QEntry), exec (.streamQmark c n) s = .next (s.withCore c k') ∧
      (k'.queue n).entries = (k.queue n).entries ++ labelEntry o.label :: more := by
  have hfills := (k.marked n o).settleOps_fills n
  have hops : (k.streamQmark n).ops.length < k.ops.length := by
    rw [Core.streamQmark_eq ho hfirst hroom hcancel]
    exact hfills.ops.trans_lt (Core.marked_ops_length ho)
  have hmarked : ((k.marked n o).queue n).entries = (k.queue n).entries ++ [labelEntry o.label] := by
    exact congrArg Queue.entries ((k.queue_setQueue hwf n n _).trans (if_pos rfl))
  obtain ⟨more, hmore⟩ := hfills.entries (Sparse.wf_set _ _ hwf)
  refine ⟨k.streamQmark n, more, ?_, ?_⟩
  · change Host.Outcome.next _ = _
    rw [hk, hlive, decide_eq_true hops]
    rfl
  · rw [Core.streamQmark_eq ho hfirst hroom hcancel, hmore, hmarked, List.append_assoc, List.singleton_append]

end qmark

/-! ### Markers that are matched -/

section matchHead

variable {k : Core} {n : Nat} {e : QEntry} {rest : List QEntry} (he : (k.queue (16 + n)).entries = e :: rest)
include he

theorem Core.popEntry_ops : (k.popEntry (16 + n)).ops = k.ops := by
  rw [Core.popEntry_eq he, Core.raise]
  split <;> rfl

/-- No CANCEL holds an outbound queue (R199): a match there looks at the head. -/
theorem Core.matchHead_data (hm : e.mark = none) (l : BitVec 8) : k.matchHead (16 + n) l = .event 0x1302 (16 + n) := by
  simp [Core.matchHead, he, Core.cancelHolds, hm]

theorem Core.matchHead_same {l : BitVec 8} (hm : e.mark = some l) : k.matchHead (16 + n) l = .ok (k.popEntry (16 + n)) := by
  simp [Core.matchHead, he, Core.cancelHolds, hm]

theorem Core.matchHead_other {m l : BitVec 8} (hm : e.mark = some m) (hl : m ≠ l) : k.matchHead (16 + n) l = .event 0x1304 (16 + n) := by
  simp [Core.matchHead, he, Core.cancelHolds, hm, hl]

end matchHead

theorem exec_streamQmatch {s : State} {c : CoreId} {n : Nat} {o : StreamOp} {e : QEntry} {rest : List QEntry} (hlive : s.live c = true)
    (ho : (s.core c).ops.find? (fun p => p.kind == 5 && p.first == n) = some o) (hfirst : (s.core c).earlierFrom o = false)
    (he : ((s.core c).queue (16 + n)).entries = e :: rest) (hentered : s.entered c e = true) :
    exec (.streamQmatch c n) s = .next (s.finish c true (((s.core c).matchHead (16 + n) o.label).bind fun d =>
      .ok { d with ops := d.ops.filter fun p => p.id ≠ o.id })) := by
  have hmatch : (s.core c).streamQmatch n = ((s.core c).matchHead (16 + n) o.label).bind fun d =>
      .ok { d with ops := d.ops.filter fun p => p.id ≠ o.id } := by
    unfold Core.streamQmatch
    rw [ho]
    exact if_neg (by rw [hfirst]; decide)
  change Host.Outcome.next _ = _
  rw [hlive, he, hmatch]
  simp only [List.head?_cons, Option.all_some, hentered, Bool.and_self, if_true]

/-- Settles O28: a QMARK that enters, a QMATCH at the head of its queue, and CANCELs whose operations are gone. -/
theorem streamMarkers : Obligations.StreamMarkers := by
  unfold Obligations.StreamMarkers
  intro c n s hs hlive _
  obtain ⟨-, -, -, -, -, -, -, hqueues, -⟩ := Core.canonical_iff.mp (State.core_canonical hs c)
  refine ⟨fun o ho hfirst hroom hcancel => ?_, fun o e rest ho hfirst he hentered => ?_, (s.core c).cancelDone, ?_, rfl⟩
  · obtain ⟨k', more, hexec, hentries⟩ := exec_streamQmark ho rfl hlive hqueues hfirst hroom hcancel
    exact ⟨k', labelEntry o.label, more, hexec, hentries, rfl⟩
  · have hexec := exec_streamQmatch hlive ho hfirst he hentered
    refine ⟨fun hmark => ?_, fun hmark => ?_, fun l hmark hl => ?_⟩
    · rw [Core.matchHead_same he hmark] at hexec
      exact ⟨_, hexec, (Core.popEntry_entries hqueues (16 + n)).trans (by rw [he, List.tail_cons]), by rw [Core.popEntry_ops he]⟩
    · rw [Core.matchHead_data he hmark] at hexec
      exact hexec
    · rw [Core.matchHead_other he hmark hl] at hexec
      exact hexec
  · change Host.Outcome.next _ = _
    rw [hlive]
    rfl

end Sys2Proof.Machine
end

section
/-! The pilot's stops and its queue extension (R141, R159, R160, R162, R241, R243; Table 13 of spec/05). -/

namespace Sys2Proof.Machine

/-! ### A pilot row whose instruction stands at the pc -/

section row

variable {s : State} {c : CoreId} {cls : PClass} {w len : Nat}

theorem State.PilotAt.pilotRow_eq (h : s.PilotAt c cls w len) :
    s.pilotRow c cls = s.finish c false ((s.core c).pilotRun (s.ctx c) (decide (2 ≤ s.debugLevel c.lagoon)) w len) := by
  obtain ⟨hruns, hmay, hsound, hmarks, hfetch, hcls⟩ := h
  unfold State.pilotRow
  simp only [hruns, hmay, hsound, Bool.and_self, if_true, Bool.false_eq_true, if_false]
  rw [State.act_of_unmarked hmarks]
  simp only [Core.pilotStep, hmay, hfetch, hcls, Bool.not_true, Bool.false_eq_true, if_false, if_true]

variable {i : Instr} (h : s.PilotAt c cls w len) (hi : exec i s = .next (s.pilotRow c cls))
include h hi

/-- What a pilot row answers where its instruction completes. -/
theorem State.PilotAt.exec_ok {d : Core} (hd : (s.core c).pilotRun (s.ctx c) (decide (2 ≤ s.debugLevel c.lagoon)) w len = .ok d) :
    exec i s = .next (s.withCore c d) := by
  rw [hi, h.pilotRow_eq, hd]
  rfl

theorem State.PilotAt.exec_wait {x : WaitKind} {n : Nat}
    (hd : (s.core c).pilotRun (s.ctx c) (decide (2 ≤ s.debugLevel c.lagoon)) w len = .wait x n) : exec i s = .next s := by
  rw [hi, h.pilotRow_eq, hd]
  rfl

theorem State.PilotAt.exec_event {e n : Nat}
    (hd : (s.core c).pilotRun (s.ctx c) (decide (2 ≤ s.debugLevel c.lagoon)) w len = .event e n) :
    exec i s = .next (s.coreFault c e n false) := by
  rw [hi, h.pilotRow_eq, hd]
  rfl

/-- An instruction that completes takes the pilot past itself and counts as retired (R160). -/
theorem State.PilotAt.goes {d : Core} {t busy : Nat} {p : Pilot} {P : Core → Prop}
    (hd : (s.core c).pilotRun (s.ctx c) (decide (2 ≤ s.debugLevel c.lagoon)) w len =
      .ok (d.retire t busy ((s.core c).pilot.pc.toNat + len) p))
    (hp : p.instret = (s.core c).pilot.instret) (hP : P (d.retire t busy ((s.core c).pilot.pc.toNat + len) p)) :
    ∃ k' : Core, exec i s = .next (s.withCore c k') ∧ k'.pilot.pc = BitVec.ofNat 32 ((s.core c).pilot.pc.toNat + len) ∧
      k'.pilot.instret = (s.core c).pilot.instret + 1 ∧ P k' :=
  ⟨_, h.exec_ok hi hd, rfl, congrArg (· + 1) hp, hP⟩

end row

/-! ### What the classes run -/

section run

variable {k : Core} {x : Ctx} {d2 : Bool} {w len : Nat}

/-- WFI's core: the pilot has finished, past the instruction (R160). -/
def Core.finished (k : Core) (w len : Nat) : Core :=
  k.retire (k.pilot.issueStep w) 1 (k.pilot.pc.toNat + len) { k.pilot with finished := true }

theorem Core.pilotRun_wfi (h : pclass w = .wfi) : k.pilotRun x d2 w len = .ok (k.finished w len) := by
  simp only [Core.pilotRun, h, Core.finished]

theorem Core.pilotRun_ebreak (h : pclass w = .ebreak) : k.pilotRun x d2 w len =
    if d2 then .ok { k with pilot := { k.pilot with halted := true } } else .event 0x1305 0 := by
  simp only [Core.pilotRun, h]

theorem Core.pilotRun_sumv (h : pclass w = .sumv) : k.pilotRun x d2 w len = k.hqSum false w len := by simp only [Core.pilotRun, h]

theorem Core.pilotRun_sumh (h : pclass w = .sumh) : k.pilotRun x d2 w len = k.hqSum true w len := by simp only [Core.pilotRun, h]

theorem Core.pilotRun_choose (h : pclass w = .choose) : k.pilotRun x d2 w len = k.hqChoose w len := by simp only [Core.pilotRun, h]

/-- The classes of HQ.BUOY, by their op (Table 2 of spec/08). -/
def PClass.buoyOp : PClass → Option Nat
  | .buoySet => some 0
  | .buoyClear => some 1
  | .buoyWaitSet => some 2
  | .buoyWaitClear => some 3
  | _ => none

theorem Core.pilotRun_buoy {op : Nat} (h : (pclass w).buoyOp = some op) : k.pilotRun x d2 w len = k.hqBuoy w len := by
  unfold Core.pilotRun
  cases hc : pclass w <;> simp_all [PClass.buoyOp]

/-- The classes of HQ.BUOY hold their op in the instruction; no other class has one. -/
theorem buoyOp_pclass (w : Nat) : (pclass w).buoyOp = none ∨ (pclass w).buoyOp = some (bits w 26 2) := by
  have hlt : bits w 26 2 < 4 := bits_lt w 26 2
  unfold pclass
  split
  · exact .inl rfl
  split
  · exact .inl rfl
  split
  · dsimp only
    split_ifs <;> exact .inl rfl
  split
  · split
    · exact .inl rfl
    · exact .inl rfl
    · exact .inl rfl
    · right
      generalize bits w 26 2 = op at hlt ⊢
      interval_cases op <;> rfl
    · exact .inl rfl
  · exact .inl rfl

theorem bits_of_buoyOp {op : Nat} (h : (pclass w).buoyOp = some op) : bits w 26 2 = op := by
  rcases buoyOp_pclass w with hnone | hop
  · cases hnone.symm.trans h
  · exact Option.some.inj (hop.symm.trans h)

end run

/-! ### Summaries (R135, R162) -/

/-- A read of an integer register after a write of it (R161). -/
theorem Pilot.getX_setX_same {p : Pilot} (h : Sparse.wf 0 p.x = true) {n : Nat} (hn : n ≠ 0) (v u : Nat) : (p.setX n v u).getX n = v % 2 ^ 32 := by
  rw [Pilot.getX, if_neg hn, Pilot.setX, if_neg hn]
  simp only [Sparse.get_set_same _ _ h, BitVec.toNat_ofNat]

@[simp] theorem Pilot.setX_instret (p : Pilot) (n v u : Nat) : (p.setX n v u).instret = p.instret := by
  unfold Pilot.setX
  split <;> rfl

section sum

variable {k : Core} {w len : Nat}

theorem Core.hqSum_empty (h : k.vec.summ = []) (high : Bool) : k.hqSum high w len = .wait .summary 0 := by
  simp only [Core.hqSum, Core.summReadable, h]

variable {e : Summary} {rest : List Summary} (h : k.vec.summ = e :: rest) (hr : e.readable ≤ k.clock)
include h hr

/-- HQ.SUMH reads the upper word of the head entry. -/
theorem Core.hqSum_high : k.hqSum true w len = .ok (k.retire (k.pilot.issueStep w) 1 (k.pilot.pc.toNat + len)
    (k.pilot.setX (iRd w) (bits e.entry.toNat 32 32) (k.pilot.issueStep w + 2))) := by
  simp only [Core.hqSum, Core.summReadable, h, hr, if_true]

/-- HQ.SUMV reads its lower word and takes the entry. -/
theorem Core.hqSum_low : k.hqSum false w len = .ok (({ k with vec := { k.vec with summ := rest } } : Core).retire
    (k.pilot.issueStep w) 1 (k.pilot.pc.toNat + len) (k.pilot.setX (iRd w) (bits e.entry.toNat 0 32) (k.pilot.issueStep w + 2))) := by
  simp only [Core.hqSum, Core.summReadable, h, hr, if_true, Bool.false_eq_true, if_false, List.tail_cons]

end sum

/-! ### Choices (R159, R162) -/

theorem bit_bits (x lo : Nat) {n i : Nat} (hi : i < n) : bit (bits x lo n) i = bit x (lo + i) := by
  simp [bit, bits, Nat.testBit_mod_two_pow, Nat.testBit_shiftRight, hi, -Nat.reducePow]

/-- The core with a choice pushed to the sequencers named. -/
def Core.chosen (k : Core) (toX toA : Bool) (v : Nat) : Core :=
  let c1 := if toX then k.pushChoice .execute v else k
  if toA then c1.pushChoice .access v else c1

theorem Core.chosen_fields (k : Core) (toX toA : Bool) (v : Nat) :
    (k.chosen toX toA v).ex.choices = k.ex.choices ++ (if toX then [BitVec.ofNat 32 v] else []) ∧
    (k.chosen toX toA v).ac.choices = k.ac.choices ++ (if toA then [BitVec.ofNat 32 v] else []) ∧
    (k.chosen toX toA v).pilot.pushed = k.pilot.pushed + (if toX then 1 else 0) ∧
    (k.chosen toX toA v).pilot.instret = k.pilot.instret := by
  cases toX <;> cases toA <;> simp [Core.chosen, Core.pushChoice, Core.setSeq, Core.seq]

section choose

variable {k : Core} {w len : Nat}

theorem Core.hqChoose_none (h : bits w 20 2 = 0) : k.hqChoose w len = .event 0x1305 0 := by simp only [Core.hqChoose, h, if_true]

theorem Core.hqChoose_eq (h : bits w 20 2 ≠ 0) : k.hqChoose w len =
    if bit w 20 && 4 ≤ k.ex.choices.length then .wait .choiceSpace 0
    else if bit w 21 && k.img.split && 4 ≤ k.ac.choices.length then .wait .choiceSpace 1
    else .ok ((k.chosen (bit w 20) (bit w 21 && k.img.split) (k.pilot.getX (iRs1 w))).retire (k.pilot.issueStep w) 1
      (k.pilot.pc.toNat + len) (k.chosen (bit w 20) (bit w 21 && k.img.split) (k.pilot.getX (iRs1 w))).pilot) := by
  have h0 : bit (bits w 20 2) 0 = bit w 20 := bit_bits w 20 (by decide)
  have h1 : bit (bits w 20 2) 1 = bit w 21 := bit_bits w 20 (by decide)
  simp only [Core.hqChoose, h0, h1, if_neg h]
  rfl

/-- HQ.CHOOSE waits while four choices wait at a sequencer that it names (R159). -/
theorem Core.hqChoose_full (h : bits w 20 2 ≠ 0)
    (hfull : (bit w 20 = true ∧ 4 ≤ k.ex.choices.length) ∨ ((bit w 21 && k.img.split) = true ∧ 4 ≤ k.ac.choices.length)) :
    ∃ n, k.hqChoose w len = .wait .choiceSpace n := by
  rw [Core.hqChoose_eq h]
  by_cases hx : bit w 20 = true ∧ 4 ≤ k.ex.choices.length
  · exact ⟨0, if_pos (by simpa using hx)⟩
  · exact ⟨1, (if_neg (by simpa using hx)).trans (if_pos (by simpa using hfull.resolve_left hx))⟩

theorem Core.hqChoose_room (h : bits w 20 2 ≠ 0) (hx : bit w 20 = true → k.ex.choices.length < 4)
    (ha : (bit w 21 && k.img.split) = true → k.ac.choices.length < 4) :
    k.hqChoose w len = .ok ((k.chosen (bit w 20) (bit w 21 && k.img.split) (k.pilot.getX (iRs1 w))).retire (k.pilot.issueStep w) 1
      (k.pilot.pc.toNat + len) (k.chosen (bit w 20) (bit w 21 && k.img.split) (k.pilot.getX (iRs1 w))).pilot) := by
  rw [Core.hqChoose_eq h, if_neg (by simpa using hx), if_neg (by simpa using ha)]

end choose

/-! ### Buoys (R241, R243) -/

section buoy

variable {k : Core} {w len : Nat}

theorem Core.setBuoy_set (h : Sparse.wf Buoy.blank k.buoys = true) (n : Nat) : ((k.setBuoy n).buoy n).set = true := by
  rw [Core.setBuoy, Core.buoy_putBuoy _ h, if_pos rfl]

theorem Core.clearBuoy_set (h : Sparse.wf Buoy.blank k.buoys = true) (n : Nat) : ((k.clearBuoy n).buoy n).set = false := by
  rw [Core.clearBuoy, Core.buoy_putBuoy _ h, if_pos rfl]

/-- The core that HQ.BUOY leaves where it completes with the buoys of `d`. -/
def Core.buoyDone (k d : Core) (w len : Nat) : Core := d.retire (k.pilot.issueStep w) 1 (k.pilot.pc.toNat + len) d.pilot

theorem Core.hqBuoy_set (hop : bits w 26 2 = 0) : k.hqBuoy w len =
    if (k.buoy (bits w 20 6)).set then .wait .buoyClear (bits w 20 6) else .ok (k.buoyDone (k.setBuoy (bits w 20 6)) w len) := by
  simp only [Core.hqBuoy, hop]
  rfl

theorem Core.hqBuoy_clear (hop : bits w 26 2 = 1) : k.hqBuoy w len =
    if (k.buoy (bits w 20 6)).set then .ok (k.buoyDone (k.clearBuoy (bits w 20 6)) w len) else .wait .buoySet (bits w 20 6) := by
  simp only [Core.hqBuoy, hop]
  rfl

theorem Core.hqBuoy_waitSet (hop : bits w 26 2 = 2) : k.hqBuoy w len =
    if (k.buoy (bits w 20 6)).set then .ok (k.buoyDone k w len) else .wait .buoySet (bits w 20 6) := by
  simp only [Core.hqBuoy, hop]
  rfl

theorem Core.hqBuoy_waitClear (hop : bits w 26 2 = 3) : k.hqBuoy w len =
    if (k.buoy (bits w 20 6)).set then .wait .buoyClear (bits w 20 6) else .ok (k.buoyDone k w len) := by
  simp only [Core.hqBuoy, hop]
  rfl

end buoy

/-! ### The end of the pilot (R141, R160) -/

/-- WFI at the pc leaves its core with the pilot finished, and ends the core's run if its trace has ended. -/
theorem exec_wfi {s : State} {c : CoreId} {w len : Nat} (hs : s.canonical = true) (h : s.PilotAt c .wfi w len) :
    ∃ t : State, exec (.wfi c) s = .next t ∧ (t.core c).pilot = ((s.core c).finished w len).pilot ∧
      ((s.core c).traceEnd = true → (t.core c).stopped = true) := by
  obtain ⟨-, hcores, -⟩ := State.canonical_iff.mp hs
  have hexec : exec (.wfi c) s = .next ((s.withCore c ((s.core c).finished w len)).coreEnd c) := by
    change Host.Outcome.next ((s.pilotRow c .wfi).coreEnd c) = _
    rw [h.pilotRow_eq, Core.pilotRun_wfi h.cls]
    rfl
  have hruns : ((s.core c).finished w len).stopped = false := State.not_stopped_of_issues h.runs
  have hwf : Sparse.wf Core.blank (s.withCore c ((s.core c).finished w len)).cores = true := Sparse.wf_set _ _ hcores
  obtain ⟨-, -, hpilot, hstop⟩ := Core.endRun_fields ((s.core c).finished w len)
  refine ⟨_, hexec, ?_⟩
  rw [State.coreEnd_core hwf, State.withCore_core_same hs, hruns]
  split
  · exact ⟨hpilot, fun _ => hstop⟩
  · next hopen => exact ⟨rfl, fun hend => absurd ⟨Bool.and_eq_true_iff.mpr ⟨hend, rfl⟩, rfl⟩ hopen⟩

/-! ### The statement -/

section buoyRows

variable {s : State} {c : CoreId} {cls : PClass} {w len op : Nat} {i : Instr} (h : s.PilotAt c cls w len)
  (hi : exec i s = .next (s.pilotRow c cls)) (hop : cls.buoyOp = some op)
include h hi hop

/-- An instruction of HQ.BUOY that waits leaves the state as it is (R243). -/
theorem State.PilotAt.buoy_wait {x : WaitKind} {n : Nat} (hb : bits w 26 2 = op → (s.core c).hqBuoy w len = .wait x n) :
    exec i s = .next s := by
  have hw : (pclass w).buoyOp = some op := h.cls ▸ hop
  exact h.exec_wait hi ((Core.pilotRun_buoy hw).trans (hb (bits_of_buoyOp hw)))

/-- One that completes goes on with the buoys it leaves (R241). -/
theorem State.PilotAt.buoy_goes {d : Core} (hb : bits w 26 2 = op → (s.core c).hqBuoy w len = .ok ((s.core c).buoyDone d w len))
    (hret : d.pilot.instret = (s.core c).pilot.instret) {P : Core → Prop} (hP : P ((s.core c).buoyDone d w len)) :
    ∃ k' : Core, exec i s = .next (s.withCore c k') ∧ k'.pilot.pc = BitVec.ofNat 32 ((s.core c).pilot.pc.toNat + len) ∧
      k'.pilot.instret = (s.core c).pilot.instret + 1 ∧ P k' := by
  have hw : (pclass w).buoyOp = some op := h.cls ▸ hop
  exact h.goes hi ((Core.pilotRun_buoy hw).trans (hb (bits_of_buoyOp hw))) hret hP

end buoyRows

/-- Settles O35: each row runs the instruction at the pc (`State.PilotAt.pilotRow_eq`), so each clause is the rule of its class. -/
theorem pilotStopsAndQueues : Obligations.PilotStopsAndQueues := by
  unfold Obligations.PilotStopsAndQueues
  refine ⟨fun c s w len hs => ⟨fun h => ?_, fun h => ⟨fun hd2 => ?_, fun hd2 => ?_⟩⟩,
    fun c s w len hx hb => ⟨fun e rest h hsum hr => ?_, fun e rest h hsum hr => ?_, fun hsum h => ?_, fun hsum h => ?_,
      fun h hto => ⟨fun hroomX hroomA => ?_, fun hfull => ?_⟩, fun h hto => ?_, fun h => ?_, fun h => ?_, fun h => ?_, fun h => ?_⟩⟩
  · obtain ⟨t, hexec, hpilot, hstop⟩ := exec_wfi hs h
    exact ⟨t, hexec, congrArg Pilot.finished hpilot, congrArg Pilot.pc hpilot, hstop⟩
  · exact h.exec_ok rfl ((Core.pilotRun_ebreak h.cls).trans (if_pos (decide_eq_true hd2)))
  · exact h.exec_event rfl ((Core.pilotRun_ebreak h.cls).trans (if_neg (by simpa using hd2)))
  · exact h.goes rfl ((Core.pilotRun_sumv h.cls).trans (Core.hqSum_low hsum hr)) (Pilot.setX_instret _ _ _ _)
      ⟨rfl, fun hrd => (Pilot.getX_setX_same hx hrd _ _).trans (Nat.mod_eq_of_lt (bits_lt _ _ _))⟩
  · exact h.goes rfl ((Core.pilotRun_sumh h.cls).trans (Core.hqSum_high hsum hr)) (Pilot.setX_instret _ _ _ _)
      ⟨hsum, fun hrd => (Pilot.getX_setX_same hx hrd _ _).trans (Nat.mod_eq_of_lt (bits_lt _ _ _))⟩
  · exact h.exec_wait rfl ((Core.pilotRun_sumv h.cls).trans (Core.hqSum_empty hsum _))
  · exact h.exec_wait rfl ((Core.pilotRun_sumh h.cls).trans (Core.hqSum_empty hsum _))
  · obtain ⟨hex, hac, hpushed, hret⟩ := Core.chosen_fields (s.core c) (bit w 20) (bit w 21 && (s.core c).img.split)
      ((s.core c).pilot.getX (iRs1 w))
    exact h.goes rfl ((Core.pilotRun_choose h.cls).trans (Core.hqChoose_room hto hroomX hroomA)) hret ⟨hex, hac, hpushed⟩
  · obtain ⟨n, hn⟩ := Core.hqChoose_full (w := w) (len := len) hto hfull
    exact h.exec_wait rfl ((Core.pilotRun_choose h.cls).trans hn)
  · exact h.exec_event rfl ((Core.pilotRun_choose h.cls).trans (Core.hqChoose_none hto))
  · exact ⟨fun hset => h.buoy_goes rfl rfl (fun hop => (Core.hqBuoy_set hop).trans (if_neg (by simp [hset]))) rfl (Core.setBuoy_set hb _),
      fun hset => h.buoy_wait rfl rfl (fun hop => (Core.hqBuoy_set hop).trans (if_pos hset))⟩
  · exact ⟨fun hset => h.buoy_goes rfl rfl (fun hop => (Core.hqBuoy_clear hop).trans (if_pos hset)) rfl (Core.clearBuoy_set hb _),
      fun hset => h.buoy_wait rfl rfl (fun hop => (Core.hqBuoy_clear hop).trans (if_neg (by simp [hset])))⟩
  · exact ⟨fun hset => h.buoy_goes rfl rfl (fun hop => (Core.hqBuoy_waitSet hop).trans (if_pos hset)) rfl rfl,
      fun hset => h.buoy_wait rfl rfl (fun hop => (Core.hqBuoy_waitSet hop).trans (if_neg (by simp [hset])))⟩
  · exact ⟨fun hset => h.buoy_goes rfl rfl (fun hop => (Core.hqBuoy_waitClear hop).trans (if_neg (by simp [hset]))) rfl rfl,
      fun hset => h.buoy_wait rfl rfl (fun hop => (Core.hqBuoy_waitClear hop).trans (if_pos hset))⟩

end Sys2Proof.Machine
end

section
/-! The canonical form as it is kept (R179 to R181): the arrays that it speaks of in a sequencer, a core and the device, as propositions
with a field for each, by which the laws of the operations chain; and the operations that write an array. -/

namespace Sys2Proof

variable {α : Type} [DecidableEq α] {d : α}

/-- A change in place that leaves no entry the default keeps the canonical form. -/
theorem Sparse.wf_mapNe {m : Sparse α} (f : Nat × α → α) (hf : ∀ e, e.2 ≠ d → f e ≠ d)
    (hm : Sparse.wf d m = true) : Sparse.wf d (m.map fun e => (e.1, f e)) = true := by
  suffices ∀ a, Sparse.wfFrom d a m = true → Sparse.wfFrom d a (m.map fun e => (e.1, f e)) = true from this 0 hm
  clear hm
  induction m with
  | nil => exact fun _ _ => rfl
  | cons e m ih =>
    intro a hm
    simp only [List.map_cons, Sparse.wfFrom, Bool.and_eq_true, decide_eq_true_eq] at hm ⊢
    exact ⟨⟨hm.1.1, hf e hm.1.2⟩, ih _ hm.2⟩

end Sys2Proof

namespace Sys2Proof.Machine

/-! ### The arrays -/

/-- The index and step registers of a sequencer. -/
structure Seq.Canonical (q : Seq) : Prop where
  x  : Sparse.wf 0 q.x = true
  xs : Sparse.wf 0 q.xs = true

/-- The cubes of a matrix row. -/
def Row.Canonical (r : Row) : Prop := Sparse.wf Cube.blank r.cubes = true

/-- Vector and mask registers and the operand cache. -/
structure Vec.Canonical (v : Vec) : Prop where
  regs  : Sparse.wf 0 v.regs = true
  masks : Sparse.wf 0 v.masks = true
  cache : Sparse.wf 0 v.cache = true

/-- The pilot's integer registers. -/
def Pilot.Canonical (p : Pilot) : Prop := Sparse.wf 0 p.x = true

/-- The arrays of a core. -/
structure Core.Canonical (k : Core) : Prop where
  ex      : k.ex.Canonical
  ac      : k.ac.Canonical
  tile    : Sparse.wf Line.blank k.tile = true
  row     : k.row.Canonical
  vec     : k.vec.Canonical
  queues  : Sparse.wf Queue.blank k.queues = true
  pilot   : k.pilot.Canonical
  buoys   : Sparse.wf Buoy.blank k.buoys = true
  tallies : Sparse.wf Tally.blank k.tallies = true

/-- The cores of a device, each of them canonical too. -/
structure CoresCanonical (m : Sparse Core) : Prop where
  wf  : Sparse.wf Core.blank m = true
  all : m.all (fun p => p.2.canonical) = true

theorem CoresCanonical.filter {m : Sparse Core} (h : CoresCanonical m) (p : Nat × Core → Bool) : CoresCanonical (m.filter p) where
  wf  := Sparse.wf_filter p h.wf
  all := List.all_eq_true.mpr fun x hx => List.all_eq_true.mp h.all x (List.mem_of_mem_filter hx)

/-- Memory and the arrays of the device. -/
structure State.Canonical (s : State) : Prop where
  mem      : Memory.wf s.mem = true
  cores    : CoresCanonical s.cores
  lagoons  : Sparse.wf Lagoon.blank s.lagoons = true
  hbm      : Sparse.wf Stack.blank s.hbm = true
  wheels   : Sparse.wf Wheel.blank s.wheels = true
  ddr      : Sparse.wf Ddr.blank s.ddr = true
  regions  : Sparse.wf Region.blank s.regions = true
  phys     : Sparse.wf Phys.blank s.phys = true
  counters : Sparse.wf 0 s.keeper.counters = true

/-! ### The statement's form -/

theorem Seq.canonical_eq_true {q : Seq} : q.canonical = true ↔ q.Canonical := by
  rw [Seq.canonical, Bool.and_eq_true]
  exact ⟨fun ⟨hx, hxs⟩ => ⟨hx, hxs⟩, fun h => ⟨h.x, h.xs⟩⟩

theorem Core.canonical_eq_true {k : Core} : k.canonical = true ↔ k.Canonical := by
  rw [Core.canonical_iff, Seq.canonical_eq_true, Seq.canonical_eq_true]
  constructor
  · rintro ⟨hex, hac, ht, hr, hregs, hmasks, hcache, hq, hp, hb, ha⟩
    exact ⟨hex, hac, ht, hr, ⟨hregs, hmasks, hcache⟩, hq, hp, hb, ha⟩
  · intro h
    exact ⟨h.ex, h.ac, h.tile, h.row, h.vec.regs, h.vec.masks, h.vec.cache, h.queues, h.pilot, h.buoys, h.tallies⟩

theorem State.canonical_eq_true {s : State} : s.canonical = true ↔ s.Canonical := by
  rw [State.canonical_iff]
  constructor
  · rintro ⟨hm, hc, hl, hh, hw, hd, hr, hp, ha, hk⟩
    exact ⟨hm, ⟨hc, ha⟩, hl, hh, hw, hd, hr, hp, hk⟩
  · intro h
    exact ⟨h.mem, h.cores.wf, h.lagoons, h.hbm, h.wheels, h.ddr, h.regions, h.phys, h.cores.all, h.counters⟩

/-! ### What is canonical, part by part -/

@[simp] theorem Core.canonical_mk {img ex ac beat traceEnd trace tile row vec queues pilot csr arstat buoys tallies delivered ops nextOp
    nextTxn outst fences doneFence heldFlags cancels guardLu ledger stopped stall qmem} :
    Core.Canonical ⟨img, ex, ac, beat, traceEnd, trace, tile, row, vec, queues, pilot, csr, arstat, buoys, tallies, delivered, ops, nextOp,
        nextTxn, outst, fences, doneFence, heldFlags, cancels, guardLu, ledger, stopped, stall, qmem⟩ ↔
      ex.Canonical ∧ ac.Canonical ∧ Sparse.wf Line.blank tile = true ∧ row.Canonical ∧ vec.Canonical ∧
        Sparse.wf Queue.blank queues = true ∧ pilot.Canonical ∧ Sparse.wf Buoy.blank buoys = true ∧ Sparse.wf Tally.blank tallies = true :=
  ⟨fun h => ⟨h.ex, h.ac, h.tile, h.row, h.vec, h.queues, h.pilot, h.buoys, h.tallies⟩,
    fun ⟨hex, hac, ht, hr, hv, hq, hp, hb, ha⟩ => ⟨hex, hac, ht, hr, hv, hq, hp, hb, ha⟩⟩

@[simp] theorem State.canonical_mk {pending fresh tx cores lagoons mem hbm wheels ddr regions phys straits causeway ferry fabric tide power
    straps sessions shakes lrs qps sinks libs builder runs port side keeper boot dbgs jtag rel log evno degraded stamp} :
    State.Canonical ⟨pending, fresh, tx, cores, lagoons, mem, hbm, wheels, ddr, regions, phys, straits, causeway, ferry, fabric, tide, power,
        straps, sessions, shakes, lrs, qps, sinks, libs, builder, runs, port, side, keeper, boot, dbgs, jtag, rel, log, evno, degraded, stamp⟩ ↔
      Memory.wf mem = true ∧ CoresCanonical cores ∧ Sparse.wf Lagoon.blank lagoons = true ∧ Sparse.wf Stack.blank hbm = true ∧
        Sparse.wf Wheel.blank wheels = true ∧ Sparse.wf Ddr.blank ddr = true ∧ Sparse.wf Region.blank regions = true ∧
        Sparse.wf Phys.blank phys = true ∧ Sparse.wf 0 keeper.counters = true :=
  ⟨fun h => ⟨h.mem, h.cores, h.lagoons, h.hbm, h.wheels, h.ddr, h.regions, h.phys, h.counters⟩,
    fun ⟨hm, hc, hl, hh, hw, hd, hr, hp, hk⟩ => ⟨hm, hc, hl, hh, hw, hd, hr, hp, hk⟩⟩

section parts

variable {s : State} (h : s.Canonical)
include h

@[simp] theorem State.Canonical.mem_wf : Memory.wf s.mem = true := h.mem
@[simp] theorem State.Canonical.cores_canonical : CoresCanonical s.cores := h.cores
@[simp] theorem State.Canonical.lagoons_wf : Sparse.wf Lagoon.blank s.lagoons = true := h.lagoons
@[simp] theorem State.Canonical.hbm_wf : Sparse.wf Stack.blank s.hbm = true := h.hbm
@[simp] theorem State.Canonical.wheels_wf : Sparse.wf Wheel.blank s.wheels = true := h.wheels
@[simp] theorem State.Canonical.ddr_wf : Sparse.wf Ddr.blank s.ddr = true := h.ddr
@[simp] theorem State.Canonical.regions_wf : Sparse.wf Region.blank s.regions = true := h.regions
@[simp] theorem State.Canonical.phys_wf : Sparse.wf Phys.blank s.phys = true := h.phys
@[simp] theorem State.Canonical.counters_wf : Sparse.wf 0 s.keeper.counters = true := h.counters

end parts

@[simp] theorem Core.Canonical.blank : Core.blank.Canonical := Core.canonical_eq_true.mp Core.blank_canonical

theorem CoresCanonical.map {m : Sparse Core} (h : CoresCanonical m) (f : Core → Core) (hf : ∀ k : Core, k.Canonical → (f k).Canonical)
    (hne : ∀ k, k ≠ Core.blank → f k ≠ Core.blank) : CoresCanonical (m.map fun e => (e.1, f e.2)) where
  wf  := Sparse.wf_mapNe (fun e => f e.2) (fun e => hne e.2) h.wf
  all := by
    rw [List.all_map]
    exact List.all_eq_true.mpr fun x hx => Core.canonical_eq_true.mpr (hf x.2 (Core.canonical_eq_true.mp (List.all_eq_true.mp h.all x hx)))

/-! ### Choices and folds -/

@[simp] theorem Seq.Canonical.ite {p : Prop} [Decidable p] {a b : Seq} (ha : a.Canonical) (hb : b.Canonical) :
    (if p then a else b).Canonical := by split <;> assumption

@[simp] theorem Core.Canonical.ite {p : Prop} [Decidable p] {a b : Core} (ha : a.Canonical) (hb : b.Canonical) :
    (if p then a else b).Canonical := by split <;> assumption

@[simp] theorem State.Canonical.ite {p : Prop} [Decidable p] {a b : State} (ha : a.Canonical) (hb : b.Canonical) :
    (if p then a else b).Canonical := by split <;> assumption

theorem Core.Canonical.foldl {α : Type} {f : Core → α → Core} {l : List α} {k : Core} (h : k.Canonical)
    (hf : ∀ d a, d.Canonical → (f d a).Canonical) : (l.foldl f k).Canonical :=
  List.foldlRecOn (motive := Core.Canonical) l f h fun d hd a _ => hf d a hd

theorem State.Canonical.foldl {α : Type} {f : State → α → State} {l : List α} {s : State} (h : s.Canonical)
    (hf : ∀ t a, t.Canonical → (f t a).Canonical) : (l.foldl f s).Canonical :=
  List.foldlRecOn (motive := State.Canonical) l f h fun t ht a _ => hf t a ht

/-! ### The operations that write an array -/

section arrays

variable {q : Seq} (h : q.Canonical)
include h

@[simp] theorem Seq.Canonical.setX {n v} : (q.setX n v).Canonical :=
  Seq.canonical_eq_true.mp (Seq.setX_canonical (Seq.canonical_eq_true.mpr h) n v)
@[simp] theorem Seq.Canonical.setXS {n v} : (q.setXS n v).Canonical :=
  Seq.canonical_eq_true.mp (Seq.setXS_canonical (Seq.canonical_eq_true.mpr h) n v)
@[simp] theorem Seq.Canonical.applyInc {inc} : (q.applyInc inc).Canonical :=
  Seq.canonical_eq_true.mp (Seq.applyInc_canonical (Seq.canonical_eq_true.mpr h) inc)

end arrays

section arrays

variable {p : Pilot} (h : p.Canonical)
include h

@[simp] theorem Pilot.Canonical.setX {n v u} : (p.setX n v u).Canonical := by
  unfold Pilot.setX
  split
  · exact h
  · exact Sparse.wf_set _ _ h
@[simp] theorem Pilot.Canonical.setF {n v u} : (p.setF n v u).Canonical := h
@[simp] theorem Pilot.Canonical.fflags {fl} : (p.fflags fl).Canonical := h

end arrays

section arrays

variable {k : Core} (h : k.Canonical)
include h

@[simp] theorem Core.Canonical.seq {i} : (k.seq i).Canonical := by
  cases i
  · exact h.ex
  · exact h.ac
@[simp] theorem Core.Canonical.setSeq {i} {q : Seq} (hq : q.Canonical) : (k.setSeq i q).Canonical := by
  cases i
  · exact { h with ex := hq }
  · exact { h with ac := hq }
@[simp] theorem Core.Canonical.putBuoy {n b} : (k.putBuoy n b).Canonical := { h with buoys := Sparse.wf_set _ _ h.buoys }
@[simp] theorem Core.Canonical.putTally {n t} : (k.putTally n t).Canonical := { h with tallies := Sparse.wf_set _ _ h.tallies }
@[simp] theorem Core.Canonical.setQueue {n q} : (k.setQueue n q).Canonical := { h with queues := Sparse.wf_set _ _ h.queues }
@[simp] theorem Core.Canonical.setTileLine {l x} : (k.setTileLine l x).Canonical := { h with tile := Sparse.wf_set _ _ h.tile }
@[simp] theorem Core.Canonical.setCacheLine {l x} : (k.setCacheLine l x).Canonical :=
  { h with vec := { h.vec with cache := Sparse.wf_set _ _ h.vec.cache } }
@[simp] theorem Core.Canonical.setCube {n q} : (k.setCube n q).Canonical := { h with row := Sparse.wf_set _ _ h.row }

end arrays

section arrays

variable {s : State} (h : s.Canonical)
include h

@[simp] theorem State.Canonical.core {c} : (s.core c).Canonical :=
  Core.canonical_eq_true.mp (State.core_canonical (State.canonical_eq_true.mpr h) c)
@[simp] theorem State.Canonical.setCore {c} {k : Core} (hk : k.Canonical) : (s.setCore c k).Canonical :=
  { h with cores := ⟨Sparse.wf_set _ _ h.cores.wf, Sparse.all_set Core.canonical h.cores.all (Core.canonical_eq_true.mpr hk)⟩ }
@[simp] theorem State.Canonical.setLagoon {l x} : (s.setLagoon l x).Canonical := { h with lagoons := Sparse.wf_set _ _ h.lagoons }
@[simp] theorem State.Canonical.setStack {n x} : (s.setStack n x).Canonical := { h with hbm := Sparse.wf_set _ _ h.hbm }
@[simp] theorem State.Canonical.setWheel {n x} : (s.setWheel n x).Canonical := { h with wheels := Sparse.wf_set _ _ h.wheels }
@[simp] theorem State.Canonical.setChannel {n x} : (s.setChannel n x).Canonical := { h with ddr := Sparse.wf_set _ _ h.ddr }
@[simp] theorem State.Canonical.setRegion {n x} : (s.setRegion n x).Canonical := { h with regions := Sparse.wf_set _ _ h.regions }
@[simp] theorem State.Canonical.setPhys {n x} : (s.setPhys n x).Canonical := { h with phys := Sparse.wf_set _ _ h.phys }
@[simp] theorem State.Canonical.setCounter {n v} : (s.setCounter n v).Canonical := { h with counters := Sparse.wf_set _ _ h.counters }
@[simp] theorem State.Canonical.writeByte {a b} : (s.writeByte a b).Canonical := { h with mem := State.writeByte_wf h.mem a b }
@[simp] theorem State.Canonical.writeBytes {a bs} : (s.writeBytes a bs).Canonical := { h with mem := State.writeBytes_wf h.mem a bs }
@[simp] theorem State.Canonical.zeroRange {lo hi} : (s.zeroRange lo hi).Canonical := { h with mem := State.zeroRange_wf h.mem lo hi }
@[simp] theorem State.Canonical.mapCores {l} {f : Core → Core} (hf : ∀ k : Core, k.Canonical → (f k).Canonical) : (s.mapCores l f).Canonical :=
  State.canonical_eq_true.mp (State.mapCores_canonical (State.canonical_eq_true.mpr h) l fun k hk =>
    Core.canonical_eq_true.mpr (hf k (Core.canonical_eq_true.mp hk)))

end arrays

end Sys2Proof.Machine
end

section
/-! The steps of a core keep its arrays canonical: results that land, the matrix row, the slots, stream operations, control bundles, the
pilot, messages and what a debugger writes. -/

namespace Sys2Proof.Machine

/-! ### Answers -/

/-- Where an answer is given, it has a property. -/
def Res.Gives {α : Type} (P : α → Prop) : Res α → Prop
  | .ok a => P a
  | _ => True

section answers

variable {α β : Type} {P : α → Prop} {Q : β → Prop}

@[simp] theorem Res.gives_ok {a : α} : (Res.ok a).Gives P ↔ P a := .rfl

@[simp] theorem Res.Gives.ite {p : Prop} [Decidable p] {r r' : Res α} (h : r.Gives P) (h' : r'.Gives P) :
    (if p then r else r').Gives P := by split <;> assumption

theorem Res.Gives.of_eq {r : Res α} {a : α} (h : r.Gives P) (hr : r = .ok a) : P a := by
  subst hr
  exact h

theorem Res.Gives.bind {r : Res α} {f : α → Res β} (h : r.Gives P) (hf : ∀ a, P a → (f a).Gives Q) : (r.bind f).Gives Q := by
  cases r with
  | ok a => exact hf a h
  | wait _ _ | event _ _ => trivial

/-- Nothing need be known of an answer that only chooses what follows. -/
theorem Res.Gives.bind_any {r : Res α} {f : α → Res β} (hf : ∀ a, (f a).Gives Q) : (r.bind f).Gives Q :=
  Res.Gives.bind (P := fun _ => True) (by cases r <;> trivial) fun a _ => hf a

end answers

/-! ### Records that share their arrays with canonical ones -/

@[simp] theorem Row.Canonical.update {r : Row} (h : r.Canonical) {future tiles bops order sound aFree bFree entryAt freeing} :
    Row.Canonical ⟨r.cubes, future, tiles, bops, order, sound, aFree, bFree, entryAt, freeing⟩ := h

@[simp] theorem Pilot.Canonical.update {p : Pilot} (h : p.Canonical)
    {f pc fcsr imem dmem cycle instret usable fpFree finished halted pushed taken pend snap} :
    Pilot.Canonical ⟨p.x, f, pc, fcsr, imem, dmem, cycle, instret, usable, fpFree, finished, halted, pushed, taken, pend, snap⟩ := h

@[simp] theorem Seq.Canonical.update {q : Seq} (h : q.Canonical) {addr loops stack choices rep ended halted fence fenced arrived released way} :
    Seq.Canonical ⟨addr, q.x, q.xs, loops, stack, choices, rep, ended, halted, fence, fenced, arrived, released, way⟩ := { h with }

section rows

variable {k : Core} (h : k.Canonical)
include h

/-! ### Results that land and the matrix row -/

@[simp] theorem Core.Canonical.raise {beat f} : (k.raise beat f).Canonical := by
  unfold Core.raise
  split
  · exact h
  · exact { h with }

@[simp] theorem Core.Canonical.land {w} : (k.land w).Canonical := by
  unfold Core.land
  split
  · exact { h with vec := { h.vec with regs := Sparse.wf_set _ _ h.vec.regs } }
  · exact { h with vec := { h.vec with masks := Sparse.wf_set _ _ h.vec.masks } }
  · exact h.setCacheLine
  · exact h.setTileLine.setTileLine

@[simp] theorem Core.Canonical.landDue : k.landDue.Canonical :=
  Core.Canonical.foldl (by exact { h with vec := { h.vec with } }) fun _ _ hd => hd.land

@[simp] theorem Core.Canonical.landedBy {n} : (k.landedBy n).Canonical :=
  h.foldl fun d i hd => by
    have hlanded : ({ d with beat := k.beat + i } : Core).landDue.Canonical := Core.Canonical.landDue { hd with }
    exact { hlanded with }

@[simp] theorem Core.Canonical.landLater : k.landLater.Canonical := h.landedBy

@[simp] theorem Core.Canonical.popEntry {n} : (k.popEntry n).Canonical := by
  unfold Core.popEntry
  dsimp only
  split
  · exact h
  · exact h.setQueue.raise

@[simp] theorem Core.Canonical.enterATile {fmt a l rcw} : (k.enterATile fmt a l rcw).Canonical := { h with row := h.row }

@[simp] theorem Core.Canonical.issueMatrix {w} : (k.issueMatrix w).Gives Core.Canonical := by
  refine .bind_any fun l => .ite trivial ?_
  split
  · trivial
  · split
    · trivial
    · exact h.enterATile.popEntry.ite h.enterATile

@[simp] theorem Core.Canonical.issueBpath {w} : (k.issueBpath w).Gives Core.Canonical :=
  .ite h <| .ite trivial <| .ite trivial { h with row := h.row }

@[simp] theorem Core.Canonical.takeReads {n q} : (k.takeReads n q).Canonical := { h with row := h.row }

@[simp] theorem Core.Canonical.cubeAct {n} : (k.cubeAct n).Canonical := by
  refine .ite (Core.Canonical.raise ?_) h
  exact { h with row := Sparse.wf_set _ _ h.row }

@[simp] theorem Core.Canonical.soundEntry : k.soundEntry.Canonical := by
  unfold Core.soundEntry
  split
  · exact h
  · exact { h with row := Sparse.wf_set _ _ h.row }

@[simp] theorem Core.Canonical.finishBops : k.finishBops.Canonical :=
  .ite h <| h.foldl fun a n ha => ha.foldl fun _ i hd =>
    have htaken := hd.takeReads (n := n) (q := (a.cube n).pos + i)
    { htaken with row := Sparse.wf_set _ _ htaken.row }

/-! ### Slots -/

@[simp] theorem Core.Canonical.addWrites {ws} : (k.addWrites ws).Canonical := { h with vec := { h.vec with } }

@[simp] theorem Core.Canonical.applyOut {r} : (k.applyOut r).Canonical :=
  { h.addWrites.raise with vec := { h.addWrites.raise.vec with } }

@[simp] theorem Core.Canonical.pushOq {env n e} : (k.pushOq env n e).Gives Core.Canonical := by
  unfold Core.pushOq
  dsimp only
  refine .ite ?_ (.ite trivial h.setQueue)
  split
  · trivial
  · exact .ite trivial { h.setQueue with }

/-- The compute path occupied. -/
theorem Core.Canonical.computing {b} : ({ k with vec := { k.vec with freeC := b } } : Core).Canonical := { h with vec := { h.vec with } }

@[simp] theorem Core.Canonical.compressQ {env o} : (k.compressQ env o).Gives Core.Canonical :=
  .ite h.computing.setQueue <| .bind h.computing.pushOq fun _ hd => hd.setQueue

@[simp] theorem Core.Canonical.flushOq {env o} : (k.flushOq env o).Gives Core.Canonical :=
  .ite h.computing <| .bind h.computing.pushOq fun _ hd => hd.setQueue

@[simp] theorem Core.Canonical.takeUnits {f n fuel u acc} : (k.takeUnits f n fuel u acc).Gives fun p => p.1.Canonical := by
  induction fuel generalizing k u acc with
  | zero => exact h
  | succ fuel ih =>
    cases u with
    | zero => exact h
    | succ u => exact .bind_any fun e => .ite h.setQueue (ih h.popEntry)

@[simp] theorem Core.Canonical.expandQ {o} : (k.expandQ o).Gives Core.Canonical :=
  .bind h.takeUnits fun _ hp => .ite trivial hp.applyOut

@[simp] theorem Core.Canonical.summ {o} : (k.summ o).Gives Core.Canonical := by
  unfold Core.summ
  split
  · trivial
  · exact .ite trivial { h.raise with vec := { h.raise.vec with } }

@[simp] theorem Core.Canonical.applyRes {r} : (applyRes k r).Gives Core.Canonical := .bind_any fun _ => h.applyOut

@[simp] theorem Core.Canonical.issueVec {v env o} : (k.issueVec v env o).Gives Core.Canonical :=
  .ite h.applyRes <| .ite h.applyRes <| .ite h.applyRes <| .ite h.applyRes <| .ite h.applyRes <| .ite h.applyRes <| .ite h.applyRes <|
    .ite h.compressQ <| .ite h.expandQ <| .ite h.flushOq <| .ite h.summ trivial

@[simp] theorem Core.Canonical.applyMove {ws occ} : (k.applyMove ws occ).Canonical := { h with vec := { h.vec with } }

@[simp] theorem Core.Canonical.deliver {d vd vs} : (k.deliver d vd vs).Canonical := { h with row := h.row, vec := { h.vec with } }

@[simp] theorem Core.Canonical.issueMove {env o} : (k.issueMove env o).Gives Core.Canonical := by
  unfold Core.issueMove
  split
  case h_5 =>
    unfold Core.spopW
    split
    · trivial
    · refine .ite trivial ?_
      split
      · trivial
      · exact h.deliver
  case h_6 =>
    unfold Core.spopP
    split
    · trivial
    · exact .ite trivial h.deliver
  case h_7 => exact .bind_any fun _ => h.popEntry.applyMove
  case h_8 => exact .bind h.pushOq fun _ hd => hd.applyMove
  case h_9 => trivial
  all_goals exact h.applyMove

@[simp] theorem Core.Canonical.acceptStream {i owned w} : (k.acceptStream i owned w).Gives Core.Canonical := by
  refine .ite trivial ?_
  dsimp only
  split
  · trivial
  · exact .ite { h with } { h with }

@[simp] theorem Core.Canonical.issueSlot {x i w} : (k.issueSlot x i w).Gives Core.Canonical := by
  cases w with
  | matrix w => exact h.issueMatrix
  | bpath w => exact h.issueBpath
  | vec w => exact h.issueVec
  | vmove w => exact h.issueMove
  | stream w => exact h.acceptStream

@[simp] theorem Core.Canonical.issueSlots {x i l} : (k.issueSlots x i l).Gives Core.Canonical :=
  List.foldlRecOn (motive := Res.Gives Core.Canonical) l _ h fun _ hr _ _ => hr.bind fun _ hd => hd.issueSlot

omit h in
/-- A slot's answer once the power guard has taken its charge. -/
@[simp] theorem Core.Canonical.charged {w r} (hr : r.Gives Core.Canonical) : (k.charged w r).Gives Core.Canonical :=
  hr.bind fun _ hd => .ite trivial { hd with }

/-! ### Stream operations -/

@[simp] theorem Core.Canonical.setOp {o} : (k.setOp o).Canonical := { h with }

@[simp] theorem Core.Canonical.writeUnit {o u es} : (k.writeUnit o u es).1.Canonical := by
  unfold Core.writeUnit
  dsimp only
  split
  · exact h.setTileLine
  · split
    · exact h.setCacheLine
    · exact h.setQueue

@[simp] theorem Core.Canonical.pourUnits {fuel id} : (Core.pourUnits fuel k id).Canonical := by
  induction fuel generalizing k with
  | zero => exact h
  | succ fuel ih =>
    unfold Core.pourUnits
    split
    · exact h
    · dsimp only
      split
      · exact h
      · split
        · exact h
        · exact ih h.writeUnit.setOp

@[simp] theorem Core.Canonical.retireOp {id} : (k.retireOp id).Canonical := by
  unfold Core.retireOp
  split
  · exact h
  · exact .ite { h with } h

@[simp] theorem Core.Canonical.settleOps : k.settleOps.Canonical := h.foldl fun _ _ hd => hd.pourUnits.retireOp

@[simp] theorem Core.Canonical.takeSource {o} : (k.takeSource o).Gives fun r => r.1.Canonical := by
  unfold Core.takeSource
  dsimp only
  refine .ite (.ite trivial h) (.ite h ?_)
  split
  · trivial
  · exact .ite trivial (.ite trivial (.ite trivial h.setQueue.raise))

@[simp] theorem Core.Canonical.gather {fuel o n} : (Core.gather fuel k o n).Gives fun r => r.1.Canonical := by
  induction fuel generalizing k o with
  | zero => exact h
  | succ fuel ih =>
    unfold Core.gather
    refine .ite h ?_
    split
    next r hr => exact .ite (ih (h.takeSource.of_eq hr)) (ih (h.takeSource.of_eq hr))
    · exact h
    · trivial

@[simp] theorem Core.Canonical.reserveMarks {n} : (k.reserveMarks n).Canonical := by
  unfold Core.reserveMarks
  exact h.foldl fun _ _ hd => hd.setQueue.setOp.ite hd

theorem Core.Canonical.reserve {o t r} (hr : k.reserve o t = some r) : r.1.Canonical := by
  unfold Core.reserve at hr
  dsimp only at hr
  split at hr
  · split at hr
    · exact Option.some.inj hr ▸ h.reserveMarks
    · split at hr
      · cases hr
      · exact Option.some.inj hr ▸ h.reserveMarks.setQueue
  · exact Option.some.inj hr ▸ h

@[simp] theorem Core.Canonical.prepare {o t} : (k.prepare o t).Gives fun r => r.1.Canonical := by
  unfold Core.prepare
  refine .ite (.ite trivial ?_) (.ite (.ite trivial ?_) ?_)
  · split
    · trivial
    next r hr => exact h.reserve hr
  · exact h.gather.bind fun r hr => .ite (.ite trivial hr) hr
  · split
    · trivial
    · exact h

@[simp] theorem Core.Canonical.markReleased {o t stamp} : (k.markReleased o t stamp).Canonical := { h with }

@[simp] theorem Core.Canonical.streamQmark {n} : (k.streamQmark n).Canonical := by
  unfold Core.streamQmark
  split
  · exact h
  · exact h.ite (Core.Canonical.settleOps { h.setQueue with })

@[simp] theorem Core.Canonical.matchHead {n label} : (k.matchHead n label).Gives Core.Canonical := by
  unfold Core.matchHead
  split
  · trivial
  · refine .ite trivial ?_
    split
    · trivial
    · exact .ite h.popEntry trivial

@[simp] theorem Core.Canonical.streamQmatch {n} : (k.streamQmatch n).Gives Core.Canonical := by
  unfold Core.streamQmatch
  split
  · trivial
  · exact .ite trivial (h.matchHead.bind fun _ hd => { hd with })

@[simp] theorem Core.Canonical.cancel {mask} : (k.cancel mask).Canonical := by
  unfold Core.cancel
  extract_lets hit ids ops c1
  have hcleared : c1.Canonical := Core.Canonical.foldl (by exact { h with }) fun d n hd => hd.setQueue.ite hd
  exact Core.Canonical.settleOps { hcleared with }

@[simp] theorem Core.Canonical.cancelDone : k.cancelDone.Canonical := { h with }

/-! ### Buoys, tallies and fences -/

@[simp] theorem Core.Canonical.setBuoy {n} : (k.setBuoy n).Canonical := h.putBuoy
@[simp] theorem Core.Canonical.clearBuoy {n} : (k.clearBuoy n).Canonical := h.putBuoy
@[simp] theorem Core.Canonical.clearByExec {n} : (k.clearByExec n).Canonical := { h.clearBuoy with }
@[simp] theorem Core.Canonical.clearBy {i n} : (k.clearBy i n).Canonical := by
  cases i
  · exact h.clearByExec
  · exact h.clearBuoy
@[simp] theorem Core.Canonical.postFence {i mem reef msg buoy wait} : (k.postFence i mem reef msg buoy wait).Canonical := { h with }
@[simp] theorem Core.Canonical.orderFlags {cutoff} : (k.orderFlags cutoff).Canonical := by
  refine Core.Canonical.raise ?_
  exact { h with }
@[simp] theorem Core.Canonical.markOp {i kind carg} : (k.markOp i kind carg).Canonical := { h with }

/-! ### Control bundles -/

@[simp] theorem Core.Canonical.copEffect {x i b} : (k.copEffect x i b).Gives Core.Canonical := by
  unfold Core.copEffect
  dsimp only
  split
  case h_1 | h_2 => exact .bind_any fun _ => h
  case h_3 => exact h.setBuoy
  case h_4 => exact h.clearBy
  case h_5 => exact .ite h.putTally h
  case h_6 => exact h.clearBy.cancel
  case h_7 => exact .ite h.markOp h.pushOq
  case h_8 => exact .ite h.markOp h.matchHead
  case h_9 => exact h

@[simp] theorem Core.Canonical.copBefore {i b} : (k.copBefore i b).Canonical := by
  unfold Core.copBefore
  dsimp only
  split
  · split
    · split
      · exact h.orderFlags
      · exact h
    · exact h.postFence
  · exact h

omit h in
@[simp] theorem Seq.Canonical.settle {fuel a} {q : Seq} (h : q.Canonical) : (Seq.settle fuel q a).Canonical := by
  induction fuel generalizing q with
  | zero => exact { h with }
  | succ fuel ih =>
    unfold Seq.settle
    split
    · exact { h with }
    · exact .ite (.ite (ih { h with }) { h with }) { h with }

omit h in
@[simp] theorem Seq.Canonical.moveTo {a} {q : Seq} (h : q.Canonical) : (q.moveTo a).Canonical := h.settle

@[simp] theorem Core.Canonical.flow {i b} : (k.flow i b).Canonical := by
  unfold Core.flow
  extract_lets q0 next q prog n stop n' v
  have hq : q.Canonical := h.seq.applyInc
  clear_value q
  split
  case h_1 =>
    split
    · exact h.setSeq { hq with }
    · exact h.setSeq (Seq.Canonical.moveTo { hq with })
  case h_2 =>
    split
    · exact h.setSeq hq.moveTo
    · exact h.setSeq { hq with }
  case h_3 => exact h.setSeq { hq with }
  case h_4 =>
    split
    · exact h.setSeq hq.moveTo
    · exact h.setSeq (Seq.Canonical.moveTo { hq with })
  case h_5 | h_6 =>
    split
    · exact h.setSeq { hq.setX with }
    · exact h.setSeq (Seq.Canonical.moveTo { hq.setX with })
    · exact h
  case h_7 => exact h.setSeq (hq.setXS.ite hq.setX).moveTo
  case h_8 => exact h.setSeq { hq with }
  case h_9 | h_10 => exact h.setSeq (Seq.Canonical.moveTo { hq with })
  case h_11 => exact h.setSeq hq.moveTo

@[simp] theorem Core.Canonical.applyPend {p} : (k.applyPend p).Canonical := by
  unfold Core.applyPend
  dsimp only
  split
  · exact { h with }
  · exact { h with }
  · exact .ite { h with } h
  · exact .ite { h with } h

@[simp] theorem Core.Canonical.choiceTaken : k.choiceTaken.Canonical :=
  Core.Canonical.foldl (by exact { h with pilot := h.pilot }) fun _ _ hd => hd.applyPend

@[simp] theorem Core.Canonical.endBeat {took} : (k.endBeat took).Canonical := by
  unfold Core.endBeat
  extract_lets c0 row c1
  have hbeat : Core.Canonical c1 := { h with row := h.row }
  exact hbeat.choiceTaken.ite hbeat

@[simp] theorem Core.Canonical.issueBody {x i b} : (k.issueBody x i b).Gives Core.Canonical :=
  h.copBefore.issueSlots.bind fun _ hd => .ite trivial <|
    Res.Gives.bind (P := Core.Canonical) (Core.Canonical.copEffect (by exact { hd with })) fun _ he => he.flow

@[simp] theorem Core.Canonical.issueBundle {x i} : (k.issueBundle x i).Gives Core.Canonical := by
  cases i with
  | access =>
    simp only [Core.issueBundle]
    split
    · trivial
    · exact h.issueBody
  | execute =>
    simp only [Core.issueBundle]
    split
    · trivial
    · exact h.landDue.issueBody.bind fun _ hd => Core.Canonical.endBeat (by exact { hd with })

@[simp] theorem Core.Canonical.postOwnFence {i} : (k.postOwnFence i).Canonical :=
  Core.Canonical.ite (h.postFence.setSeq (by exact { h.seq with })) h

@[simp] theorem Core.Canonical.arrive {i} : (k.arrive i).Canonical :=
  Core.Canonical.ite (h.setSeq (by exact { h.seq with })) h

@[simp] theorem Core.Canonical.seqStep {x i} : (k.seqStep x i).Gives Core.Canonical := by
  refine .ite ?_ trivial
  have hd := h.postOwnFence (i := i).arrive (i := i)
  have hissue := hd.issueBundle (x := x) (i := i)
  dsimp only
  split
  · exact .ite trivial hd
  · exact hissue

@[simp] theorem Core.Canonical.fenceComplete {f} : (k.fenceComplete f).Canonical := by
  unfold Core.fenceComplete
  extract_lets c1 q c2
  have h1 : Core.Canonical c1 := by
    unfold c1
    split
    · exact h.setBuoy
    · exact h
  have h2 : Core.Canonical c2 := Core.Canonical.ite (h1.setSeq (by exact { h1.seq with })) h1
  exact { h2 with }

@[simp] theorem Core.Canonical.emptyBeat : k.emptyBeat.Canonical :=
  .ite (.ite { h.finishBops.landLater with } (Core.Canonical.endBeat (by exact { h.landDue with }))) h

/-! ### The pilot -/

theorem Core.Canonical.withPilot {p : Pilot} (hp : p.Canonical) : ({ k with pilot := p } : Core).Canonical := { h with pilot := hp }

@[simp] theorem Core.Canonical.dwrite {a n v} : (k.dwrite a n v).Canonical := { h with pilot := h.pilot }

@[simp] theorem Core.Canonical.retire {t busy pc} {p : Pilot} (hp : p.Canonical) : (k.retire t busy pc p).Canonical := { h with pilot := hp }

@[simp] theorem Core.Canonical.pendCsr {n v} : (k.pendCsr n v).Canonical := { h with pilot := h.pilot }

@[simp] theorem Core.Canonical.csrWrite {n v} : (k.csrWrite n v).Canonical := by
  unfold Core.csrWrite
  dsimp only
  split
  case h_4 => exact h
  all_goals exact { h with pilot := h.pilot }

omit h in
theorem Pilot.Canonical.ite {c : Prop} [Decidable c] {p q : Pilot} (hp : p.Canonical) (hq : q.Canonical) : (if c then p else q).Canonical := by
  split <;> assumption

@[simp] theorem Core.Canonical.csrInstr {v w len} : (k.csrInstr v w len).Gives Core.Canonical := by
  unfold Core.csrInstr
  extract_lets n t pc old c1
  refine .ite (.ite trivial ?_) ?_
  · have hc : Core.Canonical c1 := h.pendCsr.ite h
    exact hc.retire (hc.pilot.setX.ite hc.pilot)
  · split
    · trivial
    · extract_lets c1
      have hc : Core.Canonical c1 := h.csrWrite.ite h
      exact hc.retire (hc.pilot.setX.ite hc.pilot)

end rows

end Sys2Proof.Machine
end

section
/-! The canonical form under the pilot's instructions, the ends of runs, the load and what the debug port writes into a core. -/

namespace Sys2Proof.Machine

section pilot

variable {k : Core} (h : k.Canonical)
include h

@[simp] theorem Core.Canonical.plainInstr {w len} : (k.plainInstr w len).Gives Core.Canonical := by
  have result {t busy pc n v u} : (Res.ok (k.retire t busy pc (k.pilot.setX n v u))).Gives Core.Canonical := h.retire h.pilot.setX
  unfold Core.plainInstr
  dsimp only
  split
  case h_1 | h_2 | h_3 => exact result
  case h_4 => exact .ite trivial result
  case h_5 =>
    split
    · trivial
    · exact h.retire h.pilot
    · exact h.retire h.pilot
  case h_6 =>
    split
    · trivial
    · exact .ite result trivial
  case h_7 => exact .ite trivial (.ite (h.dwrite.retire h.dwrite.pilot) trivial)
  case h_8 =>
    split
    · trivial
    · exact result
  case h_9 =>
    split
    · trivial
    · exact result
  case h_10 => exact .ite (h.retire h.pilot) trivial
  case h_11 => exact .ite trivial (.ite (h.retire h.pilot.setF) trivial)
  case h_12 => exact .ite trivial (.ite (h.dwrite.retire h.dwrite.pilot) trivial)
  case h_13 =>
    split
    · trivial
    · exact h.retire (Pilot.Canonical.update (Pilot.Canonical.fflags (.ite h.pilot.setX h.pilot.setF)))
  case h_14 =>
    refine .ite ?_ trivial
    split
    · exact h.retire h.pilot.setF.fflags
    · trivial

@[simp] theorem Core.Canonical.hqSum {high w len} : (k.hqSum high w len).Gives Core.Canonical := by
  unfold Core.hqSum
  split
  · trivial
  · refine Core.Canonical.retire (.ite h ?_) h.pilot.setX
    exact { h with vec := { h.vec with } }

@[simp] theorem Core.Canonical.pushChoice {i v} : (k.pushChoice i v).Canonical := by
  cases i
  · exact { h with ex := { h.ex with }, pilot := h.pilot }
  · exact { h with ac := { h.ac with } }

@[simp] theorem Core.Canonical.hqChoose {w len} : (k.hqChoose w len).Gives Core.Canonical := by
  unfold Core.hqChoose
  extract_lets t toX toA v c1 c2
  have h1 : Core.Canonical c1 := h.pushChoice.ite h
  have h2 : Core.Canonical c2 := h1.pushChoice.ite h1
  exact .ite trivial <| .ite trivial <| .ite trivial <| h2.retire h2.pilot

@[simp] theorem Core.Canonical.hqBuoy {w len} : (k.hqBuoy w len).Gives Core.Canonical := by
  have done {d : Core} {t busy pc} (hd : d.Canonical) : (Res.ok (d.retire t busy pc d.pilot)).Gives Core.Canonical := hd.retire hd.pilot
  unfold Core.hqBuoy
  dsimp only
  split
  · exact .ite trivial (done h.setBuoy)
  · exact .ite (done h.clearBuoy) trivial
  · exact .ite (done h) trivial
  · exact .ite trivial (done h)

@[simp] theorem Core.Canonical.pilotRun {x d2 w len} : (k.pilotRun x d2 w len).Gives Core.Canonical := by
  unfold Core.pilotRun
  dsimp only
  split
  case h_1 => exact h.retire (Pilot.Canonical.update h.pilot)
  case h_2 => exact .ite (by exact { h with pilot := h.pilot }) trivial
  case h_3 | h_4 => exact h.hqSum
  case h_5 => exact h.hqChoose
  case h_6 | h_7 | h_8 | h_9 => exact h.hqBuoy
  case h_10 | h_11 | h_12 | h_13 => exact h.csrInstr
  case h_14 => exact .ite h.csrInstr h.plainInstr

@[simp] theorem Core.Canonical.pilotStep {x d2 c} : (k.pilotStep x d2 c).Gives Core.Canonical := by
  unfold Core.pilotStep
  refine .ite trivial ?_
  split
  · exact .ite trivial trivial
  · exact .ite h.pilotRun trivial
  · exact .ite trivial trivial
  · trivial

end pilot

section loads

variable {k : Core} (h : k.Canonical)
include h

/-! ### The ends of runs, messages and loads -/

theorem Core.Canonical.stopped {b} : ({ k with stopped := b } : Core).Canonical := { h with }

@[simp] theorem Core.Canonical.endRun : k.endRun.Canonical := by
  unfold Core.endRun
  extract_lets fl ended ex ac row vec c1
  have hcubes := Sparse.wf_mapFilter (fun p : Nat × Cube => { p.2 with drain := none }) h.row
  have h1 : Core.Canonical c1 := { h.raise (beat := k.beat) (f := fl) with
    ex := { h.ex with }, ac := { h.ac with }, vec := { h.vec with }, row := hcubes }
  exact Core.Canonical.stopped (h1.foldl fun _ _ hd => hd.setQueue)

@[simp] theorem Core.Canonical.takeMessage {n e} : (k.takeMessage n e).Canonical := by
  unfold Core.takeMessage
  extract_lets hd m lines first q k1 k2 t k3
  have h1 : k1.Canonical := by
    unfold k1
    split
    · exact h.setQueue
    · exact h.foldl fun _ _ hd => hd.setTileLine
    · exact h.foldl fun _ _ hd => hd.setCacheLine
    · exact h
  have h2 : Core.Canonical k2 := { h1 with }
  have h3 : Core.Canonical k3 := h2.ite (h2.putTally.ite h2)
  exact h3.setBuoy.ite h3

@[simp] theorem Core.Canonical.giveBack {n} : (k.giveBack n).Canonical := .ite h.setQueue h

@[simp] theorem Core.Canonical.atLoad {seed} : (k.atLoad seed).Canonical :=
  { Core.Canonical.blank with
    ex := ⟨rfl, rfl⟩, ac := ⟨rfl, rfl⟩
    queues := Sparse.wf_mapFilter (fun p : Nat × Queue => { Queue.blank with cfg := p.2.cfg }) h.queues
    buoys := Sparse.wf_mapFilter (fun p : Nat × Buoy => { Buoy.blank with cfg := p.2.cfg }) h.buoys
    tallies := Sparse.wf_mapFilter (fun p : Nat × Tally => { Tally.blank with consumer := p.2.consumer }) h.tallies
    pilot := Sparse.wf_set _ _ rfl }

@[simp] theorem Core.Canonical.carried {q} : (k.carried q).Canonical := { h.atLoad (seed := 0) with }

omit h in
theorem sparseOf_wf {α : Type} [DecidableEq α] {d : α} {l : List α} : Sparse.wf d (sparseOf d l) = true := Sparse.wf_setRun _ _ rfl

omit h in
@[simp] theorem Hpi.loadedCore_canonical {f p split v ctx phys ph wslots} : (Hpi.loadedCore f p split v ctx phys ph wslots).Canonical := by
  unfold Hpi.loadedCore
  exact Core.canonical_mk.mpr ⟨⟨rfl, rfl⟩, ⟨rfl, rfl⟩, rfl, rfl, ⟨rfl, rfl, rfl⟩, sparseOf_wf, Sparse.wf_set 2 _ rfl,
    sparseOf_wf, sparseOf_wf⟩

/-! ### Words written by a debugger or after an error -/

@[simp] theorem Core.Canonical.setQueueLine {line d} : (k.setQueueLine line d).Canonical := by
  unfold Core.setQueueLine
  split
  · exact h.setQueue
  · exact { h with }

@[simp] theorem Core.Canonical.putQueueItem {n j v} : (k.putQueueItem n j v).Canonical := by
  unfold Core.putQueueItem
  dsimp only
  split
  case h_6 => exact h
  case h_5 => exact { h with queues := Sparse.wf_set _ _ h.queues }
  all_goals exact h.setQueue

@[simp] theorem Core.Canonical.putItem {off v} : (k.putItem off v).Canonical := by
  have hsumm {i j v} : (k.putSummWord i j v).Canonical := by
    unfold Core.putSummWord
    split
    · exact { h with vec := { h.vec with } }
    · exact h
  have hbuoy {n j v} : (k.putBuoyItem n j v).Canonical := by
    unfold Core.putBuoyItem
    dsimp only
    split
    · exact h.putBuoy
    · exact h.putBuoy
    · exact h.putBuoy
    · exact h
  have hhandler {n j v} : (k.putHandlerItem n j v).Canonical := .ite { h with } (.ite { h with } h)
  have hentry {n i j v} : (k.putEntryItem n i j v).Canonical := by
    unfold Core.putEntryItem
    split
    · exact h.setQueue
    · exact h
  exact .ite hsumm <| .ite hbuoy <| .ite h.putTally <| .ite h.putQueueItem <| .ite { h with } <| .ite hhandler <| .ite h.setCube <|
    .ite { h with } <| .ite h.setCube <| .ite h.setCube <| .ite h.setQueue <| .ite h.setTileLine <| .ite hentry h

@[simp] theorem Core.Canonical.putSeqItem {i n v} : (k.putSeqItem i n v).Canonical := by
  have hq := h.seq (i := i)
  unfold Core.putSeqItem
  dsimp only
  split_ifs
  · exact h.setSeq { hq with }
  · exact { h with }
  · exact h.setSeq hq.setX
  · exact h.setSeq hq.setXS
  · exact h.setSeq { hq with }
  · exact h.setSeq { hq with }
  · exact h.setSeq { hq with }
  · exact h.putQueueItem

@[simp] theorem Core.Canonical.putPilotItem {n v} : (k.putPilotItem n v).Canonical :=
  { h with pilot := .ite h.pilot (.ite h.pilot h.pilot) }

@[simp] theorem Core.Canonical.putState {off v} : (k.putState off v).Canonical := by
  unfold Core.putState
  split_ifs
  · exact h.applyPend
  · exact h.csrWrite
  · exact h.withPilot h.pilot.setX
  · exact h.withPilot h.pilot.setF
  · exact h.putSeqItem
  · exact h.putSeqItem
  · exact h.putPilotItem
  · exact h.putItem

omit h in
/-- A byte of one of the memories of a core, whose layout is that of core `c`. -/
@[simp] theorem Core.Canonical.putMem {c d : Core} {sel x} (hd : d.Canonical) : (c.putMem sel d x).Canonical := by
  unfold Core.putMem
  dsimp only
  split
  case h_1 => exact hd.setTileLine
  case h_2 => exact hd.setCacheLine
  case h_3 => exact hd.setQueueLine
  case h_4 => exact { hd with }
  case h_5 | h_6 => exact { hd with pilot := hd.pilot }
  case h_7 | h_8 => exact { hd with row := Sparse.wf_set _ _ hd.row }
  case h_9 =>
    split
    · exact { hd with vec := { hd.vec with regs := Sparse.wf_set _ _ hd.vec.regs } }
    · exact { hd with vec := { hd.vec with masks := Sparse.wf_set _ _ hd.vec.masks } }
  case h_10 => exact hd

@[simp] theorem Core.Canonical.haltX {b} : (k.haltX b).Canonical := { h with ex := { h.ex with } }

@[simp] theorem Core.Canonical.haltP {b} : (k.haltP b).Canonical := { h with pilot := h.pilot }

end loads

end Sys2Proof.Machine
end

section
/-! The operations that the families share keep the canonical form: events, answers, the ends of runs, errors, marked words and lanes. -/

namespace Sys2Proof.Machine

section shared

variable {s : State} (h : s.Canonical)
include h

/-! ### Events, answers and the ends of runs -/

theorem State.Canonical.bool : s.canonical = true := State.canonical_eq_true.mpr h

theorem State.Canonical.congr {t : State} (ht : t.canonical = s.canonical) : t.Canonical := State.canonical_eq_true.mp (ht.trans h.bool)

@[simp] theorem State.Canonical.notify {e x} : (notify e s x).Canonical :=
  h.congr (notify_keeps (·.canonical) (fun _ _ _ => rfl) e s x)
@[simp] theorem State.Canonical.raise {code kind arg ploc lag vc} : (s.raise code kind arg ploc lag vc).Canonical := h.congr (by simp)
@[simp] theorem State.Canonical.answer {r st d e res} : (s.answer r st d e res).Canonical := h.congr (by simp)
@[simp] theorem State.Canonical.answerOpt {r st d e res} : (s.answerOpt r st d e res).Canonical := h.congr (by simp)
@[simp] theorem State.Canonical.stopCores {l} : (s.stopCores l).Canonical := State.canonical_eq_true.mp (State.stopCores_canonical h.bool l)
@[simp] theorem State.Canonical.dropLaunches {l st} : (s.dropLaunches l st).Canonical :=
  State.canonical_eq_true.mp (State.dropLaunches_canonical h.bool l st)
@[simp] theorem State.Canonical.moveLagoon {l st} : (s.moveLagoon l st).Canonical :=
  State.canonical_eq_true.mp (State.moveLagoon_canonical h.bool l st)
@[simp] theorem State.Canonical.answerStart {l tide} : (s.answerStart l tide).Canonical :=
  State.canonical_eq_true.mp (State.answerStart_canonical h.bool l tide)
@[simp] theorem State.Canonical.faultLagoon {l code} : (s.faultLagoon l code).Canonical :=
  State.canonical_eq_true.mp (State.faultLagoon_canonical h.bool l code)
@[simp] theorem State.Canonical.fault {code arg ploc l vc} : (s.fault code arg ploc l vc).Canonical := h.raise.faultLagoon
@[simp] theorem State.Canonical.coreFault {c code obj access} : (s.coreFault c code obj access).Canonical := h.fault
@[simp] theorem State.Canonical.progressed {l} : (s.progressed l).Canonical := h.setLagoon
@[simp] theorem State.Canonical.withCore {c} {k : Core} (hk : k.Canonical) : (s.withCore c k).Canonical := (h.setCore hk).setLagoon

/-- A core's own step keeps the form where the core that it leaves has it. -/
@[simp] theorem State.Canonical.finish {c access} {r : Res Core} (hr : r.Gives Core.Canonical) : (s.finish c access r).Canonical := by
  cases r with
  | ok k => exact h.withCore hr
  | wait _ _ => exact h
  | event _ _ => exact h.coreFault

end shared

/-! ### What changes entries in place -/

/-- A region's pacer after a tick of `n` thousandths of a period. -/
def Region.paced (x : Region) (n : Nat) : Region :=
  if x.state = 0 ∨ x.state = 3 then { x with periods := x.periods + n, stages := x.stages + n }
  else if x.state < 3 then { x with stages := x.stages + n } else x

/-- A pacer that is off stands, so that a region's entry is the default after a tick only where it was before. -/
theorem Region.paced_ne_blank {x : Region} {n : Nat} (hx : x ≠ Region.blank) : x.paced n ≠ Region.blank := by
  have hst : (x.paced n).state = x.state := by
    unfold Region.paced
    split
    · rfl
    · split <;> rfl
  intro he
  have h4 : x.state = 4 := by rw [← hst, he]; rfl
  simp [Region.paced, h4] at he
  exact hx he

theorem State.paceTick_regions {s : State} : s.paceTick.regions = s.regions.map fun p => (p.1, p.2.paced (s.pace p.1)) := by
  refine List.map_congr_left fun p _ => ?_
  unfold Region.paced
  split
  · rfl
  · split <;> rfl

/-- A core that holds no context of an image is not one that a substitution changes. -/
theorem Core.ne_blank_of_used {k : Core} (hk : k.img.used = true) : k ≠ Core.blank := by
  rintro rfl
  exact absurd hk (by decide)

theorem Wheel.renamed_ne_blank {w : Wheel} {f : Nat × BitVec 16 → BitVec 16} (hw : w ≠ Wheel.blank) :
    { w with owners := w.owners.map fun o => (o.1, f o) } ≠ Wheel.blank := by
  obtain ⟨owners, pos, owed⟩ := w
  simpa [Wheel.blank] using hw

end Sys2Proof.Machine
end

section
/-! The canonical form under events, errors, lanes, the rows of the reef and the streams, the ferry, the governor and the tide. -/

namespace Sys2Proof.Machine

section

variable {s : State} (h : s.Canonical)
include h

/-! ### Records of the state that hold none of the arrays -/

theorem State.Canonical.powered {p : Power} : ({ s with power := p } : State).Canonical := { h with }
theorem State.Canonical.timed {t : Tide} : ({ s with tide := t } : State).Canonical := { h with }
theorem State.Canonical.coresFiltered {p : Nat × Core → Bool} : ({ s with cores := s.cores.filter p } : State).Canonical :=
  { h with cores := h.cores.filter p }
theorem State.Canonical.built {b : Builder} : ({ s with builder := b } : State).Canonical := { h with }
theorem State.Canonical.sunk {l : List Sink} : ({ s with sinks := l } : State).Canonical := { h with }
theorem State.Canonical.ported {p : Port} : ({ s with port := p } : State).Canonical := { h with }
theorem State.Canonical.kept {k : Keeper} (hk : Sparse.wf 0 k.counters = true) : ({ s with keeper := k } : State).Canonical :=
  { h with counters := hk }
theorem State.Canonical.sided {x : Sideband} : ({ s with side := x } : State).Canonical := { h with }
theorem State.Canonical.related {x : Reliab} : ({ s with rel := x } : State).Canonical := { h with }
theorem State.Canonical.booted {x : Boot} : ({ s with boot := x } : State).Canonical := { h with }
theorem State.Canonical.tapped {x : Jtag} : ({ s with jtag := x } : State).Canonical := { h with }
theorem State.Canonical.marred {b : Bool} : ({ s with degraded := b } : State).Canonical := { h with }
theorem State.Canonical.lanesOut {a b : Sparse Lanes} {c : Bool} : ({ s with straits := a, causeway := b, degraded := c } : State).Canonical :=
  { h with }

/-! ### Events, sessions and debug -/

@[simp] theorem State.Canonical.writeProg {l a : Nat} {bs : List Byte} : (s.writeProg l a bs).Canonical := by
  unfold State.writeProg
  exact State.Canonical.foldl (by simp [h]) (fun t x h => by split <;> simp [h])

@[simp] theorem State.Canonical.soundRange {lo hi : Nat} : (s.soundRange lo hi).Canonical := { h with }
@[simp] theorem State.Canonical.clearStack {n : Nat} : (s.clearStack n).Canonical := h.zeroRange.soundRange.setStack
@[simp] theorem State.Canonical.clearChan {n : Nat} : (s.clearChan n).Canonical := h.zeroRange.soundRange.setChannel
@[simp] theorem State.Canonical.setSession {x : Session} : (s.setSession x).Canonical := { h with }
@[simp] theorem State.Canonical.sendVia {e : Option Nat} {x : Outgoing} : (s.sendVia e x).Canonical := { h with }
@[simp] theorem State.Canonical.send {x : Outgoing} : (s.send x).Canonical := { h with }
@[simp] theorem State.Canonical.sendFrame {x : Session} {port : Nat} {o : Outgoing} : (s.sendFrame x port o).Canonical := { h with }
@[simp] theorem State.Canonical.dropFrame : s.dropFrame.Canonical := { h with }
@[simp] theorem State.Canonical.tookFrame {w : Wire} : (s.tookFrame w).Canonical := { h with }

@[simp] theorem State.Canonical.frameIn {w : Wire} {opn : Bool} {e : Option Nat} {k : State → State}
    (hk : ∀ u : State, u.Canonical → (k u).Canonical) :
    (s.frameIn w opn e k).Canonical := by
  unfold State.frameIn
  dsimp only
  repeat' split
  all_goals simp [h, hk]

@[simp] theorem State.Canonical.notice {code arg : Nat} : (s.notice code arg).Canonical := by simp [State.notice, h]

@[simp] theorem State.Canonical.limitedKind {code kind key arg ploc : Nat} {lag vc : Option Nat} :
    (s.limitedKind code kind key arg ploc lag vc).Canonical := by
  unfold State.limitedKind
  dsimp only
  repeat' split
  all_goals simp [h]

@[simp] theorem State.Canonical.limited {code key arg ploc : Nat} {lag vc : Option Nat} : (s.limited code key arg ploc lag vc).Canonical :=
  by simp [State.limited, h]
@[simp] theorem State.Canonical.resumeHalted {l : Nat} : (s.resumeHalted l).Canonical :=
  h.mapCores fun _ hk => { hk with ex := hk.ex.update, ac := hk.ac.update, pilot := hk.pilot.update }

@[simp] theorem State.Canonical.endDebug {p : Debug → Bool} : (s.endDebug p).Canonical := by
  unfold State.endDebug
  extract_lets gone covered t
  have ht : t.Canonical := .foldl { h with } fun _ _ ha => ha.resumeHalted
  exact .foldl ht fun _ _ ha => ha.raise

@[simp] theorem State.Canonical.giveReply {r : Ref} {form : Nat → List Byte} : (s.giveReply r form).Canonical := by
  unfold State.giveReply
  dsimp only
  repeat' split
  all_goals simp [h]

@[simp] theorem State.Canonical.stayLagoon {l : Nat} : (s.stayLagoon l).Canonical := by simp [State.stayLagoon, h]

@[simp] theorem State.Canonical.endSession {id : Nat} : (s.endSession id).Canonical := by
  unfold State.endSession
  split
  · exact h
  · exact State.Canonical.raise (State.Canonical.endDebug (by exact { h with }))

@[simp] theorem State.Canonical.endSessions {p : Session → Bool} : (s.endSessions p).Canonical := by
  unfold State.endSessions
  exact State.Canonical.foldl (by simp [h]) (fun t x h => by simp [h])

/-! ### Errors and where they are met -/

@[simp] theorem State.Canonical.setErrs {l : List ErrEntry} : (s.setErrs l).Canonical := { h with }
@[simp] theorem State.Canonical.countLink {n : Nat} : (s.countLink n).Canonical := { h with }
@[simp] theorem State.Canonical.scheduleTest {ploc unit subidx eclass : Nat} {classed : Bool} :
    (s.scheduleTest ploc unit subidx eclass classed).Canonical := { h with }

@[simp] theorem State.Canonical.classLasting {ploc unit subidx word bit eclass : Nat} : (s.classLasting ploc unit subidx word bit eclass).Canonical := by
  unfold State.classLasting
  dsimp only
  repeat' split
  all_goals simp [h]

@[simp] theorem State.Canonical.countError {ploc unit subidx word bit : Nat} {uncorr : Bool} :
    (s.countError ploc unit subidx word bit uncorr).Canonical := by
  unfold State.countError
  extract_lets now s1 old es eclass lasting s2
  have h1 : s1.Canonical := by unfold s1; split <;> simp [h]
  have h2 : s2.Canonical := h1.setErrs.scheduleTest
  exact .ite h2.classLasting h2

@[simp] theorem State.Canonical.corrected {ploc unit subidx word bit eclass : Nat} {lag vc : Option Nat} :
    (s.corrected ploc unit subidx word bit eclass lag vc).Canonical := by simp [State.corrected, h]
@[simp] theorem State.Canonical.baseRetry {n granule l : Nat} {vc : Option Nat} : (s.baseRetry n granule l vc).Canonical :=
  by simp [State.baseRetry, h]
@[simp] theorem State.Canonical.baseFail {n granule l : Nat} {vc : Option Nat} : (s.baseFail n granule l vc).Canonical :=
  by simp [State.baseFail, h]
@[simp] theorem State.Canonical.uncorrectable {ploc unit subidx word bit l : Nat} {vc : Option Nat} :
    (s.uncorrectable ploc unit subidx word bit l vc).Canonical := by simp [State.uncorrectable, h]
@[simp] theorem State.Canonical.clearBad {addrs : List Nat} : (s.clearBad addrs).Canonical := by simp [State.clearBad, h]
@[simp] theorem State.Canonical.clearBadProg {l lo n : Nat} : (s.clearBadProg l lo n).Canonical := { h with }
@[simp] theorem State.Canonical.putProg {l a : Nat} {bs : List Byte} : (s.putProg l a bs).Canonical := by simp [State.putProg, h]
@[simp] theorem State.Canonical.meetBad {a l : Nat} {vc : Option Nat} : (s.meetBad a l vc).Canonical := by simp [State.meetBad, h]
@[simp] theorem State.Canonical.meetCore {c : CoreId} {unit word : Nat} : (s.meetCore c unit word).Canonical := by simp [State.meetCore, h]

/-! ### Marked words -/

@[simp] theorem State.Canonical.unmark {p : Nat} {m : Nat × Nat} : (s.unmark p m).Canonical := { h with }

@[simp] theorem State.Canonical.unmarkBy {s0 : State} {c : CoreId} {f : Core → Res Core} : (s.unmarkBy s0 c f).Canonical := by
  unfold State.unmarkBy
  exact State.Canonical.foldl (by simp [h]) (fun t x h => by simp [h])

@[simp] theorem State.Canonical.act {c : CoreId} {access : Bool} {f : Core → Res Core} (hf : ∀ k : Core, k.Canonical → (f k).Gives Core.Canonical) :
    (s.act c access f).Canonical := by
  unfold State.act
  split
  · exact h.meetCore
  · exact (h.finish (hf _ h.core)).unmarkBy

@[simp] theorem State.Canonical.clearMarks {p u : Nat → Bool} : (s.clearMarks p u).Canonical := { h with }
@[simp] theorem State.Canonical.moveMarks {p q : Nat} : (s.moveMarks p q).Canonical := { h with }

/-! ### Strait and causeway lanes, pacers -/

@[simp] theorem State.Canonical.enter {id n : Nat} {xs : List Nat} : (s.enter id n xs).Canonical := by
  unfold State.enter
  split <;> simp [h]

@[simp] theorem State.Canonical.place {xs : List Nat} {n : Nat} : (s.place xs n).1.Canonical := by
  unfold State.place
  split
  · exact h
  · exact State.Canonical.enter (by exact { h with })

@[simp] theorem State.Canonical.take1 {t : Transit} : (s.take1 t).Canonical := by
  unfold State.take1
  split <;> simp [h]

@[simp] theorem State.Canonical.crossOne {b : List Nat} {t : Transit} : (Machine.crossOne (s, b) t).1.Canonical := by
  unfold Machine.crossOne
  dsimp only
  split
  · exact h.take1
  · split
    · exact h
    · exact h.take1

@[simp] theorem State.Canonical.crossTick : s.crossTick.Canonical :=
  List.foldlRecOn (motive := fun a : State × List Nat => a.1.Canonical) _ Machine.crossOne h fun _ ha _ _ => State.Canonical.crossOne ha

@[simp] theorem State.Canonical.paceTick : s.paceTick.Canonical := by
  refine { h with regions := ?_ }
  rw [State.paceTick_regions]
  exact Sparse.wf_mapNe (fun p : Nat × Region => p.2.paced (s.pace p.1)) (fun p => Region.paced_ne_blank) h.regions

/-! ### Control bundles and beats -/

@[simp] theorem State.Canonical.stallCore {l v : Nat} : (State.stallCore l s v).Canonical := .ite (h.setCore { h.core with }) h
@[simp] theorem State.Canonical.stallTick : s.stallTick.Canonical := .foldl h fun _ _ ha => .ite (.foldl ha fun _ _ hb => hb.stallCore) ha
@[simp] theorem State.Canonical.drainIfEnded {l : Nat} : (s.drainIfEnded l).Canonical := .ite h.setLagoon.moveLagoon.answerStart h

@[simp] theorem State.Canonical.coreEnd {c : CoreId} : (s.coreEnd c).Canonical := by
  unfold State.coreEnd
  extract_lets k t u
  have ht : t.Canonical := h.setCore h.core.endRun
  exact .ite (State.Canonical.drainIfEnded (.ite ht.raise ht)) h

@[simp] theorem State.Canonical.beatIssued {c : CoreId} {before : Nat} : (s.beatIssued c before).Canonical := by
  unfold State.beatIssued
  refine .ite h ?_
  have ht : (s.setCore c { s.core c with ledger := { (s.core c).ledger with
      tend := s.tide.count, tstart := if before = 0 then s.tide.count else (s.core c).ledger.tstart, causes := (s.core c).ledger.since } }).Canonical :=
    h.setCore { h.core with }
  exact .ite ht.answerStart ht

@[simp] theorem State.Canonical.seqIssue {c : CoreId} {q : SeqId} : (s.seqIssue c q).Canonical := by
  unfold State.seqIssue
  refine .ite ?_ h
  split
  · exact h.meetCore
  · exact (h.act fun _ hk => hk.seqStep).beatIssued

@[simp] theorem State.Canonical.control {c : CoreId} {q : SeqId} {p : Bundle → Bool} : (s.control c q p).Canonical := by simp [State.control, h]
@[simp] theorem State.Canonical.noteArrival {s' : State} {c : CoreId} {q : SeqId} : (s.noteArrival s' c q).Canonical :=
  by simp [State.noteArrival, h]
@[simp] theorem State.Canonical.emptyBeat {c : CoreId} : (s.emptyBeat c).Canonical :=
  .ite (h.act fun _ hk => Res.gives_ok.mpr hk.emptyBeat).beatIssued.coreEnd h
@[simp] theorem State.Canonical.releaseMember {l last : Nat} {m : Nat × Bool} : (State.releaseMember l last s m).Canonical :=
  h.place.setCore (.setSeq h.place.core { h.place.core.seq with })

/-! ### Messages and barriers -/

@[simp] theorem State.Canonical.reserveRoom {l d n : Nat} : (s.reserveRoom l d n).Canonical := .ite (h.setCore h.core.setQueue) h
@[simp] theorem State.Canonical.opDone {c : CoreId} {op : Nat} : (s.opDone c op).Canonical := h.setCore { h.core with }
@[simp] theorem State.Canonical.popHead {c : CoreId} {i : Nat} : (s.popHead c i).Canonical := h.setCore h.core.setQueue
@[simp] theorem State.Canonical.launchMsgs {l : Nat} {ms : List Msg} : (s.launchMsgs l ms).Canonical := by simp [State.launchMsgs, h]

@[simp] theorem State.Canonical.flyMsgs {l : Nat} {ms : List (Msg × List Nat)} : (s.flyMsgs l ms).Canonical := by
  unfold State.flyMsgs
  exact State.Canonical.foldl (by simp [h]) (fun t x h => by simp [h])

@[simp] theorem State.Canonical.arrive {c : CoreId} {src n : Nat} {e : QEntry} : (s.arrive c src n e).Canonical :=
  .ite (h.setCore h.core.giveBack).raise (.ite h.coreFault ((h.setCore h.core.takeMessage).unmarkBy))

@[simp] theorem State.Canonical.msgDone {l : Nat} {m : Msg} : (s.msgDone l m).Canonical := by
  unfold State.msgDone
  dsimp only
  repeat' split
  all_goals simp [h]

@[simp] theorem State.Canonical.setComb {l : Nat} {q : CombQueue} : (s.setComb l q).Canonical := by simp [State.setComb, h]

/-! ### The reef -/

@[simp] theorem State.Canonical.reefFault {st code : Nat} {r : ReefHeld} : (s.reefFault st code r).Canonical := by simp [State.reefFault, h]

@[simp] theorem State.Canonical.writeGranule {st : Nat} {r : ReefHeld} {o : ReefOut} {g : Nat} : (s.writeGranule st r o g).Canonical := by
  unfold State.writeGranule
  refine .foldl h fun a w ha => ?_
  split
  · exact .ite ha ha.writeBytes.clearBad
  · exact ha

@[simp] theorem State.Canonical.reefRow {st iss : Nat} {p : Nat → Bool} : (s.reefRow st iss p).Canonical := by
  unfold State.reefRow
  split
  · exact h
  · split
    · exact h.reefFault
    · exact h.setStack

@[simp] theorem State.Canonical.groupCompute {st : Nat} {opening : ReefHeld} : (s.groupCompute st opening).Canonical :=
  by simp [State.groupCompute, h]

@[simp] theorem State.Canonical.reefSlot {w : Nat} {r : ReefHeld} : (s.reefSlot w r).Canonical := by
  unfold State.reefSlot
  dsimp only
  repeat' split
  all_goals simp [h]

@[simp] theorem State.Canonical.countRound {l st group : Nat} : (s.countRound l st group).Canonical := by simp [State.countRound, h]
@[simp] theorem State.Canonical.combineGroup {st : Nat} {opening : ReefHeld} {g : List ReefHeld} : (s.combineGroup st opening g).Canonical :=
  h.setStack.countRound.groupCompute

@[simp] theorem State.Canonical.tryGroup {st n : Nat} : (s.tryGroup st n).Canonical := by
  unfold State.tryGroup
  dsimp only
  split <;> simp [h]

@[simp] theorem State.Canonical.sendDone {st : Nat} {r : ReefHeld} : (State.sendDone st s r).Canonical := by
  unfold State.sendDone
  dsimp only
  split <;> simp [h]

@[simp] theorem State.Canonical.postLeaf {l : Nat} {p : Nat × Nat} : (s.postLeaf l p).Canonical := by
  unfold State.postLeaf
  dsimp only
  repeat' split
  all_goals simp [h]

@[simp] theorem State.Canonical.postLeaves {l : Nat} : (s.postLeaves l).Canonical := by
  unfold State.postLeaves
  exact State.Canonical.foldl (by simp [h]) (fun t x h => by simp [h])

@[simp] theorem State.Canonical.harbourReply {r : ReefHeld} {o : ReefOut} : (s.harbourReply r o).Canonical := by simp [State.harbourReply, h]

@[simp] theorem State.Canonical.reefFinish {st : Nat} {r : ReefHeld} : (s.reefFinish st r).Canonical := by
  unfold State.reefFinish
  extract_lets o k fl s1 c q s2
  have h1 : s1.Canonical := h.setStack
  have h2 : s2.Canonical := .ite (h1.setCore h1.core.setQueue) h1
  exact .ite h1.harbourReply h2.opDone.progressed

/-! ### Stream transactions -/

@[simp] theorem State.Canonical.streamFault {c : CoreId} {code obj : Nat} {o : StreamOp} : (s.streamFault c code obj o).Canonical :=
  by simp [State.streamFault, h]

@[simp] theorem State.Canonical.sendResponse {c : CoreId} {o : StreamOp} {t : Txn} : (s.sendResponse c o t).Canonical := by
  unfold State.sendResponse
  extract_lets xs
  have hu : (if s.laneOpen xs t.lines then s.place xs t.lines else (s, 0)).1.Canonical := by
    split
    · exact h.place
    · exact h
  exact hu.setCore hu.core.setOp

@[simp] theorem State.Canonical.sendWaiting {c : CoreId} : (s.sendWaiting c).Canonical := by
  unfold State.sendWaiting
  exact State.Canonical.foldl (by simp [h]) (fun t x h => by split <;> simp [h])

@[simp] theorem State.Canonical.serve {c : CoreId} {o : StreamOp} {t : Txn} : (s.serve c o t).Canonical := by
  unfold State.serve
  extract_lets addrs now put
  have hput : ∀ u bs, u.Canonical → (put u bs).Canonical := fun _ _ hu => hu.sendResponse
  split
  · split
    · exact h.meetBad
    · exact hput _ _ (State.Canonical.clearBad (.foldl h fun _ _ ha => ha.writeByte))
  · split
    · exact h.meetBad
    · exact hput _ _ h

@[simp] theorem State.Canonical.serveShoal {c : CoreId} {o : StreamOp} {t : Txn} {w : Nat} {bad : Bool} : (s.serveShoal c o t w bad).1.Canonical := by
  unfold State.serveShoal
  extract_lets g n
  split
  · split
    · split
      · exact h.setStack.countError.raise.serve
      · exact h.setStack.serve
    · exact h.setStack.serve
  · exact h.serve

@[simp] theorem State.Canonical.unwrite {l : Nat} {t : Txn} : (s.unwrite l t).Canonical := by
  unfold State.unwrite
  exact State.Canonical.foldl (by simp [h]) (fun t x h => by split <;> simp [h])

@[simp] theorem State.Canonical.respond {c : CoreId} {o : StreamOp} {t : Txn} : (s.respond c o t).Canonical := h.act fun _ hk => hk.setOp.settleOps
@[simp] theorem State.Canonical.readAgain {c : CoreId} {o : StreamOp} {t : Txn} : (s.readAgain c o t).Canonical := h.setCore h.core.setOp

/-! ### The ferry -/

@[simp] theorem State.Canonical.setStage {p dir : Nat} {l : List QEntry} : (s.setStage p dir l).Canonical := { h with }

theorem State.Canonical.ferryNext {n dir : Nat} {r : QEntry × State} (hr : s.ferryNext n dir = some r) : r.2.Canonical := by
  unfold State.ferryNext at hr
  split at hr
  · cases hr
    exact h.setStage
  · split at hr
    · cases hr
    · dsimp only at hr
      split at hr
      · cases hr
      · split at hr
        · cases hr
          exact h.setCore h.core.setQueue
        · cases hr

@[simp] theorem State.Canonical.ferryPut {p dir : Nat} {e : QEntry} : (s.ferryPut p dir e).Canonical := by
  unfold State.ferryPut
  split
  · exact h.setStage
  · extract_lets k q s1
    have h1 : s1.Canonical := .ite (h.setCore h.core.setQueue) h
    exact .ite h.setStage (.ite h1.setStage h1)

@[simp] theorem State.Canonical.setCrossing {p dir : Nat} {l : List (Nat × QEntry)} : (s.setCrossing p dir l).Canonical := { h with }

@[simp] theorem State.Canonical.placeFerry {x : Nat × Nat} : (s.placeFerry x).Canonical := by
  unfold State.placeFerry
  split
  · exact h
  · extract_lets xs on
    refine .ite h ?_
    split
    · exact h
    · next hr => exact .ite (h.ferryNext hr).place.setCrossing h

/-! ### Stops, the governor and the tide -/

@[simp] theorem State.Canonical.beginStop {r target : Nat} : (s.beginStop r target).Canonical := by simp [State.beginStop, h]
@[simp] theorem State.Canonical.setRail {r v : Nat} : (s.setRail r v).Canonical := { h with }

@[simp] theorem State.Canonical.applyHeld {l : Nat} : (s.applyHeld l).Canonical := by
  unfold State.applyHeld
  dsimp only
  split <;> simp [h]

@[simp] theorem State.Canonical.ageing {r : Nat} : (s.ageing r).Canonical := .ite h.setRail.setRegion.beginStop h
@[simp] theorem State.Canonical.diesOff : s.diesOff.Canonical := State.Canonical.powered (.foldl h fun _ _ ha => ha.setRegion)
@[simp] theorem State.Canonical.thermalTrip {r : Nat} : (s.thermalTrip r).Canonical :=
  State.Canonical.diesOff (.foldl h.raise.powered fun _ _ ha => .ite ha.faultLagoon ha)
@[simp] theorem State.Canonical.chargeCore {l n v : Nat} : (State.chargeCore l n s v).Canonical := .ite h (h.setCore { h.core with })
@[simp] theorem State.Canonical.chargeAll {n : Nat} : (s.chargeAll n).Canonical :=
  .ite h (.foldl h fun _ _ ha => .ite (.foldl ha fun _ _ hb => hb.chargeCore) ha)
@[simp] theorem State.Canonical.watch {l : Nat} : (s.watch l).Canonical := by simp [State.watch, h]
@[simp] theorem State.Canonical.sendTick : s.sendTick.Canonical :=
  .foldl (.foldl (.foldl h fun _ _ ha => ha.sendWaiting) fun _ _ ha => .foldl ha fun _ _ hb => hb.sendDone) fun _ _ ha => ha.placeFerry
@[simp] theorem State.Canonical.tideEvent {before code : Nat} : (s.tideEvent before code).Canonical := by simp [State.tideEvent, h]
@[simp] theorem State.Canonical.stepTide {d : Nat} : (s.stepTide d).Canonical := h.chargeAll.timed.tideEvent

@[simp] theorem State.Canonical.tideState {st : Nat} : (s.tideState st).Canonical := by
  unfold State.tideState
  split <;> simp [h]

@[simp] theorem State.Canonical.synchronise {time : Nat} : (s.synchronise time).Canonical := by
  unfold State.synchronise
  refine .ite ?_ ?_
  · refine .ite h.timed.timed.tideState (.ite h.timed.timed.tideState.stepTide h.timed.timed.tideState.timed)
  · exact .ite (State.Canonical.tideState (.ite h.timed.timed h.timed)) (.ite h.timed.timed h.timed)

@[simp] theorem State.Canonical.askDelay {p : PtpMsg} {domain : Nat} : (s.askDelay p domain).Canonical := { h with }

end

end Sys2Proof.Machine
end

section
/-! The canonical form under runs and records, loads, the network, the mailbox and its commands, checkpoints and the debug port. -/

namespace Sys2Proof.Machine

section

variable {s : State} (h : s.Canonical)
include h

/-! ### Runs and their records -/

@[simp] theorem State.Canonical.fillBucket {l r v : Nat} : (State.fillBucket l r s v).Canonical := h.setCore { h.core with }
@[simp] theorem State.Canonical.taint {l flag : Nat} : (s.taint l flag).Canonical := by simp [State.taint, h]

@[simp] theorem State.Canonical.reinitialise {l seed : Nat} : (s.reinitialise l seed).Canonical := by
  refine .foldl (State.Canonical.setLagoon (State.Canonical.mapCores (State.Canonical.clearMarks ?_) fun _ hk => hk.atLoad)) fun _ _ ha => ha.setStack
  exact { h with }

@[simp] theorem State.Canonical.firstBuckets {l : Nat} : (s.firstBuckets l).Canonical := by
  unfold State.firstBuckets
  exact State.Canonical.foldl (by simp [h]) (fun t x h => by simp [h])

@[simp] theorem State.Canonical.beginRun {l : Nat} {p : Launch} : (s.beginRun l p).Canonical :=
  .foldl h.setCounter.reinitialise.setLagoon.moveLagoon.firstBuckets fun _ _ ha => ha.seqIssue
@[simp] theorem State.Canonical.beginHash {l : Nat} {outs : Bool} {rs : List Span} : (s.beginHash l outs rs).Canonical :=
  by simp [State.beginHash, h]

@[simp] theorem State.Canonical.backlogged : s.backlogged.Canonical := by
  refine .ite h (.foldl h fun a l ha => ?_)
  split
  · exact .ite ha (State.Canonical.raise (by exact { ha with }))
  · exact ha

@[simp] theorem State.Canonical.buildRecord {l : Nat} {r0 : Run} : (s.buildRecord l r0).Canonical := by simp [State.buildRecord, h]
@[simp] theorem State.Canonical.recordHashed {l : Nat} {r : Run} : (s.recordHashed l r).Canonical := by simp [State.recordHashed, h]
@[simp] theorem State.Canonical.closeBatch : s.closeBatch.Canonical := by simp [State.closeBatch, h]

@[simp] theorem State.Canonical.acceptRecord {l : Nat} {r : RunRec} : (s.acceptRecord l r).Canonical := by
  have h1 : (if s.builder.openRecs.isEmpty then s.setCounter 1 (s.counter 1 + 1) else s).Canonical := .ite h.setCounter h
  unfold State.acceptRecord
  refine State.Canonical.backlogged (.ite (State.Canonical.closeBatch ?_) ?_)
  all_goals exact .ite (State.Canonical.moveLagoon (.setLagoon (by exact { h1 with }))) (.setLagoon (by exact { h1 with }))

@[simp] theorem State.Canonical.reserveLeaves : s.reserveLeaves.Canonical := by
  unfold State.reserveLeaves
  dsimp only
  split <;> simp [h]

@[simp] theorem State.Canonical.reserveNext : s.reserveNext.Canonical := by
  unfold State.reserveNext
  dsimp only
  split <;> simp [h]

@[simp] theorem State.Canonical.leafLow {before : Nat} : (s.leafLow before).Canonical := by simp [State.leafLow, h]

@[simp] theorem State.Canonical.leafEvents {before : Nat} : (s.leafEvents before).Canonical := by
  unfold State.leafEvents
  extract_lets s1
  split
  · exact h.leafLow.built.notice
  · exact h.leafLow

@[simp] theorem State.Canonical.signBatch {b : Batch} : (s.signBatch b).Canonical := by
  unfold State.signBatch
  refine State.Canonical.send (.ite (State.Canonical.notice ?_) (.notice ?_))
  all_goals
    refine State.Canonical.leafEvents (.reserveNext (.setCounter ?_))
    exact { h.reserveLeaves with }

/-! ### Images -/

@[simp] theorem State.Canonical.writeWheels {l : Nat} {f : Hpi} {m : List Place} : (s.writeWheels l f m).Canonical :=
  .foldl (.foldl h fun _ _ ha => ha.setWheel) fun _ _ ha => ha.setWheel

@[simp] theorem State.Canonical.writePlace {l : Nat} {f : Hpi} {p : Pack} {split : Bool} {q : Place} : (State.writePlace l f p split s q).Canonical := by
  unfold State.writePlace
  exact State.Canonical.foldl (by simp [h]) (fun t x h => by simp [h])

@[simp] theorem State.Canonical.writeImage {l : Nat} {f : Hpi} : (s.writeImage l f).Canonical :=
  .foldl (.foldl (State.Canonical.writeWheels (.setLagoon (.foldl h.clearMarks.coresFiltered fun _ _ ha => ha.writePlace))) fun _ _ ha => ha.setStack)
    fun _ _ ha => ha.putProg

@[simp] theorem State.Canonical.clearImage {l : Nat} : (s.clearImage l).Canonical :=
  .foldl (.foldl h.coresFiltered.setLagoon fun _ _ ha => ha.setWheel) fun _ _ ha => ha.setStack

/-! ### RoCE -/

@[simp] theorem State.Canonical.setQp {q : QPair} : (s.setQp q).Canonical := { h with }
@[simp] theorem State.Canonical.setLr {r : LandReg} : (s.setLr r).Canonical := { h with }
@[simp] theorem State.Canonical.sendWork {qpn : Nat} {w : Work} : (s.sendWork qpn w).Canonical := { h with }

@[simp] theorem State.Canonical.postWrite {q : QPair} {rkey remote : Nat} {bytes : List Byte} {ref : Option Ref} {drain : Option Nat}
    {reply : List Byte} :
    (s.postWrite q rkey remote bytes ref drain reply).Canonical := { h with }

@[simp] theorem State.Canonical.postSend {q : QPair} {bytes : List Byte} : (s.postSend q bytes).Canonical := { h with }
@[simp] theorem State.Canonical.drainFailed {l : Nat} {d : Drain} : (s.drainFailed l d).Canonical := by simp [State.drainFailed, h]

@[simp] theorem State.Canonical.sendDrain {l : Nat} : (s.sendDrain l).Canonical := by
  unfold State.sendDrain
  dsimp only
  repeat' split
  all_goals simp [h]

@[simp] theorem State.Canonical.startDrains {l : Nat} {ds : List Drain} : (State.startDrains l ds s).Canonical := by
  induction ds generalizing s with
  | nil => exact h.setLagoon
  | cons d rest ih =>
    have hrest := ih (h.drainFailed (l := l) (d := d))
    unfold State.startDrains
    refine .ite h.setLagoon ?_
    split
    · exact .ite (.ite h.setLagoon.sendDrain h.setLagoon) hrest
    · exact hrest

@[simp] theorem State.Canonical.startDrain {l : Nat} : (s.startDrain l).Canonical := h.startDrains

@[simp] theorem State.Canonical.failDrain {l : Nat} : (s.failDrain l).Canonical := by
  unfold State.failDrain
  split
  · exact h.drainFailed.startDrains
  · exact h

@[simp] theorem State.Canonical.failWork {qpn event : Nat} {w : Work} : (Machine.failWork qpn event s w).Canonical := by
  unfold Machine.failWork
  split
  · exact h.failDrain
  · exact h.answerOpt

@[simp] theorem State.Canonical.failQp {q : QPair} : (s.failQp q).Canonical := by
  unfold State.failQp
  exact State.Canonical.foldl (by simp [h]) (fun t x h => by simp [h])

@[simp] theorem State.Canonical.lateLanding {l d n : Nat} : (s.lateLanding l d n).Canonical := by
  unfold State.lateLanding
  dsimp only
  repeat' split
  all_goals simp [h]

@[simp] theorem State.Canonical.soil {a n : Nat} : (s.soil a n).Canonical := by
  unfold State.soil
  exact State.Canonical.foldl (by simp [h]) (fun t x h => by simp [h])

@[simp] theorem State.Canonical.harbourMoves {d n : Nat} : (s.harbourMoves d n).Canonical := by
  unfold State.harbourMoves
  exact State.Canonical.foldl (by simp [h]) (fun t x h => by simp [h])

@[simp] theorem State.Canonical.harbourMovesAt {l a n : Nat} : (s.harbourMovesAt l a n).Canonical := by
  unfold State.harbourMovesAt
  exact State.Canonical.foldl (by simp [h]) (fun t x h => by split <;> simp [h])

@[simp] theorem State.Canonical.land {r : LandReg} {a : Nat} {bs : List Byte} : (s.land r a bs).Canonical :=
  .ite h.writeBytes.clearBad.setLr (.foldl h.writeBytes.clearBad.setLr.soil.harbourMoves fun _ _ ha => ha.lateLanding)
@[simp] theorem State.Canonical.refuseRoce {q : QPair} {p : Packet} : (s.refuseRoce q p).Canonical := by simp [State.refuseRoce, h]
@[simp] theorem State.Canonical.notifyCe {q : QPair} {p : Packet} : (s.notifyCe q p).Canonical := by simp [State.notifyCe, h]
@[simp] theorem State.Canonical.ackPacket {q : QPair} {p : Packet} : (s.ackPacket q p).Canonical := { h with }

@[simp] theorem State.Canonical.roceIn {p : Packet} {k : State → QPair → State} (hk : ∀ (u : State) x, u.Canonical → (k u x).Canonical) :
    (s.roceIn p k).Canonical := by
  refine h.frameIn fun t ht => ?_
  split
  · exact hk _ _ ht
  · exact ht.dropFrame

@[simp] theorem State.Canonical.inOrder {q : QPair} {p : Packet} {f again : State → QPair → State}
    (hf : ∀ (u : State) x, u.Canonical → (f u x).Canonical) (hagain : ∀ (u : State) x, u.Canonical → (again u x).Canonical) :
    (s.inOrder q p f again).Canonical := by
  unfold State.inOrder
  dsimp only
  repeat' split
  all_goals simp [h, hf, hagain]

@[simp] theorem State.Canonical.serveRead {q : QPair} {p : Packet} : (s.serveRead q p).Canonical := by
  unfold State.serveRead
  split <;> simp [h]

@[simp] theorem State.Canonical.completeWork {w : Work} : (Machine.completeWork s w).Canonical := by
  unfold Machine.completeWork
  split
  · exact h.giveReply
  · exact h

@[simp] theorem State.Canonical.resend {q : QPair} : (s.resend q).Canonical := by
  unfold State.resend
  exact State.Canonical.foldl (by simp [h]) (fun t x h => by simp [h])

/-! ### The port -/

@[simp] theorem State.Canonical.netIn {p : NetFrame} {ok : Nat → Bool} {k : State → Nat → State}
    (hk : ∀ (u : State) x, u.Canonical → (k u x).Canonical) :
    (s.netIn p ok k).Canonical := by
  have hdrop : ∀ e, (s.frameIn p.wire false e State.dropFrame).Canonical := fun _ => h.frameIn fun _ hu => hu.dropFrame
  refine .ite h ?_
  split
  · exact .ite (h.frameIn fun _ hu => hk _ _ hu) (hdrop _)
  · exact hdrop _

@[simp] theorem State.Canonical.resolve {peer mac : Nat} : (s.resolve peer mac).Canonical := { h with }
@[simp] theorem State.Canonical.dropProbe : s.dropProbe.Canonical := { h with }
@[simp] theorem State.Canonical.sendLight {r : LhReply} {body : List Byte} : (s.sendLight r body).Canonical := { h with }

/-! ### The mailbox -/

@[simp] theorem State.Canonical.rejectFrame {f : Frame} : (s.rejectFrame f).Canonical := by simp [State.rejectFrame, h]

@[simp] theorem State.Canonical.checkFrame {f : Frame} {kind : Nat} {k : State → State} (hk : ∀ u : State, u.Canonical → (k u).Canonical) :
    (s.checkFrame f kind k).Canonical :=
  h.frameIn fun _ hu => .ite hu.dropFrame (.ite hu.dropFrame (.ite hu.rejectFrame (.ite hu.dropFrame (.ite hu (hk _ hu)))))

@[simp] theorem State.Canonical.sendClear {f : Frame} {kind session : Nat} {body : List Byte} : (s.sendClear f kind session body).Canonical :=
  { h with }
@[simp] theorem State.Canonical.openShake {f : Frame} {n : Nat} : (s.openShake f n).Canonical := { h with }

@[simp] theorem State.Canonical.openSession {h' : Handshake} {port : Nat} : (s.openSession h' port).Canonical := by
  refine State.Canonical.raise (.sendFrame ?_)
  exact { h with }

@[simp] theorem State.Canonical.failShake {h' : Handshake} : (s.failShake h').Canonical := by simp [State.failShake, h]
@[simp] theorem State.Canonical.ok {r : Req} {res : List Byte} : (s.ok r res).Canonical := by simp [State.ok, h]
@[simp] theorem State.Canonical.no {r : Req} {status detail : Nat} : (s.no r status detail).Canonical := by simp [State.no, h]
@[simp] theorem State.Canonical.setPhase {r : Ref} {phase deadline : Nat} : (s.setPhase r phase deadline).Canonical := { h with }

/-! ### Commands to a lagoon -/

@[simp] theorem State.Canonical.cmdConfigure {r : Req} : (s.cmdConfigure r).Canonical := by
  refine .ite h.no ?_
  split
  · exact h.no
  · split
    · exact .ite (State.Canonical.answer (.foldl h fun _ _ ha => ha.raise)) h.no
    · exact .ite h.setLagoon.moveLagoon.ok h.setLagoon.setLagoon

@[simp] theorem State.Canonical.endOwner {o : Nat} : (s.endOwner o).Canonical := by
  unfold State.endOwner
  exact State.Canonical.foldl (by simp [h]) (fun t x h => by simp [h])

@[simp] theorem State.Canonical.cmdRelease {r : Req} : (s.cmdRelease r).Canonical := by
  refine .ite h.no ?_
  split
  · exact h.no
  · exact .ite h.no h.endOwner.endDebug.setLagoon

@[simp] theorem State.Canonical.settle {l : Nat} : (s.settle l).Canonical := by
  unfold State.settle
  dsimp only
  split <;> simp [h]

@[simp] theorem State.Canonical.cmdLoad {r : Req} : (s.cmdLoad r).Canonical := by
  unfold State.cmdLoad
  split
  · exact h.no
  · refine .ite h.no ?_
    extract_lets f
    split
    · exact h.raise.answer
    · exact h.dropLaunches.writeImage.setLagoon

@[simp] theorem State.Canonical.cmdUnload {r : Req} : (s.cmdUnload r).Canonical := by
  unfold State.cmdUnload
  split
  · exact h.no
  · exact h.clearImage.moveLagoon.ok

@[simp] theorem State.Canonical.cmdSeal {r : Req} : (s.cmdSeal r).Canonical := by
  unfold State.cmdSeal
  split <;> simp [h]

@[simp] theorem State.Canonical.cmdStart {r : Req} : (s.cmdStart r).Canonical := by
  unfold State.cmdStart
  split
  · exact h.no
  · have ha := h.applyHeld (l := r.lag)
    exact .ite ha.no (.ite ha.raise.answer (.ite ha.no (.ite ha.no ha.setLagoon)))

@[simp] theorem State.Canonical.cmdPause {r : Req} : (s.cmdPause r).Canonical := by
  unfold State.cmdPause
  split <;> simp [h]

@[simp] theorem State.Canonical.cmdResume {r : Req} : (s.cmdResume r).Canonical := by
  unfold State.cmdResume
  split
  · exact h.no
  · have ht : (s.mapCores r.lag fun c => { c with stopped := c.runEnded }).Canonical := h.mapCores fun _ hk => hk.stopped
    exact ht.setLagoon.moveLagoon.ok

@[simp] theorem State.Canonical.stopLagoon {l : Nat} {ref : Option Ref} : (s.stopLagoon l ref).Canonical := .ite h.stopCores.setLagoon.answerOpt h

@[simp] theorem State.Canonical.cmdStop {r : Req} : (s.cmdStop r).Canonical := by
  unfold State.cmdStop
  split <;> simp [h]

@[simp] theorem State.Canonical.cmdSetmode {r : Req} : (s.cmdSetmode r).Canonical := by
  unfold State.cmdSetmode
  split
  · exact h.no
  · exact h.setLagoon.applyHeld.ok

@[simp] theorem State.Canonical.cmdWaitRun {r : Req} : (s.cmdWaitRun r).Canonical := by
  unfold State.cmdWaitRun
  split <;> simp [h]

@[simp] theorem State.Canonical.answerWaits {q : RunRec} : (s.answerWaits q).Canonical := by
  unfold State.answerWaits
  exact State.Canonical.foldl (by simp [h]) (fun t x h => by simp [h])

/-! ### Commands to the device -/

@[simp] theorem State.Canonical.cmdRead {r : Req} : (s.cmdRead r).Canonical := by
  unfold State.cmdRead
  split <;> simp [h]

@[simp] theorem State.Canonical.cmdXfer {r : Req} : (s.cmdXfer r).Canonical := by
  unfold State.cmdXfer
  dsimp only
  repeat' split
  all_goals simp [h]

@[simp] theorem State.Canonical.setSink {k : Sink} : (s.setSink k).Canonical := { h with }

theorem State.Canonical.deliver {k : Sink} {b : Batch} {t : State} (ht : s.deliver k b = some t) : t.Canonical := by
  unfold State.deliver at ht
  dsimp only at ht
  split at ht
  · split at ht
    · cases ht
      exact h.setSink.postWrite
    · cases ht
  · cases ht

@[simp] theorem State.Canonical.drainSink {o : Nat} {ns : List Nat} : (State.drainSink o ns s).Canonical := by
  induction ns generalizing s with
  | nil => exact h
  | cons n rest ih =>
    unfold State.drainSink
    split
    · exact h
    · split
      · exact ih h.setSink
      · split
        · next ht => exact ih (h.deliver ht)
        · exact h

@[simp] theorem State.Canonical.trimSigned : s.trimSigned.Canonical := { h with }
@[simp] theorem State.Canonical.serveSink {o : Nat} : (s.serveSink o).Canonical := h.drainSink.trimSigned

@[simp] theorem State.Canonical.cmdSink {r : Req} : (s.cmdSink r).Canonical := by
  refine .ite h.sunk.trimSigned.ok ?_
  split
  · exact h.no
  · exact .ite h.no h.sunk.serveSink.ok

@[simp] theorem State.Canonical.cmdSinkAck {r : Req} : (s.cmdSinkAck r).Canonical := by
  unfold State.cmdSinkAck
  split
  · exact h.no
  · exact .ite h.no h.setSink.serveSink.ok

@[simp] theorem State.Canonical.flush {r : Ref} : (s.flush r).Canonical := by
  unfold State.flush
  dsimp only
  repeat' split
  all_goals simp [h]

@[simp] theorem State.Canonical.cmdFlush {r : Req} : (s.cmdFlush r).Canonical := by simp [State.cmdFlush, h]

@[simp] theorem State.Canonical.retryFlush : s.retryFlush.Canonical := by
  unfold State.retryFlush
  exact State.Canonical.foldl (by simp [h]) (fun t x h => by simp [h])

@[simp] theorem State.Canonical.cmdPath {r : Req} : (s.cmdPath r).Canonical := by
  unfold State.cmdPath
  dsimp only
  repeat' split
  all_goals simp [h]

@[simp] theorem State.Canonical.cmdBatchwin {r : Req} : (s.cmdBatchwin r).Canonical := by simp [State.cmdBatchwin, h]

@[simp] theorem State.Canonical.setDiscipline {disc pps : Bool} {domain : Nat} : (s.setDiscipline disc pps domain).Canonical := by
  unfold State.setDiscipline
  split <;> simp [h]

@[simp] theorem State.Canonical.cmdTide {r : Req} : (s.cmdTide r).Canonical :=
  .ite h.no (.ite h.no (.ite h.no (State.Canonical.ok (.ite h.setDiscipline.timed.stepTide h.setDiscipline.timed))))
@[simp] theorem State.Canonical.setNet {c : NetCfg} : (s.setNet c).Canonical := { h with }
@[simp] theorem State.Canonical.okThenEnd {r : Req} {p : Session → Bool} : (s.okThenEnd r p).Canonical := by simp [State.okThenEnd, h]
@[simp] theorem State.Canonical.cmdNetMac {r : Req} : (s.cmdNetMac r).Canonical := by simp [State.cmdNetMac, h]
@[simp] theorem State.Canonical.cmdNetLinkLocal {r : Req} : (s.cmdNetLinkLocal r).Canonical := by simp [State.cmdNetLinkLocal, h]

@[simp] theorem State.Canonical.cmdNetAddress {r : Req} : (s.cmdNetAddress r).Canonical := by
  unfold State.cmdNetAddress
  dsimp only
  repeat' split
  all_goals simp [h]

@[simp] theorem State.Canonical.cmdNetHmpport {r : Req} : (s.cmdNetHmpport r).Canonical := by simp [State.cmdNetHmpport, h]
@[simp] theorem State.Canonical.cmdQosPriorities {r : Req} : (s.cmdQosPriorities r).Canonical := by simp [State.cmdQosPriorities, h]
@[simp] theorem State.Canonical.cmdQosDscpMap {r : Req} : (s.cmdQosDscpMap r).Canonical := by simp [State.cmdQosDscpMap, h]
@[simp] theorem State.Canonical.cmdQosPfcwd {r : Req} : (s.cmdQosPfcwd r).Canonical := by simp [State.cmdQosPfcwd, h]
@[simp] theorem State.Canonical.cmdMacsecEnable {r : Req} : (s.cmdMacsecEnable r).Canonical := State.Canonical.ported h.ok.setNet
@[simp] theorem State.Canonical.cmdMacsecCak {r : Req} : (s.cmdMacsecCak r).Canonical := by simp [State.cmdMacsecCak, h]
@[simp] theorem State.Canonical.cmdLighthouse {r : Req} : (s.cmdLighthouse r).Canonical := by simp [State.cmdLighthouse, h]
@[simp] theorem State.Canonical.setKeys {l : List TenantKey} : (s.setKeys l).Canonical := { h with }

@[simp] theorem State.Canonical.cmdKeyInstall {r : Req} : (s.cmdKeyInstall r).Canonical := by
  unfold State.cmdKeyInstall
  dsimp only
  repeat' split
  all_goals simp [h]

@[simp] theorem State.Canonical.cmdKeyRemove {r : Req} : (s.cmdKeyRemove r).Canonical := .ite h.no (.ite h.no h.setKeys.ok.endSessions)

@[simp] theorem State.Canonical.cmdQpCreate {r : Req} : (s.cmdQpCreate r).Canonical := by
  unfold State.cmdQpCreate
  split <;> simp [h]

@[simp] theorem State.Canonical.cmdQpDestroy {r : Req} : (s.cmdQpDestroy r).Canonical := by
  unfold State.cmdQpDestroy
  split
  · exact h.no
  · refine .ite h.no (.ite h.no (State.Canonical.ok (.foldl ?_ fun _ _ ha => ha.failWork)))
    exact { h with }

@[simp] theorem State.Canonical.cmdLrRegister {r : Req} : (s.cmdLrRegister r).Canonical := by
  refine .ite h.no ?_
  split
  · exact h.no
  · refine State.Canonical.ok ?_
    exact { h with }

@[simp] theorem State.Canonical.cmdLrDeregister {r : Req} : (s.cmdLrDeregister r).Canonical := by
  unfold State.cmdLrDeregister
  split
  · exact h.no
  · refine .ite h.no (.ite h.no (State.Canonical.ok ?_))
    exact { h with }

@[simp] theorem State.Canonical.holdPackage {bs : List Byte} {flash : Bool} : (s.holdPackage bs flash).Canonical := { h with }

@[simp] theorem State.Canonical.cmdLibPut {r : Req} : (s.cmdLibPut r).Canonical := by
  unfold State.cmdLibPut
  dsimp only
  repeat' split
  all_goals simp [h]

/-! ### Checkpoints -/

@[simp] theorem State.Canonical.snapRefused {l : Nat} {ref : Ref} {dcur st d : Nat} : (s.snapRefused l ref dcur st d).Canonical := by
  unfold State.snapRefused
  split <;> simp [h]

@[simp] theorem State.Canonical.cmdCkSnapshot {r : Req} : (s.cmdCkSnapshot r).Canonical := by
  unfold State.cmdCkSnapshot
  dsimp only
  repeat' split
  all_goals simp [h]

theorem State.Canonical.areaWritten {l a n : Nat} {area : List Byte} {ps : List (Nat × Nat)} {x : Lagoon} {arg : Nat} :
    (((ps.foldl (fun b p => b.harbourMovesAt l p.1 p.2) ((s.putProg l a area).harbourMovesAt l a n)).setLagoon l x).raise 0x8101 0 arg 0 (some l) none).Canonical := by
  refine State.Canonical.raise (.setLagoon (.foldl ?_ ?_))
  · exact h.putProg.harbourMovesAt
  · intro b p hb
    exact hb.harbourMovesAt

@[simp] theorem State.Canonical.writeSnapshot {l : Nat} {w : CkWork} {im : Image} {commit : Nat} {h' : List Byte} :
    (s.writeSnapshot l w im commit h').Canonical := by
  have h1 : (match (spanList h').findSome? (fun p : Nat × Nat => s.badIn l p.1 p.2) with
      | some a => if s.runs? l then s.meetBad a l none else s
      | none => s).Canonical := by
    split
    · exact .ite h.meetBad h
    · exact h
  have h3 := fun {a n area ps x arg} => State.Canonical.areaWritten h1 (l := l) (a := a) (n := n) (area := area) (ps := ps) (x := x) (arg := arg)
  unfold State.writeSnapshot
  refine State.Canonical.answer (.ite (State.Canonical.raise ?_) ?_)
  all_goals
    split
    · refine State.Canonical.raise ?_
      apply h3
    · apply h3

@[simp] theorem State.Canonical.cmdCkDrain {r : Req} : (s.cmdCkDrain r).Canonical := by
  unfold State.cmdCkDrain
  dsimp only
  repeat' split
  all_goals simp [h]

@[simp] theorem State.Canonical.cmdCkRestore {r : Req} : (s.cmdCkRestore r).Canonical := by
  unfold State.cmdCkRestore
  dsimp only
  repeat' split
  all_goals simp [h]

@[simp] theorem State.Canonical.cmdPair {r : Req} : (s.cmdPair r).Canonical := by
  unfold State.cmdPair
  split
  · exact h.no
  · exact .ite h.raise.answer h.setLagoon.raise.answer

@[simp] theorem State.Canonical.cmdCompare {r : Req} : (s.cmdCompare r).Canonical := by
  unfold State.cmdCompare
  split
  · exact h.no
  · dsimp only
    split
    · exact .ite h.setLagoon.raise.answer h.raise.answer
    · exact h.no

/-! ### What the debug port writes -/

@[simp] theorem State.Canonical.putShared {c : CoreId} {off v : Nat} : (s.putShared c off v).Canonical := by
  unfold State.putShared
  dsimp only
  repeat' split
  all_goals simp [h]

@[simp] theorem State.Canonical.putStoreByte {c : CoreId} {x : Nat × Byte} : (State.putStoreByte c s x).Canonical := by simp [State.putStoreByte, h]

/-! ### The pilot -/

@[simp] theorem State.Canonical.pilotRow {c : CoreId} {k : PClass} : (s.pilotRow c k).Canonical :=
  .ite (.ite h.meetCore (h.act fun _ hk => hk.pilotStep)) h

end

end Sys2Proof.Machine
end

section
/-! The canonical form under the service, security, spares, power, JTAG, the wheels and the rows of slots. -/

namespace Sys2Proof.Machine

section

variable {s : State} (h : s.Canonical)
include h

/-! ### The service -/

@[simp] theorem State.Canonical.answerReq {l : Nat} {q : Request} {status detail event : Nat} {res : List Byte} :
    (s.answerReq l q status detail event res).Canonical := by
  refine .ite ?_ h.answer
  split
  · exact .ite h.postSend h
  · exact h

@[simp] theorem State.Canonical.answerAll {l : Nat} {qs : List Request} {status detail event : Nat} :
    (s.answerAll l qs status detail event).Canonical := by
  unfold State.answerAll
  exact State.Canonical.foldl (by simp [h]) (fun t x h => by simp [h])

@[simp] theorem State.Canonical.answerBatch {b : SvcBatch} {status detail : Nat} {p : Request → Bool} : (s.answerBatch b status detail p).Canonical := by
  unfold State.answerBatch
  exact State.Canonical.foldl (by simp [h]) (fun t x h => by split <;> simp [h])

@[simp] theorem State.Canonical.setSvc {l : Nat} {v : Option Service} : (s.setSvc l v).Canonical := by simp [State.setSvc, h]

@[simp] theorem State.Canonical.writeBatch {l : Nat} : (s.writeBatch l).Canonical := by
  unfold State.writeBatch
  dsimp only
  split
  · split
    · exact .ite h h.putProg.setLagoon.beginHash
    · exact h
  · exact h

@[simp] theorem State.Canonical.runBatch {l : Nat} : (s.runBatch l).Canonical := by
  unfold State.runBatch
  dsimp only
  split
  · split
    · exact .ite h h.setLagoon.stayLagoon.beginRun
    · exact h
  · exact h

@[simp] theorem State.Canonical.startBatch {l : Nat} : (s.startBatch l).Canonical := h.applyHeld.writeBatch.runBatch
@[simp] theorem State.Canonical.closeWindow {l : Nat} {v : Service} : (s.closeWindow l v).Canonical :=
  .ite h.setSvc (.ite h.setSvc.limitedKind.answerAll h.setSvc.startBatch)

@[simp] theorem State.Canonical.cmdSvcStart {r : Req} : (s.cmdSvcStart r).Canonical := by
  unfold State.cmdSvcStart
  split
  · exact h.no
  · have ha := h.applyHeld (l := r.lag)
    extract_lets t x v
    split
    · exact ha.no
    · exact .ite ha.no (.ite ha.no (.ite ha.no (.ite ha.raise.answer (.ite ha.no ha.setSvc.ok))))

@[simp] theorem State.Canonical.finishStop {l : Nat} : (s.finishStop l).Canonical := by
  unfold State.finishStop
  split
  · split
    · exact .ite h.setSvc.answer h
    · exact h
  · exact h

@[simp] theorem State.Canonical.cmdSvcStop {r : Req} : (s.cmdSvcStop r).Canonical := by
  unfold State.cmdSvcStop
  split
  · exact h.ok
  · exact .ite h.no h.setSvc.answerAll.closeWindow.finishStop

@[simp] theorem State.Canonical.dropService {l : Nat} : (s.dropService l).Canonical := by
  unfold State.dropService
  split
  · exact h
  · exact h.setSvc.answerAll.answerOpt

@[simp] theorem State.Canonical.takeRequest {l : Nat} {q : Request} {rowlen alen : Nat} : (s.takeRequest l q rowlen alen).Canonical := by
  unfold State.takeRequest
  split
  · exact h.answerReq
  · exact .ite h.answerReq (.ite h.answerReq (.ite h.answerReq h.setSvc))

@[simp] theorem State.Canonical.cmdDecide {r : Req} : (s.cmdDecide r).Canonical := by simp [State.cmdDecide, h]
@[simp] theorem State.Canonical.decideSend {l qpn psn : Nat} {body : List Byte} : (s.decideSend l qpn psn body).Canonical :=
  by simp [State.decideSend, h]

@[simp] theorem State.Canonical.serviceRecord {l : Nat} {r : RunRec} : (s.serviceRecord l r).Canonical := by
  unfold State.serviceRecord
  extract_lets x
  split
  · split
    · exact h
    · exact .ite h (.ite h.setSvc.answerBatch.dropService.raise (State.Canonical.finishStop (.answerBatch (.ite h.setSvc.built h.setSvc))))
  · exact h

@[simp] theorem State.Canonical.recordTaken {l : Nat} : (s.recordTaken l).Canonical := by
  unfold State.recordTaken
  split
  · exact h
  · refine .ite h ?_
    extract_lets t
    split
    · exact h.acceptRecord.answerWaits.serviceRecord
    · exact h.acceptRecord

@[simp] theorem State.Canonical.offer {b : Batch} {k : Sink} : (Machine.offer b s k).Canonical := by
  refine .ite h.setSink ?_
  split
  · next ht => exact h.deliver ht
  · exact h.raise

@[simp] theorem State.Canonical.answerSigned {no : Nat} : (s.answerSigned no).Canonical := by
  unfold State.answerSigned
  exact State.Canonical.foldl (by simp [h]) (fun t x h => by simp [h])

@[simp] theorem State.Canonical.batchDone : s.batchDone.Canonical := by
  unfold State.batchDone
  split
  · exact h
  · refine .ite h (State.Canonical.retryFlush ?_)
    have h4 : ∀ {signed : Batch} {b : Batch} {n : Nat}, ((List.range 8).foldl (fun (a : State) l => a.finishStop l)
        (((((s.signBatch b).sinks.foldl (Machine.offer signed) (s.signBatch b)).serveSink 8).answerSigned n))).Canonical := by
      intro signed b n
      exact .foldl (State.Canonical.answerSigned (.serveSink (.foldl h.signBatch fun _ _ ha => ha.offer))) fun _ _ ha => ha.finishStop
    exact .ite h4.closeBatch h4

/-! ### The logbook -/

@[simp] theorem State.Canonical.commitLog : s.commitLog.Canonical := by simp [State.commitLog, h]

/-! ### Signing, life and tokens -/

@[simp] theorem State.Canonical.cmdAttest {r : Req} : (s.cmdAttest r).Canonical := by simp [State.cmdAttest, h]

@[simp] theorem State.Canonical.openDebug {h' : Nat} {via : Option Nat} : (s.openDebug h' via).Canonical := by
  unfold State.openDebug
  exact State.Canonical.foldl (by simp [h]) (fun t x h => by simp [h])

@[simp] theorem State.Canonical.denyToken {h' : Nat} : (s.denyToken h').Canonical := by simp [State.denyToken, h]

@[simp] theorem State.Canonical.cmdDebugOpen {r : Req} : (s.cmdDebugOpen r).Canonical := by
  unfold State.cmdDebugOpen
  dsimp only
  repeat' split
  all_goals simp [h]

@[simp] theorem State.Canonical.cmdDebugClose {r : Req} : (s.cmdDebugClose r).Canonical := by
  unfold State.cmdDebugClose
  split <;> simp [h]

@[simp] theorem State.Canonical.eraseTenant : s.eraseTenant.Canonical := { h with }

@[simp] theorem State.Canonical.zeroAll : s.zeroAll.Canonical := by
  refine .foldl (.foldl ?_ fun _ _ ha => ha.setStack) fun _ _ ha => ha.setChannel
  exact { h with mem := rfl, cores := ⟨rfl, rfl⟩, lagoons := rfl, wheels := rfl }

@[simp] theorem State.Canonical.finishWipe : s.finishWipe.Canonical := by
  refine State.Canonical.raise (.setCounter (.kept h.zeroAll ?_))
  exact h.zeroAll.counters

@[simp] theorem State.Canonical.moveLife {life : Nat} : (s.moveLife life).Canonical := by
  unfold State.moveLife
  exact State.Canonical.foldl (by simp [h]) (fun t x h => by simp [h])

@[simp] theorem State.Canonical.stopAll {cause : Nat} {ref : Option Ref} : (s.stopAll cause ref).Canonical :=
  State.Canonical.powered (.foldl h fun _ _ ha => ha.stopLagoon)

@[simp] theorem State.Canonical.enterReturned : s.enterReturned.Canonical := by
  have hu := ((h.moveLife (life := 3)).kept (k := { (s.moveLife 3).keeper with wipe := true }) h.moveLife.counters).powered
    (p := { (s.moveLife 3).power with cause := 0, ref := none })
  refine State.Canonical.eraseTenant ?_
  exact { (hu.answerOpt (r := s.power.ref) (st := 0) (d := 0) (e := 0x6201) (res := [])).endSessions.endDebug with }

@[simp] theorem State.Canonical.proceed : s.proceed.Canonical := by
  unfold State.proceed
  dsimp only
  repeat' split
  all_goals simp [h]

@[simp] theorem State.Canonical.cmdLifecycle {r : Req} : (s.cmdLifecycle r).Canonical :=
  .ite (.ite h.no (.ite h.no (.ite h.moveLife.endDebug.answer h.stopAll.proceed))) h.no

/-! ### Spares -/

@[simp] theorem State.Canonical.spend {kind place : Nat} : (s.spend kind place).Canonical := { h with }
@[simp] theorem State.Canonical.substituted {kind ploc unit word bit eclass : Nat} : (s.substituted kind ploc unit word bit eclass).Canonical :=
  by simp [State.substituted, h]
@[simp] theorem State.Canonical.markSpared {ploc unit subidx : Nat} : (s.markSpared ploc unit subidx).Canonical := { h with }

@[simp] theorem State.Canonical.copyPositions {p : Nat} : (s.copyPositions p).Canonical := by
  unfold State.copyPositions
  extract_lets k f
  refine { h with cores := h.cores.map f (fun c hc => .ite (by exact { hc with }) hc) fun c hc => ?_ }
  unfold f
  split
  · next hp => exact Core.ne_blank_of_used hp.1
  · exact hc

@[simp] theorem State.Canonical.shortfall {p : Nat} : (s.shortfall p).Canonical := by simp [State.shortfall, h]
@[simp] theorem State.Canonical.coreOut {p : Nat} : (s.coreOut p).Canonical := by simp [State.coreOut, h]

@[simp] theorem State.Canonical.takeOver {p q : Nat} : (s.takeOver p q).Canonical := by
  have h2 : ({ (s.setPhys q { s.physCore q with enabled := true }).moveMarks p q with
      cores := s.cores.map (fun c => (c.1, if c.2.img.used ∧ c.2.img.phys = p then c.2.carried q else c.2))
      wheels := s.wheels.map (fun w => (w.1, { w.2 with owners := w.2.owners.map (fun o => (o.1, renameOwner p q o.2)) })) } :
      State).Canonical := by
    refine { (h.setPhys (n := q) (x := { s.physCore q with enabled := true })).moveMarks (p := p) (q := q) with
      cores := h.cores.map (fun c => if c.img.used ∧ c.img.phys = p then c.carried q else c) (fun c hc => .ite hc.carried hc) fun c hc => ?_
      wheels := Sparse.wf_mapNe (fun w : Nat × Wheel => { w.2 with owners := w.2.owners.map (fun o => (o.1, renameOwner p q o.2)) })
        (fun w => Wheel.renamed_ne_blank) h.wheels }
    split
    · next hp => exact Core.ne_blank_of_used hp.1
    · exact hc
  exact State.Canonical.copyPositions (.foldl h2 fun _ _ ha => ha.setLagoon)

@[simp] theorem State.Canonical.replaceCore {p unit word bit eclass : Nat} : (s.replaceCore p unit word bit eclass).Canonical := by
  refine .ite h (.ite h.coreOut ?_)
  split
  · exact h.coreOut.takeOver.substituted
  · exact h.coreOut.shortfall

/-! ### Power and the way up -/

@[simp] theorem State.Canonical.setGroup {g : Nat} {x : PGroup} : (s.setGroup g x).Canonical := { h with }

@[simp] theorem State.Canonical.writeSetpoints {d : Nat} : (s.writeSetpoints d).Canonical := by
  unfold State.writeSetpoints
  exact State.Canonical.foldl (by simp [h]) (fun t x h => by simp [h])

@[simp] theorem State.Canonical.raisePen {g : Nat} : (s.raisePen g).Canonical := by
  unfold State.raisePen
  dsimp only
  repeat' split
  all_goals simp [h]

@[simp] theorem State.Canonical.lowerPen {g : Nat} : (s.lowerPen g).Canonical := { h with }
@[simp] theorem State.Canonical.endAll : s.endAll.Canonical := by simp [State.endAll, h]

@[simp] theorem State.Canonical.resetDevice {self : Bool} : (s.resetDevice self).Canonical := by
  have he := h.endAll
  unfold State.resetDevice
  extract_lets u
  apply State.Canonical.leafLow
  constructor
  · exact (rfl : Memory.wf [] = true)
  · exact (⟨rfl, rfl⟩ : CoresCanonical [])
  · exact (rfl : Sparse.wf Lagoon.blank [] = true)
  · exact Sparse.wf_mapFilter (fun p : Nat × Stack => { Stack.blank with worn := p.2.worn }) he.hbm
  · exact (rfl : Sparse.wf Wheel.blank [] = true)
  · exact Sparse.wf_mapFilter (fun p : Nat × Ddr => { Ddr.blank with worn := p.2.worn }) he.ddr
  · exact Sparse.wf_mapFilter (fun p : Nat × Region => p.2.kept) he.regions
  · exact Sparse.wf_mapFilter (fun p : Nat × Phys => { p.2 with closed := 0 }) he.phys
  · exact he.counters

@[simp] theorem State.Canonical.lowLagoon {p l : Nat} : (State.lowLagoon p s l).Canonical := by
  have h1 : ∀ q : Option Ref, (match q with
      | some q =>
        if q.op = 0x0103 ∨ q.op = 0x0105 then
          (((s.ownStacks l).foldl (fun (a : State) n => a.setStack n (a.stack n).discard)
            (s.setLagoon l { s.lagoon l with pauseRef := none, hashing := none })).answer q 0x10 p 0 [])
        else s
      | none => s).Canonical := by
    intro q
    split
    · exact .ite (State.Canonical.answer (.foldl h.setLagoon fun _ _ ha => ha.setStack)) h
    · exact h
  exact .ite (h1 _).settle.dropService.clearImage.moveLagoon (.ite (h1 _).clearImage (h1 _))

@[simp] theorem State.Canonical.loseHbm : s.loseHbm.Canonical := .foldl h fun _ _ ha => ha.zeroRange.soundRange.setStack

@[simp] theorem State.Canonical.enterLow {p : Nat} : (s.enterLow p).Canonical := by
  unfold State.enterLow
  extract_lets s1 s2 s3 s4
  have h1 : s1.Canonical := .ite h.commitLog h
  have h2 : s2.Canonical := State.Canonical.endDebug (.foldl h1 fun _ _ ha => ha.lowLagoon)
  have h4 : s4.Canonical := .ite h2.diesOff.lowerPen.loseHbm h2.diesOff
  exact { h4 with }

@[simp] theorem State.Canonical.wakeDie {d : Nat} : (s.wakeDie d).Canonical := .ite h (.foldl h fun _ _ ha => .ite ha.setRegion ha)

@[simp] theorem State.Canonical.hbmLane {x : Nat × Nat} : (s.hbmLane x).Canonical := by
  unfold State.hbmLane
  dsimp only
  split <;> simp [h]

@[simp] theorem State.Canonical.startHbm {lanes : List (Nat × Nat)} {fails : List Nat} : (s.startHbm lanes fails).Canonical := by
  refine .foldl (.foldl (.foldl ?_ fun _ _ ha => ha.hbmLane) fun _ _ ha => ha.setStack) fun _ _ ha => ha.raise
  exact { h with }

@[simp] theorem State.Canonical.trainAgain : s.trainAgain.Canonical := by
  have hd : s.draw.2.Canonical := { h with }
  exact hd.startHbm

@[simp] theorem State.Canonical.wake {p : Nat} : (s.wake p).Canonical := by
  unfold State.wake
  extract_lets s1 t q s2
  have h1 : State.Canonical s1 := .ite (.foldl h.trainAgain fun _ _ ha => .ite ha (.foldl ha fun _ _ hb => hb.clearStack)) h
  have h2 : State.Canonical s2 := .ite h1.wakeDie.wakeDie.powered h1
  exact .ite (.foldl h2.powered fun _ _ ha => ha.startDrain) h2.powered

@[simp] theorem State.Canonical.enterOffReady : s.enterOffReady.Canonical := by
  refine State.Canonical.send ?_
  exact { (h.enterLow (p := 3)).endSessions with }

@[simp] theorem State.Canonical.cmdPower {r : Req} : (s.cmdPower r).Canonical := by
  unfold State.cmdPower
  extract_lets p
  split
  · exact h.no
  · exact .ite h.no (.ite h.no (.ite h.no (.ite h.ok (.ite h.powered (.ite h.powered.raisePen (.ite h.powered.raisePen.raisePen h.powered))))))

@[simp] theorem State.Canonical.dieFails {d : Nat} : (s.dieFails d).Canonical := by
  refine State.Canonical.setGroup (.foldl h fun a i ha => ?_)
  dsimp only
  split
  · exact ha.setRegion.fault
  · exact ha.setRegion.raise

@[simp] theorem State.Canonical.hbmFails : s.hbmFails.Canonical := by
  have hv := (State.Canonical.setGroup (g := 0) (x := ⟨false, false, true⟩) (State.Canonical.enterLow (p := 3)
    (.foldl (l := List.range 20) (f := fun a n => a.raise 0x7202 0 (argM 0x20 0 0 0xFF 0x05) (plocStack n) (a.stackOwner n) none)
      (.foldl (l := List.range 8) (f := fun a l => a.faultLagoon l 0x7202) h fun _ _ ha => ha.faultLagoon) fun _ _ ha => ha.raise)))
  unfold State.hbmFails
  dsimp only
  split
  · exact hv.answerOpt
  · exact hv

@[simp] theorem State.Canonical.takeBmc {h' : Nat} : (s.takeBmc h').Canonical := by
  have ht := (h.sided (x := { s.side with bmcHold := some h', pending := none })).powered (p := { s.power with move := none, ref := none })
  exact .ite ht.answerOpt.answerOpt.powered ht.answerOpt.answerOpt.stopAll.proceed

@[simp] theorem State.Canonical.bmcRequest {h' : Nat} : (s.bmcRequest h').Canonical := by
  unfold State.bmcRequest
  split <;> simp [h]

@[simp] theorem State.Canonical.dropItem {n : Nat} : (s.dropItem n).Canonical := by
  have ht := h.raise (code := 0x6104) (kind := 0) (arg := s.argK 0 0) (ploc := 0x9000) (lag := none) (vc := none)
  refine .ite ?_ (.ite ?_ (.ite ?_ (.ite ?_ (.ite ?_ (.ite ?_ ?_)))))
  · exact { ht with counters := h.counters }
  · exact ht.kept h.counters
  · exact ht.kept h.counters
  · exact ht.kept h.counters
  · exact ht.kept h.counters
  · exact ht.kept h.counters
  · exact { ht with phys := rfl, regions := rfl, counters := h.counters }

@[simp] theorem State.Canonical.tryCopies {fs : List (Option Firmware)} : (State.tryCopies fs s).Canonical := by
  induction fs generalizing s with
  | nil => exact h
  | cons f fs ih =>
    cases f with
    | none => exact ih h.raise
    | some f => exact .ite h.booted (ih h.raise)

@[simp] theorem State.Canonical.hold {code : Nat} : (s.hold code).Canonical := by simp [State.hold, h]

@[simp] theorem State.Canonical.loadLog {bad : List Nat} : (s.loadLog bad).Canonical := by
  refine .foldl (.foldl ?_ fun _ _ ha => ha.setStack) fun _ _ ha => ha.setChannel
  split
  · exact .ite h h.notice
  · split
    · exact h.related
    · split
      · exact h.related.notice
      · exact h.notice

@[simp] theorem State.Canonical.fitDimms {ds : List Dimm} : (s.fitDimms ds).Canonical := by
  unfold State.fitDimms
  extract_lets firstOf
  split
  · exact h
  · exact .foldl h fun _ _ ha => ha.setChannel

@[simp] theorem State.Canonical.startRegions {d : Nat} : (s.startRegions d).Canonical := by
  unfold State.startRegions
  exact State.Canonical.foldl (by simp [h]) (fun t x h => by simp [h])

@[simp] theorem State.Canonical.unitFails {kind unit : Nat} {x : Nat × Nat} : (State.unitFails kind unit s x).Canonical := by
  refine .ite h ?_
  extract_lets p t
  have ht : t.Canonical := h.raise
  split
  · exact .ite ht.setPhys.spend.marred.substituted ht.setPhys.spend
  · exact ht.coreOut

@[simp] theorem State.Canonical.coreFails {p : Nat} : (s.coreFails p).Canonical := by
  unfold State.coreFails
  split <;> simp [h]

@[simp] theorem State.Canonical.fillDie {d n : Nat} : (State.fillDie d n s).Canonical := by
  induction n generalizing s with
  | zero => exact h
  | succ n ih =>
    refine .ite h ?_
    split
    · exact ih h.setPhys
    · exact h

@[simp] theorem State.Canonical.chooseCores {d : Nat} {before : List Nat} : (s.chooseCores d before).Canonical :=
  .ite (State.Canonical.shortfall (.foldl h.fillDie fun _ _ ha => ha.substituted)) (.foldl h.fillDie fun _ _ ha => ha.substituted)

@[simp] theorem State.Canonical.loseBoundary {d b ploc : Nat} : (s.loseBoundary d b ploc).Canonical := by
  unfold State.loseBoundary
  exact State.Canonical.foldl (by simp [h]) (fun t x h => by simp [h])

@[simp] theorem State.Canonical.straitFails {x : Nat × Nat × Nat × Nat} : (s.straitFails x).Canonical := by
  obtain ⟨d, b, dir, lane⟩ := x
  have ht : ({ s with straits := failLane s.straits ((12 * d + b) * 2 + dir) lane, degraded := true } : State).Canonical := { h with }
  exact .ite ht.raise.raise.loseBoundary ht.raise.raise

@[simp] theorem State.Canonical.causewayFails {x : Nat × Nat × Nat} : (s.causewayFails x).Canonical := by simp [State.causewayFails, h]
@[simp] theorem State.Canonical.keepLanes {b : StartUp} : (s.keepLanes b).Canonical := { h with }

@[simp] theorem State.Canonical.startCompute {b : StartUp} : (s.startCompute b).Canonical := by
  unfold State.startCompute
  extract_lets t before s1 s2 s3 s4 s5 s6 s7
  have h1 : s1.Canonical := h.keepLanes.startRegions.startRegions
  have h2 : s2.Canonical := .foldl h1 fun _ _ ha => ha.coreFails
  have h3 : s3.Canonical := .foldl h2 fun _ _ ha => ha.unitFails
  have h4 : s4.Canonical := .foldl h3 fun _ _ ha => ha.unitFails
  have h5 : s5.Canonical := .foldl h4 fun _ _ ha => ha.unitFails
  have h6 : s6.Canonical := .foldl h5 fun _ _ ha => ha.straitFails
  have h7 : s7.Canonical := .foldl h6 fun _ _ ha => ha.causewayFails
  exact h7.chooseCores.chooseCores

@[simp] theorem State.Canonical.becomeReady : s.becomeReady.Canonical := by
  unfold State.becomeReady
  dsimp only
  split <;> simp [h]

@[simp] theorem State.Canonical.afterFirmware {b : StartUp} : (s.afterFirmware b).Canonical := by
  unfold State.afterFirmware
  extract_lets b1 t1 s1 s2 s3 good s4 s5 s6 s7
  have h1 : s1.Canonical := { h with }
  have h2 : s2.Canonical := h1.loadLog.fitDimms
  have h3 : s3.Canonical := h2.raisePen.raisePen.raisePen
  have h5 : s5.Canonical := h3.setGroup.startHbm.setGroup.setGroup.startCompute
  have h6 : s6.Canonical := .ite h5 h5.dieFails
  have h7 : s7.Canonical := .ite h6 h6.dieFails
  exact .ite h3.hbmFails (.ite h7.becomeReady h7)

@[simp] theorem State.Canonical.rebuild : s.rebuild.Canonical := { h with }

@[simp] theorem State.Canonical.startUp {b : StartUp} : (s.startUp b).Canonical := by
  unfold State.startUp
  extract_lets st q1 q2 q3 s1 s2 s3 q4 s4 s5 s6
  have h1 : s1.Canonical := { h with }
  have h2 : s2.Canonical := h1.setCounter
  have h4 : s4.Canonical := State.Canonical.ported (.foldl h2.rebuild fun _ _ ha => ha.dropItem)
  have h5 : s5.Canonical := .ite h4.raise.eraseTenant.finishWipe h4
  exact .ite h2.hold (.ite h5.booted (.ite h5.tryCopies.hold h5.tryCopies.afterFirmware))

/-! ### The sideband -/

@[simp] theorem State.Canonical.sideSend {kind : Nat} {body : List Byte} : (s.sideSend kind body).Canonical := { h with }
@[simp] theorem State.Canonical.writeCopy {second : Bool} {f : Firmware} : (s.writeCopy second f).Canonical := { h with }

/-! ### JTAG -/

@[simp] theorem State.Canonical.shift {ir n v : Nat} : (s.shift ir n v).Canonical := { h with }
@[simp] theorem State.Canonical.tap {t : State} (ht : t.Canonical) : (s.tap t).Canonical := by simp [State.tap, h, ht]
@[simp] theorem State.Canonical.asBypass {ir : Nat} : (s.asBypass ir).Canonical := { h with }
@[simp] theorem State.Canonical.boundary {ir : Nat} {d : List Bool} : (s.boundary ir d).Canonical := { h with }
@[simp] theorem State.Canonical.takeToken {h' : Nat} : (s.takeToken h').Canonical :=
  .ite h.setCounter.raise.moveLife.endDebug.tapped h.openDebug.tapped

@[simp] theorem State.Canonical.dbgacc {w : BitVec 128} {mine : Bool} {level : Nat} {f : State → Option (State × Nat)}
    (hf : ∀ (u : State) r, u.Canonical → f u = some r → r.1.Canonical) :
    (s.dbgacc w mine level f).Canonical := by
  refine .ite h ?_
  split
  · exact h.asBypass
  · refine .ite h.shift.tapped ?_
    split
    · next hr => exact (hf _ _ h.shift hr).tapped
    · exact h.shift.tapped

@[simp] theorem State.Canonical.wrote {w : BitVec 128} : (s.wrote w).Canonical := by simp [State.wrote, h]
@[simp] theorem State.Canonical.debugCore {c : CoreId} : (s.debugCore c).Canonical := h.setCore h.core.landDue

@[simp] theorem State.Canonical.dbgControl {w : BitVec 128} {mine : Bool} {f : State → Core → State}
    (hf : ∀ (u : State) (d : Core), u.Canonical → d.Canonical → (f u d).Canonical) :
    (s.dbgControl w mine f).Canonical := by
  refine h.dbgacc fun u r hu hr => ?_
  split at hr
  · cases hr
  · split at hr
    · cases hr
      exact hf _ _ hu hu.core
    · cases hr
      exact hu

/-! ### Channel wheels -/

theorem State.Canonical.harbourSlot {w : Nat} {t : State} (ht : s.harbourSlot w = some t) : t.Canonical := by
  unfold State.harbourSlot at ht
  dsimp only at ht
  split at ht
  · cases ht
  · cases ht
    exact h.setWheel

theorem State.Canonical.drainSlot {l w : Nat} {t : State} (ht : s.drainSlot l w = some t) : t.Canonical := by
  unfold State.drainSlot at ht
  split at ht
  · cases ht
  · split at ht
    · cases ht
    · rw [← Option.some_inj.mp ht]
      refine .ite (State.Canonical.sendDrain (.setLagoon ?_)) (.setLagoon ?_)
      all_goals
        split
        · exact h.meetBad
        · exact h

@[simp] theorem State.Canonical.lend {l w : Nat} {bad : Bool} : (s.lend l w bad).Canonical := by
  refine .ite h ?_
  split
  · next ht => exact h.harbourSlot ht
  · split
    · exact h.serveShoal
    · cases ht : s.drainSlot l w with
      | none => exact h
      | some t => exact h.drainSlot ht

/-! ### Substitutions -/

@[simp] theorem State.Canonical.laneRetry {x : Nat} : (s.laneRetry x).Canonical := by
  unfold State.laneRetry
  split <;> simp [h]

@[simp] theorem State.Canonical.markBad {e : ErrAt} : (s.markBad e).Canonical := by
  unfold State.markBad
  dsimp only
  repeat' split
  all_goals simp [h]

@[simp] theorem State.Canonical.dropLine {e : ErrAt} : (s.dropLine e).Canonical := by simp [State.dropLine, h]
@[simp] theorem State.Canonical.replaced {n : Nat} {x : Subst} : (s.replaced n x).Canonical := State.Canonical.related h.substituted.markSpared
@[simp] theorem State.Canonical.noSpare {n : Nat} {f : State → State} (hf : ∀ u : State, u.Canonical → (f u).Canonical) : (s.noSpare n f).Canonical :=
  by simp [State.noSpare, h, hf]

@[simp] theorem State.Canonical.replacePosition {n : Nat} {x : Subst} {pass : Bool} : (s.replacePosition n x pass).Canonical := by
  have hlose := h.noSpare (n := n) (f := fun t => t.replaceCore (plocPhys x.ploc) x.unit x.word x.bit x.eclass) fun _ hu => hu.replaceCore
  refine .ite ?_ ?_
  · split
    · exact h.marred.setPhys.spend.copyPositions.replaced
    · exact hlose
  · split
    · exact h.setPhys.spend
    · exact hlose

@[simp] theorem State.Canonical.dropSpareCore {p : Nat} : (s.dropSpareCore p).Canonical := by
  unfold State.dropSpareCore
  dsimp only
  split <;> simp [h]

@[simp] theorem State.Canonical.wear {ploc : Nat} : (s.wear ploc).Canonical := by simp [State.wear, h]

@[simp] theorem State.Canonical.loseRegion {d b ploc : Nat} : (s.loseRegion d b ploc).Canonical := by
  unfold State.loseRegion
  dsimp only
  split <;> simp [h]

@[simp] theorem State.Canonical.replaceLane {n : Nat} {x : Subst} {pass : Bool} : (s.replaceLane n x pass).Canonical := by
  unfold State.replaceLane
  extract_lets key out lane out' lane'
  have hout : ∀ (t : State) n, t.Canonical → (out t n).Canonical := fun _ _ ht => ht.lanesOut
  have hout' : ∀ (t : State) n, t.Canonical → (out' t n).Canonical := fun _ _ ht => ht.lanesOut
  refine .ite ?_ ?_
  · split
    · exact .ite (hout _ _ h).replaced (hout _ _ h)
    · exact h.noSpare fun _ hu => (hout _ _ hu).loseRegion
  · split
    · exact .ite (hout' _ _ h).replaced (hout' _ _ h)
    · exact h.noSpare fun _ hu => hout' _ _ hu

/-! ### The mailbox rows -/

@[simp] theorem State.Canonical.cmdNop {r : Req} : (s.cmdNop r).Canonical := by simp [State.cmdNop, h]
@[simp] theorem State.Canonical.cmdClose {r : Req} : (s.cmdClose r).Canonical := by simp [State.cmdClose, h]

@[simp] theorem State.Canonical.cmdEvents {r : Req} : (s.cmdEvents r).Canonical := by
  unfold State.cmdEvents
  split <;> simp [h]

@[simp] theorem State.Canonical.effect {r : Req} : (s.effect r).Canonical := by
  have hnet : (if r.item = 0 then s.cmdNetMac r else if r.item = 1 then s.cmdNetLinkLocal r
      else if r.item = 0x11 then s.cmdNetHmpport r else s.cmdNetAddress r).Canonical :=
    .ite h.cmdNetMac (.ite h.cmdNetLinkLocal (.ite h.cmdNetHmpport h.cmdNetAddress))
  have hqos : (if r.item = 0 then s.cmdQosPriorities r else if r.item = 1 then s.cmdQosDscpMap r else s.cmdQosPfcwd r).Canonical :=
    .ite h.cmdQosPriorities (.ite h.cmdQosDscpMap h.cmdQosPfcwd)
  unfold State.effect
  split
  case h_24 => exact hnet
  case h_25 => exact hqos
  all_goals simp [h]

@[simp] theorem State.Canonical.runCmd {r : Req} : (s.runCmd r).Canonical := by simp [State.runCmd, h]

@[simp] theorem State.Canonical.startCmd {r : Req} : (s.startCmd r).Canonical := by
  unfold State.startCmd
  split
  · exact h.no
  · exact .ite (.ite h h.runCmd) h.setPhase

@[simp] theorem State.Canonical.sendReply {x : Session} {c : Cmd} {kind : Nat} {body : List Byte} : (s.sendReply x c kind body).Canonical :=
  { h with }
@[simp] theorem State.Canonical.replyOnly {x : Session} {c : Cmd} {status detail : Nat} : (s.replyOnly x c status detail).Canonical := { h with }

@[simp] theorem State.Canonical.take {x : Session} {c : Cmd} : (s.take x c).Canonical := by
  unfold State.take
  split <;> simp [h]

@[simp] theorem State.Canonical.accept {x : Session} {c : Cmd} : (s.accept x c).Canonical := by
  unfold State.accept
  dsimp only
  repeat' split
  all_goals simp [h]

@[simp] theorem State.Canonical.takeBody {x : Session} {c : Cmd} {mine : Req → Bool} : (s.takeBody x c mine).Canonical := by
  unfold State.takeBody
  dsimp only
  repeat' split
  all_goals simp [h]

@[simp] theorem State.Canonical.cmdRow {f : Frame} {mine : Req → Bool} : (s.cmdRow f mine).Canonical := by
  refine h.checkFrame fun u hu => ?_
  split
  · exact hu.dropFrame
  · split
    · exact hu.rejectFrame
    · exact hu.takeBody

/-! ### Slots -/

@[simp] theorem State.Canonical.slot {c : CoreId} {w : Slot} {f : Core → Res Core} (hf : ∀ k : Core, k.Canonical → (f k).Gives Core.Canonical) :
    (s.slot c w f).Canonical := .ite (h.act fun _ hk => Core.Canonical.charged (hf _ hk.landDue)) h
@[simp] theorem State.Canonical.vecSlot {c : CoreId} {vop : Nat} {w : BitVec 64} : (s.vecSlot c vop w).Canonical := h.slot fun _ hk => hk.issueVec
@[simp] theorem State.Canonical.moveSlot {c : CoreId} {vop : Nat} {w : BitVec 64} : (s.moveSlot c vop w).Canonical :=
  h.slot fun _ hk => hk.issueMove
@[simp] theorem State.Canonical.bSlot {c : CoreId} {kind : Nat} {w : BitVec 64} : (s.bSlot c kind w).Canonical := h.slot fun _ hk => hk.issueBpath

/-! ### The step -/

end

end Sys2Proof.Machine
end

section
/-! The canonical form is kept by every command of the machine (R179 to R181). -/

namespace Sys2Proof.Machine

/-- What an outcome leaves, if it is a state, is canonical. -/
def Keeps (o : Host.Outcome State Fault Refusal) : Prop := ∀ t, o = .next t → t.Canonical

@[simp] theorem keeps_next {t : State} : Keeps (.next t) ↔ t.Canonical := ⟨fun h => h t rfl, fun h _ he => Host.Outcome.next.inj he ▸ h⟩

section commands

variable {s : State} (h : s.Canonical)
include h

/-! ### Steps that answer a state if they are due -/

theorem State.Canonical.of_place {xs : List Nat} {n way : Nat} {t : State} (he : s.place xs n = (t, way)) : t.Canonical := by
  have hp := h.place (xs := xs) (n := n)
  rwa [he] at hp

theorem State.Canonical.postReef {c : CoreId} {n : Nat} {word : BitVec 1024} {op : Nat} {sq : SeqId} {fails : Nat} {t : State}
    (ht : s.postReef c n word op sq fails = some t) : t.Canonical := by
  have h1 : ∀ (b : Bool) q r, (if b then s.setCore c ((s.core c).setQueue q r) else s).Canonical := fun _ _ _ =>
    .ite (h.setCore h.core.setQueue) h
  have h2 : ∀ (b : Bool) q r, (if fails = 0 then (if b then s.setCore c ((s.core c).setQueue q r) else s)
      else (if b then s.setCore c ((s.core c).setQueue q r) else s).baseRetry n 0 c.lagoon (some c.v)).Canonical := fun b q r =>
    .ite (h1 b q r) (h1 b q r).baseRetry
  unfold State.postReef at ht
  extract_lets k st riq q wants at ht
  split at ht
  · cases ht
  · rw [← Option.some_inj.mp ht]
    refine .ite (h2 _ _ _).baseFail.uncorrectable ?_
    split
    next he => exact ((h2 _ _ _).of_place he).setStack

theorem State.Canonical.sendHead {c : CoreId} {n fails : Nat} {t : State} (ht : s.sendHead c n fails = some t) : t.Canonical := by
  unfold State.sendHead at ht
  extract_lets k i q at ht
  split at ht
  · cases ht
  extract_lets w dest hd _ sq at ht
  split at ht
  · cases ht
  have hpost : ∀ {st word op sq u}, (s.postReef c st word op sq fails).map (fun v => v.popHead c i) = some u → u.Canonical := by
    intro st word op sq u hu
    obtain ⟨v, hv, rfl⟩ := Option.map_eq_some_iff.mp hu
    exact (h.postReef hv).popHead
  split at ht
  · split at ht
    · cases ht
    · cases ht
      exact h.reserveRoom.popHead.flyMsgs
  · split at ht
    · cases ht
    · split at ht
      · cases ht
      · have h1 : ∀ ds : List Nat, ∀ hd, (ds.foldl (fun (a : State) d => a.reserveRoom c.lagoon d hd) s).Canonical :=
          fun _ _ => .foldl h fun _ _ ha => ha.reserveRoom
        extract_lets _ _ _ _ at ht
        cases ht
        exact State.Canonical.flyMsgs (.setCore (h1 _ _) (.setQueue (State.Canonical.core (h1 _ _))))
  · split at ht
    · cases ht
    · split at ht
      · split at ht
        · cases ht
        · split at ht
          · cases ht
          · exact hpost ht
      · split at ht
        · cases ht
        · cases ht
          exact h.popHead.flyMsgs
  · split at ht
    · cases ht
    · split at ht
      · cases ht
      · exact hpost ht
  · cases ht

@[simp] theorem State.Canonical.combine {fuel l : Nat} {q : CombQueue} : (State.combine fuel s l q).Canonical := by
  induction fuel generalizing s q with
  | zero => exact h.setComb
  | succ fuel ih =>
    unfold State.combine
    dsimp only
    split
    · exact h.setComb.meetCore
    · split
      · exact h.setComb.fault
      · split
        · exact ih h.reserveRoom.arrive
        · exact h.setComb

theorem State.Canonical.ferryHead {n p dir : Nat} {r : QEntry × State} (hr : s.ferryHead n p dir = some r) : r.2.Canonical := by
  unfold State.ferryHead at hr
  split at hr
  · exact h.ferryNext hr
  · split at hr
    · split at hr
      · cases hr
        exact h.setCrossing
      · cases hr
    · cases hr

theorem State.Canonical.ferryReady {p : Nat} {r : Nat × Nat × Nat × QEntry × State} (hr : s.ferryReady p = some r) : r.2.2.2.2.Canonical := by
  obtain ⟨dir, _, hd⟩ := List.exists_of_findSome?_eq_some hr
  split at hd
  · cases hd
  · split at hd
    · obtain ⟨q, hq, rfl⟩ := Option.map_eq_some_iff.mp hd
      exact h.ferryHead hq
    · cases hd

@[simp] theorem State.Canonical.copyBack {l src off : Nat} {ps : List (Nat × Nat)} : (State.copyBack l src off ps s).Canonical := by
  induction ps generalizing s off with
  | nil => exact h
  | cons p ps ih => exact ih h.putProg

omit h in
theorem Core.Canonical.soundCoreOf {c : CoreId} {k : Core} (hk : k.Canonical) : (s.soundCoreOf c k).Canonical :=
  .ite hk { hk with row := hk.row.update }

omit h in
theorem Core.Canonical.rowCoreOf {c : CoreId} {n : Nat} {k : Core} (hk : k.Canonical) : (s.rowCoreOf c n k).Canonical := by
  unfold State.rowCoreOf
  dsimp only
  split
  · exact hk
  · exact .ite hk hk.takeReads

theorem State.Canonical.stamped {n : Nat} : ({ s with stamp := n } : State).Canonical := { h with }

/-! ### Commands with an effect of their own -/

theorem State.Canonical.execFenceComplete {c : CoreId} {n : Nat} : Keeps (Machine.execFenceComplete c n s) := by
  refine keeps_next.mpr ?_
  split
  · exact h
  · exact .ite (h.finish (Res.gives_ok.mpr h.core.fenceComplete)) h

theorem State.Canonical.execBarrierRelease {l b : Nat} : Keeps (Machine.execBarrierRelease l b s) := by
  refine keeps_next.mpr ?_
  split
  · exact h
  · exact .ite (.foldl h.setLagoon fun _ _ ha => ha.releaseMember) h

theorem State.Canonical.execMessageSend {c : CoreId} {n fails : Nat} : Keeps (Machine.execMessageSend c n fails s) := by
  refine keeps_next.mpr (.ite ?_ h)
  split
  · exact h.meetCore
  · next ht _ => exact h.sendHead ht
  · exact h

theorem State.Canonical.execCombiningContribution {l n src : Nat} : Keeps (Machine.execCombiningContribution l n src s) := by
  unfold Machine.execCombiningContribution
  refine keeps_next.mpr ?_
  extract_lets x
  split
  · exact .ite h (.ite h.setLagoon.msgDone.progressed.raise h.setLagoon.msgDone.progressed.combine)
  · exact h

theorem State.Canonical.execMessageDelivery {l dst src : Nat} : Keeps (Machine.execMessageDelivery l dst src s) := by
  refine keeps_next.mpr (.ite h (.ite ?_ ?_))
  · split
    · exact h
    · exact .ite h.combine.progressed h
  · split
    · exact h
    · exact .ite h h.setLagoon.arrive.msgDone.progressed

theorem State.Canonical.execCombine {st iss : Nat} : Keeps (Machine.execCombine st iss s) := by
  refine keeps_next.mpr ?_
  split
  · exact .foldl h fun _ _ ha => ha.tryGroup
  · dsimp only
    split
    · exact h.reefFault
    · exact .ite h.reefFault (.ite h.reefFault h.setStack.tryGroup)

theorem State.Canonical.execReefOpComplete {st : Nat} {d : ReefDone} : Keeps (Machine.execReefOpComplete st d s) := by
  refine keeps_next.mpr ?_
  split
  · exact h
  · exact .ite h.reefFinish (.ite h.baseRetry.reefFinish h.baseRetry.baseFail.uncorrectable)

theorem State.Canonical.execStreamIssue {c : CoreId} {q : SeqId} {w : BitVec 64} : Keeps (Machine.execStreamIssue c q w s) :=
  keeps_next.mpr (.ite (h.act fun _ hk => hk.acceptStream) h)

theorem State.Canonical.execTransactionRelease {c : CoreId} {op : Nat} : Keeps (Machine.execTransactionRelease c op s) := by
  refine keeps_next.mpr ?_
  split
  · exact h
  next o _ =>
  split
  · exact h
  next t _ =>
  refine .ite ?_ h
  split
  · exact h.meetCore
  · next hp => exact h.setCore (((h.core.landDue.prepare).of_eq hp).setOp)
  · next hp =>
    have hk := h.core.landDue.prepare.of_eq hp
    exact State.Canonical.stamped (h.place.setCore hk.markReleased)
  · exact h
  · exact h.streamFault

theorem State.Canonical.execTransactionResponse {c : CoreId} {op txn fails : Nat} : Keeps (Machine.execTransactionResponse c op txn fails s) := by
  refine keeps_next.mpr ?_
  split
  · exact h
  · split
    · exact h
    · extract_lets w g n side retry
      have hretry : ∀ u : State, u.Canonical → (retry u).Canonical := fun _ hu => .ite hu.baseRetry hu.corrected
      have h1 : ∀ t : Txn, (if t.write then s.unwrite c.lagoon t else s).Canonical := fun _ => .ite h.unwrite h
      have hu : ∀ (t : Txn) (u : State), u.Canonical → (if t.retried then u else retry u).Canonical := fun _ _ hu => .ite hu (hretry _ hu)
      refine .ite h (.ite h.respond (.ite (.ite (hretry _ h).respond (hretry _ h).readAgain) (.ite ?_ ?_)))
      · exact (hu _ _ (h1 _)).baseFail.uncorrectable
      · exact (hu _ _ (h1 _)).uncorrectable

theorem State.Canonical.execStreamQmark {c : CoreId} {n : Nat} : Keeps (Machine.execStreamQmark c n s) :=
  keeps_next.mpr (.ite (h.finish (Res.gives_ok.mpr h.core.streamQmark)) h)
theorem State.Canonical.execStreamQmatch {c : CoreId} {n : Nat} : Keeps (Machine.execStreamQmatch c n s) :=
  keeps_next.mpr (.ite (h.finish h.core.streamQmatch) h)
theorem State.Canonical.execCancelDiscardDone {c : CoreId} : Keeps (Machine.execCancelDiscardDone c s) :=
  keeps_next.mpr (.ite (h.setCore h.core.cancelDone) h)

theorem State.Canonical.execDeadlock {l : Nat} : Keeps (Machine.execDeadlock l s) := by
  refine keeps_next.mpr ?_
  dsimp only
  repeat' split
  all_goals simp [h]

theorem State.Canonical.execFerryLineReceived {p fails : Nat} : Keeps (Machine.execFerryLineReceived p fails s) := by
  refine keeps_next.mpr ?_
  split
  · exact h
  · next hr =>
    have h1 := h.ferryReady hr
    exact .ite h (.ite (State.Canonical.progressed (.ferryPut h1)) (.ite (State.Canonical.progressed (.ferryPut (.corrected h1)))
      (State.Canonical.fault (.countError (.setPhys h1)))))

theorem State.Canonical.execProgramBoundary {l raise : Nat} : Keeps (Machine.execProgramBoundary l raise s) :=
  keeps_next.mpr (.ite (.foldl h.applyHeld fun _ _ ha => ha.ageing) h)

theorem State.Canonical.execThermalGovernorTick {r rate : Nat} : Keeps (Machine.execThermalGovernorTick r rate s) := by
  refine keeps_next.mpr ?_
  split <;> simp [h]

theorem State.Canonical.execRegionResume {r : Nat} : Keeps (Machine.execRegionResume r s) := by
  refine keeps_next.mpr ?_
  repeat' split
  all_goals simp [h]

theorem State.Canonical.execAvsbusStatusTimeout {r : Nat} : Keeps (Machine.execAvsbusStatusTimeout r s) := by
  refine keeps_next.mpr ?_
  repeat' split
  all_goals simp [h]

theorem State.Canonical.execTemperatureSample {r : Nat} {tj : Int} : Keeps (Machine.execTemperatureSample r tj s) := by
  refine keeps_next.mpr (.ite h ?_)
  exact .ite (State.Canonical.thermalTrip (.ite h.setRegion.raise h.setRegion)) (.ite h.setRegion.raise h.setRegion)

theorem State.Canonical.execRailLow {r mv : Nat} : Keeps (Machine.execRailLow r mv s) := keeps_next.mpr (.ite h.setRail.setRegion.raise h)
theorem State.Canonical.execRailRecover {r : Nat} : Keeps (Machine.execRailRecover r s) := by simp [Machine.execRailRecover, h]

theorem State.Canonical.execRailFail {r : Nat} : Keeps (Machine.execRailFail r s) := by
  refine keeps_next.mpr ?_
  repeat' split
  all_goals simp [h]

theorem State.Canonical.execTideTick  : Keeps (Machine.execTideTick s) :=
  keeps_next.mpr (.ite (.foldl h.chargeAll.stallTick.paceTick.crossTick.sendTick.timed fun _ _ ha => ha.watch) h)
theorem State.Canonical.execPtpSync {p : PtpMsg} {domain : Nat} : Keeps (Machine.execPtpSync p domain s) :=
  keeps_next.mpr (.ite h (h.frameIn fun _ hu => hu.synchronise.askDelay))

theorem State.Canonical.execHoldoverTimeout  : Keeps (Machine.execHoldoverTimeout s) := by
  refine keeps_next.mpr ?_
  repeat' split
  all_goals simp [h]

theorem State.Canonical.execDeferredTideStep  : Keeps (Machine.execDeferredTideStep s) := by
  refine keeps_next.mpr ?_
  split <;> simp [h]

theorem State.Canonical.execPpsEdge  : Keeps (Machine.execPpsEdge s) := by
  refine keeps_next.mpr ?_
  dsimp only
  repeat' split
  all_goals simp [h]

theorem State.Canonical.execGuardWindow {r : Nat} : Keeps (Machine.execGuardWindow r s) := by
  refine keeps_next.mpr ?_
  split
  · exact h
  · exact .ite (.foldl h fun _ _ ha => ha.fillBucket) h

theorem State.Canonical.execLaunch {l : Nat} : Keeps (Machine.execLaunch l s) := by
  refine keeps_next.mpr ?_
  split
  · exact h
  · exact .ite (.ite h.setLagoon.raise.answerOpt (.ite h.setLagoon.raise.answerOpt h.beginRun)) h

theorem State.Canonical.execOutputHashDone {l : Nat} : Keeps (Machine.execOutputHashDone l s) := by
  refine keeps_next.mpr ?_
  dsimp only
  repeat' split
  all_goals simp [h]

theorem State.Canonical.execBatchWindowExpiry  : Keeps (Machine.execBatchWindowExpiry s) := by simp [Machine.execBatchWindowExpiry, h]

theorem State.Canonical.execRoceWrite {p : Packet} : Keeps (Machine.execRoceWrite p s) := by
  refine keeps_next.mpr (h.roceIn fun u q hu => hu.inOrder (fun t q ht => .ite ht.dropFrame ?_) fun _ _ ht => ht.ackPacket)
  split
  · exact ht.refuseRoce
  · exact ht.setQp.land.ackPacket

theorem State.Canonical.execRoceRead {p : Packet} : Keeps (Machine.execRoceRead p s) :=
  keeps_next.mpr (h.roceIn fun _ _ hu => hu.inOrder (fun _ _ ht => .ite ht.setQp.serveRead ht.refuseRoce) fun _ _ ht => ht.serveRead)

theorem State.Canonical.execRoceReadResponse {p : Packet} : Keeps (Machine.execRoceReadResponse p s) := by
  refine keeps_next.mpr (h.roceIn fun u q hu => ?_)
  split
  · split
    · exact hu.dropFrame
    · exact .ite hu.dropFrame hu.setQp.land
  · exact hu.dropFrame

theorem State.Canonical.execRoceAck {p : Packet} : Keeps (Machine.execRoceAck p s) := by
  refine keeps_next.mpr (h.roceIn fun u q hu => ?_)
  extract_lets upto acked done q1 t
  have ht : t.Canonical := .foldl hu.setQp fun _ _ ha => ha.completeWork
  exact .ite ht (.ite (.ite ht.failQp ht.resend) (.ite (.ite ht.failQp ht.resend) ht.failQp))

theorem State.Canonical.execRoceAckTimeout {qpn : Nat} : Keeps (Machine.execRoceAckTimeout qpn s) := by
  refine keeps_next.mpr ?_
  repeat' split
  all_goals simp [h]

theorem State.Canonical.execCnpReceived {p : Packet} : Keeps (Machine.execCnpReceived p s) := by
  refine keeps_next.mpr (h.roceIn fun u q hu => ?_)
  have hd : u.draw.2.Canonical := { hu with }
  exact hd.setQp

theorem State.Canonical.execLinkUp {lanes : Nat} : Keeps (Machine.execLinkUp lanes s) := by
  refine keeps_next.mpr (.ite h ?_)
  split
  · exact h
  · exact .ite h.ported.countLink.notice.countLink.notice h.ported.countLink.notice

theorem State.Canonical.execLinkDown  : Keeps (Machine.execLinkDown s) := by
  refine keeps_next.mpr ?_
  split <;> simp [h]

theorem State.Canonical.execFecDegraded  : Keeps (Machine.execFecDegraded s) := by
  refine keeps_next.mpr ?_
  split <;> simp [h]

theorem State.Canonical.execPauseFrame {prio : Nat} {on : Bool} : Keeps (Machine.execPauseFrame prio on s) := by simp [Machine.execPauseFrame, h]

theorem State.Canonical.execPfcHold {prio : Nat} : Keeps (Machine.execPfcHold prio s) := by
  refine keeps_next.mpr ?_
  repeat' split
  all_goals simp [h]

theorem State.Canonical.execMkaFrame {m : Mka} : Keeps (Machine.execMkaFrame m s) := by simp [Machine.execMkaFrame, h]

theorem State.Canonical.execMacsecPeerLost  : Keeps (Machine.execMacsecPeerLost s) := by
  refine keeps_next.mpr ?_
  split <;> simp [h]

theorem State.Canonical.execNeighbourAdvertisement {p : NetFrame} : Keeps (Machine.execNeighbourAdvertisement p s) :=
  keeps_next.mpr (.ite h (h.frameIn fun _ hu => .ite hu.dropFrame hu.resolve))
theorem State.Canonical.execArpReply {p : NetFrame} : Keeps (Machine.execArpReply p s) :=
  keeps_next.mpr (.ite h (h.frameIn fun _ hu => .ite hu.resolve hu.dropFrame))
theorem State.Canonical.execPeerDelayRequest {p : NetFrame} : Keeps (Machine.execPeerDelayRequest p s) :=
  keeps_next.mpr (.ite h (h.frameIn fun _ hu => hu.send))

theorem State.Canonical.execLighthouseProbe {p : Probe} : Keeps (Machine.execLighthouseProbe p s) := by
  refine keeps_next.mpr (.ite h ?_)
  split
  · exact h
  · exact h.frameIn fun _ hu => .ite hu.dropProbe (.ite hu.dropProbe.limited hu.ported)

theorem State.Canonical.execLighthouseReply  : Keeps (Machine.execLighthouseReply s) := by
  refine keeps_next.mpr ?_
  dsimp only
  repeat' split
  all_goals simp [h]

theorem State.Canonical.execHello {f : Frame} : Keeps (Machine.execHello f s) := by
  refine keeps_next.mpr (h.checkFrame fun u hu => .ite hu.dropFrame ?_)
  split
  · exact hu.sendClear
  · split
    · exact hu.openShake
    · exact hu

theorem State.Canonical.execFinish {f : Frame} : Keeps (Machine.execFinish f s) := by
  refine keeps_next.mpr (h.checkFrame fun u hu => ?_)
  split
  · exact hu.dropFrame
  · split
    · exact .ite hu.openSession hu.failShake
    · exact hu.failShake

theorem State.Canonical.execCertGet {f : Frame} : Keeps (Machine.execCertGet f s) :=
  keeps_next.mpr (h.checkFrame fun _ hu => .ite hu.dropFrame hu.sendClear)

theorem State.Canonical.execHandshakeTimeout {n : Nat} : Keeps (Machine.execHandshakeTimeout n s) := by
  refine keeps_next.mpr ?_
  split <;> simp [h]

theorem State.Canonical.execSessionTimeout {n : Nat} : Keeps (Machine.execSessionTimeout n s) := by
  refine keeps_next.mpr ?_
  split <;> simp [h]

theorem State.Canonical.execMemoryClearingDone {l : Nat} : Keeps (Machine.execMemoryClearingDone l s) := by
  have hu : ∀ ms ns : List Nat, (ns.foldl State.clearChan (ms.foldl State.clearStack s)).Canonical := fun _ _ =>
    .foldl (.foldl h fun _ _ ha => ha.clearStack) fun _ _ ha => ha.clearChan
  exact keeps_next.mpr (.ite h (.ite (hu _ _).setLagoon.moveLagoon.answerOpt (hu _ _).moveLagoon.setLagoon.answerOpt))

theorem State.Canonical.execLoadDone {l : Nat} : Keeps (Machine.execLoadDone l s) := by
  unfold Machine.execLoadDone
  refine keeps_next.mpr ?_
  split
  · exact .ite (State.Canonical.answer (.ite h.setLagoon.stayLagoon h.setLagoon.moveLagoon)) h
  · exact h

theorem State.Canonical.execSealDone {l : Nat} : Keeps (Machine.execSealDone l s) := by
  unfold Machine.execSealDone
  refine keeps_next.mpr ?_
  split
  · exact .ite h.setLagoon.stayLagoon.answer h
  · exact h

theorem State.Canonical.execPauseDone {l : Nat} : Keeps (Machine.execPauseDone l s) := by
  unfold Machine.execPauseDone
  refine keeps_next.mpr ?_
  split
  · exact .ite h.setLagoon.moveLagoon.answer h
  · exact h

theorem State.Canonical.execStopDone {l : Nat} : Keeps (Machine.execStopDone l s) :=
  keeps_next.mpr (.ite h.setLagoon.moveLagoon.answerStart.answerOpt h)

theorem State.Canonical.execCkSnapshotDone {l : Nat} : Keeps (Machine.execCkSnapshotDone l s) := by
  refine keeps_next.mpr ?_
  repeat' split
  all_goals simp [h]

theorem State.Canonical.execCkDrainDone {l : Nat} : Keeps (Machine.execCkDrainDone l s) := by
  refine keeps_next.mpr ?_
  split
  · exact h
  · split
    · exact h
    · exact .ite h h.setLagoon.raise.answer.startDrain

theorem State.Canonical.execCkRestored {l : Nat} : Keeps (Machine.execCkRestored l s) := by
  refine keeps_next.mpr ?_
  split
  · exact h
  · refine State.Canonical.answer (.raise (.setLagoon (.putProg (.putProg (.putProg (.copyBack (.foldl h.harbourMovesAt ?_)))))))
    intro b p hb
    exact hb.harbourMovesAt

theorem State.Canonical.execDecisionWindowClose {l : Nat} : Keeps (Machine.execDecisionWindowClose l s) := by
  refine keeps_next.mpr ?_
  split <;> simp [h]

theorem State.Canonical.execRoceSend {p : Packet} : Keeps (Machine.execRoceSend p s) :=
  keeps_next.mpr (h.roceIn fun _ _ hu => hu.inOrder (fun _ _ ht => .ite ht.setQp.ackPacket.decideSend ht.send) fun _ _ ht => ht.ackPacket)
theorem State.Canonical.execLogbookSecond {at_ : SecondAt} : Keeps (Machine.execLogbookSecond at_ s) := by simp [Machine.execLogbookSecond, h]
theorem State.Canonical.execLogbookCommit  : Keeps (Machine.execLogbookCommit s) := by simp [Machine.execLogbookCommit, h]
theorem State.Canonical.execDebugSessionExpiry {scope : Nat} : Keeps (Machine.execDebugSessionExpiry scope s) :=
  by simp [Machine.execDebugSessionExpiry, h]
theorem State.Canonical.execWipeDone  : Keeps (Machine.execWipeDone s) := by simp [Machine.execWipeDone, h]

theorem State.Canonical.execPowerStateEntered  : Keeps (Machine.execPowerStateEntered s) := by
  refine keeps_next.mpr ?_
  repeat' split
  all_goals simp [h]

theorem State.Canonical.execPgoodAsserted {g : Nat} : Keeps (Machine.execPgoodAsserted g s) := by
  refine keeps_next.mpr (.ite ?_ h)
  extract_lets x t
  have ht : t.Canonical := h.setGroup
  split
  · exact .ite ht.raisePen.raisePen ht
  · exact ht

theorem State.Canonical.execPgoodFail {g : Nat} : Keeps (Machine.execPgoodFail g s) := by
  refine keeps_next.mpr ?_
  split <;> simp [h]

theorem State.Canonical.execBmcRelease  : Keeps (Machine.execBmcRelease s) := by
  refine keeps_next.mpr ?_
  split <;> simp [h]

theorem State.Canonical.execPorstRelease {b : StartUp} : Keeps (Machine.execPorstRelease b s) := by simp [Machine.execPorstRelease, h]

theorem State.Canonical.execI3cDynamicAddress {a : Nat} : Keeps (Machine.execI3cDynamicAddress a s) := by
  refine keeps_next.mpr ?_
  split <;> simp [h]

theorem State.Canonical.execEndpointIdAssignment {eid : Nat} : Keeps (Machine.execEndpointIdAssignment eid s) :=
  by simp [Machine.execEndpointIdAssignment, h]
theorem State.Canonical.execPldmBaseQuery {n : Nat} : Keeps (Machine.execPldmBaseQuery n s) := by simp [Machine.execPldmBaseQuery, h]
theorem State.Canonical.execPldmSensorRead {n : Nat} {v : Int} : Keeps (Machine.execPldmSensorRead n v s) := by simp [Machine.execPldmSensorRead, h]
theorem State.Canonical.execPldmFruRead  : Keeps (Machine.execPldmFruRead s) := by simp [Machine.execPldmFruRead, h]

theorem State.Canonical.execPldmFirmwareUpdate {pkg : Bool} {ver : Nat} {bytes : List Byte} : Keeps (Machine.execPldmFirmwareUpdate pkg ver bytes s) := by
  refine keeps_next.mpr (.ite h (.ite ?_ (.ite h.sideSend ?_)))
  · exact .ite h.sideSend (.ite h.raise.sideSend (.ite h.holdPackage.sideSend h.sideSend))
  · exact .ite h.writeCopy.booted.sideSend h.writeCopy.booted.sideSend

theorem State.Canonical.execPldmFirmwareActivate  : Keeps (Machine.execPldmFirmwareActivate s) := by
  refine keeps_next.mpr (.ite h ?_)
  split
  · exact .ite h.writeCopy.booted.sideSend h.sideSend
  · exact h.sideSend

theorem State.Canonical.execOemReadRgnstat {r : Nat} : Keeps (Machine.execOemReadRgnstat r s) := by simp [Machine.execOemReadRgnstat, h]
theorem State.Canonical.execOemReadHealth  : Keeps (Machine.execOemReadHealth s) := by simp [Machine.execOemReadHealth, h]
theorem State.Canonical.execExtest {d : List Bool} : Keeps (Machine.execExtest d s) := keeps_next.mpr (h.tap (.ite h.boundary h.asBypass))

theorem State.Canonical.execToken {bytes : List Byte} : Keeps (Machine.execToken bytes s) := by
  refine keeps_next.mpr (h.tap (.ite h.asBypass (.ite h ?_)))
  extract_lets j t hd
  have ht : t.Canonical := h.tapped
  split
  · exact ht.denyToken.tapped
  · exact ht.takeToken

theorem State.Canonical.execDbgend {scope : Nat} : Keeps (Machine.execDbgend scope s) := keeps_next.mpr (h.tap (.ite h.tapped.endDebug h.tapped))

theorem State.Canonical.execProvision {d : BitVec 1408} : Keeps (Machine.execProvision d s) := by
  refine keeps_next.mpr (h.tap (.ite h ?_))
  refine .ite h.tapped.tapped ?_
  split
  · exact h.tapped.tapped
  · refine State.Canonical.tapped (.moveLife ?_)
    exact { h with }

theorem State.Canonical.execFwload {ver : Nat} {bytes : List Byte} : Keeps (Machine.execFwload ver bytes s) := by
  refine keeps_next.mpr (h.tap ?_)
  split
  · next b _ _ =>
    extract_lets c j x t
    have ht : t.Canonical := { h with }
    exact .ite ht.booted.afterFirmware ht.raise
  · exact h.asBypass

theorem State.Canonical.execDbgaccState {w : BitVec 128} : Keeps (Machine.execDbgaccState w s) := by
  refine keeps_next.mpr (h.dbgacc fun u r hu hr => ?_)
  dsimp only at hr
  split at hr
  · cases hr
  split at hr
  · cases hr
  split at hr
  · split at hr
    · cases hr
    · cases hr
      exact (hu.debugCore.setCore hu.debugCore.core.putState).putShared.wrote
  · split at hr
    · cases hr
    · cases hr
      exact hu

theorem State.Canonical.execDbgaccCoreMemory {w : BitVec 128} : Keeps (Machine.execDbgaccCoreMemory w s) := by
  refine keeps_next.mpr (h.dbgacc fun u r hu hr => ?_)
  dsimp only at hr
  split at hr
  · cases hr
  split at hr
  · cases hr
    exact State.Canonical.wrote (.ite (.foldl hu.debugCore fun _ _ ha => ha.putStoreByte)
      (hu.debugCore.setCore (.foldl hu.debugCore.core fun _ _ hd => hd.putMem)))
  · cases hr
    exact hu

theorem State.Canonical.execDbgaccProgramAddress {w : BitVec 128} : Keeps (Machine.execDbgaccProgramAddress w s) := by
  refine keeps_next.mpr (h.dbgacc fun u r hu hr => ?_)
  dsimp only at hr
  split at hr
  · cases hr
  split at hr
  · split at hr
    · split at hr
      · cases hr
        exact hu.writeBytes.wrote
      · cases hr
        exact hu
    · cases hr
  · split at hr
    · cases hr
      exact hu.writeProg.wrote
    · cases hr
      exact hu

theorem State.Canonical.execDbgaccObject {w : BitVec 128} : Keeps (Machine.execDbgaccObject w s) := by
  refine keeps_next.mpr (h.dbgacc fun u r hu hr => ?_)
  dsimp only at hr
  split at hr
  · cases hr
  · split at hr
    · cases hr
    · cases hr
      exact hu

theorem State.Canonical.execDbgaccHaltSequencer {w : BitVec 128} : Keeps (Machine.execDbgaccHaltSequencer w s) :=
  keeps_next.mpr (.ite (h.dbgacc fun _ _ _ hr => absurd hr.symm (Option.some_ne_none _)) (h.dbgControl fun _ _ hu hd => hu.setCore hd.haltX))

theorem State.Canonical.execDbgaccStepSequencer {w : BitVec 128} : Keeps (Machine.execDbgaccStepSequencer w s) :=
  keeps_next.mpr (h.dbgControl fun u d hu hd => by
    have hv := hu.setCore (c := dCore w) (hd.haltX (b := false))
    refine .ite hu ?_
    refine State.Canonical.setCore (.ite hv.emptyBeat hv.seqIssue) (Core.Canonical.haltX ?_)
    exact State.Canonical.core (.ite hv.emptyBeat hv.seqIssue))

theorem State.Canonical.execDbgaccStepPilot {w : BitVec 128} : Keeps (Machine.execDbgaccStepPilot w s) :=
  keeps_next.mpr (h.dbgControl fun u d hu hd => by
    have hv := (hu.setCore (c := dCore w) (hd.haltP (b := false))).pilotRow (c := dCore w) (k := d.pilotClass)
    exact .ite hu (hv.setCore hv.core.haltP).coreEnd)

theorem State.Canonical.execWheelSlot {ch : Nat} {bad : Bool} : Keeps (Machine.execWheelSlot ch bad s) := by
  refine keeps_next.mpr (.ite h ?_)
  extract_lets k own s1 l p lent
  have h1 : s1.Canonical := h.setWheel
  have hlent : lent.Canonical := h1.lend
  refine .ite h1 (.ite ?_ (.ite ?_ (.ite ?_ hlent)))
  · split
    · exact h1.reefSlot
    · exact hlent
  · split
    · next ht =>
      cases hw : s1.harbourSlot ch with
      | none =>
        rw [hw] at ht
        exact h1.drainSlot ht
      | some t =>
        rw [hw] at ht
        cases ht
        exact h1.harbourSlot hw
    · exact hlent
  · split
    · exact .ite h1.serveShoal.lend h1.serveShoal
    · exact hlent

theorem State.Canonical.execErrorCorrected {e : ErrAt} : Keeps (Machine.execErrorCorrected e s) := by
  refine keeps_next.mpr ?_
  repeat' split
  all_goals simp [h]

theorem State.Canonical.execErrorUncorrectable {e : ErrAt} {met : Nat} : Keeps (Machine.execErrorUncorrectable e met s) := by
  refine keeps_next.mpr (.ite h ?_)
  extract_lets t
  have ht : t.Canonical := h.countError
  have hmark : ∀ b : Bool, (if b then t.markBad e else t).Canonical := fun _ => .ite ht.markBad ht
  refine .ite ht.dropLine (.ite ht.raise.dropItem (.ite ht.raise.resetDevice (.ite (.ite ht.raise ?_) ?_)))
  · exact .foldl ht fun _ _ ha => .ite ha.fault ha
  · split
    · exact .ite (State.Canonical.fault (.ite ht.markBad ht)) ht.markBad.raise
    · exact ht.markBad.raise

theorem State.Canonical.execScrub {addr outcome : Nat} : Keeps (Machine.execScrub addr outcome s) := by
  refine keeps_next.mpr ?_
  split
  · exact .ite h.corrected (.ite h.countError.markBad.raise h)
  · exact h

theorem State.Canonical.execTargetedSelfTest {n : Nat} {pass : Bool} : Keeps (Machine.execTargetedSelfTest n pass s) := by
  refine keeps_next.mpr ?_
  repeat' split
  all_goals simp [h]

theorem State.Canonical.execSpareSubstituted {n : Nat} {pass : Bool} : Keeps (Machine.execSpareSubstituted n pass s) := by
  refine keeps_next.mpr ?_
  split
  · exact h
  next x _ =>
  have hwear : (s.noSpare n fun t => t.wear x.ploc).Canonical := h.noSpare fun _ hu => hu.wear
  have hcore : (s.noSpare n fun t => t.replaceCore (plocPhys x.ploc) x.unit x.word x.bit x.eclass).Canonical :=
    h.noSpare fun _ hu => hu.replaceCore
  exact .ite h (.ite h.replacePosition (.ite (.ite hcore.markSpared h.dropSpareCore) (.ite h.replaceLane
    (.ite (.ite h.spend.replaced hwear) (.ite hwear (.ite h.marred.spend.replaced h.spend))))))

theorem State.Canonical.execCommandStart {n : Nat} : Keeps (Machine.execCommandStart n s) := by
  refine keeps_next.mpr ?_
  repeat' split
  all_goals simp [h]

theorem State.Canonical.execLandingFenceMet {n seq : Nat} : Keeps (Machine.execLandingFenceMet n seq s) := by
  refine keeps_next.mpr ?_
  split <;> simp [h]

theorem State.Canonical.execLandingTimeout {n seq : Nat} : Keeps (Machine.execLandingTimeout n seq s) := by
  refine keeps_next.mpr ?_
  dsimp only
  repeat' split
  all_goals simp [h]

theorem State.Canonical.execCubeAct {c : CoreId} {k : Nat} : Keeps (Machine.execCubeAct c k s) := by
  have ht : (s.act c false fun x => .ok ((s.rowCoreOf c k x).cubeAct k)).Canonical := h.act fun _ hk => Res.gives_ok.mpr hk.rowCoreOf.cubeAct
  exact keeps_next.mpr (.ite (.ite ht.raise ht) h)

theorem State.Canonical.execSoundEntry {c : CoreId} : Keeps (Machine.execSoundEntry c s) :=
  keeps_next.mpr (.ite (h.act fun _ hk => Res.gives_ok.mpr hk.soundCoreOf.soundEntry) h)

/-- Each command keeps the form: a row of a family by the operation that the family shares, any other by its own lemma. -/
theorem State.Canonical.exec {i : Instr} : Keeps (Machine.exec i s) := by
  cases i with
  | cmdHmpNop | cmdClose | cmdEvents | cmdConfigure | cmdRelease | cmdLoad | cmdUnload | cmdSeal | cmdStart | cmdPause | cmdResume
    | cmdStop | cmdSetmode | cmdWaitRun | cmdRead | cmdXfer | cmdSink | cmdSinkAck | cmdFlush | cmdPath | cmdBatchwin | cmdPowerP0
    | cmdPowerP1 | cmdPowerP2 | cmdPowerP3 | cmdTide | cmdNetMac | cmdNetLinkLocal | cmdNetAddress | cmdNetHmpport | cmdQosPriorities
    | cmdQosDscpMap | cmdQosPfcwd | cmdMacsecEnable | cmdMacsecCak | cmdLighthouse | cmdTenantKeyInstall | cmdTenantKeyRemove | cmdQpCreate
    | cmdQpDestroy | cmdLrRegister | cmdLrDeregister | cmdLibPut | cmdAttest | cmdDebugOpen | cmdDebugClose | cmdLifecycleDeploy
    | cmdLifecycleReturn | cmdCkSnapshot | cmdCkDrain | cmdCkRestore | cmdPair | cmdCompare | cmdSvcStart | cmdSvcStop | cmdDecide => exact keeps_next.mpr h.cmdRow
  | vAdd | vSub | vMul | vFma | vNeg | vAbs | vAdds | vSubs | vMuls | vShl | vShr | vSar | vAnd | vOr | vXor | vMin | vMax | vEq | vNe
    | vLt | vLe | vTotlt | vSel | vCvt | vExp | vExp2 | vLn | vLog2 | vRcp | vSqrt | vRsqrt | vTanh | vLogistic | vErf | vRsum | vRmax
    | vRmin | vCompress | vExpand | vCompressQ | vExpandQ | vFlushOq | vSumm => exact keeps_next.mpr h.vecSlot
  | nop | repeatBundle | loop | call | ret | select | setx | take | bset | bclr | bwaitSet | bwaitClear | bwaitTally | fence | cancel
    | qmark | qmatch | endStream => exact keeps_next.mpr h.control
  | reefFill | reefCvt | reefAdd | reefMul | reefScale | reefAxpby | reduceSum | reduceMax | reduceMin | reefCheck | sgdm | adamw | digest => exact keeps_next.mpr h.reefRow
  | pilotInstruction | ebreak | hqSumv | hqSumh | hqChoose | hqBuoySet | hqBuoyClear | hqBuoyWaitSet | hqBuoyWaitClear | arstatWrite
    | sharedCsrRead | sharedCsrWrite | csrWrite => exact keeps_next.mpr h.pilotRow
  | vLdc | vStc | vLdt | vStt | vSpopW | vSpopP | vQpop | vQpush => exact keeps_next.mpr h.moveSlot
  | idcode | tokstat | provstat | fwstat => exact keeps_next.mpr (h.tap h.shift)
  | setB | oneB | accload => exact keeps_next.mpr h.bSlot
  | echoRequest | neighbourSolicitation | arpRequest => exact keeps_next.mpr (h.netIn fun _ _ hu => hu.sendVia)
  | bmcRequestP3 | bmcRequestOff => exact keeps_next.mpr h.bmcRequest
  | dbgaccHaltPilot | dbgaccResumePilot => exact keeps_next.mpr (h.dbgControl fun _ _ hu hd => hu.setCore hd.haltP)
  | porstFall | supplyFailure => exact keeps_next.mpr h.resetDevice
  | barrier => exact keeps_next.mpr h.control.noteArrival
  | emptyBeat => exact keeps_next.mpr h.emptyBeat
  | aTileIssue => exact keeps_next.mpr (h.slot fun _ hk => hk.issueMatrix)
  | wfi => exact keeps_next.mpr h.pilotRow.coreEnd
  | recordAccepted => exact keeps_next.mpr h.recordTaken.proceed
  | batchSigned => exact keeps_next.mpr h.batchDone.proceed
  | batchRunStart => exact keeps_next.mpr h.startBatch
  | samplePreload => exact keeps_next.mpr (h.tap h.boundary)
  | bypass => exact keeps_next.mpr (h.tap h.asBypass)
  | dbgsel => exact keeps_next.mpr (h.tap h.tapped)
  | dbgaccResumeSequencer => exact keeps_next.mpr (h.dbgControl fun _ _ hu hd => hu.setCore hd.haltX)
  | referenceLost => exact keeps_next.mpr h
  | cubeAct => exact h.execCubeAct
  | soundEntry => exact h.execSoundEntry
  | streamIssue => exact h.execStreamIssue
  | transactionRelease => exact h.execTransactionRelease
  | wheelSlot => exact h.execWheelSlot
  | transactionResponse => exact h.execTransactionResponse
  | streamQmark => exact h.execStreamQmark
  | streamQmatch => exact h.execStreamQmatch
  | cancelDiscardDone => exact h.execCancelDiscardDone
  | fenceComplete => exact h.execFenceComplete
  | barrierRelease => exact h.execBarrierRelease
  | messageSend => exact h.execMessageSend
  | messageDelivery => exact h.execMessageDelivery
  | combiningContribution => exact h.execCombiningContribution
  | combine => exact h.execCombine
  | reefOpComplete => exact h.execReefOpComplete
  | ferryLineReceived => exact h.execFerryLineReceived
  | deadlock => exact h.execDeadlock
  | programBoundary => exact h.execProgramBoundary
  | thermalGovernorTick => exact h.execThermalGovernorTick
  | regionResume => exact h.execRegionResume
  | temperatureSample => exact h.execTemperatureSample
  | railLow => exact h.execRailLow
  | railRecover => exact h.execRailRecover
  | railFail => exact h.execRailFail
  | tideTick => exact h.execTideTick
  | ptpSync => exact h.execPtpSync
  | holdoverTimeout => exact h.execHoldoverTimeout
  | deferredTideStep => exact h.execDeferredTideStep
  | ppsEdge => exact h.execPpsEdge
  | launch => exact h.execLaunch
  | guardWindow => exact h.execGuardWindow
  | outputHashDone => exact h.execOutputHashDone
  | batchWindowExpiry => exact h.execBatchWindowExpiry
  | hello => exact h.execHello
  | finish => exact h.execFinish
  | certGet => exact h.execCertGet
  | handshakeTimeout => exact h.execHandshakeTimeout
  | sessionTimeout => exact h.execSessionTimeout
  | commandStart => exact h.execCommandStart
  | landingFenceMet => exact h.execLandingFenceMet
  | landingTimeout => exact h.execLandingTimeout
  | sealDone => exact h.execSealDone
  | pauseDone => exact h.execPauseDone
  | debugSessionExpiry => exact h.execDebugSessionExpiry
  | wipeDone => exact h.execWipeDone
  | ckSnapshotDone => exact h.execCkSnapshotDone
  | ckDrainDone => exact h.execCkDrainDone
  | ckRestored => exact h.execCkRestored
  | decisionWindowClose => exact h.execDecisionWindowClose
  | lighthouseProbe => exact h.execLighthouseProbe
  | lighthouseReply => exact h.execLighthouseReply
  | linkUp => exact h.execLinkUp
  | linkDown => exact h.execLinkDown
  | fecDegraded => exact h.execFecDegraded
  | mkaFrame => exact h.execMkaFrame
  | macsecPeerLost => exact h.execMacsecPeerLost
  | pauseFrame => exact h.execPauseFrame
  | pfcHold => exact h.execPfcHold
  | roceWrite => exact h.execRoceWrite
  | roceRead => exact h.execRoceRead
  | roceSend => exact h.execRoceSend
  | roceReadResponse => exact h.execRoceReadResponse
  | roceAck => exact h.execRoceAck
  | roceAckTimeout => exact h.execRoceAckTimeout
  | cnpReceived => exact h.execCnpReceived
  | i3cDynamicAddress => exact h.execI3cDynamicAddress
  | pldmBaseQuery => exact h.execPldmBaseQuery
  | pldmSensorRead => exact h.execPldmSensorRead
  | pldmFruRead => exact h.execPldmFruRead
  | pldmFirmwareUpdate => exact h.execPldmFirmwareUpdate
  | pldmFirmwareActivate => exact h.execPldmFirmwareActivate
  | oemReadRgnstat => exact h.execOemReadRgnstat
  | oemReadHealth => exact h.execOemReadHealth
  | bmcRelease => exact h.execBmcRelease
  | extest => exact h.execExtest
  | token => exact h.execToken
  | dbgaccState => exact h.execDbgaccState
  | dbgaccCoreMemory => exact h.execDbgaccCoreMemory
  | dbgaccProgramAddress => exact h.execDbgaccProgramAddress
  | dbgaccObject => exact h.execDbgaccObject
  | dbgaccHaltSequencer => exact h.execDbgaccHaltSequencer
  | dbgaccStepSequencer => exact h.execDbgaccStepSequencer
  | dbgaccStepPilot => exact h.execDbgaccStepPilot
  | provision => exact h.execProvision
  | fwload => exact h.execFwload
  | dbgend => exact h.execDbgend
  | porstRelease => exact h.execPorstRelease
  | pgoodFail => exact h.execPgoodFail
  | errorCorrected => exact h.execErrorCorrected
  | errorUncorrectable => exact h.execErrorUncorrectable
  | targetedSelfTest => exact h.execTargetedSelfTest
  | spareSubstituted => exact h.execSpareSubstituted
  | scrub => exact h.execScrub
  | logbookSecond => exact h.execLogbookSecond
  | logbookCommit => exact h.execLogbookCommit
  | stopDone => exact h.execStopDone
  | loadDone => exact h.execLoadDone
  | memoryClearingDone => exact h.execMemoryClearingDone
  | powerStateEntered => exact h.execPowerStateEntered
  | pgoodAsserted => exact h.execPgoodAsserted
  | avsbusStatusTimeout => exact h.execAvsbusStatusTimeout
  | peerDelayRequest => exact h.execPeerDelayRequest
  | neighbourAdvertisement => exact h.execNeighbourAdvertisement
  | arpReply => exact h.execArpReply
  | endpointIdAssignment => exact h.execEndpointIdAssignment

end commands

/-- A step keeps the form: it executes the command at the front of the queue in the state that the command has left. -/
theorem State.Canonical.step {s t : State} (h : s.Canonical) (ht : Machine.step s = .next t) : t.Canonical := by
  unfold Machine.step at ht
  split at ht
  · exact Host.Outcome.next.inj ht ▸ h
  · next c rest _ =>
    have hs : ({ s with pending := rest } : State).Canonical := { h with }
    exact hs.exec t ht

end Sys2Proof.Machine

namespace Sys2Proof

open Machine

/-- Settles O3: each command of the machine is built of operations that keep every sparse array canonical. -/
theorem stepKeepsCanonicalForm : Obligations.StepKeepsCanonicalForm := by
  unfold Obligations.StepKeepsCanonicalForm
  intro s t hs ht
  exact State.canonical_eq_true.mpr ((State.canonical_eq_true.mp hs).step ht)

end Sys2Proof
end

section
/-! A CANCEL in a state that holds a FETCH of a DKIND that no load admits (R176, R198). -/

namespace Sys2Proof.Machine

/-- An outstanding FETCH whose one byte has arrived, with the DKIND 3 of a MOVE: its unit is written as an entry of queue 0, while for a
CANCEL only FETCHes of DKIND 0 and QMARKs go into a queue. A load refuses its descriptor (R173); that no operation holds such a one is not
among the premises. -/
def memoryFetch : StreamOp :=
  { id := 0, seq := .execute, desc := 0, word := BitVec.ofNat 768 (3 * 2 ^ 764 + 12 * 2 ^ 760 + 12 * 2 ^ 756), kind := 1, base := 0
    counts := [], first := 0, label := 0, txns := [⟨0, false, [(0, 0)], 3, 0, [0], 0, false, false⟩], units := 0, reserved := 0, out := []
    outScales := [], taken := 0, flags := 0, cancelled := false, beat := 0 }

/-- A core at a CANCEL of queue 0 by buoy 0, which is set. -/
def cancellingCore : Core :=
  { Core.blank with
    img := { CoreImage.blank with used := true, prog := [(0, BitVec.ofNat 64 (3 * 2 ^ 60 + 13 * 2 ^ 48 + 2 ^ 16))] }
    guardLu := 1, buoys := [(0, { Buoy.blank with set := true })], ops := [memoryFetch], nextOp := 1, nextTxn := 1 }

/-- A device in P0 whose lagoon 0 runs with that core. -/
def cancelling : State :=
  { State.reset with
    cores := [(0, cancellingCore)]
    lagoons := [(0, { Lagoon.blank with st := .running, cfg := ⟨1, 1, 1, 0, true⟩ })]
    regions := [(0, { Region.blank with state := 0 })]
    power := { Power.blank with porst := true } }

theorem cancelling_issuing : cancelling.Issuing ⟨0, 0⟩ .execute (cancelling.issueCore ⟨0, 0⟩ .execute) where
  runs   := by decide +kernel
  sound  := by decide +kernel
  marks  := rfl
  may    := by decide +kernel
  ready  := by decide +kernel
  slots  := rfl
  charge := by decide +kernel

/-- The entries of queue 0 of core 0 in what an outcome leaves. -/
def entriesLeft : Host.Outcome State Fault Refusal → Nat
  | .next t => ((t.core ⟨0, 0⟩).queue 0).entries.length
  | _ => 0

theorem entriesLeft_cancel : entriesLeft (exec (.cancel ⟨0, 0⟩ .execute) cancelling) = 1 := by decide +kernel

/-- Refutes O8: a CANCEL empties the queues of its mask and then lets every operation enter what has arrived, so that a FETCH of DKIND 3,
which no CANCEL discards, leaves its entry in one of them. The statement's premises admit such a FETCH, which no load does. -/
theorem not_queueBundles : ¬ Obligations.QueueBundles := by
  unfold Obligations.QueueBundles
  intro h
  obtain ⟨hcancel, -⟩ := h ⟨0, 0⟩ .execute cancelling _ (by decide +kernel) cancelling_issuing
  obtain ⟨t, ht, ⟨-, hempty, -⟩, -⟩ := hcancel (by decide +kernel)
  have hleft := entriesLeft_cancel
  rw [ht, entriesLeft, hempty 0 (by decide) (by decide +kernel)] at hleft
  exact absurd hleft (by decide)

end Sys2Proof.Machine
end

section
/-! The acceptance of a STREAM syllable (R171, R174, R184) and the transactions that an accepted operation is given: one for each granule
that it touches (R172). -/

namespace Sys2Proof.Machine

/-! ### The spots of each granule -/

/-- Spots gathered by granule: each group holds spots of its own granule alone, and at least one, and no granule has two groups. -/
structure ByGranule (gs : List (Nat × List (Nat × Nat))) : Prop where
  some  : ∀ g ∈ gs, g.2 ≠ []
  own   : ∀ g ∈ gs, ∀ a ∈ g.2, a.2 / 1024 = g.1
  apart : gs.Pairwise fun x y => x.1 ≠ y.1

/-- A spot is in a group once it has been added, and every other group's spots are those that were there. -/
theorem mem_addSpot {gs : List (Nat × List (Nat × Nat))} {a p : Nat × Nat} :
    (∃ g ∈ addSpot gs a, p ∈ g.2) ↔ (∃ g ∈ gs, p ∈ g.2) ∨ p = a := by
  induction gs with
  | nil => simp [addSpot]
  | cons x gs ih =>
    obtain ⟨n, l⟩ := x
    unfold addSpot
    split
    · simp only [List.mem_cons, exists_eq_or_imp, List.mem_append, List.not_mem_nil, or_false]
      exact or_right_comm
    · simp only [List.mem_cons, exists_eq_or_imp, ih]
      exact or_assoc.symm

/-- The groups' granules are those that were there and the spot's. -/
theorem key_of_mem_addSpot {gs : List (Nat × List (Nat × Nat))} {a : Nat × Nat} {g : Nat × List (Nat × Nat)} (h : g ∈ addSpot gs a) :
    (∃ x ∈ gs, x.1 = g.1) ∨ g.1 = a.2 / 1024 := by
  induction gs with
  | nil =>
    rw [addSpot, List.mem_singleton] at h
    exact .inr (by rw [h])
  | cons x gs ih =>
    obtain ⟨n, l⟩ := x
    unfold addSpot at h
    split at h
    next hn =>
      rcases List.mem_cons.mp h with rfl | hmem
      · exact .inr hn
      · exact .inl ⟨g, List.mem_cons_of_mem _ hmem, rfl⟩
    next =>
      rcases List.mem_cons.mp h with rfl | hmem
      · exact .inl ⟨_, List.mem_cons_self, rfl⟩
      · exact (ih hmem).imp_left fun ⟨x, hx, hxg⟩ => ⟨x, List.mem_cons_of_mem _ hx, hxg⟩

theorem ByGranule.addSpot {gs : List (Nat × List (Nat × Nat))} (h : ByGranule gs) (a : Nat × Nat) : ByGranule (Machine.addSpot gs a) := by
  induction gs with
  | nil => exact ⟨by simp [Machine.addSpot], by simp +contextual [Machine.addSpot], by simp [Machine.addSpot]⟩
  | cons x gs ih =>
    obtain ⟨n, l⟩ := x
    obtain ⟨hsome, hown, hapart⟩ := h
    obtain ⟨hx, hrest⟩ := List.pairwise_cons.mp hapart
    have hih := ih ⟨fun g hg => hsome g (List.mem_cons_of_mem _ hg), fun g hg => hown g (List.mem_cons_of_mem _ hg), hrest⟩
    unfold Machine.addSpot
    split
    next hn =>
      refine ⟨?_, ?_, List.pairwise_cons.mpr ⟨hx, hrest⟩⟩
      · exact List.forall_mem_cons.mpr ⟨by simp, (List.forall_mem_cons.mp hsome).2⟩
      · refine List.forall_mem_cons.mpr ⟨fun b hb => ?_, (List.forall_mem_cons.mp hown).2⟩
        rcases List.mem_append.mp hb with hb | hb
        · exact hown _ List.mem_cons_self b hb
        · rw [List.mem_singleton.mp hb, hn]
    next hn =>
      refine ⟨?_, ?_, List.pairwise_cons.mpr ⟨fun g hg => ?_, hih.apart⟩⟩
      · exact List.forall_mem_cons.mpr ⟨hsome _ List.mem_cons_self, hih.some⟩
      · exact List.forall_mem_cons.mpr ⟨hown _ List.mem_cons_self, hih.own⟩
      · rcases key_of_mem_addSpot hg with ⟨y, hy, hyg⟩ | hga
        · exact hyg ▸ hx y hy
        · exact hga ▸ hn

theorem ByGranule.nil : ByGranule [] := ⟨nofun, nofun, .nil⟩

theorem ByGranule.foldl (spots : List (Nat × Nat)) {gs : List (Nat × List (Nat × Nat))} (h : ByGranule gs) :
    ByGranule (spots.foldl Machine.addSpot gs) :=
  List.foldlRecOn (motive := ByGranule) spots _ h fun _ hb a _ => hb.addSpot a

theorem mem_foldl_addSpot (spots : List (Nat × Nat)) {gs : List (Nat × List (Nat × Nat))} {p : Nat × Nat} :
    (∃ g ∈ spots.foldl addSpot gs, p ∈ g.2) ↔ (∃ g ∈ gs, p ∈ g.2) ∨ p ∈ spots := by
  induction spots generalizing gs with
  | nil => simp
  | cons a spots ih => rw [List.foldl_cons, ih, mem_addSpot, List.mem_cons, or_assoc]

/-- The other order of the same groups, each turned round. -/
theorem ByGranule.turned {gs : List (Nat × List (Nat × Nat))} (h : ByGranule gs) :
    ByGranule (gs.reverse.map fun g => (g.1, g.2.reverse)) where
  some  := by
    intro g hg
    obtain ⟨x, hx, rfl⟩ := List.mem_map.mp hg
    exact fun he => h.some x (List.mem_reverse.mp hx) (List.reverse_eq_nil_iff.mp he)
  own   := by
    intro g hg a ha
    obtain ⟨x, hx, rfl⟩ := List.mem_map.mp hg
    exact h.own x (List.mem_reverse.mp hx) a (List.mem_reverse.mp ha)
  apart := by
    rw [List.pairwise_map, List.pairwise_reverse]
    exact h.apart.imp Ne.symm

/-! ### The transactions of a list of spots -/

/-- The groups from which transactions are made. -/
def spotGroups (write mx : Bool) (spots : List (Nat × Nat)) : List (Nat × List (Nat × Nat)) :=
  if write && mx then ((spots.reverse.foldl addSpot []).reverse.map fun g => (g.1, g.2.reverse)) else spots.foldl addSpot []

theorem byGranule_spotGroups (write mx : Bool) (spots : List (Nat × Nat)) : ByGranule (spotGroups write mx spots) := by
  unfold spotGroups
  split
  · exact (ByGranule.nil.foldl _).turned
  · exact ByGranule.nil.foldl _

theorem mem_spotGroups {write mx : Bool} {spots : List (Nat × Nat)} {p : Nat × Nat} :
    (∃ g ∈ spotGroups write mx spots, p ∈ g.2) ↔ p ∈ spots := by
  unfold spotGroups
  split
  · have h := mem_foldl_addSpot spots.reverse (gs := []) (p := p)
    simp only [List.not_mem_nil, false_and, exists_false, false_or, List.mem_reverse] at h
    rw [← h]
    simp [List.mem_map]
  · simpa using mem_foldl_addSpot spots (gs := []) (p := p)

/-- The transaction that is made of a group. -/
def groupTxn (id : Nat) (write : Bool) (g : Nat × List (Nat × Nat)) : Txn := ⟨id, write, g.2, 0, 0, [], 0, false, false⟩

theorem mkTxns_eq (id : Nat) (write mx : Bool) (spots : List (Nat × Nat)) :
    mkTxns id write mx spots = (spotGroups write mx spots).mapIdx fun i g => groupTxn (id + i) write g := by
  refine List.ext_getElem (by simp [mkTxns, spotGroups]) fun i hi _ => ?_
  have hlen : i < (spotGroups write mx spots).length := by simpa [mkTxns, spotGroups] using hi
  have hget : (spotGroups write mx spots).getD i (0, []) = (spotGroups write mx spots)[i] := by simp [List.getD, hlen]
  rw [List.getElem_mapIdx, groupTxn, ← hget]
  simp [mkTxns, spotGroups]

/-- The transactions of a list of spots hold each of them and no other, each transaction spots of one granule, and no two of one
(R172). -/
theorem mkTxns_granules (id : Nat) (write mx : Bool) (spots : List (Nat × Nat)) :
    (∀ p, p ∈ spots ↔ ∃ t ∈ mkTxns id write mx spots, p ∈ t.spots) ∧
    (∀ t ∈ mkTxns id write mx spots, t.write = write ∧ t.state = 0 ∧ t.spots ≠ [] ∧ ∀ a ∈ t.spots, ∀ b ∈ t.spots, a.2 / 1024 = b.2 / 1024) ∧
    (mkTxns id write mx spots).Pairwise fun x y => ∀ a ∈ x.spots, ∀ b ∈ y.spots, a.2 / 1024 ≠ b.2 / 1024 := by
  obtain ⟨hsome, hown, hapart⟩ := byGranule_spotGroups write mx spots
  rw [mkTxns_eq]
  refine ⟨fun p => ?_, fun t ht => ?_, List.pairwise_iff_getElem.mpr fun i j hi hj hij a ha b hb => ?_⟩
  · rw [← mem_spotGroups (write := write) (mx := mx)]
    constructor
    · rintro ⟨g, hg, hp⟩
      obtain ⟨i, hi, rfl⟩ := List.getElem_of_mem hg
      exact ⟨_, List.mem_mapIdx.mpr ⟨i, hi, rfl⟩, hp⟩
    · rintro ⟨t, ht, hp⟩
      obtain ⟨i, hi, rfl⟩ := List.mem_mapIdx.mp ht
      exact ⟨_, List.getElem_mem hi, hp⟩
  · obtain ⟨i, hi, rfl⟩ := List.mem_mapIdx.mp ht
    have hg := List.getElem_mem hi
    exact ⟨rfl, rfl, hsome _ hg, fun a ha b hb => (hown _ hg a ha).trans (hown _ hg b hb).symm⟩
  · rw [List.length_mapIdx] at hi hj
    rw [List.getElem_mapIdx] at ha hb
    have hne := List.pairwise_iff_getElem.mp hapart i j hi hj hij
    rw [hown _ (List.getElem_mem hi) a ha, hown _ (List.getElem_mem hj) b hb]
    exact hne

/-! ### Acceptance -/

section accept

variable {k : Core} {i : SeqId} {owned : Nat → Nat → Bool} {w : BitVec 64}

theorem Core.acceptStream_full (h : k.maxOps ≤ k.outstandingOps) : k.acceptStream i owned w = .wait .streamAccept 0 := if_pos h

variable (h : k.outstandingOps < k.maxOps)
include h

theorem Core.acceptStream_refused {e : Nat} (hr : (k.streamOp i w).refusal owned = some e) :
    k.acceptStream i owned w = .event e (bits w.toNat 48 8) := by
  rw [Core.acceptStream, if_neg (Nat.not_le.mpr h)]
  simp only [hr]

theorem Core.acceptStream_empty (hr : (k.streamOp i w).refusal owned = none) (hn : (k.streamOp i w).nItems = 0) :
    k.acceptStream i owned w = .ok { k with nextOp := k.nextOp + 1 } := by
  rw [Core.acceptStream, if_neg (Nat.not_le.mpr h)]
  simp only [hr, hn, if_true]

/-- The transactions of an accepted operation: those of the memory that its strides walk, and a MOVE's of its target. -/
theorem Core.acceptStream_ok (hr : (k.streamOp i w).refusal owned = none) (hn : (k.streamOp i w).nItems ≠ 0) :
    let o := k.streamOp i w
    let ts := mkTxns k.nextTxn (o.kind == 2) (dMemFmt o.word).isMx o.walkSpots
    let us := if o.kind = 3 then mkTxns (k.nextTxn + ts.length) true (dDfmt o.word).isMx o.moveSpots else []
    k.acceptStream i owned w = .ok { k with
      ops := k.ops ++ [{ o with txns := ts ++ us }], nextOp := k.nextOp + 1, nextTxn := k.nextTxn + ts.length + us.length
      outst := k.outst ++ [⟨k.nextOp, i, 0⟩] } := by
  rw [Core.acceptStream, if_neg (Nat.not_le.mpr h)]
  simp only [hr, hn, if_false]

end accept

/-- A STREAM syllable of a core none of whose words is marked bad is what its engine answers. -/
theorem exec_streamIssue {s : State} {c : CoreId} {q : SeqId} {w : BitVec 64} (hs : s.issues c = true)
    (hq : ((s.core c).seq q).halted = false) (hx : (s.core c).ex.halted = false) (hm : s.marks c = []) :
    exec (.streamIssue c q w) s = .next (s.finish c (q == .access) ((s.core c).acceptStream q (s.owned c.lagoon) w)) := by
  change Host.Outcome.next _ = _
  rw [hs, hq, hx]
  exact congrArg _ (State.act_of_unmarked hm ..)

/-- Settles O25: the engine's answer decides (R171, R184), and the transactions are made of the operation's spots gathered by granule. -/
theorem streamAcceptance : Obligations.StreamAcceptance := by
  unfold Obligations.StreamAcceptance
  intro c q w s hs hq hx hm k o granules
  have hexec := exec_streamIssue (w := w) hs hq hx hm
  refine ⟨fun hfull => ?_, fun hfree => ⟨fun e hr => ?_, fun hr hn => ?_, fun hr hn => ?_⟩⟩
  · rw [hexec, Core.acceptStream_full hfull]
    rfl
  · rw [hexec, Core.acceptStream_refused hfree hr]
    rfl
  · rw [hexec, Core.acceptStream_empty hfree hr hn]
    rfl
  · have hok := Core.acceptStream_ok hfree hr hn
    refine ⟨_, _, _, by rw [hexec, hok]; rfl, rfl, rfl, rfl, rfl, rfl, mkTxns_granules _ _ _ _, fun hk => if_neg hk, fun hk => ?_⟩
    exact ⟨if_pos hk, by rw [if_pos hk]; exact mkTxns_granules _ _ _ _⟩

end Sys2Proof.Machine
end

section
/-! The release and the response of a stream transaction (R171, R172, R192, R196, R202, R223, R288, R289). What an error that a check
finds leaves alone is said once, by `State.Alike`; that a fault ends a run in FAULTED, by `State.faultLagoon_st`. -/

namespace Sys2Proof.Machine

/-! ### What counting an error leaves alone -/

/-- The states have the same cores, lagoons and memory, and the same words of core memories marked bad. -/
structure State.Alike (u s : State) : Prop where
  cores   : u.cores = s.cores
  lagoons : u.lagoons = s.lagoons
  mem     : u.mem = s.mem
  badCore : u.rel.badCore = s.rel.badCore

namespace State.Alike

variable {s t u : State}

theorem refl (s : State) : s.Alike s := ⟨rfl, rfl, rfl, rfl⟩

theorem trans (h : u.Alike t) (h2 : t.Alike s) : u.Alike s :=
  ⟨h.cores.trans h2.cores, h.lagoons.trans h2.lagoons, h.mem.trans h2.mem, h.badCore.trans h2.badCore⟩

theorem core (h : u.Alike s) (c : CoreId) : u.core c = s.core c := by
  unfold State.core
  rw [h.cores]

theorem lagoon (h : u.Alike s) (l : Nat) : u.lagoon l = s.lagoon l := by
  unfold State.lagoon
  rw [h.lagoons]

theorem marks (h : u.Alike s) (c : CoreId) : u.marks c = s.marks c := by
  unfold State.marks
  rw [h.badCore, h.core]

theorem raise (s : State) (code kind arg ploc : Nat) (lag vc : Option Nat) : (s.raise code kind arg ploc lag vc).Alike s where
  cores := State.raise_cores ..
  lagoons := State.raise_lagoons ..
  mem := State.raise_mem ..
  badCore := by
    unfold State.raise
    rw [foldl_keeps (fun a => a.rel.badCore) (fun a x => notify_keeps (fun b => b.rel.badCore) (fun _ _ _ => rfl) _ a x)]
    dsimp only
    split <;> rfl

theorem classLasting (s : State) (ploc unit subidx word bit eclass : Nat) : (s.classLasting ploc unit subidx word bit eclass).Alike s := by
  unfold State.classLasting
  extract_lets t
  have ht : t.Alike s := (raise ..).trans ⟨rfl, rfl, rfl, rfl⟩
  split
  · exact ht
  · split
    · exact ht
    · exact ⟨ht.cores, ht.lagoons, ht.mem, ht.badCore⟩

theorem countError (s : State) (ploc unit subidx word bit : Nat) (uncorr : Bool) : (s.countError ploc unit subidx word bit uncorr).Alike s := by
  unfold State.countError
  extract_lets now s1 old es eclass lasting s2
  have h1 : s1.Alike s := by
    unfold s1
    split <;> exact ⟨rfl, rfl, rfl, rfl⟩
  have h2 : s2.Alike s := ⟨h1.cores, h1.lagoons, h1.mem, h1.badCore⟩
  split
  · exact (classLasting ..).trans h2
  · exact h2

theorem limited (s : State) (code key arg ploc : Nat) (lag vc : Option Nat) : (s.limited code key arg ploc lag vc).Alike s := by
  unfold State.limited State.limitedKind
  extract_lets k fresh
  split
  · exact (raise ..).trans ⟨rfl, rfl, rfl, rfl⟩
  · exact refl s

end State.Alike

/-! ### A fault ends the run of its lagoon in FAULTED -/

/-- The lagoon's run is one that a fault ends. -/
def State.InRun (s : State) (l : Nat) : Prop :=
  (s.lagoon l).st = .running ∨ (s.lagoon l).st = .paused ∨ (s.lagoon l).st = .draining

theorem State.inRun_of_live {s : State} {c : CoreId} (h : s.live c = true) : s.InRun c.lagoon := by
  simp only [State.live, State.engaged, Bool.and_eq_true, Bool.or_eq_true, decide_eq_true_eq] at h
  obtain ⟨⟨⟨h, -⟩, -⟩, -⟩ := h
  exact or_assoc.mp h

/-- The end of a run in FAULTED leaves the lagoon's state to the move that follows. -/
theorem State.endFaulted_st {s : State} (hs : s.canonical = true) (l code : Nat) : ((s.endFaulted l code).lagoon l).st = (s.lagoon l).st := by
  obtain ⟨-, -, hlagoons, -⟩ := State.canonical_iff.mp hs
  unfold State.endFaulted
  extract_lets x t u
  split
  · have hu : u.lagoon l = t.lagoon l := foldl_keeps (f := fun a n => a.setStack n (a.stack n).discard) (fun a => a.lagoon l) (fun _ _ => rfl) _ t
    refine (congrArg Lagoon.st hu).trans ?_
    unfold t
    rw [State.setLagoon_lagoon _ (by exact hlagoons), if_pos rfl]
  · rfl

theorem State.answerStart_st {s : State} (hs : s.canonical = true) (l tide : Nat) : ((s.answerStart l tide).lagoon l).st = (s.lagoon l).st := by
  obtain ⟨-, -, hlagoons, -⟩ := State.canonical_iff.mp hs
  unfold State.answerStart
  dsimp only
  split
  · rfl
  · rw [State.answerOpt_lagoon, State.setLagoon_lagoon _ hlagoons, if_pos rfl]

/-- A fault during a run leaves the lagoon FAULTED (R269, R499). -/
theorem State.faultLagoon_st {s : State} (hs : s.canonical = true) {l : Nat} (h : s.InRun l) (code : Nat) :
    ((s.faultLagoon l code).lagoon l).st = .faulted := by
  have hend := State.endFaulted_canonical hs l code
  have hmove := State.moveLagoon_canonical hend l .faulted
  have hstart := State.answerStart_canonical hmove l 0
  obtain ⟨-, -, hwf, -⟩ := State.canonical_iff.mp hend
  obtain ⟨-, -, hlagoons, -⟩ := State.canonical_iff.mp hstart
  unfold State.faultLagoon
  dsimp only
  rw [if_pos (by exact h), State.answerOpt_lagoon, State.setLagoon_lagoon _ hlagoons, if_pos rfl]
  exact (State.answerStart_st hmove l 0).trans (State.moveLagoon_st _ hwf l .faulted)

/-- An uncorrectable error met during a run ends it in FAULTED (R488). -/
theorem State.uncorrectable_st {s : State} (hs : s.Canonical) (ploc unit subidx word bit : Nat) {l : Nat} (vc : Option Nat) (h : s.InRun l) :
    ((s.uncorrectable ploc unit subidx word bit l vc).lagoon l).st = .faulted := by
  unfold State.uncorrectable State.fault
  dsimp only
  refine State.faultLagoon_st hs.countError.raise.bool ?_ _
  unfold State.InRun
  rw [State.raise_lagoon, (State.Alike.countError ..).lagoon]
  exact h

/-! ### The release of a transaction (R172, R192) -/

theorem State.place_mem (s : State) (xs : List Nat) (n : Nat) : (s.place xs n).1.mem = s.mem := by
  unfold State.place State.enter
  split
  · rfl
  · cases xs <;> rfl

/-- The state that a release leaves: the transaction is in the first lane of its way, with its stamp. -/
def State.released (s : State) (c : CoreId) (t : Txn) (k : Core) (o1 : StreamOp) (t1 : Txn) : State :=
  let placed := s.place (s.txnLanes c t) t.lines
  { placed.1.setCore c (k.markReleased o1 { t1 with way := placed.2 } s.stamp) with stamp := s.stamp + 1 }

theorem State.released_mem (s : State) (c : CoreId) (t : Txn) (k : Core) (o1 : StreamOp) (t1 : Txn) : (s.released c t k o1 t1).mem = s.mem :=
  State.place_mem ..

/-- What a release makes of a core where no word is marked bad. -/
def State.afterPrepare (s : State) (c : CoreId) (o : StreamOp) (t : Txn) : Res (Core × StreamOp × Option Txn) → State
  | .ok (k, o1, some t1) => s.released c t k o1 t1
  | .ok (k, o1, none) => s.setCore c (k.setOp o1)
  | .wait _ _ => s
  | .event e b => s.streamFault c e b o

theorem exec_transactionRelease {c : CoreId} {n : Nat} {s : State} {o : StreamOp} {t : Txn} (ho : (s.core c).op? n = some o)
    (ht : o.nextTxn = some t) (hl : s.live c = true) (hm : s.marks c = []) :
    exec (.transactionRelease c n) s =
      .next (if s.mayRelease c o t then s.afterPrepare c o t ((s.core c).landDue.prepare o t) else s) := by
  have hmet (f : Core → Res Core) : s.met c f = none := by simp [State.met, hm]
  change execTransactionRelease c n s = _
  unfold execTransactionRelease
  rw [ho]
  dsimp only
  rw [ht]
  simp only [hl, Bool.true_and, hmet]
  split
  · rcases (s.core c).landDue.prepare o t with ⟨k, o1, _ | t1⟩ | _ | _ <;> rfl
  · rfl

/-- A read for tile memory or the operand cache reserves nothing (R192). -/
theorem Core.prepare_of_direct {k : Core} {o : StreamOp} {t : Txn} (hw : t.write = false) (hk : o.kind = 1) (hd : dDkind o.word ≠ 0) :
    k.prepare o t = .ok (k, o, some t) := by
  simp [Core.prepare, Core.reserve, hw, hk, hd]

/-! ### The response (R171, R196, R223) -/

theorem State.respond_of_unmarked {s : State} {c : CoreId} (h : s.marks c = []) (o : StreamOp) (t : Txn) :
    s.respond c o t =
      s.withCore c ((s.core c).setOp { o with txns := o.txns.map (fun u => if u.id = t.id then { u with state := 3 } else u) }).settleOps := by
  unfold State.respond
  rw [State.act_of_unmarked h]
  rfl

/-- The first failure of a transaction's check, counted: on HBM of the base die, on DDR5 of the harbour link (R223). -/
def State.firstFailure (s : State) (c : CoreId) (t : Txn) (u : State) : State :=
  if (s.txnWheel c.lagoon t).getD 0 < 640 then
    u.baseRetry ((s.txnWheel c.lagoon t).getD 0 / 32) (s.granule c.lagoon t) c.lagoon (some c.v)
  else u.corrected 0x8000 0x32 (bits (s.core c).img.phys 0 9 / 144) (s.granule c.lagoon t) 0xFF 0x04 (some c.lagoon) (some c.v)

/-- The second failure, which ends the run (R196, R223). -/
def State.secondFailure (s : State) (c : CoreId) (t : Txn) (u : State) : State :=
  if (s.txnWheel c.lagoon t).getD 0 < 640 then
    (u.baseFail ((s.txnWheel c.lagoon t).getD 0 / 32) (s.granule c.lagoon t) c.lagoon (some c.v)).uncorrectable
      (plocStack ((s.txnWheel c.lagoon t).getD 0 / 32)) 0x33 0 (s.granule c.lagoon t) 0xFF c.lagoon (some c.v)
  else u.uncorrectable 0x8000 0x32 (bits (s.core c).img.phys 0 9 / 144) (s.granule c.lagoon t) 0xFF c.lagoon (some c.v)

theorem State.Alike.firstFailure (s : State) (c : CoreId) (t : Txn) (u : State) : (s.firstFailure c t u).Alike u := by
  unfold State.firstFailure
  split
  · exact (raise ..).trans (countError ..)
  · exact (limited ..).trans (countError ..)

theorem State.Canonical.firstFailure {u : State} (h : u.Canonical) (s : State) (c : CoreId) (t : Txn) : (s.firstFailure c t u).Canonical := by
  unfold State.firstFailure
  split
  · exact h.baseRetry
  · exact h.corrected

theorem State.secondFailure_st {u : State} (hu : u.Canonical) (s : State) (c : CoreId) (t : Txn) (h : u.InRun c.lagoon) :
    ((s.secondFailure c t u).lagoon c.lagoon).st = .faulted := by
  unfold State.secondFailure
  split
  · refine State.uncorrectable_st hu.baseFail _ _ _ _ _ _ ?_
    unfold State.InRun State.baseFail
    rw [State.raise_lagoon]
    exact h
  · exact State.uncorrectable_st hu _ _ _ _ _ _ h

/-- Undoing a served write changes memory alone. -/
theorem State.unwrite_lagoons (s : State) (l : Nat) (t : Txn) : (s.unwrite l t).lagoons = s.lagoons := by
  refine foldl_keeps (fun a => a.lagoons) (fun a i => ?_) _ s
  split
  · split <;> rfl
  · rfl

section response

variable {c : CoreId} {n x : Nat} {s : State} {o : StreamOp} {t : Txn}
  (ho : (s.core c).op? n = some o) (ht : o.txns.find? (fun u => u.id == x && (u.state == 2 || u.state == 4)) = some t)
include ho ht

/-- A response that has not come through its lanes waits (R288, R289). -/
theorem exec_transactionResponse_under_way (h : t.back = true ∨ s.home t.way = false) (fails : Nat) :
    exec (.transactionResponse c n x fails) s = .next s := by
  change execTransactionResponse c n x fails s = _
  unfold execTransactionResponse
  rw [ho]
  dsimp only
  rw [ht]
  dsimp only
  rw [if_pos]
  rcases h with h | h <;> simp [h]

variable (hl : s.live c = true) (hb : t.back = false) (hh : s.home t.way = true)
include hl hb hh

theorem exec_transactionResponse_home (fails : Nat) : exec (.transactionResponse c n x fails) s =
    .next (if fails = 0 then s.respond c o t
      else if fails = 1 ∧ !t.retried then
        if t.write ∨ t.state = 4 then (s.firstFailure c t s).respond c o t else (s.firstFailure c t s).readAgain c o t
      else s.secondFailure c t
        (if t.retried then (if t.write then s.unwrite c.lagoon t else s)
         else s.firstFailure c t (if t.write then s.unwrite c.lagoon t else s))) := by
  change execTransactionResponse c n x fails s = _
  unfold execTransactionResponse
  rw [ho]
  dsimp only
  rw [ht]
  dsimp only
  rw [if_neg (by simp [hl, hb, hh])]
  rfl

end response

/-- Settles O26: a release is what `Core.prepare` gives, and the failures of a check are counted without change to cores, lagoons and
memory until the second ends the run. -/
theorem transactionsReleaseAndRespond : Obligations.TransactionsReleaseAndRespond := by
  unfold Obligations.TransactionsReleaseAndRespond
  refine ⟨fun c n s o t ho ht hl hm => ?_, fun c n x s o t hs ho ht hl hm => ?_⟩
  · extract_lets k0 placed released
    have hexec := exec_transactionRelease ho ht hl hm
    refine ⟨fun h => by rw [hexec, h]; rfl, fun h => ?_⟩
    rw [hexec, if_pos h]
    refine ⟨fun hw hk hd => ?_, fun k o1 t1 hp => ?_, fun k o1 hp => ?_, fun a b hp => ?_, fun e b hp => ?_⟩
    · rw [Core.prepare_of_direct hw hk hd]
      exact ⟨_, rfl, rfl, State.released_mem ..⟩
    · rw [hp]
      exact ⟨_, rfl, rfl, State.released_mem ..⟩
    all_goals rw [hp]; rfl
  · extract_lets k again
    have hc := State.canonical_eq_true.mp hs
    have hfirst := State.Alike.firstFailure s c t s
    have hcore : (s.firstFailure c t s).core c = s.core c := hfirst.core c
    have hm1 : (s.firstFailure c t s).marks c = [] := (hfirst.marks c).trans hm
    have hcanon := hc.firstFailure s c t
    refine ⟨fun fails h => exec_transactionResponse_under_way ho ht h fails, fun hb hh => ?_⟩
    have hexec := exec_transactionResponse_home ho ht hl hb hh
    refine ⟨?_, fun hr h => ?_, fun hr hw hst => ?_, fun fails h => ?_⟩
    · rw [hexec, if_pos rfl, State.respond_of_unmarked hm]
    · rw [hexec, if_neg one_ne_zero, if_pos (by simp [hr]), if_pos h, State.respond_of_unmarked hm1, hcore]
      exact ⟨_, rfl, State.withCore_core_same hcanon.bool c k, hfirst.mem⟩
    · rw [hexec, if_neg one_ne_zero, if_pos (by simp [hr]), if_neg (by simp [hw, hst])]
      refine ⟨_, rfl, ?_, hfirst.mem⟩
      unfold State.readAgain
      rw [hcore]
      exact State.withCore_core_same hcanon.bool c _
    · have hu : (if t.write then s.unwrite c.lagoon t else s).Canonical := .ite hc.unwrite hc
      have hrun : (if t.write then s.unwrite c.lagoon t else s).InRun c.lagoon := by
        split
        · unfold State.InRun State.lagoon
          rw [State.unwrite_lagoons]
          exact State.inRun_of_live hl
        · exact State.inRun_of_live hl
      rw [hexec, if_neg (by omega), if_neg (by rcases h with h | h <;> simp [h]; omega)]
      refine ⟨_, rfl, State.secondFailure_st (.ite hu (hu.firstFailure s c t)) s c t ?_⟩
      split
      · exact hrun
      · unfold State.InRun
        rw [(State.Alike.firstFailure s c t _).lagoon]
        exact hrun

end Sys2Proof.Machine
end

section
/-! A slot of a channel wheel and what it serves (R172, R182, R185 to R189, R204, R208, R210, R227, R228, R232). No slot changes the
position or the owners of its wheel but by its own advance, and memory changes only where a write or a reef engine's granule puts its
bytes. -/

namespace Sys2Proof.Machine

/-! ### What a fault keeps -/

/-- The end of a run in FAULTED is kept from whatever sees none of cores, lagoons, stacks, the builder, events, sessions and the
transmitter. -/
theorem State.faultLagoon_keeps {β : Type} (g : State → β)
    (h : ∀ (s : State) co la hb bu n l r x y, g { s with
      cores := co, lagoons := la, hbm := hb, builder := bu, evno := n, log := l, rel := r, sessions := x, tx := y } = g s)
    (s : State) (l code : Nat) : g (s.faultLagoon l code) = g s := by
  have hevent (s : State) n l r x y : g { s with evno := n, log := l, rel := r, sessions := x, tx := y } = g s :=
    h s s.cores s.lagoons s.hbm s.builder n l r x y
  have hreply (s : State) x y : g { s with sessions := x, tx := y } = g s := hevent s s.evno s.log s.rel x y
  have hlagoons (s : State) x : g { s with lagoons := x } = g s := h s s.cores x s.hbm s.builder s.evno s.log s.rel s.sessions s.tx
  have hstack (s : State) n : g (s.setStack n (s.stack n).discard) = g s :=
    h s s.cores s.lagoons _ s.builder s.evno s.log s.rel s.sessions s.tx
  have hend (s : State) : g (s.endFaulted l code) = g s := by
    unfold State.endFaulted
    extract_lets x t u
    have hu : g u = g s := (foldl_keeps (f := fun a n => a.setStack n (a.stack n).discard) g (fun a n => hstack a n) _ t).trans
      (h s _ _ s.hbm s.builder s.evno s.log s.rel s.sessions s.tx)
    split
    · exact (h u u.cores u.lagoons u.hbm _ u.evno u.log u.rel u.sessions u.tx).trans hu
    · rfl
  have hstart (s : State) : g (s.answerStart l 0) = g s := by
    unfold State.answerStart
    dsimp only
    split
    · rfl
    · exact (State.answerOpt_keeps g hreply ..).trans (hlagoons s _)
  unfold State.faultLagoon
  extract_lets x t
  split
  · calc g ((t.setLagoon l { t.lagoon l with pauseRef := none }).answerOpt x.pauseRef 1 6 code []) = g t :=
        (State.answerOpt_keeps g hreply ..).trans (hlagoons t _)
      _ = g s := (hstart _).trans ((State.moveLagoon_keeps g hevent hlagoons ..).trans (hend s))
  · rfl

/-- The meeting of a word marked bad is kept from the same (R488). -/
theorem State.meetBad_keeps {β : Type} (g : State → β)
    (h : ∀ (s : State) co la hb bu n l r x y, g { s with
      cores := co, lagoons := la, hbm := hb, builder := bu, evno := n, log := l, rel := r, sessions := x, tx := y } = g s)
    (s : State) (a l : Nat) (vc : Option Nat) : g (s.meetBad a l vc) = g s := by
  have hevent (s : State) n l r x y : g { s with evno := n, log := l, rel := r, sessions := x, tx := y } = g s :=
    h s s.cores s.lagoons s.hbm s.builder n l r x y
  unfold State.meetBad State.uncorrectable State.fault
  dsimp only
  rw [State.faultLagoon_keeps g h, State.raise_keeps g hevent, State.countError_keeps g hevent]

@[simp] theorem State.meetBad_mem (s : State) (a l : Nat) (vc : Option Nat) : (s.meetBad a l vc).mem = s.mem :=
  State.meetBad_keeps (fun s => s.mem) (fun _ _ _ _ _ _ _ _ _ _ => rfl) ..

@[simp] theorem State.meetBad_wheels (s : State) (a l : Nat) (vc : Option Nat) : (s.meetBad a l vc).wheels = s.wheels :=
  State.meetBad_keeps (fun s => s.wheels) (fun _ _ _ _ _ _ _ _ _ _ => rfl) ..

/-! ### Memory and wheels are read from their own arrays -/

theorem State.readByte_of_mem {s u : State} (h : u.mem = s.mem) (a : Nat) : u.readByte a = s.readByte a := by
  unfold State.readByte
  rw [h]

theorem State.wheel_of_wheels {s u : State} (h : u.wheels = s.wheels) (ch : Nat) : u.wheel ch = s.wheel ch := by
  unfold State.wheel
  rw [h]

/-- A wheel set twice holds what it was set to last. -/
theorem State.setWheel_setWheel {s : State} (hs : Sparse.wf Wheel.blank s.wheels = true) (ch : Nat) (x y : Wheel) :
    (s.setWheel ch x).setWheel ch y = s.setWheel ch y := by
  have hx := Sparse.wf_set ch x hs
  have hset : Sparse.set Wheel.blank (Sparse.set Wheel.blank s.wheels ch x) ch y = Sparse.set Wheel.blank s.wheels ch y := by
    refine Sparse.ext_of_wf (Sparse.wf_set _ _ hx) (Sparse.wf_set _ _ hs) fun i => ?_
    simp only [Sparse.get_set ch i y hx, Sparse.get_set ch i x hs, Sparse.get_set ch i y hs]
    split <;> rfl
  unfold State.setWheel
  dsimp only
  rw [hset]

/-! ### A served transaction (R172, R182) -/

@[simp] theorem State.clearBad_mem (s : State) (addrs : List Nat) : (s.clearBad addrs).mem = s.mem := by
  unfold State.clearBad
  split <;> rfl

@[simp] theorem State.clearBad_wheels (s : State) (addrs : List Nat) : (s.clearBad addrs).wheels = s.wheels := by
  unfold State.clearBad
  split <;> rfl

@[simp] theorem State.place_wheels (s : State) (xs : List Nat) (n : Nat) : (s.place xs n).1.wheels = s.wheels := by
  unfold State.place State.enter
  split
  · rfl
  · cases xs <;> rfl

/-- A response is placed in its lanes, or waits beside its channel, and its operation notes which (R289). -/
theorem State.sendResponse_eq (s : State) (c : CoreId) (o : StreamOp) (t : Txn) : ∃ (u : State) (way : Nat) (back : Bool),
    u.cores = s.cores ∧ u.mem = s.mem ∧ u.wheels = s.wheels ∧ s.sendResponse c o t = u.setCore c ((u.core c).setOp { o with
      txns := o.txns.map (fun x => if x.id = t.id then { t with way := way, back := back } else x) }) := by
  unfold State.sendResponse
  extract_lets xs
  cases s.laneOpen xs t.lines with
  | true => exact ⟨_, _, _, State.place_cores .., State.place_mem .., State.place_wheels .., rfl⟩
  | false => exact ⟨s, 0, true, rfl, rfl, rfl, rfl⟩

@[simp] theorem State.sendResponse_mem (s : State) (c : CoreId) (o : StreamOp) (t : Txn) : (s.sendResponse c o t).mem = s.mem := by
  obtain ⟨u, way, back, -, hmem, -, he⟩ := s.sendResponse_eq c o t
  exact he ▸ hmem

@[simp] theorem State.sendResponse_wheels (s : State) (c : CoreId) (o : StreamOp) (t : Txn) : (s.sendResponse c o t).wheels = s.wheels := by
  obtain ⟨u, way, back, -, -, hwheels, he⟩ := s.sendResponse_eq c o t
  exact he ▸ hwheels

/-- A response leaves the transaction with what it was served, in its operation (R171). -/
theorem State.sendResponse_op {s : State} (hs : s.canonical = true) {c : CoreId} {o : StreamOp} {t t1 : Txn}
    (ho : (s.core c).op? o.id = some o) (ht : t ∈ o.txns) (hid : t1.id = t.id) :
    ∃ o' ∈ ((s.sendResponse c o t1).core c).ops, ∃ t' ∈ o'.txns, o'.id = o.id ∧ t'.id = t.id ∧ t'.state = t1.state ∧ t'.data = t1.data := by
  obtain ⟨-, hcores, -⟩ := State.canonical_iff.mp hs
  obtain ⟨u, way, back, hu, -, -, he⟩ := s.sendResponse_eq c o t1
  have hmem : o ∈ (u.core c).ops := by
    unfold State.core
    rw [hu]
    exact List.mem_of_find?_eq_some ho
  rw [he, State.core, State.setCore, Sparse.get_set_same _ _ (hu ▸ hcores)]
  exact ⟨_, List.mem_map.mpr ⟨o, hmem, if_pos rfl⟩, _, List.mem_map.mpr ⟨t, ht, if_pos hid.symm⟩, rfl, hid, rfl, rfl⟩

/-- Bytes put one after another at device addresses. -/
def State.putAt (s : State) (addrs : List Nat) (bs : List Byte) (n : Nat) : State :=
  (List.range n).foldl (fun (a : State) i => a.writeByte (addrs.getD i 0) (bs.getD i 0)) s

theorem State.putAt_succ (s : State) (addrs : List Nat) (bs : List Byte) (n : Nat) :
    s.putAt addrs bs (n + 1) = (s.putAt addrs bs n).writeByte (addrs.getD n 0) (bs.getD n 0) := by
  unfold State.putAt
  rw [List.range_succ, List.foldl_append, List.foldl_cons, List.foldl_nil]

@[simp] theorem State.putAt_wheels (s : State) (addrs : List Nat) (bs : List Byte) (n : Nat) : (s.putAt addrs bs n).wheels = s.wheels :=
  foldl_keeps (f := fun (a : State) i => a.writeByte (addrs.getD i 0) (bs.getD i 0)) (fun a => a.wheels) (fun _ _ => rfl) _ s

theorem State.putAt_wf {s : State} (h : Memory.wf s.mem = true) (addrs : List Nat) (bs : List Byte) (n : Nat) :
    Memory.wf (s.putAt addrs bs n).mem = true :=
  foldl_inv (P := fun a => Memory.wf a.mem = true) (fun _ _ ha => State.writeByte_wf ha _ _) _ s h

/-- An address that takes none of the bytes keeps its own. -/
theorem State.readByte_putAt_other {s : State} (h : Memory.wf s.mem = true) {addrs : List Nat} {bs : List Byte} {n a : Nat}
    (ha : ∀ i < n, addrs.getD i 0 ≠ a) : (s.putAt addrs bs n).readByte a = s.readByte a := by
  induction n with
  | zero => rfl
  | succ n ih =>
    rw [State.putAt_succ, State.readByte_writeByte (State.putAt_wf h ..), if_neg (ha n n.lt_succ_self).symm]
    exact ih fun i hi => ha i (hi.trans n.lt_succ_self)

/-- An address holds the last of the bytes put there. -/
theorem State.readByte_putAt_last {s : State} (h : Memory.wf s.mem = true) {addrs : List Nat} {bs : List Byte} {n i : Nat} (hi : i < n)
    (hlast : ∀ j, i < j → j < n → addrs.getD j 0 ≠ addrs.getD i 0) : (s.putAt addrs bs n).readByte (addrs.getD i 0) = bs.getD i 0 := by
  induction n with
  | zero => exact absurd hi i.not_lt_zero
  | succ n ih =>
    rw [State.putAt_succ, State.readByte_writeByte (State.putAt_wf h ..)]
    rcases Nat.lt_succ_iff_lt_or_eq.mp hi with hlt | rfl
    · rw [if_neg (hlast n hlt n.lt_succ_self).symm]
      exact ih hlt fun j hij hj => hlast j hij (hj.trans n.lt_succ_self)
    · rw [if_pos rfl]

section serve

variable (s : State) (c : CoreId) (o : StreamOp) (t : Txn)

/-- The device addresses of a transaction's spots (R182). -/
def State.txnAddrs : List Nat := t.spots.filterMap (fun p => s.translate c.lagoon p.2)

/-- What serving a transaction does: a read takes its bytes, a write puts them, and either meets a word marked bad (R172, R488). -/
theorem State.serve_eq : s.serve c o t =
    if t.write then
      match s.badWrite (s.txnAddrs c t) with
      | some a => s.meetBad a c.lagoon (some c.v)
      | none => ((s.putAt (s.txnAddrs c t) t.data (s.txnAddrs c t).length).clearBad (s.txnAddrs c t)).sendResponse c o
          { t with state := 2, data := (s.txnAddrs c t).map s.readByte ++ t.data }
    else
      match s.badAtom (s.txnAddrs c t) with
      | some a => s.meetBad a c.lagoon (some c.v)
      | none => s.sendResponse c o { t with state := 2, data := (s.txnAddrs c t).map s.readByte } := rfl

@[simp] theorem State.serve_wheels : (s.serve c o t).wheels = s.wheels := by
  rw [State.serve_eq]
  split
  · cases s.badWrite (s.txnAddrs c t) <;> simp
  · cases s.badAtom (s.txnAddrs c t) <;> simp

variable {s c o t}

theorem State.serve_read_mem (h : t.write = false) : (s.serve c o t).mem = s.mem := by
  rw [State.serve_eq, h]
  cases s.badAtom (s.txnAddrs c t) <;> simp

/-- A served read takes the bytes of its spots. -/
theorem State.serve_read (h : t.write = false) (hb : s.badAtom (s.txnAddrs c t) = none) :
    s.serve c o t = s.sendResponse c o { t with state := 2, data := (s.txnAddrs c t).map s.readByte } := by
  rw [State.serve_eq, if_neg (by simp [h]), hb]

/-- The memory that a served write leaves. -/
theorem State.serve_write_mem (h : t.write = true) (hb : s.badWrite (s.txnAddrs c t) = none) :
    (s.serve c o t).mem = (s.putAt (s.txnAddrs c t) t.data (s.txnAddrs c t).length).mem := by
  rw [State.serve_eq, if_pos h, hb]
  simp

/-- A byte that no spot translates to is as it was. -/
theorem State.serve_readByte_other (hw : Memory.wf s.mem = true) {a : Nat} (ha : a ∉ s.txnAddrs c t) : (s.serve c o t).readByte a = s.readByte a := by
  cases h : t.write with
  | false => exact State.readByte_of_mem (State.serve_read_mem h) a
  | true =>
    cases hb : s.badWrite (s.txnAddrs c t) with
    | some x =>
      rw [State.serve_eq, if_pos h, hb]
      exact State.readByte_of_mem (State.meetBad_mem ..) a
    | none =>
      rw [State.readByte_of_mem (State.serve_write_mem h hb)]
      refine State.readByte_putAt_other hw fun i hi => ?_
      rw [List.getD_eq_getElem _ _ hi]
      exact fun e => ha (e ▸ List.getElem_mem hi)

/-- A byte that a write's spots translate to is the last that they carry for it. -/
theorem State.serve_readByte_last (hw : Memory.wf s.mem = true) (h : t.write = true) (hb : s.badWrite (s.txnAddrs c t) = none) {i d : Nat}
    (hi : (s.txnAddrs c t)[i]? = some d) (hlast : ∀ j, i < j → (s.txnAddrs c t)[j]? ≠ some d) :
    (s.serve c o t).readByte d = t.data.getD i 0 := by
  obtain ⟨hlt, hd⟩ := List.getElem?_eq_some_iff.mp hi
  have hget : (s.txnAddrs c t).getD i 0 = d := (List.getD_eq_getElem _ _ hlt).trans hd
  rw [State.readByte_of_mem (State.serve_write_mem h hb), ← hget]
  refine State.readByte_putAt_last hw hlt fun j hij hj e => hlast j hij ?_
  rw [hget, List.getD_eq_getElem _ _ hj] at e
  exact List.getElem?_eq_some_iff.mpr ⟨hj, e⟩

end serve

/-! ### A granule that a reef engine writes (R208, R210, R227) -/

section granule

variable (s : State) (st g : Nat) (r : ReefHeld)

/-- The elements of a span's bytes that begin in a granule: from the first to the last (exclusive), of those of e bytes from device
address d on. -/
def elementsFrom (d e g : Nat) : Nat := (1024 * g - d + e - 1) / e

/-- The bytes of the elements that begin in a granule. -/
def granuleBytes (d e g : Nat) (bs : List Byte) : List Byte :=
  (bs.drop (elementsFrom d e g * e)).take ((elementsFrom d e (g + 1) - elementsFrom d e g) * e)

/-- A reef engine puts one span's bytes into a granule. -/
def State.putSpan (a : State) (w : Nat × List Byte) : State :=
  match s.reefSpan r.lagoon st (rAddr r.word w.1) w.2.length with
  | some d =>
    let e := writeEsz r.word w.1
    let bs := granuleBytes d e g w.2
    if bs.isEmpty then a
    else (a.writeBytes (d + elementsFrom d e g * e) bs).clearBad ((List.range bs.length).map (d + elementsFrom d e g * e + ·))
  | none => a

theorem State.writeGranule_eq (o : ReefOut) : s.writeGranule st r o g = o.writes.foldl (s.putSpan st g r) s := rfl

@[simp] theorem State.putSpan_wheels (a : State) (w : Nat × List Byte) : (s.putSpan st g r a w).wheels = a.wheels := by
  unfold State.putSpan
  dsimp only
  split
  · split <;> simp
  · rfl

@[simp] theorem State.writeGranule_wheels (o : ReefOut) : (s.writeGranule st r o g).wheels = s.wheels :=
  foldl_keeps (fun a => a.wheels) (s.putSpan_wheels st g r) o.writes s

variable {s st g r}

theorem State.putSpan_wf {a : State} (h : Memory.wf a.mem = true) (w : Nat × List Byte) : Memory.wf (s.putSpan st g r a w).mem = true := by
  unfold State.putSpan
  dsimp only
  split
  · split
    · exact h
    · rw [State.clearBad_mem]
      exact State.writeBytes_wf h _ _
  · exact h

/-- What a span's bytes read as once they are put into a granule. -/
theorem State.readByte_putSpan {a : State} (h : Memory.wf a.mem = true) {w : Nat × List Byte} {d : Nat}
    (hd : s.reefSpan r.lagoon st (rAddr r.word w.1) w.2.length = some d) (x : Nat) :
    (s.putSpan st g r a w).readByte x =
      (a.writeBytes (d + elementsFrom d (writeEsz r.word w.1) g * writeEsz r.word w.1) (granuleBytes d (writeEsz r.word w.1) g w.2)).readByte x := by
  unfold State.putSpan
  rw [hd]
  dsimp only
  split
  next hempty => rw [List.isEmpty_iff.mp hempty, State.readByte_writeBytes_outside h [] (Nat.lt_or_ge x _)]
  · exact State.readByte_of_mem (State.clearBad_mem ..) x

/-- The bytes put into a granule begin in their span and end in it. -/
theorem length_granuleBytes_le (d e g : Nat) (bs : List Byte) :
    granuleBytes d e g bs = [] ∨ elementsFrom d e g * e + (granuleBytes d e g bs).length ≤ bs.length := by
  unfold granuleBytes
  rw [List.length_take, List.length_drop]
  rcases Nat.lt_or_ge (elementsFrom d e g * e) bs.length with h | h
  · exact .inr (by omega)
  · exact .inl (by rw [List.drop_of_length_le h, List.take_nil])

theorem State.readByte_putSpan_outside {a : State} (h : Memory.wf a.mem = true) {w : Nat × List Byte} {x : Nat}
    (hx : ∀ d, s.reefSpan r.lagoon st (rAddr r.word w.1) w.2.length = some d → w.2 = [] ∨ x < d ∨ d + w.2.length ≤ x) :
    (s.putSpan st g r a w).readByte x = a.readByte x := by
  cases hd : s.reefSpan r.lagoon st (rAddr r.word w.1) w.2.length with
  | none =>
    unfold State.putSpan
    rw [hd]
  | some d =>
    rw [State.readByte_putSpan h hd]
    refine State.readByte_writeBytes_outside h _ ?_
    rcases length_granuleBytes_le d (writeEsz r.word w.1) g w.2 with hlen | hlen
    · rw [hlen]
      exact Nat.lt_or_ge x _
    · rcases hx d hd with hnil | hx
      · rw [hnil] at hlen ⊢
        rw [List.length_nil] at hlen
        omega
      · omega

/-- No byte outside its spans changes. -/
theorem State.readByte_writeGranule_outside (h : Memory.wf s.mem = true) {o : ReefOut} {x : Nat}
    (hx : ∀ w ∈ o.writes, ∀ d, s.reefSpan r.lagoon st (rAddr r.word w.1) w.2.length = some d → w.2 = [] ∨ x < d ∨ d + w.2.length ≤ x) :
    (s.writeGranule st r o g).readByte x = s.readByte x := by
  rw [State.writeGranule_eq]
  suffices ∀ ws : List (Nat × List Byte), (∀ w ∈ ws, w ∈ o.writes) → ∀ a : State, Memory.wf a.mem = true →
      (ws.foldl (s.putSpan st g r) a).readByte x = a.readByte x from this _ (fun _ hw => hw) s h
  intro ws
  induction ws with
  | nil => exact fun _ _ _ => rfl
  | cons w ws ih =>
    intro hws a ha
    rw [List.foldl_cons, ih (fun v hv => hws v (List.mem_cons_of_mem _ hv)) _ (State.putSpan_wf ha w)]
    exact State.readByte_putSpan_outside ha (hx w (hws w List.mem_cons_self))

/-- The element of a byte is among those of the granule in which it begins. -/
theorem mem_elements {d e g i : Nat} (he : 0 < e) (hg : (d + i / e * e) / 1024 = g) :
    elementsFrom d e g ≤ i / e ∧ i / e < elementsFrom d e (g + 1) := by
  unfold elementsFrom
  constructor
  · rw [Nat.div_le_iff_le_mul_add_pred he, Nat.mul_comm e]
    omega
  · rw [← Nat.succ_le_iff, Nat.le_div_iff_mul_le he, Nat.succ_mul]
    omega

/-- A granule takes the bytes of the operation's elements that begin in it. -/
theorem State.readByte_writeGranule_element (h : Memory.wf s.mem = true) {o : ReefOut} {k d i : Nat} {bs : List Byte} (ho : o.writes = [(k, bs)])
    (hd : s.reefSpan r.lagoon st (rAddr r.word k) bs.length = some d) (he : 0 < writeEsz r.word k) (hi : i < bs.length)
    (hg : (d + i / writeEsz r.word k * writeEsz r.word k) / 1024 = g) : (s.writeGranule st r o g).readByte (d + i) = bs.getD i 0 := by
  rw [State.writeGranule_eq, ho, List.foldl_cons, List.foldl_nil, State.readByte_putSpan h hd, State.readByte_writeBytes h]
  obtain ⟨hfirst, hlast⟩ := mem_elements he hg
  generalize writeEsz r.word k = e at *
  have hlow : elementsFrom d e g * e ≤ i := (Nat.mul_le_mul_right e hfirst).trans (Nat.div_mul_le_self i e)
  have hhigh : i < elementsFrom d e (g + 1) * e := (Nat.div_lt_iff_lt_mul he).mp hlast
  have hin : i - elementsFrom d e g * e < (elementsFrom d e (g + 1) - elementsFrom d e g) * e := by
    rw [Nat.sub_mul]
    omega
  rw [if_pos (by omega), Nat.add_sub_add_left, granuleBytes, List.getElem?_take_of_lt hin, List.getElem?_drop, Nat.add_sub_cancel' hlow,
    List.getElem?_eq_getElem hi, List.getD_eq_getElem _ _ hi]
  rfl

end granule

/-! ### What a slot keeps of its wheel (R185) -/

@[simp] theorem State.serveShoal_wheels (s : State) (c : CoreId) (o : StreamOp) (t : Txn) (w : Nat) (bad : Bool) :
    (s.serveShoal c o t w bad).1.wheels = s.wheels := by
  unfold State.serveShoal
  extract_lets g n
  split
  · split
    · split
      · exact (State.serve_wheels ..).trans ((State.raise_wheels ..).trans
          (State.countError_keeps (fun s => s.wheels) (fun _ _ _ _ _ _ => rfl) ..))
      · exact State.serve_wheels ..
    · exact State.serve_wheels ..
  · exact State.serve_wheels ..

@[simp] theorem State.groupCompute_wheels (s : State) (st : Nat) (r : ReefHeld) : (s.groupCompute st r).wheels = s.wheels := by
  unfold State.groupCompute
  extract_lets w k g
  split <;> rfl

@[simp] theorem State.reefSlot_wheels (s : State) (w : Nat) (r : ReefHeld) : (s.reefSlot w r).wheels = s.wheels := by
  unfold State.reefSlot
  extract_lets st on
  cases r.reads.find? on with
  | some g =>
    dsimp only
    split
    · exact State.meetBad_wheels ..
    · split
      · rfl
      · split
        · exact State.groupCompute_wheels ..
        · rfl
  | none =>
    cases r.writes.find? on with
    | none => rfl
    | some g =>
      cases r.out with
      | none => rfl
      | some o =>
        dsimp only
        cases s.writeBad st r o g with
        | some a => exact State.meetBad_wheels ..
        | none => exact State.writeGranule_wheels ..

@[simp] theorem State.sendDrain_wheels (s : State) (l : Nat) : (s.sendDrain l).wheels = s.wheels := by
  unfold State.sendDrain
  split
  · rfl
  · split <;> rfl

theorem State.drainSlot_wheels {s t : State} {l w : Nat} (h : s.drainSlot l w = some t) : t.wheels = s.wheels := by
  unfold State.drainSlot at h
  split at h
  · cases h
  · split at h
    · cases h
    · extract_lets s1 d1 x u at h
      have hmet : u.wheels = s.wheels := by
        unfold u s1
        split
        · exact State.meetBad_wheels ..
        · rfl
      rw [← Option.some_inj.mp h]
      split
      · exact (State.sendDrain_wheels ..).trans hmet
      · exact hmet

/-- The wheel of a channel has the same position and the same owners. -/
structure State.SameSlots (t s : State) (ch : Nat) : Prop where
  pos    : (t.wheel ch).pos = (s.wheel ch).pos
  owners : (t.wheel ch).owners = (s.wheel ch).owners

namespace State.SameSlots

variable {s t u : State} {ch : Nat}

theorem of_wheels (h : t.wheels = s.wheels) : t.SameSlots s ch :=
  ⟨congrArg Wheel.pos (State.wheel_of_wheels h ch), congrArg Wheel.owners (State.wheel_of_wheels h ch)⟩

theorem trans (h : u.SameSlots t ch) (h2 : t.SameSlots s ch) : u.SameSlots s ch := ⟨h.pos.trans h2.pos, h.owners.trans h2.owners⟩

/-- A slot of the harbour counts one granule less that is owed. -/
theorem harbourSlot (hs : Sparse.wf Wheel.blank s.wheels = true) (h : s.harbourSlot ch = some t) : t.SameSlots s ch := by
  unfold State.harbourSlot at h
  extract_lets k at h
  split at h
  · cases h
  · rw [← Option.some_inj.mp h]
    constructor <;> rw [State.setWheel_wheel _ hs, if_pos rfl]

/-- A slot that is lent leaves position and owners of its wheel as they were (R188). -/
theorem lend (hs : Sparse.wf Wheel.blank s.wheels = true) (l : Nat) (bad : Bool) : (s.lend l ch bad).SameSlots s ch := by
  unfold State.lend
  split
  · exact of_wheels rfl
  · split
    next h => exact harbourSlot hs h
    · split
      · exact of_wheels (State.serveShoal_wheels ..)
      · cases h : s.drainSlot l ch with
        | none => exact of_wheels rfl
        | some t => exact of_wheels (State.drainSlot_wheels h)

end State.SameSlots

/-- The wheel of a channel one position on. -/
def State.advance (s : State) (ch : Nat) : State := s.setWheel ch { s.wheel ch with pos := ((s.wheel ch).pos + 1) % 256 }

/-- The owner of the present slot of a channel. -/
def State.slotOwner (s : State) (ch : Nat) : Nat := (Sparse.get 0 (s.wheel ch).owners (s.wheel ch).pos).toNat

/-- A core that owns a slot is served, and where DRAM is idle with a hit of the shoal its time is lent (R187, R229). -/
def State.coreSlot (s : State) (ch : Nat) (bad : Bool) (l : Nat) : Option (Nat × StreamOp × Txn) → State
  | some (v, o, t) =>
    let (s2, idle) := s.serveShoal ⟨l, v⟩ o t ch bad
    if idle then s2.lend l ch bad else s2
  | none => s.lend l ch bad

/-- What a slot does once its wheel has advanced, by the owner that is coded in it (R185 to R189, R204). -/
def State.serveSlot (s : State) (ch : Nat) (bad : Bool) (own : Nat) : State :=
  let l := bits own 10 3
  if bits own 13 3 = 2 then
    match s.reefWork l ch with
    | some r => s.reefSlot ch r
    | none => s.lend l ch bad
  else if bits own 13 3 = 3 then
    match (s.harbourSlot ch).or (s.drainSlot l ch) with
    | some t => t
    | none => s.lend l ch bad
  else if bits own 13 3 = 1 ∧ s.power.state = 0 then
    s.coreSlot ch bad l (s.oldest l ch (fun v => (s.core ⟨l, v⟩).img.phys == 144 * bits own 9 1 + bits own 0 9))
  else s.lend l ch bad

theorem State.coreSlot_sameSlots {s : State} (hs : s.Canonical) (ch : Nat) (bad : Bool) (l : Nat) (x : Option (Nat × StreamOp × Txn)) :
    (s.coreSlot ch bad l x).SameSlots s ch := by
  cases x with
  | none => exact State.SameSlots.lend hs.wheels l bad
  | some x =>
    obtain ⟨v, o, t⟩ := x
    have hserve : (s.serveShoal ⟨l, v⟩ o t ch bad).1.SameSlots s ch := .of_wheels (State.serveShoal_wheels ..)
    unfold State.coreSlot
    dsimp only
    split
    · exact (State.SameSlots.lend hs.serveShoal.wheels l bad).trans hserve
    · exact hserve

theorem State.serveSlot_sameSlots {s : State} (hs : s.Canonical) (ch : Nat) (bad : Bool) (own : Nat) :
    (s.serveSlot ch bad own).SameSlots s ch := by
  have hlend := State.SameSlots.lend (ch := ch) hs.wheels (bits own 10 3) bad
  unfold State.serveSlot
  extract_lets l
  split
  · cases s.reefWork l ch with
    | some r => exact .of_wheels (State.reefSlot_wheels ..)
    | none => exact hlend
  · split
    · cases hh : s.harbourSlot ch with
      | some t => exact State.SameSlots.harbourSlot hs.wheels hh
      | none =>
        cases hd : s.drainSlot l ch with
        | some t => exact .of_wheels (State.drainSlot_wheels hd)
        | none => exact hlend
    · split
      · exact State.coreSlot_sameSlots hs ..
      · exact hlend

/-! ### A slot starts (R185, R189) -/

section slot

variable {s : State} {ch : Nat} (hch : ch < 656) (hp : s.power.state = 0)
include hch hp

theorem exec_wheelSlot (bad : Bool) : exec (.wheelSlot ch bad) s =
    .next (if slotReserved ch (s.wheel ch).pos ∨ bits (s.slotOwner ch) 13 3 = 0 ∨ 4 < bits (s.slotOwner ch) 13 3 then s.advance ch
      else (s.advance ch).serveSlot ch bad (s.slotOwner ch)) := by
  have hturn : s.turns ch = true := by simp [State.turns, hch, hp]
  change execWheelSlot ch bad s = _
  unfold execWheelSlot State.serveSlot
  rw [if_neg (by simp [hturn])]
  extract_lets k own s1 l p lent
  refine congrArg Host.Outcome.next (if_congr Iff.rfl rfl (if_congr Iff.rfl rfl (if_congr Iff.rfl rfl (if_congr Iff.rfl ?_ rfl))))
  change _ = s1.coreSlot ch bad l (s1.oldest l ch (fun v => (s1.core ⟨l, v⟩).img.phys == p))
  rcases s1.oldest l ch _ with _ | ⟨v, o, t⟩
  · rfl
  · unfold State.coreSlot
    dsimp only

variable {bad : Bool} (hr : slotReserved ch (s.wheel ch).pos = false)
include hr

/-- A slot that is not reserved serves the owner coded in it. -/
theorem exec_wheelSlot_owned (h0 : bits (s.slotOwner ch) 13 3 ≠ 0) (h4 : bits (s.slotOwner ch) 13 3 ≤ 4) :
    exec (.wheelSlot ch bad) s = .next ((s.advance ch).serveSlot ch bad (s.slotOwner ch)) := by
  rw [exec_wheelSlot hch hp, if_neg]
  rw [hr]
  simp [h0, h4]

theorem exec_wheelSlot_core (h : bits (s.slotOwner ch) 13 3 = 1) {x : Nat × StreamOp × Txn}
    (ho : (s.advance ch).oldest (bits (s.slotOwner ch) 10 3) ch (fun v => ((s.advance ch).core ⟨bits (s.slotOwner ch) 10 3, v⟩).img.phys ==
      144 * bits (s.slotOwner ch) 9 1 + bits (s.slotOwner ch) 0 9) = some x) :
    exec (.wheelSlot ch bad) s = .next ((s.advance ch).coreSlot ch bad (bits (s.slotOwner ch) 10 3) (some x)) := by
  rw [exec_wheelSlot_owned hch hp hr (by omega) (by omega), State.serveSlot]
  rw [if_neg (by omega), if_neg (by omega), if_pos ⟨h, hp⟩, ho]

theorem exec_wheelSlot_reef (h : bits (s.slotOwner ch) 13 3 = 2) {r : ReefHeld} (hw : (s.advance ch).reefWork (bits (s.slotOwner ch) 10 3) ch = some r) :
    exec (.wheelSlot ch bad) s = .next ((s.advance ch).reefSlot ch r) := by
  rw [exec_wheelSlot_owned hch hp hr (by omega) (by omega), State.serveSlot]
  rw [if_pos h, hw]

theorem exec_wheelSlot_harbour (h : bits (s.slotOwner ch) 13 3 = 3) {t : State} (ht : (s.advance ch).harbourSlot ch = some t) :
    exec (.wheelSlot ch bad) s = .next t := by
  rw [exec_wheelSlot_owned hch hp hr (by omega) (by omega), State.serveSlot]
  rw [if_neg (by omega), if_pos h, ht]
  rfl

theorem exec_wheelSlot_free (h : bits (s.slotOwner ch) 13 3 = 4) :
    exec (.wheelSlot ch bad) s = .next ((s.advance ch).lend (bits (s.slotOwner ch) 10 3) ch bad) := by
  rw [exec_wheelSlot_owned hch hp hr (by omega) (by omega), State.serveSlot]
  rw [if_neg (by omega), if_neg (by omega), if_neg (by omega)]

end slot

/-- A transaction that cannot hit the shoal goes to DRAM (R228, R232). -/
theorem State.serveShoal_of_not_shoaled {s : State} {c : CoreId} {o : StreamOp} {t : Txn} {w : Nat} (h : s.shoaled c.lagoon w t = false) (bad : Bool) :
    s.serveShoal c o t w bad = (s.serve c o t, false) := by
  unfold State.serveShoal
  dsimp only
  rw [if_neg (by simp [h])]

theorem State.not_shoaled_of_steady {s : State} {l : Nat} (h : (s.lagoon l).cfg.steady = true) (w : Nat) (t : Txn) : s.shoaled l w t = false := by
  simp [State.shoaled, h]

theorem State.coreSlot_of_not_shoaled {s : State} {l ch v : Nat} {o : StreamOp} {t : Txn} (h : s.shoaled l ch t = false) (bad : Bool) :
    s.coreSlot ch bad l (some (v, o, t)) = s.serve ⟨l, v⟩ o t := by
  unfold State.coreSlot
  dsimp only
  rw [State.serveShoal_of_not_shoaled h]
  rfl

theorem State.lend_harbour {s t : State} {l ch : Nat} (hn : (s.lagoon l).cfg.steady = false) (h : s.harbourSlot ch = some t) (bad : Bool) :
    s.lend l ch bad = t := by
  unfold State.lend
  rw [if_neg (by simp [hn]), h]

theorem State.lend_oldest {s : State} {l ch v : Nat} {o : StreamOp} {t : Txn} (hn : (s.lagoon l).cfg.steady = false) (h : s.harbourSlot ch = none)
    (hp : s.power.state = 0) (ho : s.oldest l ch (fun _ => true) = some (v, o, t)) (hx : s.shoaled l ch t = false) (bad : Bool) :
    s.lend l ch bad = s.serve ⟨l, v⟩ o t := by
  unfold State.lend
  rw [if_neg (by simp [hn]), h]
  dsimp only
  rw [if_pos hp, ho]
  dsimp only
  rw [State.serveShoal_of_not_shoaled hx]

/-- Settles O27: a slot by its owner, the bytes of a served transaction and those of a reef engine's granule. -/
theorem wheelsServeMemory : Obligations.WheelsServeMemory := by
  unfold Obligations.WheelsServeMemory
  refine ⟨fun ch bad s hs hch hp => ?_, fun c s o t hs => ?_, fun st g s r o hs => ?_⟩
  · intro w own s1
    have hc := State.canonical_eq_true.mp hs
    have hc1 : (s.advance ch).Canonical := hc.setWheel
    have hwheel : (s.advance ch).wheel ch = { w with pos := (w.pos + 1) % 256 } := by
      unfold State.advance
      rw [State.setWheel_wheel _ hc.wheels, if_pos rfl]
    have howed (h : w.owed ≠ 0) : (s.advance ch).harbourSlot ch = some (s.setWheel ch { w with pos := (w.pos + 1) % 256, owed := w.owed - 1 }) := by
      unfold State.harbourSlot
      dsimp only
      rw [hwheel, if_neg h, State.advance, State.setWheel_setWheel hc.wheels]
    refine ⟨?_, fun hr => ?_, fun v o x hr hown ho hx => ?_, fun r hr hown hw => ?_, fun hr hown h => ?_, fun v o x hr hown hn h ho hx => ?_⟩
    · have hslots (t : State) (h : t.SameSlots (s.advance ch) ch) : (t.wheel ch).pos = (w.pos + 1) % 256 ∧ (t.wheel ch).owners = w.owners :=
        ⟨h.pos.trans (by rw [hwheel]), h.owners.trans (by rw [hwheel])⟩
      refine ⟨_, exec_wheelSlot hch hp bad, ?_⟩
      split
      · exact hslots _ (.of_wheels rfl)
      · exact hslots _ (State.serveSlot_sameSlots hc1 ch bad _)
    · rw [exec_wheelSlot hch hp, if_pos (.inl hr)]
      rfl
    · have hshoal : (s.advance ch).shoaled (bits own 10 3) ch x = false := hx.elim (State.not_shoaled_of_steady · ch x) id
      exact (exec_wheelSlot_core hch hp hr hown ho).trans (congrArg Host.Outcome.next (State.coreSlot_of_not_shoaled hshoal bad))
    · exact exec_wheelSlot_reef hch hp hr hown hw
    · rcases hown with hown | ⟨hown, hn⟩
      · rw [exec_wheelSlot_harbour hch hp hr hown (howed h)]
      · rw [exec_wheelSlot_free hch hp hr hown, State.lend_harbour (by exact hn) (howed h)]
    · have hnone : (s.advance ch).harbourSlot ch = none := by
        unfold State.harbourSlot
        dsimp only
        rw [hwheel]
        exact if_pos h
      exact (exec_wheelSlot_free hch hp hr hown).trans (congrArg Host.Outcome.next (State.lend_oldest (s := s.advance ch) hn hnone hp ho hx bad))
  · intro addrs
    obtain ⟨hmem, -⟩ := State.canonical_iff.mp hs
    refine ⟨State.serve_read_mem, fun h hb ho ht => ?_, fun i d h hb hi hlast => State.serve_readByte_last hmem h hb hi hlast, fun a ha => ?_⟩
    · rw [State.serve_read h hb]
      exact State.sendResponse_op hs ho ht rfl
    · refine State.serve_readByte_other hmem fun hin => ?_
      obtain ⟨p, hp, hpa⟩ := List.mem_filterMap.mp hin
      exact ha p hp hpa
  · obtain ⟨hmem, -⟩ := State.canonical_iff.mp hs
    exact ⟨fun a ha => State.readByte_writeGranule_outside hmem ha, fun k bs d i ho hd he hi hg =>
      State.readByte_writeGranule_element hmem ho hd he hi hg⟩

end Sys2Proof.Machine
end

section
/-! The bytes of a reef operation's spans (R204, R207, R208, R221): the elements of a byte string, strings of one length behind each other,
the granules that were read for a span, and leaves. -/

namespace Sys2Proof.Machine

/-! ### Elements of a byte string -/

/-- Element i of a byte string, of e bytes each. -/
def elemAt (e : Nat) (bs : List Byte) (i : Nat) : Nat := ofBytes ((bs.drop (i * e)).take e)

theorem elemsOf_eq_map (e n : Nat) (bs : List Byte) : elemsOf e n bs = (List.range n).map (elemAt e bs) := by
  induction n generalizing bs with
  | zero => rfl
  | succ n ih =>
    rw [elemsOf, ih, List.range_succ_eq_map, List.map_cons, List.map_map]
    refine congrArg₂ List.cons (by simp [elemAt]) (List.map_congr_left fun i _ => ?_)
    simp [elemAt, Nat.succ_mul, Nat.add_comm]

section strings

variable {α : Type} {f : α → List Byte} {e : Nat} (hf : ∀ a, (f a).length = e)
include hf

theorem length_flatMap_strings (l : List α) : (l.flatMap f).length = l.length * e := by
  simp [List.length_flatMap, hf]

/-- One of several strings of a length that stand behind each other. -/
theorem take_drop_flatMap (l : List α) {i : Nat} (hi : i < l.length) : ((l.flatMap f).drop (i * e)).take e = f l[i] := by
  induction l generalizing i with
  | nil => exact absurd hi (Nat.not_lt_zero i)
  | cons a l ih =>
    cases i with
    | zero => simp [List.take_left' (hf a)]
    | succ i =>
      rw [List.flatMap_cons, Nat.succ_mul, Nat.add_comm, ← List.drop_drop, List.drop_left' (hf a)]
      exact ih (Nat.lt_of_succ_lt_succ hi)

end strings

/-- A byte string holds n elements of e bytes: element i is the low bytes of `v i`. -/
def HoldsElems (bs : List Byte) (e n : Nat) (v : Nat → Nat) : Prop :=
  bs.length = n * e ∧ ∀ i, i < n → elemAt e bs i = v i % 2 ^ (8 * e)

theorem holdsElems_bytesOf (e n : Nat) (v : Nat → Nat) : HoldsElems (bytesOf e ((List.range n).map v)) e n v := by
  have hlen (x : Nat) : (toBytes e x).length = e := length_toBytes e x
  refine ⟨(length_flatMap_strings hlen _).trans (by simp), fun i hi => ?_⟩
  rw [elemAt, bytesOf, take_drop_flatMap hlen _ (by simpa using hi), ofBytes_toBytes, List.getElem_map, List.getElem_range, Nat.pow_mul]

/-- The bytes of a byte string are its elements of one byte (R208). -/
theorem bytesOf_elemsOf_one (bs : List Byte) : bytesOf 1 (elemsOf 1 bs.length bs) = bs := by
  induction bs with
  | nil => rfl
  | cons b bs ih =>
    rw [List.length_cons, elemsOf, bytesOf, List.flatMap_cons]
    simpa [toBytes, ofBytes, bytesOf] using ih

/-! ### Functions with flags over the elements -/

theorem fst_mapFlags_range' {α β : Type} (g : Nat → α → β × Flags) (h : Nat → α) (i n : Nat) :
    (mapFlags g i ((List.range' i n).map h)).1 = (List.range' i n).map fun j => (g j (h j)).1 := by
  induction n generalizing i with
  | zero => rfl
  | succ n ih => exact congrArg (List.cons _) (ih (i + 1))

theorem fst_mapFlags_range {α β : Type} (g : Nat → α → β × Flags) (h : Nat → α) (n : Nat) :
    (mapFlags g 0 ((List.range n).map h)).1 = (List.range n).map fun j => (g j (h j)).1 := by
  rw [List.range_eq_range']
  exact fst_mapFlags_range' g h 0 n

/-! ### The granules read for a span (R204) -/

theorem State.readBytes_add (s : State) (a m n : Nat) : s.readBytes a (m + n) = s.readBytes a m ++ s.readBytes (a + m) n := by
  simp [State.readBytes, Sparse.getRun, List.range_add, Nat.add_assoc]

/-- Granules that follow each other are a run of memory. -/
theorem State.flatMap_readGranules (s : State) (a n : Nat) :
    ((List.range n).map (a + ·)).flatMap (fun g => s.readBytes (1024 * g) 1024) = s.readBytes (1024 * a) (n * 1024) := by
  induction n with
  | zero => rfl
  | succ n ih =>
    rw [List.range_succ, List.map_append, List.flatMap_append, ih, Nat.succ_mul n, State.readBytes_add, Nat.mul_comm n, ← Nat.mul_add]
    simp

/-- The bytes of n from a device address stand in the granules that they lie in. -/
theorem State.take_drop_granules (s : State) (d n : Nat) :
    (((granulesOf d n).flatMap (fun g => s.readBytes (1024 * g) 1024)).drop (d % 1024)).take n = s.readBytes d n := by
  unfold granulesOf
  split
  next h => simp [h, State.readBytes, Sparse.getRun]
  next h =>
    rw [State.flatMap_readGranules, State.readBytes, Sparse.getRun, take_drop_map_range _ (by omega)]
    refine List.map_congr_left fun i _ => ?_
    rw [← Nat.add_assoc, Nat.div_add_mod]

/-- A span's bytes are those of memory, as far as its granules were read as memory holds them (R204). -/
theorem State.spanBytes_eq_readBytes {s : State} {st k d n : Nat} {r : ReefHeld}
    (hspan : r.spans.find? (fun p => p.1 == k && reefReads r.word k) = some (k, n)) (hd : s.reefSpan r.lagoon st (rAddr r.word k) n = some d)
    (hgot : ∀ g ∈ granulesOf d n, Sparse.get [] r.got g = s.readBytes (1024 * g) 1024) : s.spanBytes st r k = s.readBytes d n := by
  unfold State.spanBytes
  simp only [hspan, hd, Option.getD_some]
  rw [List.flatMap_congr hgot, State.take_drop_granules]

/-! ### Leaves (R221) -/

/-- Runs of n bytes that a byte string is cut into, where it reaches into the last of them. -/
theorem chunks_eq_map {n : Nat} (m : Nat) {bs : List Byte} (h : ∀ j, j < m → n * j < bs.length) :
    chunks n m bs = (List.range m).map fun j => (bs.drop (n * j)).take n := by
  induction m generalizing bs with
  | zero => rfl
  | succ m ih =>
    have hne : bs.isEmpty = false := by
      cases bs with
      | nil => exact absurd (h 0 m.succ_pos) (by simp)
      | cons b bs => rfl
    have hrest (j : Nat) (hj : j < m) : n * j < (bs.drop n).length := by
      have := h (j + 1) (Nat.succ_lt_succ hj)
      rw [List.length_drop]
      rw [Nat.mul_succ] at this
      omega
    rw [chunks, hne, ih hrest, List.range_succ_eq_map, List.map_cons, List.map_map]
    refine congrArg₂ List.cons (by simp) (List.map_congr_left fun j _ => ?_)
    simp [Nat.mul_succ, Nat.add_comm]

theorem length_digestBytes (d : Digest) : (digestBytes d).length = 48 := length_toBytes 48 _

/-- The digests of a byte string's leaves stand behind each other (R221). -/
theorem reefDigest_leaves (bs : List Byte) : ∃ out, (reefDigest bs).writes = [(0, out)] ∧ out.length = 48 * leafCount bs.length ∧
    ∀ j, j < leafCount bs.length → (out.drop (48 * j)).take 48 = digestBytes (leafDigest ((bs.drop (2 ^ 20 * j)).take (2 ^ 20))) := by
  have hchunks := chunks_eq_map (n := 0x100000) (leafCount bs.length) (bs := bs) fun j hj => by
    rw [leafCount] at hj
    omega
  have hlen (l : List Byte) : (digestBytes (leafDigest l)).length = 48 := length_digestBytes _
  refine ⟨_, rfl, ?_, fun j hj => ?_⟩
  · rw [length_flatMap_strings hlen, hchunks, List.length_map, List.length_range, Nat.mul_comm]
  · rw [hchunks, Nat.mul_comm 48, take_drop_flatMap hlen _ (by simpa using hj), List.getElem_map, List.getElem_range]
    rfl

end Sys2Proof.Machine
end

section
/-! What a reef operation writes, element by element (R207, R208, R213, R214): the elements of spans, conversions and arithmetic. -/

namespace Sys2Proof.Machine

/-! ### Elements of spans -/

section spans

variable (w : ReefRec) (bytes : Nat → List Byte)

/-- Element i of span k, as its bits (R208). -/
def spanSrc (k i : Nat) : Nat := elemAt (reefEsz (rXs w) (rFmt w k)) (bytes k) i

/-- Element i of span k, as its value (R208). -/
def spanVal (k i : Nat) : Val := (rFmt w k).decode (spanSrc w bytes k i)

/-- The elements of span k (R208). -/
def spanElems (k : Nat) : List Nat := elemsOf (reefEsz (rXs w) (rFmt w k)) (rCount w) (bytes k)

theorem spanElems_eq_map (k : Nat) : spanElems w bytes k = (List.range (rCount w)).map (spanSrc w bytes k) := elemsOf_eq_map ..

theorem map_decode_spanElems (k : Nat) :
    (spanElems w bytes k).map (rFmt w k).decode = (List.range (rCount w)).map (spanVal w bytes k) := by
  rw [spanElems_eq_map, List.map_map]
  rfl

end spans

section operations

variable {k0 k1 : Nat} {w : ReefRec} {bytes : Nat → List Byte}

/-! ### What each operation is (R208) -/

theorem reefPerform_fill (h : rOp w = 0x01) : reefPerform k0 k1 w bytes = reefFill w := by simp only [reefPerform, h]

theorem reefPerform_check (h : rOp w = 0x18) : reefPerform k0 k1 w bytes = reefCheck (bytes 1) := by simp only [reefPerform, h]

theorem reefPerform_digest (h : rOp w = 0x40) : reefPerform k0 k1 w bytes = reefDigest (bytes 1) := by simp only [reefPerform, h]

theorem reefPerform_elementwise (h : rOp w = 0x02 ∨ rOp w = 0x03 ∨ rOp w = 0x04 ∨ rOp w = 0x05 ∨ rOp w = 0x06) :
    reefPerform k0 k1 w bytes = reefElementwise k0 k1 w (spanElems w bytes) := by
  rcases h with h | h | h | h | h <;> (simp only [reefPerform, h]; rfl)

theorem reefPerform_reduce (h : rOp w = 0x10 ∨ rOp w = 0x11 ∨ rOp w = 0x12) : reefPerform k0 k1 w bytes =
    reefReduce k0 k1 w (spanElems w bytes 1) (ofBytes ((bytes 0).take (targetEsz w))) := by
  rcases h with h | h | h <;> (simp only [reefPerform, h]; rfl)

theorem reefPerform_optim (h : rOp w = 0x20 ∨ rOp w = 0x21) : reefPerform k0 k1 w bytes = reefOptim k0 k1 w (spanElems w bytes) := by
  rcases h with h | h <;> (simp only [reefPerform, h]; rfl)

/-! ### Results -/

/-- An outcome writes n elements to span 0, the low bytes of `v i` to element i. -/
def ReefOut.Gives (o : ReefOut) (e n : Nat) (v : Nat → Nat) : Prop := ∃ bs, o.writes = [(0, bs)] ∧ HoldsElems bs e n v

theorem ReefOut.gives_of_writes {o : ReefOut} {e n : Nat} {v : Nat → Nat} (h : o.writes = [(0, bytesOf e ((List.range n).map v))]) :
    o.Gives e n v := ⟨_, h, holdsElems_bytesOf e n v⟩

/-- What span k stores of a value of the computing format at element i, its word drawn at stream offset c (R213, R214). -/
def reefStored (k0 k1 : Nat) (w : ReefRec) (comp : Fmt) (k c i : Nat) (v : Val) : Nat :=
  (reefStore w comp (rFmt w k) (reefWord k0 k1 w c i) v).1

/-- What span 0 stores of an integer result at element i, modulo 2^32 (R213). -/
def reefWrapped (k0 k1 : Nat) (w : ReefRec) (v : Int) (i : Nat) : Nat :=
  if rFmt w 0 = .int32 then wrapInt 32 v else reefStored k0 k1 w .int32 0 0 i (intVal (sext 32 (wrapInt 32 v)))

theorem sext_emod (n x : Nat) : sext n x % (2 ^ n : Nat) = (x % 2 ^ n : Nat) := by
  unfold sext
  split
  · simp
  · rw [Int.sub_emod_right, ← Int.natCast_mod, Nat.mod_mod]

/-- The low bits of an integer, read as a signed value and wrapped again, are the same bits. -/
theorem wrapInt_sext_wrapInt (n : Nat) (v : Int) : wrapInt n (sext n (wrapInt n v)) = wrapInt n v := by
  rw [wrapInt, sext_emod, Int.toNat_natCast, Nat.mod_eq_of_lt (wrapInt_lt n v)]

/-- An integer result as the operations store it is the wrapped one (R213). -/
theorem fst_storeInt (v : Int) (i : Nat) : (if rFmt w 0 = .int32 then (wrapInt 32 (sext 32 (wrapInt 32 v)), (0 : Flags))
    else reefStore w .int32 (rFmt w 0) (reefWord k0 k1 w 0 i) (intVal (sext 32 (wrapInt 32 v)))).1 = reefWrapped k0 k1 w v i := by
  rw [wrapInt_sext_wrapInt, apply_ite Prod.fst]
  rfl

/-! ### Conversions and arithmetic (R208, R213, R214) -/

/-- CVT of untyped data moves its bytes (R208). -/
theorem reefPerform_cvtRaw (h : rOp w = 0x02) (hxs : rXs w = false) (hd : rFmt w 0 = .raw) (hs : rFmt w 1 = .raw)
    (hlen : (bytes 1).length = rCount w) : (reefPerform k0 k1 w bytes).writes = [(0, bytes 1)] := by
  have hesz : reefEsz (rXs w) (rFmt w 1) = 1 := by
    rw [hs, hxs]
    rfl
  rw [reefPerform_elementwise (.inl h)]
  unfold reefElementwise
  dsimp only
  rw [if_pos ⟨h, hd⟩, spanElems, hesz, ← hlen, bytesOf_elemsOf_one]

/-- The second operand of an operation at element i; CVT and SCALE have one operand alone (Table 2 of spec/07). -/
def secondVal (op : Nat) (w : ReefRec) (bytes : Nat → List Byte) (i : Nat) : Val :=
  if op = 0x02 ∨ op = 0x05 then spanVal w bytes 1 i else spanVal w bytes 2 i

theorem map_secondVal : (if rOp w = 0x02 ∨ rOp w = 0x05 then (spanElems w bytes 1).map (rFmt w 1).decode
    else (spanElems w bytes 2).map (rFmt w 2).decode) = (List.range (rCount w)).map (secondVal (rOp w) w bytes) := by
  unfold secondVal
  split <;> exact map_decode_spanElems ..

/-- CVT rounds each element once into the format of span 0 (R213). -/
theorem reefPerform_cvt (h : rOp w = 0x02) (hd : rFmt w 0 ≠ .raw) :
    (reefPerform k0 k1 w bytes).Gives (reefEsz false (rFmt w 0)) (rCount w) fun i =>
      ((rFmt w 0).write ((RMode.ofCode (rRmode w)).getD .rne) (reefWord k0 k1 w 0 i) (!rOvf w) (spanVal w bytes 1 i)).1 := by
  refine ReefOut.gives_of_writes ?_
  rw [reefPerform_elementwise (.inl h)]
  unfold reefElementwise
  dsimp only
  rw [if_neg (fun hr => hd hr.2), if_neg (fun hi => hi.2 h), map_secondVal, map_decode_spanElems, List.zip_map', fst_mapFlags_range]
  simp only [if_pos h, reefStore, if_neg hd]

/-- ADD and MUL of integers combine each two elements and wrap the result (R213). -/
theorem reefPerform_int (hint : (reefFmts w).any isInt4 = true) {op : Nat} (h : rOp w = op) (hop : op = 0x03 ∨ op = 0x04) :
    (reefPerform k0 k1 w bytes).Gives (reefEsz false (rFmt w 0)) (rCount w) fun i =>
      let x := (spanVal w bytes 1 i).toInt
      let y := (secondVal op w bytes i).toInt
      reefWrapped k0 k1 w (if op = 0x03 then x + y else x * y) i := by
  refine ReefOut.gives_of_writes ?_
  subst h
  have h2 : rOp w ≠ 0x02 := by omega
  rw [reefPerform_elementwise (by omega)]
  unfold reefElementwise
  dsimp only
  rw [if_neg (fun hr => h2 hr.1), if_pos ⟨hint, h2⟩, map_secondVal, map_decode_spanElems, List.zip_map', fst_mapFlags_range]
  simp only [fst_storeInt]

/-- A floating-point operation is computed in the computing format and stored in that of span 0 (R213, R214). -/
theorem reefPerform_float (hint : (reefFmts w).any isInt4 = false) {op : Nat} (h : rOp w = op)
    (hop : op = 0x03 ∨ op = 0x04 ∨ op = 0x05 ∨ op = 0x06) :
    let comp := reefComp (reefFmts w)
    (reefPerform k0 k1 w bytes).Gives (reefEsz false (rFmt w 0)) (rCount w) fun i => reefStored k0 k1 w comp 0 0 i
      (reefFloat op (compF comp) (fp32F.decode (rParam w 0)) (fp32F.decode (rParam w 1)) (spanVal w bytes 1 i) (secondVal op w bytes i)).1 := by
  intro comp
  refine ReefOut.gives_of_writes ?_
  subst h
  have h2 : rOp w ≠ 0x02 := by omega
  rw [reefPerform_elementwise (.inr hop)]
  unfold reefElementwise
  dsimp only
  rw [if_neg (fun hr => h2 hr.1), if_neg (fun hi => by simp [hint] at hi), map_secondVal, map_decode_spanElems, List.zip_map',
    fst_mapFlags_range]
  simp only [if_neg h2]
  rfl

end operations

end Sys2Proof.Machine
end

section
/-! The optimizers over whole spans (R216). -/

namespace Sys2Proof.Machine

/-! ### One element -/

/-- One multiplication in FP32 (R213, R216). -/
def mul32 (a b : Val) : Val := (rneVal fp32F (Val.mul a b)).1

/-- One multiplication and addition in FP32, rounded once (R216). -/
def fma32 (a b c : Val) : Val := (rneVal fp32F (Val.add false (Val.mul a b) c)).1

/-- The momentum that SGDM leaves, of a weight, its gradient and its momentum (R216). -/
def sgdmM (mu wd w g m : Val) : Val := fma32 mu m (fma32 wd w g)

theorem sgdmStep_weight (lr mu wd w g m : Val) : (sgdmStep lr mu wd w g m).1 = fma32 lr (sgdmM mu wd w g m) w := rfl

theorem sgdmStep_momentum (lr mu wd w g m : Val) : (sgdmStep lr mu wd w g m).2.1 = sgdmM mu wd w g m := rfl

/-- The first moment that ADAMW leaves (R216). -/
def adamwM (p : Nat → Val) (g m : Val) : Val := fma32 (p 1) m (mul32 (p 2) g)

/-- The second moment that ADAMW leaves (R216). -/
def adamwV (p : Nat → Val) (g v : Val) : Val := fma32 (p 3) v (mul32 (p 4) (mul32 g g))

/-- The update of ADAMW: the corrected moments' quotient, with the weight's decay (R216). -/
def adamwU (p : Nat → Val) (w m' v' : Val) : Val :=
  fma32 (p 8) w (reefDiv (mul32 m' (p 5)) (rneVal fp32F (Val.add false (reefSqrt (mul32 v' (p 6))).1 (p 7))).1).1

theorem adamwStep_weight (p : Nat → Val) (w g m v : Val) :
    (adamwStep p w g m v).1 = fma32 (p 0) (adamwU p w (adamwM p g m) (adamwV p g v)) w := rfl

theorem adamwStep_first (p : Nat → Val) (w g m v : Val) : (adamwStep p w g m v).2.1 = adamwM p g m := rfl

theorem adamwStep_second (p : Nat → Val) (w g m v : Val) : (adamwStep p w g m v).2.2.1 = adamwV p g v := rfl

/-! ### Whole spans -/

section optimizers

variable {k0 k1 : Nat} {w : ReefRec} {bytes : Nat → List Byte}

/-- A parameter of an optimizer (R216). -/
def optimParam (w : ReefRec) (n : Nat) : Val := fp32F.decode (rParam w n)

/-- SGDM writes the weights and the momenta (R216). -/
theorem reefPerform_sgdm (h : rOp w = 0x20) :
    let m' (i : Nat) : Val := sgdmM (optimParam w 1) (optimParam w 2) (spanVal w bytes 0 i) (spanVal w bytes 1 i) (spanVal w bytes 2 i)
    ∃ bw bm, (reefPerform k0 k1 w bytes).writes = [(0, bw), (2, bm)] ∧
      HoldsElems bw (reefEsz false (rFmt w 0)) (rCount w)
        (fun i => reefStored k0 k1 w .fp32 0 0 i (fma32 (optimParam w 0) (m' i) (spanVal w bytes 0 i))) ∧
      HoldsElems bm (reefEsz false (rFmt w 2)) (rCount w) (fun i => reefStored k0 k1 w .fp32 2 1 i (m' i)) := by
  intro m'
  refine ⟨_, _, ?_, holdsElems_bytesOf .., holdsElems_bytesOf ..⟩
  have hop : (rOp w == 0x21) = false := by simp [h]
  rw [reefPerform_optim (.inl h)]
  unfold reefOptim
  simp only [hop, Bool.false_eq_true, if_false, map_decode_spanElems, List.zip_map', fst_mapFlags_range, List.map_map, sgdmStep_weight,
    sgdmStep_momentum]
  rfl

/-- ADAMW writes the weights and both moments (R216). -/
theorem reefPerform_adamw (h : rOp w = 0x21) :
    let m' (i : Nat) : Val := adamwM (optimParam w) (spanVal w bytes 1 i) (spanVal w bytes 2 i)
    let v' (i : Nat) : Val := adamwV (optimParam w) (spanVal w bytes 1 i) (spanVal w bytes 3 i)
    ∃ bw bm bv, (reefPerform k0 k1 w bytes).writes = [(0, bw), (2, bm), (3, bv)] ∧
      HoldsElems bw (reefEsz false (rFmt w 0)) (rCount w) (fun i => reefStored k0 k1 w .fp32 0 0 i
        (fma32 (optimParam w 0) (adamwU (optimParam w) (spanVal w bytes 0 i) (m' i) (v' i)) (spanVal w bytes 0 i))) ∧
      HoldsElems bm (reefEsz false (rFmt w 2)) (rCount w) (fun i => reefStored k0 k1 w .fp32 2 1 i (m' i)) ∧
      HoldsElems bv (reefEsz false (rFmt w 3)) (rCount w) (fun i => reefStored k0 k1 w .fp32 3 2 i (v' i)) := by
  intro m' v'
  refine ⟨_, _, _, ?_, holdsElems_bytesOf .., holdsElems_bytesOf .., holdsElems_bytesOf ..⟩
  have hop : (rOp w == 0x21) = true := by simp [h]
  rw [reefPerform_optim (.inr h)]
  unfold reefOptim
  simp only [hop, if_true, map_decode_spanElems, List.zip_map', fst_mapFlags_range, List.map_map, adamwStep_weight, adamwStep_first,
    adamwStep_second]
  rfl

end optimizers

end Sys2Proof.Machine
end

section
/-! Reductions and the sum of a combining group (R63, R81, R215, R218). -/

namespace Sys2Proof.Machine

variable {k0 k1 : Nat} {w : ReefRec}

/-! ### Reductions (R215) -/

/-- An outcome is one element of e bytes, in span 0 and as its result. -/
def ReefOut.Single (o : ReefOut) (e v : Nat) : Prop := o.writes = [(0, toBytes e v)] ∧ o.result = v

/-- The format that a floating-point sum is computed in (R215). -/
def sumComp (f : Fmt) : Fmt := if f = .fp64 then .fp64 else .fp32

/-- The tree's elements are padded with +0 to the least power of two that holds them (R63, R215). -/
theorem reefTree_eq (f : FloatFmt) {vs : List Val} {m : Nat} (hlo : vs.length ≤ 2 ^ m) (hhi : 2 ^ m < 2 * vs.length) :
    reefTree f vs = treeSum f 40 (vs ++ List.replicate (2 ^ m - vs.length) (.fin false 0 0)) := by
  have hne : vs.isEmpty = false := by
    cases vs with
    | nil => exact absurd hhi (Nat.not_lt_zero _)
    | cons v vs => rfl
  have hlog : Nat.log2 (2 * vs.length - 1) = m := (Nat.log2_eq_iff (by omega)).mpr ⟨by omega, by rw [Nat.pow_succ]; omega⟩
  simp [reefTree, hne, hlog]

section reduce

variable {bytes : Nat → List Byte}

/-- The values that a reduction takes: those of span 1 (Table 2 of spec/07). -/
def reducedVals (w : ReefRec) (bytes : Nat → List Byte) : List Val := (List.range (rCount w)).map (spanVal w bytes 1)

/-- The bits of the target element before a reduction (R215). -/
def reduceTarget (w : ReefRec) (bytes : Nat → List Byte) : Nat := ofBytes ((bytes 0).take (targetEsz w))

theorem spanElems_eq_nil (h : rCount w = 0) (k : Nat) : spanElems w bytes k = [] := by
  rw [spanElems, h]
  rfl

theorem spanElems_ne_nil (h : rCount w ≠ 0) (k : Nat) : spanElems w bytes k ≠ [] := by simpa [spanElems_eq_map] using h

/-- A sum of no elements is 0 (R215). -/
theorem reefPerform_emptySum (h : rOp w = 0x10) (hn : rCount w = 0) :
    (reefPerform k0 k1 w bytes).Single (reefEsz (rXs w) (rFmt w 0)) 0 := by
  rw [reefPerform_reduce (.inl h)]
  unfold reefReduce
  dsimp only
  rw [if_pos h, if_pos (spanElems_eq_nil hn 1)]
  exact ⟨rfl, rfl⟩

section sum

variable (h : rOp w = 0x10) (hn : rCount w ≠ 0)
include h hn

/-- An exact sum, from the target's value on where it is taken in (R215). -/
theorem reefPerform_exactSum (hxs : rXs w = true) : (reefPerform k0 k1 w bytes).Single (reefEsz true (rFmt w 0))
    (xsOut (rFmt w 0) (((List.range (rCount w)).map (spanSrc w bytes 1)).foldl (xsTake (rFmt w 1))
      (if rAccum w then reduceTarget w bytes % 2 ^ 140 else 0, 0)).1).1 := by
  rw [reefPerform_reduce (.inl h)]
  unfold reefReduce
  dsimp only
  rw [if_pos h, if_neg (spanElems_ne_nil hn 1), if_pos hxs, hxs, spanElems_eq_map]
  exact ⟨rfl, rfl⟩

variable (hxs : rXs w = false)
include hxs

/-- The sum of integers modulo 2^32 (R215). -/
theorem reefPerform_intSum (hint : isInt4 (rFmt w 1) = true) : (reefPerform k0 k1 w bytes).Single (reefEsz false (rFmt w 0))
    (reefWrapped k0 k1 w (((reducedVals w bytes).map Val.toInt).sum +
      if rAccum w then ((rFmt w 0).decode (reduceTarget w bytes)).toInt else 0) 0) := by
  rw [reefPerform_reduce (.inl h)]
  unfold reefReduce
  dsimp only
  rw [if_pos h, if_neg (spanElems_ne_nil hn 1), if_neg (by simp [hxs]), if_pos hint, hxs, wrapInt_sext_wrapInt, map_decode_spanElems,
    reefWrapped]
  split <;> exact ⟨rfl, rfl⟩

/-- The pairwise tree over the least power of two of elements, the target's value last (R63, R215). -/
theorem reefPerform_floatSum (hint : isInt4 (rFmt w 1) = false) {m : Nat} (hlo : rCount w ≤ 2 ^ m) (hhi : 2 ^ m < 2 * rCount w) :
    let f := compF (sumComp (rFmt w 1))
    let sum := (treeSum f 40 (reducedVals w bytes ++ List.replicate (2 ^ m - rCount w) (.fin false 0 0))).1
    (reefPerform k0 k1 w bytes).Single (reefEsz false (rFmt w 0)) (reefStored k0 k1 w (sumComp (rFmt w 1)) 0 0 0
      (if rAccum w then (rneVal f (Val.add false sum ((rFmt w 0).decode (reduceTarget w bytes)))).1 else sum)) := by
  intro f sum
  have hlen : (reducedVals w bytes).length = rCount w := by simp [reducedVals]
  have htree : (reefTree f (reducedVals w bytes)).1 = sum := by rw [reefTree_eq f (hlen.symm ▸ hlo) (hlen.symm ▸ hhi), hlen]
  rw [← htree, reefPerform_reduce (.inl h)]
  unfold reefReduce
  dsimp only
  rw [if_pos h, if_neg (spanElems_ne_nil hn 1), if_neg (by simp [hxs]), if_neg (by simp [hint]), hxs, map_decode_spanElems]
  cases rAccum w <;> exact ⟨rfl, rfl⟩

end sum

section extreme

variable (h : rOp w = 0x11 ∨ rOp w = 0x12) (hxs : rXs w = false)
include h hxs

/-- The extreme of integers, with the format's own bounds (R81, R215). -/
theorem reefPerform_intExtreme (hint : isInt4 (rFmt w 1) = true) :
    let ints := (reducedVals w bytes).map Val.toInt
    (reefPerform k0 k1 w bytes).Single (reefEsz false (rFmt w 1)) (wrapInt (rFmt w 1).width
      (if rOp w == 0x11 then ints.foldl max (-(2 ^ ((rFmt w 1).width - 1) : Int))
        else ints.foldl min ((2 ^ ((rFmt w 1).width - 1) : Int) - 1))) := by
  intro ints
  rw [reefPerform_reduce (.inr h)]
  unfold reefReduce
  dsimp only
  rw [if_neg (by omega), if_pos hint, hxs, map_decode_spanElems]
  exact ⟨rfl, rfl⟩

variable (hint : isInt4 (rFmt w 1) = false)
include hint

/-- An extreme of no values is the format's NaN (R215). -/
theorem reefPerform_emptyExtreme (hn : rCount w = 0) : (reefPerform k0 k1 w bytes).Single (reefEsz false (rFmt w 1))
    (((rFmt w 1).float?.map FloatFmt.qnan).getD 0) := by
  rw [reefPerform_reduce (.inr h)]
  unfold reefReduce
  dsimp only
  rw [if_neg (by omega), if_neg (by simp [hint]), hxs, spanElems_eq_nil hn]
  exact ⟨rfl, rfl⟩

/-- The extreme of values in the order of R81 (R215). -/
theorem reefPerform_floatExtreme (hn : rCount w ≠ 0) : ∃ v, foldMM (rOp w == 0x11) (reducedVals w bytes) = some v ∧
    (reefPerform k0 k1 w bytes).Single (reefEsz false (rFmt w 1)) ((rFmt w 1).write .rne 0 false v).1 := by
  obtain ⟨v, hv⟩ := foldMM_isSome (rOp w == 0x11) (l := reducedVals w bytes) (by simpa [reducedVals] using hn)
  refine ⟨v, hv, ?_⟩
  rw [reefPerform_reduce (.inr h)]
  unfold reefReduce
  dsimp only
  rw [if_neg (by omega), if_neg (by simp [hint]), hxs, map_decode_spanElems, ← reducedVals, hv]
  exact ⟨rfl, rfl⟩

end extreme

end reduce

/-! ### Combining groups (R218) -/

section combine

variable {target : List Nat} {cs : List (List Nat)}

/-- Element i of each contribution, in CINDEX order. -/
def combineCol (cs : List (List Nat)) (i : Nat) : List Nat := cs.map (·.getD i 0)

theorem fst_mapFlags_replicate {β : Type} (g : Nat → Unit → β × Flags) (n : Nat) :
    (mapFlags g 0 (List.replicate n ())).1 = (List.range n).map fun j => (g j ()).1 := by
  rw [← fst_mapFlags_range g (fun _ => ()) n, List.map_const', List.length_range]

theorem reefCombine_exact (hxs : rXs w = true) : (reefCombine k0 k1 w target cs).Gives (reefEsz (rXs w) (rFmt w 0)) (rCount w) fun i =>
    (xsOut (rFmt w 0) ((combineCol cs i).foldl (xsTake (rFmt w 1)) (if rAccum w then target.getD i 0 % 2 ^ 140 else 0, 0)).1).1 := by
  refine ReefOut.gives_of_writes ?_
  unfold reefCombine
  dsimp only
  rw [if_pos hxs, fst_mapFlags_replicate]
  rfl

/-- The values that a combining group adds at element i, the target's first where it is taken in (R218). -/
def combineVals (w : ReefRec) (target : List Nat) (cs : List (List Nat)) (i : Nat) : List Val :=
  (if rAccum w then [(rFmt w 0).decode (target.getD i 0)] else []) ++ (combineCol cs i).map (rFmt w 1).decode

/-- One more value of a combining sum, and the flags so far (R218). -/
def combineStep (f : FloatFmt) (p : Val × Flags) (x : Val) : Val × Flags :=
  let (s, b) := reefStep f [p.1, x] (Val.add false p.1 x)
  (s, p.2 ||| b)

theorem fst_foldl_combineStep (f : FloatFmt) (vs : List Val) (p : Val × Flags) :
    (vs.foldl (combineStep f) p).1 = vs.foldl (fun a x => (rneVal f (Val.add false a x)).1) p.1 := by
  induction vs generalizing p with
  | nil => rfl
  | cons v vs ih => exact ih (combineStep f p v)

variable (hxs : rXs w = false)
include hxs

theorem reefCombine_int (hint : isInt4 (rFmt w 1) = true) :
    (reefCombine k0 k1 w target cs).Gives (reefEsz (rXs w) (rFmt w 0)) (rCount w) fun i =>
      reefWrapped k0 k1 w (((combineCol cs i).map (fun e => ((rFmt w 1).decode e).toInt)).sum +
        (if rAccum w then ((rFmt w 0).decode (target.getD i 0)).toInt else 0)) i := by
  refine ReefOut.gives_of_writes ?_
  unfold reefCombine
  dsimp only
  rw [if_neg (by simp [hxs]), if_pos hint, fst_mapFlags_replicate]
  simp only [fst_storeInt]
  rfl

/-- A floating-point group adds its values one after the other, each step rounded (R218). -/
theorem reefCombine_float (hint : isInt4 (rFmt w 1) = false) (first : Nat → Val) (rest : Nat → List Nat)
    (hvals : ∀ i, combineVals w target cs i = first i :: (rest i).map (rFmt w 1).decode) :
    let comp := reefComp [rFmt w 0, rFmt w 1]
    (reefCombine k0 k1 w target cs).Gives (reefEsz (rXs w) (rFmt w 0)) (rCount w) fun i =>
      reefStored k0 k1 w comp 0 0 i ((rest i).foldl (fun a e => (rneVal (compF comp) (Val.add false a ((rFmt w 1).decode e))).1) (first i)) := by
  intro comp
  refine ReefOut.gives_of_writes ?_
  unfold reefCombine
  dsimp only
  rw [if_neg (by simp [hxs]), if_neg (by simp [hint]), fst_mapFlags_replicate]
  refine congrArg (fun es => [(0, bytesOf (reefEsz (rXs w) (rFmt w 0)) es)]) (List.map_congr_left fun i _ => ?_)
  have hi := hvals i
  unfold combineVals combineCol at hi
  rw [hi]
  exact congrArg (reefStored k0 k1 w comp 0 0 i) ((fst_foldl_combineStep (compF comp) _ (first i, 0)).trans List.foldl_map)

end combine

end Sys2Proof.Machine
end

section
/-! The rows of the reef operations (R204, R208 to R212, R224), and what their operations write. -/

namespace Sys2Proof.Machine

/-! ### Rows -/

/-- A record as it stands once its row has started it: with nothing to read its outcome is there at once (R204). -/
def State.reefStarted (s : State) (st : Nat) (r : ReefHeld) : ReefHeld :=
  if s.readGranules st r = [] then s.reefCompute st { r with begun := true, reads := [] }
  else { r with begun := true, reads := s.readGranules st r }

section row

variable {s : State} {st iss : Nat} {p : Nat → Bool}

theorem State.reefRow_idle (h : s.reefNext st iss p = none) : s.reefRow st iss p = s := by
  unfold State.reefRow
  rw [h]

variable {r : ReefHeld} (h : s.reefNext st iss p = some r)
include h

theorem State.reefRow_refused {e : Nat} (he : s.reefRefusal st r = some e) : s.reefRow st iss p = s.reefFault st e r := by
  unfold State.reefRow
  simp only [h, he]

theorem State.reefRow_started (he : s.reefRefusal st r = none) :
    s.reefRow st iss p = s.setStack st ((s.stack st).setRec (s.reefStarted st r)) := by
  unfold State.reefRow State.reefStarted
  simp only [h, he]
  cases s.readGranules st r <;> rfl

end row

/-- A granule that is the last one a record reads: its outcome follows (R204). -/
theorem State.reefSlot_lastRead {s : State} {ch g : Nat} {r : ReefHeld} (hr : r.reads = [g]) (hch : wheelOf (1024 * g) = ch)
    (hbad : s.readBad (ch / 32) r g = none) (hop : rOp r.word ≠ 0x30) :
    s.reefSlot ch r = s.setStack (ch / 32) ((s.stack (ch / 32)).setRec
      (s.reefCompute (ch / 32) { r with reads := [], got := Sparse.set [] r.got g (s.readBytes (1024 * g) 1024) })) := by
  unfold State.reefSlot
  dsimp only
  rw [hr, List.find?_cons_of_pos (by simp [hch])]
  dsimp only
  rw [hbad]
  dsimp only
  rw [if_neg (by simp), if_neg hop, List.erase_cons_head]

/-! ### The statement -/

/-- Settles O31: how rows start records, what their slots gather, and what each operation writes. -/
theorem reefOperations : Obligations.ReefOperations := by
  unfold Obligations.ReefOperations
  refine ⟨⟨fun st iss s => ?_, fun ch g s r hr hch hbad hop => State.reefSlot_lastRead hr hch hbad hop,
    fun st k d n s r _ hspan hd hgot => State.spanBytes_eq_readBytes hspan hd hgot, fun st s r => rfl⟩, fun k0 k1 w bytes cs target => ?_⟩
  · intro performs
    have hrow {i : Instr} {p : Nat → Bool} (hi : exec i s = .next (s.reefRow st iss p)) : performs i p :=
      ⟨fun h => hi.trans (congrArg _ (State.reefRow_idle h)), fun r h => ⟨fun e he => hi.trans (congrArg _ (State.reefRow_refused h he)),
        fun he => hi.trans (congrArg _ (State.reefRow_started h he))⟩⟩
    exact ⟨hrow rfl, hrow rfl, hrow rfl, hrow rfl, hrow rfl, hrow rfl, hrow rfl, hrow rfl, hrow rfl, hrow rfl, hrow rfl, hrow rfl, hrow rfl⟩
  · intro out n elem src x fs int f p round r32 fma drawn store holds gives wraps single old oldVal all acc
    refine ⟨fun h => ?fill, fun h => ?check, fun h => ?digest, fun hxs => ⟨fun h hd hlen hs => ?cvtRaw, fun h hd => ?cvt,
      fun hint => ⟨fun h => ?addInt, fun h => ?mulInt⟩, fun hint => ⟨fun h => ?add, fun h => ?mul, fun h => ?scale, fun h => ?axpby⟩,
      fun h hn hint => ?intSum, fun h hn hint => ?floatSum, fun h => ?extreme, fun h => ?sgdm, fun h => ?adamw⟩,
      fun h hn => ?emptySum, fun h hn hxs => ?exactSum, ?combine⟩
    case fill => exact congrArg ReefOut.writes (reefPerform_fill h)
    case check => exact ⟨congrArg ReefOut.writes (reefPerform_check h), congrArg ReefOut.result (reefPerform_check h)⟩
    case digest =>
      obtain ⟨bs, hbs, hleaves⟩ := reefDigest_leaves (bytes 1)
      exact ⟨bs, (congrArg ReefOut.writes (reefPerform_digest h)).trans hbs, hleaves⟩
    case cvtRaw => exact reefPerform_cvtRaw h hxs hd hs hlen
    case cvt => exact reefPerform_cvt h hd
    case addInt => exact reefPerform_int (op := 0x03) hint h (.inl rfl)
    case mulInt => exact reefPerform_int (op := 0x04) hint h (.inr rfl)
    case add => exact reefPerform_float (op := 0x03) hint h (.inl rfl)
    case mul => exact reefPerform_float (op := 0x04) hint h (.inr (.inl rfl))
    case scale => exact reefPerform_float (op := 0x05) hint h (.inr (.inr (.inl rfl)))
    case axpby => exact reefPerform_float (op := 0x06) hint h (.inr (.inr (.inr rfl)))
    case intSum => exact reefPerform_intSum h hn hxs hint
    case floatSum => exact fun m hlo hhi => reefPerform_floatSum h hn hxs hint hlo hhi
    case extreme =>
      exact ⟨fun hint => reefPerform_intExtreme h hxs hint, fun hint hn => reefPerform_emptyExtreme h hxs hint hn,
        fun hint hn => reefPerform_floatExtreme h hxs hint hn⟩
    case sgdm => exact reefPerform_sgdm h
    case adamw => exact reefPerform_adamw h
    case emptySum => exact reefPerform_emptySum h hn
    case exactSum => exact reefPerform_exactSum h hn hxs
    case combine =>
      intro c es cf
      have hgives {v : Nat → Nat} (h : (reefCombine k0 k1 w target cs).Gives (reefEsz (rXs w) (rFmt w 0)) n v) : ∃ bs, es bs v := h
      refine ⟨fun hxs => hgives (reefCombine_exact hxs), fun hxs hint => hgives (reefCombine_int hxs hint),
        fun first rest hxs hint hacc hcs => hgives (reefCombine_float hxs hint _ _ fun i => ?withoutTarget),
        fun hxs hint hacc => hgives (reefCombine_float hxs hint _ _ fun i => ?withTarget)⟩
      case withoutTarget => simp only [combineVals, combineCol, hacc, hcs, Bool.false_eq_true, if_false, List.map_cons, List.nil_append]
      case withTarget =>
        simp only [combineVals, hacc, if_true, List.singleton_append]
        rfl

end Sys2Proof.Machine
end

section
/-! Bundles that synchronise (R140, R241 to R254): one whose control operation waits holds its sequencer, or takes the steps that come
before the wait, and one that issues changes the buoys, tallies and fences of its core as its operation does. -/

namespace Sys2Proof.Machine

/-! ### Control operations that wait -/

/-- Results that land change tile memory and the vector engine alone (R149). -/
theorem Core.landDue_keeps {β : Type} (k : Core) (g : Core → β) (hg : ∀ (d : Core) t v, g { d with tile := t, vec := v } = g d) :
    g k.landDue = g k := by
  refine List.foldlRecOn (motive := fun d => g d = g k) k.due Core.land (hg k k.tile _) fun d hd w _ => ?_
  rw [← hd]
  unfold Core.land
  split
  · exact hg d d.tile _
  · exact hg d d.tile _
  · exact hg d d.tile _
  · exact hg d _ d.vec

theorem Core.copWait_landDue (x : Ctx) (k : Core) (i : SeqId) (b : Bundle) : k.landDue.copWait x i b = k.copWait x i b :=
  k.landDue_keeps (·.copWait x i b) fun _ _ _ => by cases i <;> rfl

section waits

variable {x : Ctx} {k d : Core} {i : SeqId}

theorem Core.bundleWaits_of_copWait {b : Bundle} (h : k.copWait x i b ≠ none) : ∃ w ws, k.bundleWaits x i b = w :: ws := by
  refine List.exists_cons_of_ne_nil fun hnil => h ?_
  exact Option.toList_eq_nil_iff.mp (List.append_eq_nil_iff.mp hnil).2

/-- A bundle whose control operation waits does not issue (R140). -/
theorem Core.issueBundle_of_copWait (h : k.copWait x i (k.bundle i) ≠ none) : ∃ w o, k.issueBundle x i = .wait w o := by
  unfold Core.issueBundle
  cases i with
  | access =>
    obtain ⟨w, ws, hw⟩ := Core.bundleWaits_of_copWait h
    simp only [hw]
    exact ⟨_, _, rfl⟩
  | execute =>
    rw [← Core.copWait_landDue] at h
    obtain ⟨w, ws, hw⟩ := Core.bundleWaits_of_copWait h
    simp only [hw]
    exact ⟨_, _, rfl⟩

/-- A sequencer with no step to take before its control operation's wait waits. -/
theorem Core.seqStep_waits (hown : (k.postOwnFence i).arrive i = k) (h : k.copWait x i (k.bundle i) ≠ none) :
    ∃ w o, k.seqStep x i = .wait w o := by
  obtain ⟨w, o, hw⟩ := Core.issueBundle_of_copWait h
  unfold Core.seqStep
  split
  · rw [hown]
    dsimp only
    rw [hw]
    exact ⟨w, o, if_pos rfl⟩
  · exact ⟨_, _, rfl⟩

/-- A sequencer takes the step that comes before its control operation's wait: it posts a fence or arrives (R250, R254). -/
theorem Core.seqStep_steps (hmay : k.mayIssue i = true) (hown : (k.postOwnFence i).arrive i = d) (hd : d ≠ k)
    (h : d.copWait x i (d.bundle i) ≠ none) : k.seqStep x i = .ok d := by
  obtain ⟨w, o, hw⟩ := Core.issueBundle_of_copWait h
  unfold Core.seqStep
  rw [if_pos hmay, hown]
  dsimp only
  rw [hw]
  exact if_neg hd

end waits

/-! ### Control rows where no word is marked bad -/

section control

variable {s : State} {c : CoreId} {q : SeqId} {p : Bundle → Bool}

theorem State.control_of_unmarked (hp : p ((s.core c).bundle q) = true) (hruns : s.issues c = true)
    (hsound : ∀ i, i < ((s.core c).bundle q).size → s.badWord c 3 (((s.core c).seq q).addr + i) = false) (hmarks : s.marks c = []) :
    s.control c q p = (s.finish c (q == .access) ((s.core c).seqStep (s.ctx c) q)).beatIssued c (s.core c).beat := by
  have hfind : (List.range ((s.core c).bundle q).size).find? (fun i => s.badWord c 3 (((s.core c).seq q).addr + i)) = none := by
    simpa using hsound
  unfold State.control State.seqIssue
  dsimp only
  rw [if_pos hp, if_pos hruns, hfind]
  dsimp only
  rw [State.act_of_unmarked hmarks]

/-- A row leaves the state of a sequencer that waits as it is (R140). -/
theorem State.control_waits (hsound : ∀ i, i < ((s.core c).bundle q).size → s.badWord c 3 (((s.core c).seq q).addr + i) = false)
    (hmarks : s.marks c = []) (hwait : ∃ w o, (s.core c).seqStep (s.ctx c) q = .wait w o) : s.control c q p = s := by
  obtain ⟨w, o, hw⟩ := hwait
  by_cases hp : p ((s.core c).bundle q) = true
  · by_cases hruns : s.issues c = true
    · rw [State.control_of_unmarked hp hruns hsound hmarks, hw]
      exact State.beatIssued_of_same rfl
    · unfold State.control State.seqIssue
      dsimp only
      rw [if_pos hp, if_neg hruns]
  · exact if_neg hp

/-- A sequencer stands at a bundle that it may issue, and no word is marked bad. -/
structure State.Stands (s : State) (c : CoreId) (q : SeqId) : Prop where
  runs  : s.issues c = true
  may   : (s.core c).mayIssue q = true
  marks : s.marks c = []
  sound : ∀ i, i < ((s.core c).bundle q).size → s.badWord c 3 (((s.core c).seq q).addr + i) = false

/-- The step that comes before a control operation's wait is all that its row does. -/
theorem State.Stands.control_steps (h : s.Stands c q) (hs : s.canonical = true) (hp : p ((s.core c).bundle q) = true) {d : Core}
    (hown : ((s.core c).postOwnFence q).arrive q = d) (hd : d ≠ s.core c) (hbeat : d.beat = (s.core c).beat)
    (hwait : d.copWait (s.ctx c) q (d.bundle q) ≠ none) : s.control c q p = s.withCore c d := by
  rw [State.control_of_unmarked hp h.runs h.sound h.marks, Core.seqStep_steps h.may hown hd hwait]
  exact State.beatIssued_of_same (by rw [State.finish, State.withCore_core_same hs, hbeat])

end control

/-! ### What a bundle that issues leaves of the synchronisation objects -/

/-- What the agents of a core synchronise by: its buoys, its tallies and the fences posted. -/
def Core.sync (k : Core) : Sparse Buoy × Sparse Tally × List Fence := (k.buoys, k.tallies, k.fences)

section sync

variable {k d : Core} (h : k.sync = d.sync)
include h

theorem Core.buoys_of_sync : k.buoys = d.buoys := congrArg Prod.fst h
theorem Core.tallies_of_sync : k.tallies = d.tallies := congrArg (·.2.1) h
theorem Core.fences_of_sync : k.fences = d.fences := congrArg (·.2.2) h
theorem Core.buoy_of_sync (n : Nat) : k.buoy n = d.buoy n := by rw [Core.buoy, Core.buoys_of_sync h, Core.buoy]
theorem Core.tally_of_sync (n : Nat) : k.tally n = d.tally n := by rw [Core.tally, Core.tallies_of_sync h, Core.tally]

end sync

theorem Core.IssuesTo.sync {k d : Core} (h : k.IssuesTo d) : d.sync = k.sync := h.keeps Core.sync fun _ _ => rfl

theorem Core.setSeq_sync (k : Core) (i : SeqId) (r : Seq) : (k.setSeq i r).sync = k.sync := by cases i <;> rfl

theorem Core.flow_sync (k : Core) (i : SeqId) (b : Bundle) : (k.flow i b).sync = k.sync := by
  obtain ⟨r, hr⟩ := k.exists_flow_eq i b
  rw [hr, Core.setSeq_sync]

theorem Core.applyPend_sync (k : Core) (p : PendCsr) : (k.applyPend p).sync = k.sync := by
  unfold Core.applyPend
  dsimp only
  repeat' split
  all_goals rfl

theorem Core.choiceTaken_sync (k : Core) : k.choiceTaken.sync = k.sync :=
  List.foldlRecOn (motive := fun d : Core => d.sync = k.sync) _ Core.applyPend rfl fun d hd p _ => (d.applyPend_sync p).trans hd

theorem Core.endBeat_sync (k : Core) (took : Bool) : (k.endBeat took).sync = k.sync := by
  cases took with
  | true => exact Core.choiceTaken_sync _
  | false => rfl

theorem State.beatEnd_sync (s : State) (c : CoreId) (q : SeqId) (d : Core) : (s.beatEnd c q d).sync = d.sync := by
  cases q with
  | execute => exact Core.endBeat_sync _ _
  | access => rfl

theorem Core.orderFlags_seq (k : Core) (cutoff : Nat) (j : SeqId) : (k.orderFlags cutoff).seq j = k.seq j :=
  (Core.raise_issuesTo _ _ _).seq j |>.trans (by cases j <;> rfl)

theorem Core.copBefore_seq (k : Core) (i : SeqId) (b : Bundle) (j : SeqId) : (k.copBefore i b).seq j = k.seq j := by
  unfold Core.copBefore
  dsimp only
  split
  · split
    · split
      · exact k.orderFlags_seq _ j
      · rfl
    · cases j <;> rfl
  · rfl

namespace State.Issuing

variable {s : State} {c : CoreId} {q : SeqId} {k : Core}

/-- A bundle that issues, with no step of its own left before its control operation, acts on what its slots leave (R140). -/
theorem control_eq_of_own (h : s.Issuing c q k) (hown : ((s.core c).postOwnFence q).arrive q = s.core c) {p : Bundle → Bool}
    (hp : p ((s.core c).bundle q) = true) {d : Core}
    (hd : (s.paidCore c q k).copEffect (s.ctx c) q ((s.core c).bundle q) = .ok d) :
    s.control c q p = (s.withCore c (s.beatEnd c q (d.flow q ((s.core c).bundle q)))).beatIssued c (s.core c).beat := by
  have hissue : (s.core c).issueBundle (s.ctx c) q = .ok (s.beatEnd c q (d.flow q ((s.core c).bundle q))) := by
    rw [h.issueBundle_eq, hd]
    rfl
  have hstep : (s.core c).seqStep (s.ctx c) q = .ok (s.beatEnd c q (d.flow q ((s.core c).bundle q))) := by
    unfold Core.seqStep
    rw [if_pos h.may, hown]
    dsimp only
    rw [hissue]
  rw [State.control_of_unmarked hp h.runs h.sound h.marks, hstep]
  rfl

/-- Where the sequencer goes next and what the core then synchronises by. -/
theorem control_sync (h : s.Issuing c q k) (hs : s.canonical = true) (hown : ((s.core c).postOwnFence q).arrive q = s.core c)
    {p : Bundle → Bool} (hp : p ((s.core c).bundle q) = true) {d : Core}
    (hd : (s.paidCore c q k).copEffect (s.ctx c) q ((s.core c).bundle q) = .ok d) :
    ((s.control c q p).core c).seq q = (d.flow q ((s.core c).bundle q)).seq q ∧ ((s.control c q p).core c).sync = d.sync := by
  obtain ⟨-, hcores, -⟩ := State.canonical_iff.mp hs
  have hwf (x : Core) : Sparse.wf Core.blank (s.withCore c x).cores = true := Sparse.wf_set _ _ hcores
  rw [h.control_eq_of_own hown hp hd, State.beatIssued_core_keeps (hwf _) c _ (·.seq q) (fun _ _ => by cases q <;> rfl),
    State.beatIssued_core_keeps (hwf _) c _ Core.sync (fun _ _ => rfl), State.withCore_core_same hs, State.beatEnd_seq,
    State.beatEnd_sync, Core.flow_sync]
  exact ⟨rfl, rfl⟩

end State.Issuing

/-! ### Buoys and tallies (R241, R243, R246) -/

/-- Whether a control operation sets, clears or awaits a buoy or a tally. -/
def Cop.signals : Cop → Bool
  | .bset | .bclr | .bwait => true
  | _ => false

theorem Core.flow_signals {k : Core} {i : SeqId} {b : Bundle} {o : Cop} (ho : isCop o b = true) (hsig : o.signals = true) :
    (k.flow i b).seq i = ((k.seq i).applyInc b.inc).moveTo ((k.seq i).addr + b.size) := by
  rw [Core.flow, beq_iff_eq.mp ho]
  match o, hsig with
  | .bset, _ | .bclr, _ | .bwait, _ => exact Core.setSeq_seq _ _ _

theorem Bundle.plain_of_signals {b : Bundle} {o : Cop} (ho : isCop o b = true) (hsig : o.signals = true) : b.plain :=
  Bundle.plain_of_cop ho (by rintro rfl; cases hsig) (by rintro rfl; cases hsig)

theorem isCop_of_isBwait {n : Nat} {b : Bundle} (h : isBwait n b = true) : isCop .bwait b = true ∧ bits b.carg 30 2 = n := by
  simpa [isBwait, isCop] using h

theorem Core.clearBy_seq (k : Core) (i : SeqId) (n : Nat) (j : SeqId) : (k.clearBy i n).seq j = k.seq j := by cases i <;> cases j <;> rfl

theorem Core.clearBy_buoys (k : Core) (i : SeqId) (n : Nat) : (k.clearBy i n).buoys = (k.clearBuoy n).buoys := by cases i <;> rfl

section copEffect

variable {k : Core} (x : Ctx) (i : SeqId) {b : Bundle}

theorem Core.copEffect_bset (h : isCop .bset b = true) : k.copEffect x i b = .ok (k.setBuoy (bits b.carg 0 6)) := by
  rw [Core.copEffect, beq_iff_eq.mp h]

theorem Core.copEffect_bclr (h : isCop .bclr b = true) : k.copEffect x i b = .ok (k.clearBy i (bits b.carg 0 6)) := by
  rw [Core.copEffect, beq_iff_eq.mp h]

theorem Core.copEffect_bwait (h : isCop .bwait b = true) : k.copEffect x i b = .ok (if bits b.carg 30 2 = 2
    then k.putTally (bits b.carg 26 4) { k.tally (bits b.carg 26 4) with
      tb := (k.tally (bits b.carg 26 4)).tb + BitVec.ofNat 32 (tallyCount (k.seq i) b.carg) }
    else k) := by
  rw [Core.copEffect, beq_iff_eq.mp h]
  dsimp only
  split <;> rfl

/-- When a buoy operation waits (R241, R243). -/
theorem Core.copWait_bset (h : isCop .bset b = true) (hup : (k.buoy (bits b.carg 0 6)).set = true) : k.copWait x i b ≠ none := by
  simp [Core.copWait, beq_iff_eq.mp h, hup]

theorem Core.copWait_bclr (h : isCop .bclr b = true) (hup : (k.buoy (bits b.carg 0 6)).set = false) : k.copWait x i b ≠ none := by
  simp [Core.copWait, beq_iff_eq.mp h, hup]

theorem Core.copWait_bwaitSet (h : isBwait 0 b = true) (hup : (k.buoy (bits b.carg 0 6)).set = false) : k.copWait x i b ≠ none := by
  obtain ⟨ho, hkind⟩ := isCop_of_isBwait h
  simp [Core.copWait, beq_iff_eq.mp ho, hkind, hup]

theorem Core.copWait_bwaitClear (h : isBwait 1 b = true) (hup : (k.buoy (bits b.carg 0 6)).set = true) : k.copWait x i b ≠ none := by
  obtain ⟨ho, hkind⟩ := isCop_of_isBwait h
  simp [Core.copWait, beq_iff_eq.mp ho, hkind, hup]

end copEffect

/-- A bundle that signals and issues goes on to the next, and changes its core's buoys and tallies as its operation does. -/
theorem State.Issuing.signals {s : State} {c : CoreId} {q : SeqId} {k : Core} (h : s.Issuing c q k) (hs : s.canonical = true) {o : Cop}
    (ho : isCop o ((s.core c).bundle q) = true) (hsig : o.signals = true) {p : Bundle → Bool} (hp : p ((s.core c).bundle q) = true)
    {d : Core} (hd : (s.paidCore c q k).copEffect (s.ctx c) q ((s.core c).bundle q) = .ok d)
    (hseq : d.seq q = (s.paidCore c q k).seq q) :
    ((s.control c q p).core c).seq q = (((s.core c).seq q).applyInc ((s.core c).bundle q).inc).moveTo
        (((s.core c).seq q).addr + ((s.core c).bundle q).size) ∧
      ((s.control c q p).core c).sync = d.sync := by
  have hplain := Bundle.plain_of_signals ho hsig
  obtain ⟨hgo, hsync⟩ := h.control_sync hs (Core.ownSteps_of_plain hplain) hp hd
  refine ⟨hgo.trans ?_, hsync⟩
  rw [Core.flow_signals ho hsig, hseq, (h.paid hplain).seq]

/-- Settles O6: each operation that issues acts on its buoy or its tally, and one whose condition does not hold waits. -/
theorem buoyBundles : Obligations.BuoyBundles := by
  unfold Obligations.BuoyBundles
  refine ⟨fun c q s k hs hbuoys htallies h => ?_, fun c q s => ?_⟩
  · intro b n ty next
    have paid {o : Cop} (ho : isCop o b = true) (hsig : o.signals = true) : (s.core c).IssuesTo (s.paidCore c q k) :=
      h.paid (Bundle.plain_of_signals ho hsig)
    have wait {i : Nat} (hb : isBwait i b = true) (hi : i ≠ 2) : ((s.control c q (isBwait i)).core c).seq q = next ∧
        ((s.control c q (isBwait i)).core c).buoys = (s.core c).buoys := by
      obtain ⟨ho, hkind⟩ := isCop_of_isBwait hb
      have heff := Core.copEffect_bwait (k := s.paidCore c q k) (s.ctx c) q ho
      rw [if_neg (hkind ▸ hi)] at heff
      obtain ⟨hseq, hsync⟩ := h.signals hs ho rfl hb heff rfl
      exact ⟨hseq, Core.buoys_of_sync (hsync.trans (paid ho rfl).sync)⟩
    refine ⟨fun ho => ?_, fun ho => ?_, fun hb => ?_, fun hb => ?_, fun hb => ?_⟩
    · obtain ⟨hseq, hsync⟩ := h.signals hs ho rfl ho (Core.copEffect_bset _ _ ho) (by cases q <;> rfl)
      refine ⟨_, rfl, hseq, ?_⟩
      have hpaid := (paid ho rfl).sync
      have hwf : Sparse.wf Buoy.blank (s.paidCore c q k).buoys = true := Core.buoys_of_sync hpaid ▸ hbuoys
      rw [Core.buoy_of_sync hsync, Core.setBuoy, Core.buoy_putBuoy _ hwf, if_pos rfl, Core.buoy_of_sync hpaid]
    · obtain ⟨hseq, hsync⟩ := h.signals hs ho rfl ho (Core.copEffect_bclr _ _ ho) (Core.clearBy_seq ..)
      refine ⟨_, rfl, hseq, ?_⟩
      have hpaid := (paid ho rfl).sync
      have hwf : Sparse.wf Buoy.blank (s.paidCore c q k).buoys = true := Core.buoys_of_sync hpaid ▸ hbuoys
      rw [Core.buoy_of_sync hsync, Core.buoy, Core.clearBy_buoys, ← Core.buoy, Core.clearBuoy, Core.buoy_putBuoy _ hwf, if_pos rfl,
        Core.buoy_of_sync hpaid]
    · exact ⟨_, rfl, wait hb (by decide)⟩
    · exact ⟨_, rfl, wait hb (by decide)⟩
    · obtain ⟨ho, hkind⟩ := isCop_of_isBwait hb
      have heff := Core.copEffect_bwait (k := s.paidCore c q k) (s.ctx c) q ho
      rw [if_pos hkind] at heff
      obtain ⟨hseq, hsync⟩ := h.signals hs ho rfl hb heff (by cases q <;> rfl)
      refine ⟨_, rfl, hseq, ?_⟩
      have hpaid := (paid ho rfl).sync
      have hwf : Sparse.wf Tally.blank (s.paidCore c q k).tallies = true := Core.tallies_of_sync hpaid ▸ htallies
      rw [Core.tally_of_sync hsync, Core.tally_putTally _ hwf, if_pos rfl, Core.tally_of_sync hpaid, (paid ho rfl).seq]
  · intro b up hsound hmarks
    have waits {i : Instr} {o : Cop} {p : Bundle → Bool} (hi : exec i s = .next (s.control c q p)) (ho : isCop o b = true)
        (hsig : o.signals = true) (hwait : (s.core c).copWait (s.ctx c) q b ≠ none) : exec i s = .next s := by
      rw [hi, State.control_waits hsound hmarks
        (Core.seqStep_waits (Core.ownSteps_of_plain (Bundle.plain_of_signals ho hsig)) hwait)]
    exact ⟨fun ⟨ho, hup⟩ => waits rfl ho rfl (Core.copWait_bset _ _ ho hup),
      fun ⟨ho, hup⟩ => waits rfl ho rfl (Core.copWait_bclr _ _ ho hup),
      fun ⟨hb, hup⟩ => waits rfl (isCop_of_isBwait hb).1 rfl (Core.copWait_bwaitSet _ _ hb hup),
      fun ⟨hb, hup⟩ => waits rfl (isCop_of_isBwait hb).1 rfl (Core.copWait_bwaitClear _ _ hb hup)⟩

end Sys2Proof.Machine
end

section
/-! FENCE and BARRIER bundles (R248 to R255, R287): the fence that a bundle posts of its own, the arrival of a member, and the issue that
follows the fence's completion or the barrier's release. -/

namespace Sys2Proof.Machine

/-! ### The steps of a bundle before it issues -/

/-- Whether a control operation posts a fence or arrives at a barrier. -/
def Cop.gathers : Cop → Bool
  | .fence | .barrier => true
  | _ => false

/-- The fence that a FENCE with WAIT or a BARRIER waits for: of its classes, covering what was issued before it (R248, R250, R254). -/
def Core.ownFence (k : Core) (i : SeqId) (o : Cop) (b : Bundle) : Fence :=
  ⟨k.nextOp, i, bit (fenceClasses o b.carg) 0, bit (fenceClasses o b.carg) 1, bit (fenceClasses o b.carg) 2, k.nextOp,
    if o = .fence ∧ bit b.carg 14 then some (bits b.carg 8 6) else none, true⟩

/-- The core in which a sequencer waits for a fence that it has posted. -/
def Core.awaiting (k : Core) (i : SeqId) (f : Fence) : Core :=
  { k with fences := k.fences ++ [f], nextOp := k.nextOp + 1 }.setSeq i { k.seq i with fence := some k.nextOp }

/-- The core in which a sequencer has arrived at a barrier. -/
def Core.arrived (k : Core) (i : SeqId) : Core := k.setSeq i { k.seq i with arrived := true }

section own

variable {k : Core} {i : SeqId} {o : Cop} (ho : isCop o (k.bundle i) = true)

theorem Core.awaiting_bundle (f : Fence) : (k.awaiting i f).bundle i = k.bundle i := by cases i <;> rfl

theorem Core.awaiting_ne {f : Fence} (h : (k.seq i).fence = none) : k.awaiting i f ≠ k := by
  intro heq
  have hseq := congrArg (fun d : Core => (d.seq i).fence) heq
  simp [Core.awaiting, h] at hseq

theorem Core.arrived_bundle : (k.arrived i).bundle i = k.bundle i := by cases i <;> rfl

theorem Core.arrived_self (h : (k.seq i).arrived = true) : k.arrived i = k := by
  have hseq : { k.seq i with arrived := true } = k.seq i := by rw [← h]
  rw [Core.arrived, hseq]
  cases i <;> rfl

theorem Core.arrived_ne (h : (k.seq i).arrived = false) : k.arrived i ≠ k := by
  intro heq
  have hseq := congrArg (fun d : Core => (d.seq i).arrived) heq
  simp [Core.arrived, h] at hseq

include ho

theorem Core.postOwnFence_eq : k.postOwnFence i =
    if needsFence o (k.bundle i).carg = true ∧ (k.seq i).fence = none ∧ (k.seq i).fenced = false then
      k.awaiting i (k.ownFence i o (k.bundle i)) else k := by
  unfold Core.postOwnFence
  simp only [beq_iff_eq.mp ho, Bool.not_eq_true']
  rfl

theorem Core.arrive_eq : k.arrive i =
    if o = .barrier ∧ (needsFence .barrier (k.bundle i).carg = true → (k.seq i).fenced = true) then k.arrived i else k := by
  unfold Core.arrive
  simp only [beq_iff_eq.mp ho]
  rfl

/-- A bundle whose fence, if it needs one, is complete posts none; at a barrier its sequencer arrives (R254). -/
theorem Core.ownSteps_of_fenced (h : needsFence o (k.bundle i).carg = true → (k.seq i).fenced = true) :
    (k.postOwnFence i).arrive i = if o = .barrier then k.arrived i else k := by
  have hpost : k.postOwnFence i = k := by
    rw [Core.postOwnFence_eq ho, if_neg]
    rintro ⟨hneeds, -, hopen⟩
    simp [h hneeds] at hopen
  rw [hpost, Core.arrive_eq ho]
  by_cases hb : o = .barrier
  · subst hb
    rw [if_pos ⟨rfl, h⟩, if_pos rfl]
  · rw [if_neg (fun hc => hb hc.1), if_neg hb]

/-- A bundle that has still to post its fence posts it, and does not arrive (R250, R254). -/
theorem Core.ownSteps_posts (hneeds : needsFence o (k.bundle i).carg = true) (hnone : (k.seq i).fence = none)
    (hopen : (k.seq i).fenced = false) : (k.postOwnFence i).arrive i = k.awaiting i (k.ownFence i o (k.bundle i)) := by
  rw [Core.postOwnFence_eq ho, if_pos ⟨hneeds, hnone, hopen⟩]
  rw [← Core.awaiting_bundle (k.ownFence i o (k.bundle i))] at ho hneeds
  rw [Core.arrive_eq ho, if_neg]
  rintro ⟨rfl, hfenced⟩
  have hdone := hfenced hneeds
  rw [Core.awaiting, Core.setSeq_seq] at hdone
  simp [hopen] at hdone

end own

/-! ### The waits of FENCE and BARRIER -/

section copWait

variable {k : Core} {x : Ctx} {i : SeqId} {b : Bundle}

theorem Core.copWait_unfenced {o : Cop} (ho : isCop o b = true) (hneeds : needsFence o b.carg = true) (hopen : (k.seq i).fenced = false) :
    k.copWait x i b ≠ none := by
  cases o with
  | fence =>
    have hwait : bit b.carg 15 = true := hneeds
    simp [Core.copWait, beq_iff_eq.mp ho, hwait, hopen]
  | barrier => simp [Core.copWait, beq_iff_eq.mp ho, hneeds, hopen]
  | _ => cases hneeds

theorem Core.copWait_unreleased (ho : isCop .barrier b = true) (h : ((k.seq i).released && x.home (k.seq i).way) = false) :
    k.copWait x i b ≠ none := by
  simp only [Core.copWait, beq_iff_eq.mp ho, h, Bool.false_eq_true, if_false]
  split <;> exact Option.some_ne_none _

end copWait

/-! ### Rows that post or arrive -/

section stands

variable {s : State} {c : CoreId} {q : SeqId}

theorem State.Stands.posts (h : s.Stands c q) (hs : s.canonical = true) {o : Cop} (ho : isCop o ((s.core c).bundle q) = true)
    (hneeds : needsFence o ((s.core c).bundle q).carg = true) (hnone : ((s.core c).seq q).fence = none)
    (hopen : ((s.core c).seq q).fenced = false) :
    (s.control c q (isCop o)).core c = (s.core c).awaiting q ((s.core c).ownFence q o ((s.core c).bundle q)) := by
  have hwait : ((s.core c).awaiting q ((s.core c).ownFence q o ((s.core c).bundle q))).copWait (s.ctx c) q
      (((s.core c).awaiting q ((s.core c).ownFence q o ((s.core c).bundle q))).bundle q) ≠ none := by
    rw [Core.awaiting_bundle]
    exact Core.copWait_unfenced ho hneeds (by rw [Core.awaiting, Core.setSeq_seq]; exact hopen)
  rw [h.control_steps hs ho (Core.ownSteps_posts ho hneeds hnone hopen) (Core.awaiting_ne hnone) (Core.setSeq_beat _ _ _) hwait,
    State.withCore_core_same hs]

theorem State.Stands.arrives (h : s.Stands c q) (hs : s.canonical = true) (ho : isCop .barrier ((s.core c).bundle q) = true)
    (hfenced : needsFence .barrier ((s.core c).bundle q).carg = true → ((s.core c).seq q).fenced = true)
    (haway : ((s.core c).seq q).arrived = false) (hheld : ((s.core c).seq q).released = false) :
    (s.control c q (isCop .barrier)).core c = (s.core c).arrived q := by
  have hwait : ((s.core c).arrived q).copWait (s.ctx c) q (((s.core c).arrived q).bundle q) ≠ none := by
    rw [Core.arrived_bundle]
    exact Core.copWait_unreleased ho (by rw [Core.arrived, Core.setSeq_seq, hheld, Bool.false_and])
  rw [h.control_steps hs ho (Core.ownSteps_of_fenced ho hfenced) (Core.arrived_ne haway) (Core.setSeq_beat _ _ _) hwait,
    State.withCore_core_same hs, if_pos rfl]

theorem State.noteArrival_core (t s : State) (c : CoreId) (q : SeqId) (i : CoreId) : (t.noteArrival s c q).core i = t.core i := by
  unfold State.noteArrival
  split <;> rfl

theorem State.noteArrival_self (s : State) (c : CoreId) (q : SeqId) : s.noteArrival s c q = s :=
  if_neg (by rw [Bool.and_not_self]; exact Bool.false_ne_true)

end stands

/-! ### The issue of FENCE and BARRIER -/

theorem State.issueCore_seq (s : State) (c : CoreId) (q j : SeqId) : (s.issueCore c q).seq j = (s.core c).seq j := by
  cases q with
  | execute => exact Core.landDue_issuesTo (s.core c) |>.seq j
  | access => rfl

theorem State.issueCore_nextOp (s : State) (c : CoreId) (q : SeqId) : (s.issueCore c q).nextOp = (s.core c).nextOp := by
  cases q with
  | execute => exact Core.landDue_keeps _ (·.nextOp) fun _ _ _ => rfl
  | access => rfl

theorem Core.copEffect_gathers {k : Core} {x : Ctx} {i : SeqId} {b : Bundle} {o : Cop} (ho : isCop o b = true) (hg : o.gathers = true) :
    k.copEffect x i b = .ok k := by
  unfold Core.copEffect
  rw [beq_iff_eq.mp ho]
  match o, hg with
  | .fence, _ | .barrier, _ => rfl

/-- The registers of a sequencer after a FENCE or BARRIER: no fence and no release awaited (R250, R254). -/
def Seq.passed (r : Seq) (inc next : Nat) : Seq :=
  { r.applyInc inc with fence := none, fenced := false, arrived := false, released := false, way := 0 }.moveTo next

theorem Core.flow_gathers {k : Core} {i : SeqId} {b : Bundle} {o : Cop} (ho : isCop o b = true) (hg : o.gathers = true) :
    (k.flow i b).seq i = (k.seq i).passed b.inc ((k.seq i).addr + b.size) := by
  unfold Core.flow
  rw [beq_iff_eq.mp ho]
  match o, hg with
  | .fence, _ | .barrier, _ => exact Core.setSeq_seq _ _ _

/-- A posted FENCE joins the fences before its bundle's slots issue (R250). -/
theorem Core.copBefore_post {k : Core} {i : SeqId} {b : Bundle} (ho : isCop .fence b = true) (hpost : bit b.carg 15 = false) :
    k.copBefore i b = k.postFence i (bit b.carg 0) (bit b.carg 1) (bit b.carg 2)
      (if bit b.carg 14 then some (bits b.carg 8 6) else none) false := by
  simp only [Core.copBefore, beq_iff_eq.mp ho, hpost, Bool.false_eq_true, if_false]

namespace State.Issuing

variable {s : State} {c : CoreId} {q : SeqId} {k : Core}

theorem before_issuesTo (h : s.Issuing c q k) :
    ((s.issueCore c q).copBefore q ((s.core c).bundle q)).IssuesTo (s.paidCore c q k) := by
  have hslots := Core.issueSlots_leads (s.ctx c) q ((s.issueCore c q).copBefore q ((s.core c).bundle q)) ((s.core c).bundle q).slots
  rw [h.slots] at hslots
  exact Core.IssuesTo.trans hslots rfl

theorem paid_seq (h : s.Issuing c q k) : (s.paidCore c q k).seq q = (s.core c).seq q :=
  (h.before_issuesTo.seq q).trans ((Core.copBefore_seq _ _ _ _).trans (s.issueCore_seq c q q))

/-- A FENCE or BARRIER whose waits have ended goes on to the next bundle. -/
theorem passes (h : s.Issuing c q k) (hs : s.canonical = true) {o : Cop} (ho : isCop o ((s.core c).bundle q) = true)
    (hg : o.gathers = true) (hfenced : needsFence o ((s.core c).bundle q).carg = true → ((s.core c).seq q).fenced = true)
    (harrived : o = .barrier → ((s.core c).seq q).arrived = true) :
    ((s.control c q (isCop o)).core c).seq q = ((s.core c).seq q).passed ((s.core c).bundle q).inc
        (((s.core c).seq q).addr + ((s.core c).bundle q).size) ∧
      ((s.control c q (isCop o)).core c).sync = (s.paidCore c q k).sync := by
  have hown : ((s.core c).postOwnFence q).arrive q = s.core c := by
    rw [Core.ownSteps_of_fenced ho hfenced]
    split
    next hb => exact Core.arrived_self (harrived hb)
    next => rfl
  obtain ⟨hseq, hsync⟩ := h.control_sync hs hown ho (Core.copEffect_gathers ho hg)
  rw [Core.flow_gathers ho hg, h.paid_seq] at hseq
  exact ⟨hseq, hsync⟩

/-- A posted FENCE is among the fences of its core once its bundle has issued (R250). -/
theorem posted_mem (h : s.Issuing c q k) (ho : isCop .fence ((s.core c).bundle q) = true)
    (hpost : bit ((s.core c).bundle q).carg 15 = false) :
    ⟨(s.core c).nextOp, q, bit ((s.core c).bundle q).carg 0, bit ((s.core c).bundle q).carg 1, bit ((s.core c).bundle q).carg 2,
      (s.core c).nextOp, if bit ((s.core c).bundle q).carg 14 then some (bits ((s.core c).bundle q).carg 8 6) else none, false⟩ ∈
        (s.paidCore c q k).fences := by
  rw [Core.fences_of_sync h.before_issuesTo.sync, Core.copBefore_post ho hpost, Core.postFence, State.issueCore_nextOp]
  exact List.mem_append_right _ (List.mem_singleton_self _)

end State.Issuing

/-- Settles O7: a bundle posts its fence and waits for it, arrives and waits for its release, and issues once neither is awaited. -/
theorem fenceAndBarrierBundles : Obligations.FenceAndBarrierBundles := by
  unfold Obligations.FenceAndBarrierBundles
  intro c q s k hs b q0 fence buoy next stands
  have stood (h : stands) : s.Stands c q := by
    obtain ⟨hruns, hmay, hmarks, hsound⟩ := h
    exact ⟨hruns, hmay, hmarks, hsound⟩
  have needs (h : bits b.carg 8 3 ≠ 0) : needsFence .barrier b.carg = true := bne_iff_ne.mpr h
  have fenced (h : bits b.carg 8 3 ≠ 0 → q0.fenced = true) : needsFence .barrier b.carg = true → q0.fenced = true :=
    fun hneeds => h (bne_iff_ne.mp hneeds)
  refine ⟨fun ho hpost h => ?posted, fun ho hwait hnone hopen h => ?posts, fun ho hwait hfenced h => ?completed,
    fun ho hcls hnone hopen h => ?postsClasses, fun ho hcls haway hheld h => ?arrives,
    fun ho hrel harr hcls h => ?released, fun ho hrel harr hcls hway h => ?onItsWay⟩
  case posted =>
    obtain ⟨hseq, hsync⟩ := h.passes hs ho rfl (fun hneeds => absurd (hpost.symm.trans hneeds) Bool.false_ne_true) nofun
    exact ⟨_, rfl, hseq, Core.fences_of_sync hsync ▸ h.posted_mem ho hpost⟩
  case posts =>
    have hcore := (stood h).posts hs ho hwait hnone hopen
    refine ⟨_, rfl, ?_, ?_⟩
    · rw [hcore, Core.awaiting, Core.setSeq_seq]
    · rw [hcore, Core.awaiting, Core.setSeq_fences]
      simp [Core.ownFence, fenceClasses, bit_bits, fence, buoy, b]
  case completed =>
    exact ⟨_, rfl, (h.passes hs ho rfl (fun _ => hfenced) nofun).1⟩
  case postsClasses =>
    have hcore := (stood h).posts hs ho (needs hcls) hnone hopen
    refine ⟨_, rfl, ?_, ?_⟩
    · rw [State.noteArrival_core, hcore, Core.awaiting, Core.setSeq_seq]
    · rw [State.noteArrival_core, hcore, Core.awaiting, Core.setSeq_fences]
      simp [Core.ownFence, fenceClasses, bit_bits, fence, b]
  case arrives =>
    refine ⟨_, rfl, ?_⟩
    rw [State.noteArrival_core, (stood h).arrives hs ho (fenced hcls) haway hheld, Core.arrived, Core.setSeq_seq]
  case released =>
    refine ⟨_, rfl, ?_⟩
    rw [State.noteArrival_core]
    exact (h.passes hs ho rfl (fenced hcls) (fun _ => harr)).1
  case onItsWay =>
    have hown : ((s.core c).postOwnFence q).arrive q = s.core c := by
      rw [Core.ownSteps_of_fenced ho (fenced hcls), if_pos rfl, Core.arrived_self harr]
    have hwait : (s.core c).copWait (s.ctx c) q b ≠ none :=
      Core.copWait_unreleased ho (Bool.and_eq_false_imp.mpr fun _ => hway)
    have hcontrol : s.control c q (isCop .barrier) = s :=
      State.control_waits (stood h).sound (stood h).marks (Core.seqStep_waits hown hwait)
    change Host.Outcome.next ((s.control c q (isCop .barrier)).noteArrival s c q) = _
    rw [hcontrol, State.noteArrival_self]

end Sys2Proof.Machine
end

section
/-! A contribution that meets a line of the combining store marked bad before it came (R265, R266, R488). -/

namespace Sys2Proof.Machine

/-- The first contribution of a round of two: one INT32 element in flight from core 0 to combining queue 3 of core 0. -/
def firstContribution : Msg := ⟨1, 0, 3, 0, ⟨[5], [0], 0xA, 1, none, 0, 0, 0, false, 0⟩, 0, .execute, false, 0⟩

/-- Its queue, whose contributors are cores 0 and 2 and whose store is empty. -/
def emptyRound : CombQueue := ⟨3, BitVec.ofNat 64 (2 * 2 ^ 25), [0, 2], 0, 0, (0, 0), [], 0, []⟩

/-- A device in P0 whose lagoon 0 runs with that queue, and in whose core 0 the line that the contribution will have in the combining
store (unit 0x09) is marked bad. That no line of an empty store is marked is not among the premises. -/
def markedStore : State :=
  { State.reset with
    cores := [(0, { Core.blank with img := { CoreImage.blank with used := true } })]
    lagoons := [(0, { Lagoon.blank with
      st := .running, cfg := ⟨1, 1, 1, 0, true⟩, combs := [emptyRound], msgs := [firstContribution] })]
    regions := [(0, { Region.blank with state := 0 })]
    power := { Power.blank with porst := true }
    rel := { State.reset.rel with badCore := [(0, 0x09, emptyRound.key ⟨0, 0, firstContribution.entry⟩)] } }

/-- The contributions that have been added to the rounds of lagoon 0 in what an outcome leaves, by queue. -/
def addedLeft : Host.Outcome State Fault Refusal → List (Nat × Nat)
  | .next t => (t.lagoon 0).combs.map fun p => (p.num, p.added)
  | _ => []

/-- The mark ends the run before the contribution counts. -/
theorem addedLeft_markedStore : addedLeft (exec (.combiningContribution 0 3 0) markedStore) = [(3, 0)] := by decide +kernel

/-- Refutes O30: a contribution whose line in the combining store is marked bad ends the run (R488, DEDUCED 86) and is not added to its
round. The statement's premises do not exclude marks. -/
theorem not_combiningContributions : ¬ Obligations.CombiningContributions := by
  unfold Obligations.CombiningContributions
  intro h
  obtain ⟨hadded, -⟩ := h 0 3 0 markedStore firstContribution emptyRound (by decide +kernel) (by decide +kernel) (by decide) rfl rfl
    (by decide +kernel) rfl rfl rfl (by decide +kernel)
  obtain ⟨t, ht, hround⟩ := hadded (by decide +kernel) (by decide +kernel) (by decide +kernel)
  have hleft := addedLeft_markedStore
  rw [ht, addedLeft] at hleft
  obtain ⟨p, hp, hpair⟩ : ∃ p ∈ (t.lagoon 0).combs, (p.num, p.added) = (3, 0) :=
    List.mem_map.mp (hleft ▸ List.mem_singleton_self (3, 0))
  obtain ⟨hnum, hzero⟩ := Prod.mk.inj hpair
  obtain ⟨hone, -⟩ := hround p hp hnum
  rw [hzero] at hone
  exact absurd hone (by decide)

end Sys2Proof.Machine
end

section
/-! The lagoon commands in progress (R270, R330, R413, R415, R474): the events and the lagoons that their completions leave, and memory
that RELEASE and CONFIGURE clear. -/

namespace Sys2Proof.Machine

/-! ### The event of a change of a lagoon's state (R413) -/

/-- Event 0x5506 of a lagoon heads the log. -/
def State.Told (s : State) (l : Nat) : Prop := (s.log.head?).map (fun e => (e.code, e.lagoon)) = some (0x5506, some l)

theorem State.dropLaunches_log (s : State) (l : Nat) (st : LState) : (s.dropLaunches l st).log = s.log :=
  State.dropLaunches_keeps (·.log) (fun _ _ _ => rfl) (fun _ _ => rfl) s l st

theorem State.moveLagoon_told {s : State} {l : Nat} {st : LState} (h : (s.lagoon l).st ≠ st) : (s.moveLagoon l st).Told l := by
  unfold State.moveLagoon State.Told
  dsimp only
  rw [if_neg h, State.dropLaunches_log, State.raise_log]
  rfl

theorem State.stayLagoon_told (s : State) (l : Nat) : (s.stayLagoon l).Told l := by
  unfold State.stayLagoon State.Told
  rw [State.raise_log]
  rfl

theorem State.stayLagoon_lagoon (s : State) (l i : Nat) : (s.stayLagoon l).lagoon i = s.lagoon i := State.raise_lagoon ..

theorem State.Told.congr {s t : State} {l : Nat} (h : s.Told l) (hlog : t.log = s.log) : t.Told l := by
  unfold State.Told
  rw [hlog]
  exact h

theorem State.answerStart_log (s : State) (l tide : Nat) : (s.answerStart l tide).log = s.log := by
  unfold State.answerStart
  dsimp only
  split
  · rfl
  · rw [State.answerOpt_log, State.setLagoon_log]

/-! ### The lagoon that a completion leaves -/

section lagoon

variable {s : State} (hs : s.canonical = true) (l : Nat)
include hs

theorem State.setLagoon_same (x : Lagoon) : (s.setLagoon l x).lagoon l = x := by
  obtain ⟨-, -, hlagoons, -⟩ := State.canonical_iff.mp hs
  rw [State.setLagoon_lagoon _ hlagoons, if_pos rfl]

/-- A lagoon that is written and then moves to another state. -/
theorem State.moveLagoon_setLagoon {x : Lagoon} {st : LState} (h : x.st ≠ st) :
    ((s.setLagoon l x).moveLagoon l st).lagoon l = { x with st := st, sealed := false, launch := [] } := by
  obtain ⟨-, -, hlagoons, -⟩ := State.canonical_iff.mp hs
  have hsame := State.setLagoon_same hs l x
  have hwf : Sparse.wf Lagoon.blank (s.setLagoon l x).lagoons = true := Sparse.wf_set _ _ hlagoons
  rw [State.moveLagoon_lagoon hwf (by rw [hsame]; exact h), hsame]

theorem State.moveLagoon_setLagoon_told {x : Lagoon} {st : LState} (h : x.st ≠ st) : ((s.setLagoon l x).moveLagoon l st).Told l :=
  State.moveLagoon_told (by rw [State.setLagoon_same hs]; exact h)

/-- The answer of a START changes nothing of its lagoon but the run. -/
theorem State.answerStart_lagoon_keeps {β : Type} (tide : Nat) (g : Lagoon → β) (hg : ∀ (x : Lagoon) r, g { x with run := r } = g x) :
    g ((s.answerStart l tide).lagoon l) = g (s.lagoon l) := by
  unfold State.answerStart
  dsimp only
  split
  · rfl
  · rw [State.answerOpt_lagoon, State.setLagoon_same hs, hg]

end lagoon

/-! ### Completions of SEAL, PAUSE, STOP and LOAD -/

section done

variable {s : State} {l : Nat}

theorem exec_stopDone (hstop : (s.lagoon l).stopping = true) (hst : (s.lagoon l).st = .running ∨ (s.lagoon l).st = .paused) :
    exec (.stopDone l) s = .next ((((s.setLagoon l { s.lagoon l with stopping := false, pauseRef := none }).moveLagoon l
      .draining).answerStart l 0).answerOpt (s.lagoon l).pauseRef 0 0 0 []) := by
  change Host.Outcome.next _ = _
  rw [if_pos ⟨hstop, hst⟩]

variable {q : Ref} (hq : (s.lagoon l).pauseRef = some q)
include hq

theorem exec_sealDone (hop : q.op = 0x0105) (hst : (s.lagoon l).st = .loaded) (hash : (s.lagoon l).hashed false = true) :
    exec (.sealDone l) s = .next (((s.setLagoon l { s.lagoon l with
      pauseRef := none, sealed := true, inroot := s.inRoot l, hashing := none }).stayLagoon l).answer q 0 0 0 (digestBytes (s.inRoot l))) := by
  change Host.Outcome.next _ = _
  rw [hq]
  dsimp only
  rw [if_pos ⟨hop, hst, hash⟩]

theorem exec_pauseDone (hop : q.op = 0x0107) (hst : (s.lagoon l).st = .running) (hmsgs : (s.lagoon l).msgs = []) :
    exec (.pauseDone l) s = .next (((s.setLagoon l { s.lagoon l with pauseRef := none }).moveLagoon l .paused).answer q 0 0 0
      (toBytes 8 (s.lagoon l).stopTide)) := by
  change Host.Outcome.next _ = _
  rw [hq]
  dsimp only
  rw [if_pos ⟨hop, hst, hmsgs⟩]

theorem exec_loadDone (hop : q.op = 0x0103) (hrun : (s.lagoon l).run = none) {im : Image} (him : (s.lagoon l).img = some im) :
    exec (.loadDone l) s =
      let u := s.setLagoon l { s.lagoon l with pauseRef := none, sealed := false, dead := none }
      .next ((if (s.lagoon l).st = .loaded then u.stayLagoon l else u.moveLagoon l .loaded).answer q 0 0 0
        (digestBytes im.imgroot ++ digestBytes im.mapdig)) := by
  change Host.Outcome.next _ = _
  rw [hq, him]
  dsimp only
  rw [if_pos ⟨hop, Option.isNone_iff_eq_none.mpr hrun⟩, ← him]

end done

/-! ### Memory that is cleared (R474) -/

/-- Stacks and DDR5 channels cleared one after the other. -/
def State.cleared (s : State) (ms ns : List Nat) : State := ns.foldl State.clearChan (ms.foldl State.clearStack s)

section clear

variable {s : State} (hs : s.Canonical)

theorem State.cleared_lagoon (ms ns : List Nat) (i : Nat) : (s.cleared ms ns).lagoon i = s.lagoon i :=
  (foldl_keeps (f := State.clearChan) (·.lagoon i) (fun _ _ => rfl) ns _).trans
    (foldl_keeps (f := State.clearStack) (·.lagoon i) (fun _ _ => rfl) ms s)

include hs

theorem State.readByte_clearStack (n a : Nat) : (s.clearStack n).readByte a = if a / 2 ^ 37 = n then 0 else s.readByte a := by
  have hrange : n * 2 ^ 37 ≤ a ∧ a < (n + 1) * 2 ^ 37 ↔ a / 2 ^ 37 = n := by
    rw [Nat.div_eq_iff (by decide)]
    omega
  have hzero := State.readByte_zeroRange hs.mem (n * 2 ^ 37) ((n + 1) * 2 ^ 37) a
  simp only [hrange] at hzero
  exact hzero

theorem State.readByte_clearChan {n a : Nat} (h : s.readByte a = 0) : (s.clearChan n).readByte a = 0 := by
  have hzero := State.readByte_zeroRange hs.mem (ddrBase + n * 2 ^ 38) (ddrBase + (n + 1) * 2 ^ 38) a
  rw [h, ite_self] at hzero
  exact hzero

theorem State.clearStack_clean (n m : Nat) : ((s.clearStack n).stack m).clean = if m = n then true else (s.stack m).clean := by
  have hstack := State.setStack_stack ((s.zeroRange (n * 2 ^ 37) ((n + 1) * 2 ^ 37)).soundRange (n * 2 ^ 37) ((n + 1) * 2 ^ 37)) hs.hbm n m
    { s.stack n with clean := true, shoal := [] }
  refine (congrArg Stack.clean hstack).trans ?_
  split <;> rfl

/-- Every byte of a stack that is cleared reads 0. -/
theorem State.readByte_clearStacks {ms : List Nat} {a : Nat} (h : a / 2 ^ 37 ∈ ms ∨ s.readByte a = 0) :
    (ms.foldl State.clearStack s).readByte a = 0 := by
  induction ms generalizing s with
  | nil => exact h.resolve_left List.not_mem_nil
  | cons n ns ih =>
    refine ih hs.clearStack ?_
    rw [State.readByte_clearStack hs]
    split
    next => exact .inr rfl
    next hne => exact h.imp_left fun hmem => (List.mem_cons.mp hmem).resolve_left hne

/-- Every stack that is cleared is marked clean. -/
theorem State.clearStacks_clean {ms : List Nat} {m : Nat} (h : m ∈ ms ∨ (s.stack m).clean = true) :
    ((ms.foldl State.clearStack s).stack m).clean = true := by
  induction ms generalizing s with
  | nil => exact h.resolve_left List.not_mem_nil
  | cons n ns ih =>
    refine ih hs.clearStack ?_
    rw [State.clearStack_clean hs]
    split
    next => exact .inr rfl
    next hne => exact h.imp_left fun hmem => (List.mem_cons.mp hmem).resolve_left hne

theorem State.Canonical.cleared (ms ns : List Nat) : (s.cleared ms ns).Canonical :=
  .foldl (.foldl hs fun _ _ ha => ha.clearStack) fun _ _ ha => ha.clearChan

theorem State.readByte_cleared {ms : List Nat} (ns : List Nat) {a : Nat} (h : a / 2 ^ 37 ∈ ms) :
    (s.cleared ms ns).readByte a = 0 := by
  have hms : (ms.foldl State.clearStack s).Canonical := .foldl hs fun _ _ ha => ha.clearStack
  refine (foldl_inv (P := fun t : State => t.Canonical ∧ t.readByte a = 0) (fun t n ht => ?_) ns _
    ⟨hms, State.readByte_clearStacks hs (.inl h)⟩).2
  exact ⟨ht.1.clearChan, State.readByte_clearChan ht.1 ht.2⟩

theorem State.cleared_clean {ms : List Nat} (ns : List Nat) {m : Nat} (h : m ∈ ms) :
    ((s.cleared ms ns).stack m).clean = true :=
  (foldl_keeps (f := State.clearChan) (fun t => (t.stack m).clean) (fun _ _ => rfl) ns _).trans (State.clearStacks_clean hs (.inl h))

end clear

section clearing

variable {s : State} {l : Nat} (hclear : (s.lagoon l).clearing = true) (hrun : (s.lagoon l).run = none)
include hclear hrun

theorem not_idle_of_clearing : ¬((s.lagoon l).clearing = false ∨ (s.lagoon l).run.isSome = true) := by
  rw [hclear, hrun]
  decide

/-- The clearing of RELEASE ends. -/
theorem exec_memoryClearingDone_release (hst : (s.lagoon l).st ≠ .empty) :
    exec (.memoryClearingDone l) s = .next (((((s.cleared (s.ownStacks l) (s.ownChans l)).moveLagoon l .empty).setLagoon l
      Lagoon.blank).answerOpt (s.lagoon l).pauseRef 0 0 0 [])) := by
  change Host.Outcome.next _ = _
  rw [if_neg (not_idle_of_clearing hclear hrun)]
  simp only [if_neg hst]
  rfl

/-- The clearing of CONFIGURE ends. -/
theorem exec_memoryClearingDone_configure (hst : (s.lagoon l).st = .empty) :
    exec (.memoryClearingDone l) s = .next ((((s.cleared (s.dirtyStacks l) (s.dirtyChans l)).setLagoon l
      { s.lagoon l with clearing := false, pauseRef := none }).moveLagoon l .configured).answerOpt (s.lagoon l).pauseRef 0 0 0 []) := by
  change Host.Outcome.next _ = _
  rw [if_neg (not_idle_of_clearing hclear hrun)]
  simp only [if_pos hst]
  rw [← State.cleared, State.cleared_lagoon]

end clearing

/-- Settles O50: each completion by what its row answers, the lagoon that it leaves and the event that it raises. -/
theorem lagoonCommandsComplete : Obligations.LagoonCommandsComplete := by
  unfold Obligations.LagoonCommandsComplete
  intro l s q hs hq y told
  have hcanon := State.canonical_eq_true.mp hs
  refine ⟨fun hop hst hash => ?sealDone, fun hop hst hmsgs => ?pauseDone, fun hstop hst => ?stopDone, fun hop hrun him => ?loadDone,
    fun hclear hrun hst => ?releaseDone, fun hclear hrun hst => ?configureDone⟩
  case sealDone =>
    refine ⟨_, exec_sealDone hq hop hst hash, ?_⟩
    rw [State.answer_lagoon, State.stayLagoon_lagoon, State.setLagoon_same hs]
    exact ⟨rfl, rfl, rfl, (State.stayLagoon_told _ l).congr (State.answer_log ..)⟩
  case pauseDone =>
    have hne : { y with pauseRef := none }.st ≠ LState.paused := hst.trans_ne (by decide)
    refine ⟨_, exec_pauseDone hq hop hst hmsgs, ?_⟩
    rw [State.answer_lagoon, State.moveLagoon_setLagoon hs l hne]
    exact ⟨rfl, rfl, (State.moveLagoon_setLagoon_told hs l hne).congr (State.answer_log ..)⟩
  case stopDone =>
    have hne : { y with stopping := false, pauseRef := none }.st ≠ LState.draining := by
      rcases hst with hst | hst <;> exact hst.trans_ne (by decide)
    have hmoved := State.moveLagoon_setLagoon hs l hne
    have hcanon' := State.moveLagoon_canonical
      (hcanon.setLagoon (l := l) (x := { y with stopping := false, pauseRef := none })).bool l .draining
    refine ⟨_, exec_stopDone hstop hst, ?_, ?_,
      (State.moveLagoon_setLagoon_told hs l hne).congr ((State.answerOpt_log ..).trans (State.answerStart_log ..))⟩
    · rw [State.answerOpt_lagoon, State.answerStart_lagoon_keeps hcanon' l 0 (·.st) fun _ _ => rfl, hmoved]
    · rw [State.answerOpt_lagoon, State.answerStart_lagoon_keeps hcanon' l 0 (·.stopping) fun _ _ => rfl, hmoved]
  case loadDone =>
    obtain ⟨im, him⟩ := Option.isSome_iff_exists.mp him
    refine ⟨_, exec_loadDone hq hop hrun him, ?_⟩
    rw [State.answer_lagoon]
    split
    next hst =>
      rw [State.stayLagoon_lagoon, State.setLagoon_same hs]
      exact ⟨hst, rfl, (State.stayLagoon_told _ l).congr (State.answer_log ..)⟩
    next hst =>
      have hne : { y with pauseRef := none, sealed := false, dead := none }.st ≠ LState.loaded := hst
      rw [State.moveLagoon_setLagoon hs l hne]
      exact ⟨rfl, rfl, (State.moveLagoon_setLagoon_told hs l hne).congr (State.answer_log ..)⟩
  case releaseDone =>
    refine ⟨_, exec_memoryClearingDone_release hclear hrun hst, ?_, fun a ha => ?_⟩
    · rw [State.answerOpt_lagoon, State.setLagoon_same (hcanon.cleared _ _).moveLagoon.bool]
    · rw [State.answerOpt_readByte]
      exact (State.moveLagoon_readByte ..).trans (State.readByte_cleared hcanon _ ha)
  case configureDone =>
    have hne : { y with clearing := false, pauseRef := none }.st ≠ LState.configured := hst.trans_ne (by decide)
    refine ⟨_, exec_memoryClearingDone_configure hclear hrun hst, ?_, fun n hn => ?_⟩
    · rw [State.answerOpt_lagoon, State.moveLagoon_setLagoon (hcanon.cleared _ _).bool l hne]
    · rw [State.answerOpt_stack, State.moveLagoon_stack]
      exact State.cleared_clean hcanon _ hn

end Sys2Proof.Machine
end

section
/-! The state right after reset (R302, R333, R413, R480). -/

namespace Sys2Proof.Machine

/-- Settles O2. That every byte reads 0 is DESIGN CHOICE 7, and the values of PORST_N, of the TAP and of FWSTAT are DESIGN CHOICES 5
and 6. -/
theorem resetState : Obligations.ResetState := by
  unfold Obligations.ResetState
  have hlagoon (l : Nat) : State.reset.lagoon l = Lagoon.blank := rfl
  have hbyte (a : Nat) : State.reset.readByte a = 0 := rfl
  exact ⟨rfl, rfl, rfl, rfl, rfl, fun l => by rw [hlagoon]; exact ⟨rfl, rfl⟩, rfl, rfl, rfl, rfl, rfl, rfl, rfl, hbyte⟩

end Sys2Proof.Machine
end

section
/-! The setpoints of regions (R41, R282 to R284, R508): when a region may be stopped for a change, what the stop, the resume and a
regulator that does not answer make of it, and what a program boundary applies. -/

namespace Sys2Proof.Machine

/-! ### A region that is stopped for a change of setpoint -/

theorem State.setRegion_same {s : State} (hs : s.Canonical) (r : Nat) (x : Region) : (s.setRegion r x).region r = x := by
  rw [State.setRegion_region _ hs.regions, if_pos rfl]

/-- What decides whether a region may be stopped: its state, its change under way, its latest stop, and whether its regulator has
failed (R283, R508). -/
structure Region.StopsAs (x y : Region) : Prop where
  state    : x.state = y.state
  target   : x.target = y.target
  lastStop : x.lastStop = y.lastStop
  noChange : x.noChange = y.noChange

/-- A region's other fields do not decide which regions may be stopped. -/
theorem State.mayStop_setRegion {s : State} (hs : s.Canonical) {r : Nat} {x : Region} (h : x.StopsAs (s.region r)) (q : Nat) :
    (s.setRegion r x).mayStop q = s.mayStop q := by
  have hall (i : Nat) : ((s.setRegion r x).region i).StopsAs (s.region i) := by
    rw [State.setRegion_region _ hs.regions]
    split
    next hi => exact hi ▸ h
    next => exact ⟨rfl, rfl, rfl, rfl⟩
  simp only [State.mayStop, (hall _).state, (hall _).target, (hall _).lastStop, (hall _).noChange] <;> rfl

/-- A region whose pacers are stopped at a tide for a new setpoint (R283). -/
def Region.stopped (x : Region) (target now : Nat) : Region :=
  { x with state := 1, target := some target, lastStop := some now, retries := 0, stops := min 255 (x.stops + 1) }

theorem State.beginStop_of_mayStop {s : State} {r v : Nat} (hv : (s.region r).vset ≠ v) (hmay : s.mayStop r = true) :
    s.beginStop r v = s.setRegion r ((s.region r).stopped v s.tide.count) := by
  have hstop : (decide ((s.region r).vset ≠ v) && s.mayStop r) = true := by rw [hmay, decide_eq_true hv]; rfl
  exact if_pos hstop

/-- A change of a region that leaves its setpoint, and what decides its stop, and then the stop. -/
theorem State.beginStop_setRegion {s : State} (hs : s.Canonical) {r v : Nat} {x : Region} (h : x.StopsAs (s.region r)) (hv : x.vset ≠ v)
    (hmay : s.mayStop r = true) : ((s.setRegion r x).beginStop r v).region r = x.stopped v s.tide.count := by
  have hsame := State.setRegion_same hs r x
  rw [State.beginStop_of_mayStop (by rwa [hsame]) (by rwa [State.mayStop_setRegion hs h]), hsame,
    State.setRegion_same (State.Canonical.setRegion hs)]
  rfl

/-! ### The governor, the resume and the regulator -/

/-- A region that may stop runs. -/
theorem State.state_of_mayStop {s : State} {r : Nat} (h : s.mayStop r = true) : (s.region r).state = 0 := by
  simp only [State.mayStop, Bool.and_eq_true, beq_iff_eq] at h
  obtain ⟨⟨⟨hstate, -⟩, -⟩, -⟩ := h
  exact hstate

/-- The governor lowers the setpoint of a hot region that may stop by 10 mV, at most to 0.700 V (R284). -/
theorem exec_thermalGovernorTick_hot {s : State} (hs : s.Canonical) {r : Nat} (rate : Nat) (hr : r < 18) (hmay : s.mayStop r = true)
    (hhot : 100 ≤ (s.region r).tj) (hlow : 0x14 < (s.region r).vset) : ∃ t : State, exec (.thermalGovernorTick r rate) s = .next t ∧
      t.region r = { s.region r with rate := rate % 65536 }.stopped (max 0x14 ((s.region r).vset - 2)) s.tide.count := by
  have hstate : (s.region r).state < 3 := by rw [State.state_of_mayStop hmay]; decide
  have hgov : governed { s.region r with rate := rate % 65536 } = max 0x14 ((s.region r).vset - 2) := if_pos hhot
  refine ⟨_, congrArg Host.Outcome.next (if_pos ⟨hr, hstate⟩), ?_⟩
  dsimp only
  rw [State.setRegion_same hs, hgov]
  exact State.beginStop_setRegion hs ⟨rfl, rfl, rfl, rfl⟩ (by dsimp only; omega) hmay

section stopped

variable {s : State} (hs : s.Canonical) {r v : Nat} (htarget : (s.region r).target = some v) (hstate : (s.region r).state = 1)
include hs htarget hstate

/-- The delay monitor confirms the new setpoint and the region resumes (R283). -/
theorem exec_regionResume_region : ∃ t : State, exec (.regionResume r) s = .next t ∧
    t.region r = { s.region r with state := 0, vset := v, target := none, retries := 0 } := by
  have hexec : exec (.regionResume r) s = .next ((s.setRegion r { s.region r with state := 0, vset := v, target := none, retries := 0 }).raise
      0x4201 0 (argV (s.region r).vset v) (plocRegion r) (s.regionOwner r) none) := by
    change Host.Outcome.next _ = _
    rw [htarget]
    exact congrArg Host.Outcome.next (if_pos hstate)
  exact ⟨_, hexec, by rw [State.raise_region, State.setRegion_same hs]⟩

/-- The first two time-outs are counted (R508). -/
theorem exec_avsbusStatusTimeout_retry (h : (s.region r).retries < 2) : ∃ t : State, exec (.avsbusStatusTimeout r) s = .next t ∧
    t.region r = { s.region r with retries := (s.region r).retries + 1 } := by
  have hchange : (s.region r).state = 1 ∧ (s.region r).target.isSome = true := ⟨hstate, by rw [htarget]; rfl⟩
  exact ⟨_, congrArg Host.Outcome.next ((if_pos hchange).trans (if_pos h)), State.setRegion_same hs ..⟩

/-- The third resumes the region at its old setpoint, which it keeps until reset (R508). -/
theorem exec_avsbusStatusTimeout_last (h : 2 ≤ (s.region r).retries) : ∃ t : State, exec (.avsbusStatusTimeout r) s = .next t ∧
    t.region r = { s.region r with state := 0, target := none, retries := 0, noChange := true } := by
  have hchange : (s.region r).state = 1 ∧ (s.region r).target.isSome = true := ⟨hstate, by rw [htarget]; rfl⟩
  refine ⟨_, congrArg Host.Outcome.next ((if_pos hchange).trans (if_neg (Nat.not_lt.mpr h))), ?_⟩
  rw [State.raise_region, State.setRegion_same hs]

end stopped

/-! ### A program boundary (R41, R282) -/

/-- Held values are applied to their lagoon alone. -/
theorem State.applyHeld_keeps {β : Type} (g : State → β) (h : ∀ (s : State) x, g { s with lagoons := x } = g s) (s : State) (l : Nat) :
    g (s.applyHeld l) = g s := by
  unfold State.applyHeld
  dsimp only
  split
  · split
    · exact h s _
    · rfl
  · rfl

theorem State.applyHeld_lagoon {s : State} (hs : s.canonical = true) {l : Nat} {h : HeldMode} (hheld : (s.lagoon l).held = some h)
    (hb : s.atBoundary l = true) : (s.applyHeld l).lagoon l = { s.lagoon l with
      held := none, dlwin := h.dlwin, cfg := { (s.lagoon l).cfg with pmode := h.pmode, steady := h.steady } } := by
  unfold State.applyHeld
  dsimp only
  rw [hheld]
  dsimp only
  rw [if_pos hb, State.setLagoon_same hs]

theorem State.ageing_lagoon (s : State) (r l : Nat) : (s.ageing r).lagoon l = s.lagoon l := by
  unfold State.ageing State.beginStop
  dsimp only
  split
  · split <;> rfl
  · rfl

/-- A region ages by 5 mV, and is stopped for the setpoint that follows (R282, R283). -/
theorem State.ageing_region {s : State} (hs : s.Canonical) {r : Nat} (hbase : (s.region r).vbase < 0x24) (hmay : s.mayStop r = true) :
    (s.ageing r).region r = { s.region r with vbase := (s.region r).vbase + 1 }.stopped ((s.region r).vset + 1) s.tide.count := by
  unfold State.ageing
  dsimp only
  rw [if_pos ⟨hbase, hmay⟩]
  exact State.beginStop_setRegion (s := s.setRail ..) hs.setRail ⟨rfl, rfl, rfl, rfl⟩ (Nat.ne_of_lt (Nat.lt_succ_self _)) hmay

/-- What a program boundary does: the held values, then the ageing of the lagoon's regions named. -/
def State.passBoundary (s : State) (l aged : Nat) : State :=
  ((ones 18 aged).filter (fun r => s.regionOwner r == some l)).foldl State.ageing (s.applyHeld l)

theorem exec_programBoundary {s : State} {l : Nat} (aged : Nat) (hl : l < 8) (hb : s.atBoundary l = true) (hst : (s.lagoon l).st ≠ .empty) :
    exec (.programBoundary l aged) s = .next (s.passBoundary l aged) :=
  congrArg Host.Outcome.next (if_pos ⟨hl, hb, hst⟩)

theorem ones_two_pow {r : Nat} (h : r < 18) : ones 18 (2 ^ r) = [r] := by
  revert r
  decide

/-- One region named is one that ages, where the lagoon owns it. -/
theorem State.passBoundary_one {s : State} {l r : Nat} (hr : r < 18) (howner : s.regionOwner r = some l) :
    s.passBoundary l (2 ^ r) = (s.applyHeld l).ageing r := by
  have hone : (ones 18 (2 ^ r)).filter (fun q => s.regionOwner q == some l) = [r] := by
    rw [ones_two_pow hr, List.filter_singleton, howner, beq_self_eq_true]
    rfl
  rw [State.passBoundary, hone]
  rfl

/-- Settles O39: each clause by what its row makes of the region or of the lagoon. -/
theorem regionSetpoints : Obligations.RegionSetpoints := by
  unfold Obligations.RegionSetpoints
  refine ⟨fun r rate s hs hr hmay hhot hlow => ?governor, fun r v s hs htarget hstate => ⟨?resume, fun hretries => ?retry, fun hretries => ?last⟩,
    fun l aged h s hs hl hb hst hheld => ?held, fun l r s hs hl hb hst hr howner hbase hmay => ?ageing⟩
  case governor =>
    obtain ⟨t, ht, hregion⟩ := exec_thermalGovernorTick_hot (State.canonical_eq_true.mp hs) rate hr hmay hhot hlow
    exact ⟨t, ht, by rw [hregion]; exact ⟨rfl, rfl, rfl, rfl⟩⟩
  case resume =>
    obtain ⟨t, ht, hregion⟩ := exec_regionResume_region (State.canonical_eq_true.mp hs) htarget hstate
    exact ⟨t, ht, by rw [hregion]; exact ⟨rfl, rfl, rfl⟩⟩
  case retry =>
    obtain ⟨t, ht, hregion⟩ := exec_avsbusStatusTimeout_retry (State.canonical_eq_true.mp hs) htarget hstate hretries
    exact ⟨t, ht, by rw [hregion]; exact ⟨rfl, hstate⟩⟩
  case last =>
    obtain ⟨t, ht, hregion⟩ := exec_avsbusStatusTimeout_last (State.canonical_eq_true.mp hs) htarget hstate hretries
    exact ⟨t, ht, by rw [hregion]; exact ⟨rfl, rfl, rfl⟩⟩
  case held =>
    refine ⟨_, exec_programBoundary aged hl hb hst, ?_⟩
    rw [State.passBoundary, foldl_keeps (·.lagoon l) (fun a r => a.ageing_lagoon r l), State.applyHeld_lagoon hs hheld hb]
    exact ⟨rfl, rfl, rfl, rfl⟩
  case ageing =>
    have hregion (i : Nat) : (s.applyHeld l).region i = s.region i := State.applyHeld_keeps (·.region i) (fun _ _ => rfl) s l
    have hstops : (s.applyHeld l).mayStop r = true := (State.applyHeld_keeps (·.mayStop r) (fun _ _ => rfl) s l).trans hmay
    refine ⟨_, exec_programBoundary (2 ^ r) hl hb hst, ?_⟩
    rw [State.passBoundary_one hr howner, State.ageing_region (State.canonical_eq_true.mp hs).applyHeld (by rwa [hregion]) hstops, hregion]
    exact ⟨rfl, rfl, rfl⟩

end Sys2Proof.Machine
end

section
/-! Temperatures and rails (R280, R284, R285): what a sample and a low rail make of their region, what the thermal trip makes of the dies,
and the run that a rail's failure ends. -/

namespace Sys2Proof.Machine

/-! ### Temperature samples (R284, R285) -/

/-- The state in which a sample is kept, with the warning of its first reading of 105 °C or more (R284). -/
def State.sampled (s : State) (r : Nat) (tj : Int) : State :=
  let s1 := s.setRegion r { s.region r with tj := tj, warned := decide (tj ≥ 105) }
  if decide (tj ≥ 105) && !(s.region r).warned then s1.raise 0x4204 0 (argV 0 (wrapInt 8 tj)) (plocRegion r) (s.regionOwner r) none else s1

theorem State.sampled_region {s : State} (hs : s.canonical = true) (r : Nat) (tj : Int) :
    (s.sampled r tj).region r = { s.region r with tj := tj, warned := decide (tj ≥ 105) } := by
  obtain ⟨-, -, -, -, -, -, hregions, -⟩ := State.canonical_iff.mp hs
  have hset : (s.setRegion r { s.region r with tj := tj, warned := decide (tj ≥ 105) }).region r = _ :=
    (State.setRegion_region _ hregions r r _).trans (if_pos rfl)
  unfold State.sampled
  dsimp only
  split
  · rw [State.raise_region, hset]
  · exact hset

theorem State.Canonical.sampled {s : State} (hs : s.Canonical) (r : Nat) (tj : Int) : (s.sampled r tj).Canonical :=
  .ite hs.setRegion.raise hs.setRegion

theorem exec_temperatureSample {s : State} {r : Nat} (hr : r < 18) (hon : s.power.porst = true) (tj : Int) :
    exec (.temperatureSample r tj) s = .next (if tj ≥ 115 ∧ (s.region r).state ≠ 4 then (s.sampled r tj).thermalTrip r else s.sampled r tj) := by
  have hin : ¬(18 ≤ r ∨ s.power.porst = false) := by simp [hon, hr]
  exact congrArg Host.Outcome.next (if_neg hin)

/-! ### The thermal trip (R285) -/

theorem Region.off_state (x : Region) : 3 ≤ x.off.state := by
  unfold Region.off
  dsimp only
  split <;> decide

/-- Regions switched off one after the other are off or out of service. -/
theorem State.offRegions_state {s : State} (hs : s.Canonical) {l : List Nat} {i : Nat} (h : i ∈ l ∨ 3 ≤ (s.region i).state) :
    3 ≤ ((l.foldl (fun a r => a.setRegion r (a.region r).off) s).region i).state := by
  induction l generalizing s with
  | nil => exact h.resolve_left List.not_mem_nil
  | cons r l ih =>
    refine ih hs.setRegion ?_
    rw [State.setRegion_region _ hs.regions]
    split
    next => exact .inr (Region.off_state _)
    next hne => exact h.imp_left fun hmem => (List.mem_cons.mp hmem).resolve_left hne

theorem State.diesOff_regions (s : State) :
    s.diesOff.regions = ((List.range 18).foldl (fun a r => a.setRegion r (a.region r).off) s).regions := by
  unfold State.diesOff
  dsimp only

theorem State.diesOff_state {s : State} (hs : s.Canonical) {i : Nat} (hi : i < 18) : 3 ≤ (s.diesOff.region i).state := by
  have hin : i ∈ List.range 18 := List.mem_range.mpr hi
  have hregions := s.diesOff_regions
  generalize List.range 18 = l at hin hregions
  have hoff := State.offRegions_state hs (.inl hin)
  unfold State.region at hoff ⊢
  rwa [hregions]

theorem State.diesOff_power (s : State) : s.diesOff.power = { s.power with
    cw := { s.power.cw with pen := false, pgood := false }, ce := { s.power.ce with pen := false, pgood := false } } := by
  unfold State.diesOff
  dsimp only
  rw [foldl_keeps (f := fun a r => a.setRegion r (a.region r).off) (·.power) fun _ _ => rfl]

/-- The ends of the runs in progress, at a trip. -/
theorem State.tripRuns_power (l : List Nat) (s : State) : (l.foldl (fun (a : State) l =>
    if (a.lagoon l).st = .running ∨ (a.lagoon l).st = .paused then a.faultLagoon l 0x4205 else a) s).power = s.power :=
  foldl_keeps (·.power) (fun a l => by
    split
    · exact State.faultLagoon_keeps (·.power) (fun _ _ _ _ _ _ _ _ _ _ => rfl) a l _
    · rfl) l s

theorem State.thermalTrip_power (s : State) (r : Nat) : (s.thermalTrip r).power.thermtrip = true ∧ (s.thermalTrip r).power.cause = 1 ∧
    (s.thermalTrip r).power.cw.pen = false ∧ (s.thermalTrip r).power.ce.pen = false := by
  unfold State.thermalTrip
  dsimp only
  rw [State.diesOff_power, State.tripRuns_power]
  exact ⟨rfl, rfl, rfl, rfl⟩

theorem State.thermalTrip_state {s : State} (hs : s.Canonical) (r : Nat) {i : Nat} (hi : i < 18) :
    3 ≤ ((s.thermalTrip r).region i).state :=
  State.diesOff_state (.foldl hs.raise.powered fun _ _ ha => .ite ha.faultLagoon ha) hi

/-! ### Rails (R280) -/

theorem State.inRun_of_runs {s : State} {l : Nat} (h : s.runs? l = true) : s.InRun l := by
  simp only [State.runs?, Bool.or_eq_true, decide_eq_true_eq] at h
  exact or_assoc.mp h

theorem State.fault_st {s : State} (hs : s.canonical = true) {l : Nat} (h : s.InRun l) (code arg ploc : Nat) (vc : Option Nat) :
    ((s.fault code arg ploc l vc).lagoon l).st = .faulted := by
  refine State.faultLagoon_st ((State.raise_canonical ..).trans hs) ?_ code
  unfold State.InRun
  rwa [State.raise_lagoon]

theorem State.fault_region (s : State) (code arg ploc l : Nat) (vc : Option Nat) (i : Nat) :
    (s.fault code arg ploc l vc).region i = s.region i :=
  (State.faultLagoon_keeps (·.region i) (fun _ _ _ _ _ _ _ _ _ _ => rfl) _ l code).trans (State.raise_region ..)

/-- A halt of more than 1 ms ends the run of the region's owner (R280). -/
theorem exec_railFail {s : State} {r l t0 : Nat} (hstate : (s.region r).state = 2) (hlow : (s.region r).lowSince = some t0)
    (hnew : (s.region r).failed = false) (hlong : t0 + 1000000 < s.tide.count) (howner : s.regionOwner r = some l) :
    exec (.railFail r) s = .next ((s.setRegion r { s.region r with failed := true }).fault 0x4203 0 (plocRegion r) l none) := by
  change Host.Outcome.next _ = _
  rw [hlow, howner]
  dsimp only
  rw [if_pos ⟨hstate, hnew, hlong⟩, hlow]

/-- Settles O40: the region that a sample or a rail leaves, the dies after a trip, and the run that a rail's failure ends. -/
theorem temperaturesAndRails : Obligations.TemperaturesAndRails := by
  unfold Obligations.TemperaturesAndRails
  refine ⟨fun r tj s hs hr hon => ⟨fun hcool => ?sample, fun hhot hne => ?trip⟩, fun r mv s hs hr hmv hst => ?low,
    fun r s hs hst => ?recover, fun r l t0 s hs hst hlow hnew hlong howner hrun => ?fail⟩
  case sample =>
    refine ⟨_, exec_temperatureSample hr hon tj, ?_⟩
    rw [if_neg fun h => absurd h.1 (by omega), State.sampled_region hs]
    exact ⟨rfl, rfl⟩
  case trip =>
    have hsampled := (State.canonical_eq_true.mp hs).sampled r tj
    obtain ⟨htrip, hcause, hcw, hce⟩ := (s.sampled r tj).thermalTrip_power r
    refine ⟨_, exec_temperatureSample hr hon tj, ?_⟩
    rw [if_pos ⟨hhot, hne⟩]
    exact ⟨htrip, hcause, hcw, hce, fun i hi => State.thermalTrip_state hsampled r hi⟩
  case low =>
    have hfalls : r < 18 ∧ mv < 620 ∧ (s.region r).state < 2 := ⟨hr, hmv, hst⟩
    refine ⟨_, congrArg Host.Outcome.next (if_pos hfalls), ?_⟩
    dsimp only
    rw [State.raise_region, State.setRegion_same (State.canonical_eq_true.mp hs).setRail]
    exact ⟨rfl, rfl⟩
  case recover =>
    refine ⟨_, congrArg Host.Outcome.next (if_pos hst), ?_⟩
    rw [State.setRegion_same (State.canonical_eq_true.mp hs)]
    exact ⟨rfl, rfl⟩
  case fail =>
    have hcanon := State.canonical_eq_true.mp hs
    refine ⟨_, exec_railFail hst hlow hnew hlong howner, State.fault_st hcanon.setRegion.bool (State.inRun_of_runs hrun) .., ?_⟩
    rw [State.fault_region, State.setRegion_same hcanon]

end Sys2Proof.Machine
end

section
/-! The tide (R277, R300 to R305, R377): what a tick, a synchronisation message, a step and a pulse make of it. -/

namespace Sys2Proof

/-- What entries changed in place give where one is held. -/
theorem Sparse.get_map_of_ne {α : Type} {d : α} {m : Sparse α} (f : Nat × α → α) {i : Nat} (h : Sparse.get d m i ≠ d) :
    Sparse.get d (m.map fun e => (e.1, f e)) i = f (i, Sparse.get d m i) := by
  induction m with
  | nil => exact absurd rfl h
  | cons e m ih =>
    rw [List.map_cons, Sparse.get]
    rw [Sparse.get] at h ⊢
    split at h
    next hi => rw [if_pos hi, if_pos hi, hi]
    next hi => rw [if_neg hi, if_neg hi, ih h]

namespace Machine

/-! ### What charging the ledgers leaves alone (R295) -/

section

variable {β : Type} {g : State → β} (h : ∀ (s : State) (c : CoreId) (k : Core), g (s.setCore c k) = g s)
include h

theorem State.chargeCore_keeps (l n : Nat) (s : State) (v : Nat) : g (State.chargeCore l n s v) = g s := by
  unfold State.chargeCore
  dsimp only
  split
  · rfl
  · exact h ..

theorem State.chargeAll_keeps (s : State) (n : Nat) : g (s.chargeAll n) = g s := by
  unfold State.chargeAll
  split
  · rfl
  · refine foldl_keeps g (fun a l => ?_) _ s
    split
    · exact foldl_keeps g (State.chargeCore_keeps h l n) _ a
    · rfl

end

/-! ### What the work of a tick leaves alone

A tick classes its ledgers and moves what is in the lanes: it changes cores, lagoons, memory stacks, ferry stages and the fabric. -/

/-- `g` sees nothing of what the work of a tick changes. -/
def KeptByTickWork {β : Type} (g : State → β) : Prop :=
  ∀ (s : State) cores lagoons hbm ferry fabric,
    g { s with cores := cores, lagoons := lagoons, hbm := hbm, ferry := ferry, fabric := fabric } = g s

section

variable {β : Type} {g : State → β} (h : KeptByTickWork g)
include h

theorem KeptByTickWork.setCore (s : State) (c : CoreId) (k : Core) : g (s.setCore c k) = g s := h s _ s.lagoons s.hbm s.ferry s.fabric
theorem KeptByTickWork.setLagoon (s : State) (l : Nat) (x : Lagoon) : g (s.setLagoon l x) = g s := h s s.cores _ s.hbm s.ferry s.fabric
theorem KeptByTickWork.setStack (s : State) (n : Nat) (x : Stack) : g (s.setStack n x) = g s := h s s.cores s.lagoons _ s.ferry s.fabric
theorem KeptByTickWork.setStage (s : State) (p dir : Nat) (l : List QEntry) : g (s.setStage p dir l) = g s :=
  h s s.cores s.lagoons s.hbm _ s.fabric
theorem KeptByTickWork.setFabric (s : State) (f : Fabric) : g { s with fabric := f } = g s := h s s.cores s.lagoons s.hbm s.ferry f

theorem KeptByTickWork.enter (s : State) (id n : Nat) (xs : List Nat) : g (s.enter id n xs) = g s := by
  unfold State.enter
  split
  · rfl
  · exact h.setFabric s _

theorem KeptByTickWork.place (s : State) (xs : List Nat) (n : Nat) : g (s.place xs n).1 = g s := by
  unfold State.place
  split
  · rfl
  · exact (h.enter _ _ n xs).trans (h.setFabric s _)

/-! #### The ledgers and stalls of the cores -/

theorem KeptByTickWork.chargeAll (s : State) (n : Nat) : g (s.chargeAll n) = g s := State.chargeAll_keeps h.setCore s n

theorem KeptByTickWork.stallCore (l : Nat) (s : State) (v : Nat) : g (State.stallCore l s v) = g s := by
  unfold State.stallCore
  dsimp only
  split
  · exact h.setCore ..
  · rfl

theorem KeptByTickWork.stallTick (s : State) : g s.stallTick = g s := by
  refine foldl_keeps g (fun a l => ?_) _ s
  split
  · exact foldl_keeps g (h.stallCore l) _ a
  · rfl

/-! #### The lanes -/

theorem KeptByTickWork.take1 (s : State) (t : Transit) : g (s.take1 t) = g s := by
  unfold State.take1
  dsimp only
  split
  · exact h.setFabric s _
  · exact (h.enter _ _ _ _).trans (h.setFabric s _)

theorem KeptByTickWork.crossOne (a : State × List Nat) (t : Transit) : g (Machine.crossOne a t).1 = g a.1 := by
  unfold Machine.crossOne
  split
  · exact h.take1 ..
  · split
    · rfl
    · exact h.take1 ..

theorem KeptByTickWork.crossTick (s : State) : g s.crossTick = g s :=
  List.foldlRecOn (motive := fun a : State × List Nat => g a.1 = g s) _ Machine.crossOne rfl
    fun a ha t _ => (h.crossOne a t).trans ha

theorem KeptByTickWork.sendResponse (s : State) (c : CoreId) (o : StreamOp) (t : Txn) : g (s.sendResponse c o t) = g s := by
  unfold State.sendResponse
  dsimp only
  split
  · exact (h.setCore ..).trans (h.place ..)
  · exact h.setCore ..

theorem KeptByTickWork.sendWaiting (s : State) (c : CoreId) : g (s.sendWaiting c) = g s := by
  refine foldl_keeps g (fun a p => ?_) _ s
  split
  · exact h.sendResponse ..
  · rfl

theorem KeptByTickWork.sendDone (st : Nat) (s : State) (r : ReefHeld) : g (State.sendDone st s r) = g s := by
  unfold State.sendDone
  dsimp only
  split
  · exact (h.setStack ..).trans (h.place ..)
  · rfl

theorem KeptByTickWork.ferryNext {s t : State} {n dir : Nat} {e : QEntry} (ht : s.ferryNext n dir = some (e, t)) : g t = g s := by
  unfold State.ferryNext at ht
  split at ht
  · cases ht
    exact h.setStage ..
  · split at ht
    · cases ht
    · dsimp only at ht
      split at ht
      · cases ht
      · split at ht
        · cases ht
          exact h.setCore ..
        · cases ht

theorem KeptByTickWork.placeFerry (s : State) (x : Nat × Nat) : g (s.placeFerry x) = g s := by
  unfold State.placeFerry
  split
  · rfl
  · dsimp only
    split
    · rfl
    · split
      · rfl
      next hnext =>
        split
        · exact (h.setFabric ..).trans ((h.place ..).trans (h.ferryNext hnext))
        · rfl

theorem KeptByTickWork.sendTick (s : State) : g s.sendTick = g s := by
  unfold State.sendTick
  refine (foldl_keeps g h.placeFerry _ _).trans ((foldl_keeps g (fun a p => ?_) _ _).trans (foldl_keeps g (fun a _ => h.sendWaiting a _) _ _))
  exact foldl_keeps g (h.sendDone p.1) _ a

theorem KeptByTickWork.watch (s : State) (l : Nat) : g (s.watch l) = g s := by
  unfold State.watch
  extract_lets x w
  split
  · rfl
  · exact h.setLagoon ..

/-! #### The parts of a tick -/

theorem KeptByTickWork.stalled (s : State) (n : Nat) : g (s.chargeAll n).stallTick = g s := (h.stallTick _).trans (h.chargeAll s n)
theorem KeptByTickWork.sent (s : State) : g s.crossTick.sendTick = g s := (h.sendTick _).trans (h.crossTick s)
theorem KeptByTickWork.watched (s : State) : g ((List.range 8).foldl State.watch s) = g s := foldl_keeps g h.watch _ s

theorem KeptByTickWork.moved (hpace : ∀ s : State, g s.paceTick = g s) (s : State) (n : Nat) :
    g (s.chargeAll n).stallTick.paceTick.crossTick.sendTick = g s :=
  (h.sent _).trans ((hpace _).trans (h.stalled s n))

end

theorem keptByTickWork_mem : KeptByTickWork (·.mem) := fun _ _ _ _ _ _ => rfl
theorem keptByTickWork_tide : KeptByTickWork (·.tide) := fun _ _ _ _ _ _ => rfl
theorem keptByTickWork_region (r : Nat) : KeptByTickWork (·.region r) := fun _ _ _ _ _ _ => rfl
theorem keptByTickWork_pace (r : Nat) : KeptByTickWork (·.pace r) := fun _ _ _ _ _ _ => rfl

/-! ### A tick (R277, R300, R304) -/

/-- The state in which a tick has moved what it moves, before the detector's watch. -/
def State.ticked (s : State) : State :=
  let t := (s.chargeAll (s.tide.tick.count - s.tide.count)).stallTick.paceTick.crossTick.sendTick
  { t with tide := { t.tide.tick.pulse t.tide.count with count := s.tide.tick.count % 2 ^ 64 } }

theorem exec_tideTick {s : State} (hon : s.power.porst = true) :
    exec .tideTick s = .next ((List.range 8).foldl State.watch s.ticked) :=
  congrArg Host.Outcome.next (if_pos hon)

theorem State.ticked_mem (s : State) : s.ticked.mem = s.mem := keptByTickWork_mem.moved (fun _ => rfl) s _

theorem State.ticked_tide (s : State) :
    s.ticked.tide = { s.tide.tick.pulse s.tide.count with count := s.tide.tick.count % 2 ^ 64 } := by
  have hkeep := keptByTickWork_tide.moved (fun _ => rfl) s (s.tide.tick.count - s.tide.count)
  unfold State.ticked
  extract_lets t
  exact congrArg (fun x : Tide => { x.tick.pulse x.count with count := s.tide.tick.count % 2 ^ 64 }) hkeep

/-- The pacer of a region that runs advances by its pace. -/
theorem State.paceTick_periods {s : State} {r : Nat} (hr : (s.region r).state = 0) :
    (s.paceTick.region r).periods = (s.region r).periods + s.pace r := by
  have hheld : s.region r ≠ Region.blank := by
    intro hb
    rw [hb] at hr
    cases hr
  unfold State.region at hheld hr ⊢
  rw [State.paceTick_regions, Sparse.get_map_of_ne (fun p => p.2.paced (s.pace p.1)) hheld]
  unfold Region.paced
  rw [if_pos (.inl hr)]

theorem State.ticked_periods {s : State} {r : Nat} (hr : (s.region r).state = 0) :
    (s.ticked.region r).periods = (s.region r).periods + s.pace r := by
  have hregion := (keptByTickWork_region r).stalled s (s.tide.tick.count - s.tide.count)
  have hpace := (keptByTickWork_pace r).stalled s (s.tide.tick.count - s.tide.count)
  have hticked : s.ticked.region r = (s.chargeAll (s.tide.tick.count - s.tide.count)).stallTick.paceTick.region r :=
    (keptByTickWork_region r).sent _
  rw [hticked]
  generalize (s.chargeAll (s.tide.tick.count - s.tide.count)).stallTick = t at hregion hpace
  rw [← hregion] at hr ⊢
  rw [← hpace]
  exact State.paceTick_periods hr

/-! #### The count of a tick -/

theorem Tide.tick_of_steady {t : Tide} (h : t.slew = 0 ∨ t.count < t.lastSlew + 10000) : t.tick = { t with count := t.count + 1 } :=
  if_neg fun hs => h.elim hs.1 (Nat.not_lt.mpr hs.2)

theorem Tide.tick_of_late {t : Tide} (hslew : 0 < t.slew) (hdue : t.lastSlew + 10000 ≤ t.count) :
    t.tick = { t with count := t.count + 2, slew := t.slew - 1, lastSlew := t.count + 2 } :=
  (if_pos ⟨by omega, hdue⟩).trans (if_pos hslew)

theorem Tide.tick_of_early {t : Tide} (hslew : t.slew < 0) (hdue : t.lastSlew + 10000 ≤ t.count) :
    t.tick = { t with slew := t.slew + 1, lastSlew := t.count } :=
  (if_pos ⟨by omega, hdue⟩).trans (if_neg (by omega))

theorem Tide.pulse_slew (t : Tide) (before : Nat) : (t.pulse before).slew = t.slew := by
  unfold Tide.pulse
  split <;> rfl

/-- A tick by one to a full second is a rising edge of a tide that has been stepped or set (R305, R503). -/
theorem Tide.pulse_ppsOut {t : Tide} (hsec : (t.count + 1) % 1000000000 = 0) :
    (Tide.pulse { t with count := t.count + 1 } t.count).ppsOut =
      if t.stepped = true ∨ t.set = true then t.ppsOut + 1 else t.ppsOut := by
  have hpass : t.count / 1000000000 < (t.count + 1) / 1000000000 := by omega
  unfold Tide.pulse
  dsimp only
  by_cases hset : t.stepped = true ∨ t.set = true
  · rw [if_pos ⟨hset, hpass⟩, if_pos hset]
  · rw [if_neg fun hh => hset hh.1, if_neg hset]

/-! ### Events and steps of the tide (R303, R304) -/

theorem State.tideEvent_tide (s : State) (before code : Nat) : (s.tideEvent before code).tide = s.tide := State.raise_tide ..

theorem State.tideState_tide (s : State) (st : Nat) : (s.tideState st).tide = { s.tide with state := st } := by
  unfold State.tideState
  split
  next hsame => rw [← hsame]
  · exact State.tideEvent_tide ..

/-- A step moves the count, its ticks charged to the ledgers first. -/
theorem State.stepTide_tide (s : State) (d : Nat) : (s.stepTide d).tide.count = (s.tide.count + d) % 2 ^ 64 ∧
    (s.stepTide d).tide.step = none ∧ (s.stepTide d).tide.stepped = true ∧ (s.stepTide d).tide.ppsFirst = s.tide.ppsFirst ∧
    (s.stepTide d).tide.set = s.tide.set := by
  unfold State.stepTide
  dsimp only
  rw [State.tideEvent_tide, keptByTickWork_tide.chargeAll]
  split <;> exact ⟨rfl, rfl, rfl, rfl, rfl⟩

/-! ### Synchronisation (R303, R304, R377) -/

/-- The tide that has heard a synchronisation message near its count, its sixteenth in a row at the least, locks. -/
theorem State.synchronise_locks {s : State} {k time : Nat} (hstate : s.tide.state = 1 ∨ s.tide.state = 3) (hgood : 15 ≤ s.tide.good)
    (hlast : s.tide.lastSync = some k) (hrecent : s.tide.count ≤ k + 2000000000) (hlate : time ≤ s.tide.count + 25)
    (hearly : s.tide.count ≤ time + 25) :
    (s.synchronise time).tide.state = 2 ∧ (s.synchronise time).tide.lastSync = some s.tide.count ∧
      (s.synchronise time).tide.offset = (s.tide.count : Int) - time ∧ (s.synchronise time).tide.count = s.tide.count := by
  unfold State.synchronise
  extract_lets t off interval good s1 src1 s2 src2 s3
  have hnear : off ≤ 25 ∧ -25 ≤ off := by
    change (s.tide.count : Int) - time ≤ 25 ∧ -25 ≤ (s.tide.count : Int) - time
    omega
  have hinterval : interval = true := by
    simp only [interval, t, hlast]
    exact decide_eq_true hrecent
  have hsixteen : good = s.tide.good + 1 := (if_pos hnear).trans (if_pos hinterval)
  have hsearching : ¬t.state = 0 := by
    change ¬s.tide.state = 0
    omega
  rw [if_neg hsearching, if_pos ⟨hstate, by omega⟩, State.tideState_tide]
  have hheard : s3.tide.lastSync = some s.tide.count ∧ s3.tide.offset = off ∧ s3.tide.count = s.tide.count := by
    unfold s3
    split <;> exact ⟨rfl, rfl, rfl⟩
  exact ⟨rfl, hheard⟩

/-- What leaves by the uncontrolled port or another transmitter finds no port closed (R370). -/
theorem State.txClosed_of_uncontrolled (s : State) {x : Outgoing} (hx : x.kind ∈ [7, 8, 10, 12]) : s.txClosed x = false := by
  have hopen : txSecure s.port.cfg x.kind = false := by
    unfold txSecure
    rw [List.contains_iff_mem.mpr hx]
    rfl
  simp [State.txClosed, hopen]

theorem State.sendVia_head {s : State} {x : Outgoing} (hx : s.txClosed x = false) (e : Option Nat) :
    (s.sendVia e x).tx.head?.map (·.toOutgoing) = some x := by
  unfold State.sendVia State.sendData
  rw [hx]
  rfl

theorem State.askDelay_head (s : State) (p : PtpMsg) (domain : Nat) : (s.askDelay p domain).tx.head?.map (·.toOutgoing) =
    some ⟨12, p.transport, if p.e2e then 1 else 2, toBytes 1 domain ++ toBytes 8 s.tide.count⟩ :=
  State.sendVia_head (s.txClosed_of_uncontrolled (List.mem_of_getLast? rfl)) _

theorem State.frameIn_of_hears {s : State} {w : Wire} {opn : Bool} {e : Option Nat} (hw : s.hears w opn e = true) (k : State → State) :
    s.frameIn w opn e k = k (s.tookFrame w) := by
  simp only [State.hears, Bool.and_eq_true, decide_eq_true_eq] at hw
  obtain ⟨⟨hmin, hmax⟩, hpass⟩ := hw
  unfold State.frameIn
  rw [if_neg (Nat.not_lt.mpr hmax), if_neg (Nat.not_lt.mpr hmin), if_pos hpass]

theorem exec_ptpSync {s : State} {p : PtpMsg} (hon : s.power.porst = true) (hlink : s.port.link.isSome = true)
    (hdisc : s.tide.disc = true) (htransport : p.transport < 3) (hears : s.hears p.wire true none = true) :
    exec (.ptpSync p s.tide.domain) s = .next (((s.tookFrame p.wire).synchronise p.time).askDelay p s.tide.domain) := by
  have hhere : ¬(s.tide.disc = false ∨ s.tide.domain ≠ s.tide.domain ∨ 3 ≤ p.transport ∨ s.power.porst = false ∨ s.port.link.isNone) := by
    simp [hon, hdisc, htransport, Option.isSome_iff_ne_none.mp hlink]
  exact congrArg Host.Outcome.next ((if_neg hhere).trans (State.frameIn_of_hears hears _))

/-! ### The 1PPS input (R305) -/

/-- The state that has seen an edge of the 1PPS input. -/
def State.pulsed (s : State) : State := { s with tide := { s.tide with ppsSeen := true, ppsFirst := false } }

theorem exec_ppsEdge {s : State} (hinput : s.tide.ppsOn = true) (hon : s.power.porst = true) : exec .ppsEdge s = .next (
    if s.tide.ppsFirst = true ∧ s.tide.count < pulseCount s.tide.count ∧ s.tideFree = true then
      s.pulsed.stepTide (pulseCount s.tide.count - s.tide.count)
    else { s.pulsed with tide := { s.pulsed.tide with slew := (pulseCount s.tide.count : Int) - s.tide.count } }) := by
  have hhere : ¬(s.tide.ppsOn = false ∨ s.power.porst = false) := by simp [hinput, hon]
  exact congrArg Host.Outcome.next (if_neg hhere)

/-- Settles O41: the tide after a tick, a synchronisation message, two seconds without one, a step that waited, and an edge of 1PPS. -/
theorem tideMoves : Obligations.TideMoves := by
  unfold Obligations.TideMoves
  refine ⟨fun s hs hon => ⟨_, exec_tideTick hon, ?tick⟩,
    fun s p k hon hlink hdisc htransport hears hstate hgood hlast hrecent hlate hearly => ?sync,
    fun s k hlast hstate hsilent => ?holdover, fun s d hstep hfree => ?step, fun s hinput hon => ?edge⟩
  case tick =>
    have htide : ((List.range 8).foldl State.watch s.ticked).tide = _ :=
      (keptByTickWork_tide.watched _).trans s.ticked_tide
    have hslew := s.tide.tick.pulse_slew s.tide.count
    rw [htide]
    refine ⟨(keptByTickWork_mem.watched _).trans s.ticked_mem, fun hzero => ?_, fun hlate hdue => ?_, fun hearly hdue => ?_,
      fun hsteady => ?_, fun hzero hsec => ?_, fun r hr => ?_⟩
    · rw [Tide.tick_of_steady (.inl hzero)]
    · rw [Tide.tick_of_late hlate hdue] at hslew ⊢
      exact ⟨rfl, hslew⟩
    · rw [Tide.tick_of_early hearly hdue] at hslew ⊢
      exact ⟨rfl, hslew⟩
    · rw [Tide.tick_of_steady (.inr hsteady)]
    · rw [Tide.tick_of_steady (.inl hzero)]
      exact Tide.pulse_ppsOut hsec
    · exact (congrArg Region.periods ((keptByTickWork_region r).watched _)).trans (State.ticked_periods hr)
  case sync =>
    obtain ⟨hlocked, hsync, hoffset, hcount⟩ :=
      State.synchronise_locks (s := s.tookFrame p.wire) hstate hgood hlast hrecent hlate hearly
    refine ⟨_, exec_ptpSync hon hlink hdisc htransport hears, hlocked, hsync, hoffset, ?_⟩
    rw [State.askDelay_head, hcount]
    rfl
  case holdover =>
    refine ⟨({ s with tide := { s.tide with good := 0 } }).tideState 3, congrArg Host.Outcome.next ?_,
      congrArg Tide.state (State.tideState_tide ..)⟩
    rw [hlast]
    exact if_pos ⟨hstate, hsilent⟩
  case step =>
    obtain ⟨hcount, hnone, hstepped, -⟩ := s.stepTide_tide d.toNat
    refine ⟨_, congrArg Host.Outcome.next ?_, hcount, hnone, hstepped⟩
    rw [hstep]
    exact if_pos hfree
  case edge =>
    refine ⟨fun hfollow => ⟨_, exec_ppsEdge hinput hon, ?_⟩, fun hfirst hbefore hfree => ⟨_, exec_ppsEdge hinput hon, ?_⟩⟩
    · have hnostep : ¬(s.tide.ppsFirst = true ∧ s.tide.count < pulseCount s.tide.count ∧ s.tideFree = true) := by
        rintro ⟨hfirst, hbefore, hfree⟩
        rcases hfollow with hno | hpast | hbusy
        · simp [hfirst] at hno
        · omega
        · simp [hfree] at hbusy
      rw [if_neg hnostep]
      exact ⟨rfl, rfl, rfl⟩
    · obtain ⟨hcount, -, hstepped, hseen, -⟩ := s.pulsed.stepTide_tide (pulseCount s.tide.count - s.tide.count)
      rw [if_pos ⟨hfirst, hbefore, hfree⟩]
      refine ⟨hcount.trans ?_, hseen, hstepped⟩
      exact congrArg (· % 2 ^ 64) (Nat.add_sub_cancel' (Nat.le_of_lt hbefore))

end Machine
end Sys2Proof
end

section
/-! The sideband port (R286, R381, R389 to R392, R518, R521): its rows, and what a request of the BMC leaves of the port while it stops
the device. -/

namespace Sys2Proof.Machine

/-! ### What the ends of sessions leave alone -/

/-- `g` sees nothing of what the end of a session or debug session changes: the agents that a debugger halted, the event that it raises,
and the sessions themselves. -/
def KeptByEndings {β : Type} (g : State → β) : Prop :=
  ∀ (s : State) cores dbgs sessions tx n l r,
    g { s with cores := cores, dbgs := dbgs, sessions := sessions, tx := tx, evno := n, log := l, rel := r } = g s

section

variable {β : Type} {g : State → β} (h : KeptByEndings g)
include h

theorem KeptByEndings.raise (s : State) (code kind arg ploc : Nat) (lag vc : Option Nat) : g (s.raise code kind arg ploc lag vc) = g s :=
  State.raise_keeps g (fun s n l r x y => h s s.cores s.dbgs x y n l r) s ..

theorem KeptByEndings.answer (s : State) (r : Ref) (st d e : Nat) (res : List Byte) : g (s.answer r st d e res) = g s :=
  State.answer_keeps g (fun s l x => h s s.cores s.dbgs l x s.evno s.log s.rel) ..

theorem KeptByEndings.answerOpt (s : State) (r : Option Ref) (st d e : Nat) (res : List Byte) : g (s.answerOpt r st d e res) = g s :=
  State.answerOpt_keeps g (fun s l x => h s s.cores s.dbgs l x s.evno s.log s.rel) ..

theorem KeptByEndings.mapCores (s : State) (l : Nat) (f : Core → Core) : g (s.mapCores l f) = g s :=
  h s _ s.dbgs s.sessions s.tx s.evno s.log s.rel

theorem KeptByEndings.endDebug (s : State) (p : Debug → Bool) : g (s.endDebug p) = g s := by
  unfold State.endDebug
  extract_lets gone covered t
  refine (foldl_keeps g (fun a _ => h.raise a ..) _ _).trans ?_
  exact (foldl_keeps g (fun a l => h.mapCores a l _) _ _).trans (h s s.cores _ s.sessions s.tx s.evno s.log s.rel)

theorem KeptByEndings.endSession (s : State) (id : Nat) : g (s.endSession id) = g s := by
  unfold State.endSession
  split
  · rfl
  · exact (h.raise ..).trans ((h.endDebug ..).trans (h s s.cores s.dbgs _ s.tx s.evno s.log s.rel))

theorem KeptByEndings.endSessions (s : State) (p : Session → Bool) : g (s.endSessions p) = g s := by
  unfold State.endSessions
  exact foldl_keeps g (fun _ _ => h.endSession ..) _ s

end

theorem keptByEndings_side : KeptByEndings (·.side) := fun _ _ _ _ _ _ _ _ => rfl

/-! ### The port while the device stops (R392) -/

theorem State.closeBatch_side (s : State) : s.closeBatch.side = s.side := by
  unfold State.closeBatch
  dsimp only
  split <;> rfl

theorem State.stopLagoon_side (s : State) (l : Nat) (ref : Option Ref) : (s.stopLagoon l ref).side = s.side := by
  unfold State.stopLagoon
  dsimp only
  split
  · exact State.answerOpt_keeps (·.side) (fun _ _ _ => rfl) ..
  · rfl

theorem State.stopAll_side (s : State) (cause : Nat) (ref : Option Ref) : (s.stopAll cause ref).side = s.side := by
  unfold State.stopAll
  extract_lets t
  have hstopped : t.side = s.side := by
    unfold t
    generalize List.range 8 = lagoons
    exact foldl_keeps (·.side) (fun a l => a.stopLagoon_side l none) lagoons s
  clear_value t
  exact hstopped

theorem State.enterReturned_side (s : State) : s.enterReturned.side = s.side := by
  have hk := keptByEndings_side
  unfold State.enterReturned State.moveLife
  extract_lets ref t u v
  exact (hk.endDebug ..).trans ((hk.endSessions ..).trans ((hk.answerOpt ..).trans (hk.raise ..)))

theorem State.proceed_side (s : State) : s.proceed.side = s.side := by
  unfold State.proceed
  split
  · dsimp only
    split
    · exact s.closeBatch.enterReturned_side.trans s.closeBatch_side
    · exact s.closeBatch_side
  · rfl

theorem State.takeBmc_hold (s : State) (h : Nat) : (s.takeBmc h).side.bmcHold = some h := by
  have hk := keptByEndings_side
  unfold State.takeBmc
  extract_lets m w src1 src2 t u
  have hu : u.side.bmcHold = some h := congrArg Sideband.bmcHold ((hk.answerOpt ..).trans (hk.answerOpt ..))
  split
  · exact hu
  · rw [State.proceed_side, State.stopAll_side]
    exact hu

theorem State.bmcRequest_of_ready {s : State} (hon : s.power.porst = true) (hoff : s.side.offReady = false) (hready : s.boot.ready = true)
    (h : Nat) : s.bmcRequest h = s.takeBmc h := by
  unfold State.bmcRequest
  rw [if_neg (by simp [hon, hoff]), if_neg (by simp [hready])]

theorem State.bmcRequest_of_not_ready {s : State} (hon : s.power.porst = true) (hoff : s.side.offReady = false)
    (hready : s.boot.ready = false) (h : Nat) : s.bmcRequest h = { s with side := { s.side with pending := some h } } := by
  unfold State.bmcRequest
  rw [if_neg (by simp [hon, hoff]), if_pos hready]

/-! ### Answers -/

theorem State.sideSend_head (s : State) (kind : Nat) (body : List Byte) :
    (s.sideSend kind body).tx.head?.map (·.toOutgoing) = some ⟨7, s.side.eid.getD 0, kind, body⟩ :=
  State.sendVia_head (s.txClosed_of_uncontrolled (x := ⟨7, s.side.eid.getD 0, kind, body⟩) (List.mem_of_head? rfl)) _

/-! ### Firmware and packages (R518) -/

theorem State.writeCopy_second (s : State) (f : Firmware) : if s.straps.bootSrc = 1
    then (s.writeCopy true f).boot.copyA = some f ∧ (s.writeCopy true f).boot.copyB = s.boot.copyB
    else (s.writeCopy true f).boot.copyB = some f ∧ (s.writeCopy true f).boot.copyA = s.boot.copyA := by
  unfold State.writeCopy
  by_cases hsrc : s.straps.bootSrc = 1 <;> simp [hsrc]

theorem State.writeCopy_first (s : State) (f : Firmware) : if s.straps.bootSrc = 1
    then (s.writeCopy false f).boot.copyB = some f else (s.writeCopy false f).boot.copyA = some f := by
  unfold State.writeCopy
  by_cases hsrc : s.straps.bootSrc = 1 <;> simp [hsrc]

theorem State.sideUp_of_updates {s : State} (h : s.updates = true) : s.sideUp = true := by
  simp only [State.updates, Bool.and_eq_true] at h
  exact h.1.1.1

theorem exec_pldmFirmwareUpdate_image {s : State} (hu : s.updates = true) {bs : List Byte} (hne : bs ≠ [])
    (hlen : bs.length ≤ 64 * 2 ^ 20) (ver : Nat) : exec (.pldmFirmwareUpdate false ver bs) s = .next (
      let t := s.writeCopy true (firmwareOf ver bs)
      if (firmwareOf ver bs).passes then ({ t with boot := { t.boot with staged := some (firmwareOf ver bs) } }).sideSend 0x500 [0]
      else ({ t with boot := { t.boot with staged := none } }).sideSend 0x500 [1]) := by
  have htaken : ¬(s.updates = false ∨ 64 * 2 ^ 20 < bs.length ∨ bs = []) := by
    rintro (hno | hlong | hempty)
    · simp [hu] at hno
    · exact Nat.not_lt.mpr hlen hlong
    · exact hne hempty
  have hup : ¬s.sideUp = false := by simp [State.sideUp_of_updates hu]
  exact congrArg Host.Outcome.next ((if_neg hup).trans ((if_neg Bool.false_ne_true).trans (if_neg htaken)))

theorem exec_pldmFirmwareUpdate_package {s : State} (hup : s.sideUp = true) (hstep : s.boot.step4 = true)
    (hoff : s.side.offReady = false) (ver : Nat) (bs : List Byte) : exec (.pldmFirmwareUpdate true ver bs) s = .next (
      if (packFail bs).isSome then (s.raise 0x6105 2 (s.argK 0 0) 0 none none).sideSend 0x500 [1]
      else if packOk bs then (s.holdPackage bs true).sideSend 0x500 [0]
      else s.sideSend 0x500 [1]) := by
  have hopen : ¬(s.boot.step4 = false ∨ s.side.offReady = true) := by simp [hstep, hoff]
  have hup : ¬s.sideUp = false := by simp [hup]
  exact congrArg Host.Outcome.next ((if_neg hup).trans ((if_pos rfl).trans (if_neg hopen)))

theorem exec_pldmFirmwareActivate {s : State} {f : Firmware} (hu : s.updates = true) (hf : s.boot.staged = some f) :
    exec .pldmFirmwareActivate s = .next (({ s.writeCopy false f with
      boot := { (s.writeCopy false f).boot with staged := none } } : State).sideSend 0x501 [0]) := by
  have hup : ¬s.sideUp = false := by simp [State.sideUp_of_updates hu]
  refine congrArg Host.Outcome.next ((if_neg hup).trans ?_)
  rw [hf]
  exact if_pos hu

/-! ### Release (R392) -/

theorem exec_bmcRelease {s : State} (hoff : s.side.offReady = false) : exec .bmcRelease s = .next (
    if s.power.cause = 2 ∨ s.power.cause = 3 then
      { s with side := { s.side with bmcHold := none, pending := none }, power := { s.power with cause := 0 } }
    else { s with side := { s.side with bmcHold := none, pending := none } }) :=
  congrArg Host.Outcome.next (if_neg (by simp [hoff]))

/-- Settles O57: each row of the sideband port, and the requests and releases of the BMC. -/
theorem sidebandRows : Obligations.SidebandRows := by
  unfold Obligations.SidebandRows
  intro s does replies
  refine ⟨fun a hon => ?address, fun a hon hdyn => ?endpoint, fun hup => ⟨fun n => ?base, fun n v hn => ?sensor, ?fru, fun n hn => ?region,
    ?health, fun ver bs hu hne hlen => ?image, fun ver bs hstep hoff => ?package, fun f hf hu => ?activate⟩,
    fun hon hoff => ⟨fun hready => ?held, fun hready => ?waits⟩, fun hoff => congrArg Host.Outcome.next (if_pos hoff), fun hoff => ?release⟩
  case address =>
    exact ⟨_, congrArg Host.Outcome.next (if_pos hon), rfl,
      State.sendVia_head (State.txClosed_of_uncontrolled _ (List.mem_of_head? rfl)) _⟩
  case endpoint => exact ⟨_, congrArg Host.Outcome.next (if_pos (by simp [hon, hdyn])), rfl⟩
  case base => exact ⟨_, congrArg Host.Outcome.next (if_pos hup), rfl⟩
  case sensor => exact ⟨_, congrArg Host.Outcome.next (if_pos (by simp [hup, hn])), rfl⟩
  case fru => exact ⟨_, congrArg Host.Outcome.next (if_pos hup), rfl⟩
  case region => exact ⟨_, congrArg Host.Outcome.next (if_pos (by simp [hup, hn])), rfl⟩
  case health => exact ⟨_, congrArg Host.Outcome.next (if_pos hup), rfl⟩
  case image =>
    intro f
    refine ⟨fun hpass => ⟨_, exec_pldmFirmwareUpdate_image hu hne hlen ver, ?_⟩,
      fun hpass => ⟨_, exec_pldmFirmwareUpdate_image hu hne hlen ver, ?_⟩⟩
    · rw [if_pos hpass]
      exact ⟨rfl, s.writeCopy_second f⟩
    · dsimp only
      rw [show (firmwareOf ver bs).passes = false from hpass]
      exact ⟨rfl, State.sideSend_head _ 0x500 [1]⟩
  case package =>
    refine ⟨fun hnone hok => ⟨_, exec_pldmFirmwareUpdate_package hup hstep hoff ver bs, ?_⟩,
      fun hfail => ⟨_, exec_pldmFirmwareUpdate_package hup hstep hoff ver bs, ?_⟩⟩
    · rw [if_neg (by simp [hnone]), if_pos hok]
      exact ⟨_, List.mem_append_right _ (List.mem_singleton.mpr rfl), rfl, rfl⟩
    · rw [if_pos hfail]
      refine ⟨State.raise_libs .., ?_⟩
      change ((s.raise 0x6105 2 (s.argK 0 0) 0 none none).log.head?).map (·.code) = some 0x6105
      rw [State.raise_log]
      rfl
  case activate => exact ⟨_, exec_pldmFirmwareActivate hu hf, rfl, s.writeCopy_first f⟩
  case held =>
    have hexec (h : Nat) := State.bmcRequest_of_ready hon hoff hready h
    exact ⟨⟨_, congrArg Host.Outcome.next (hexec 3), s.takeBmc_hold 3⟩, ⟨_, congrArg Host.Outcome.next (hexec 4), s.takeBmc_hold 4⟩⟩
  case waits =>
    have hexec (h : Nat) := State.bmcRequest_of_not_ready hon hoff hready h
    exact ⟨⟨_, congrArg Host.Outcome.next (hexec 3), rfl, rfl⟩, ⟨_, congrArg Host.Outcome.next (hexec 4), rfl, rfl⟩⟩
  case release =>
    refine ⟨_, exec_bmcRelease hoff, ?_⟩
    split <;> exact ⟨rfl, rfl, rfl, rfl⟩

end Sys2Proof.Machine
end

section
/-! Summaries and the packing of queues (R131 to R135, R256, R277): what the VEC slot's SUMM, COMPRESS.Q, FLUSH and EXPAND.Q leave. -/

namespace Sys2Proof.Machine

/-! ### A VEC slot of one beat -/

namespace VecRow

variable {s : State} {c : CoreId} {i : Instr} {op : Nat} {w : BitVec 64} {k : Core} {o : VOp} (h : VecRow s c i op w k o)
include h

/-- An instruction that occupies its path for one beat pays 16 load units (R352). -/
theorem exec_ok {d : Core} (hout : k.issueVec c.v (s.envelopeOk c) { o with vop := op } = .ok d) (hfree : d.vec.freeC = k.beat + 1)
    (hpaid : 16 ≤ k.guardLu) : exec i s = .next (s.withCore c { d with guardLu := k.guardLu - 16 }) := by
  have hcharge : slotCharge k d (.vec w) = 16 := by rw [slotCharge, hfree, Nat.add_sub_cancel_left]
  rw [h.exec_eq, hout, Core.charged_paid hcharge hpaid]
  rfl

/-- One that waits changes nothing. -/
theorem exec_wait {x : WaitKind} {n : Nat} (hout : k.issueVec c.v (s.envelopeOk c) { o with vop := op } = .wait x n) :
    exec i s = .next s := by
  rw [h.exec_eq, hout]
  rfl

end VecRow

section issueVec

variable (k : Core) (v : Nat) (env : Nat → Option Nat) (o : VOp)

theorem Core.issueVec_compressQ : k.issueVec v env { o with vop := 0x52 } = k.compressQ env o := rfl
theorem Core.issueVec_expandQ : k.issueVec v env { o with vop := 0x53 } = k.expandQ o := rfl
theorem Core.issueVec_flushOq : k.issueVec v env { o with vop := 0x54 } = k.flushOq env o := rfl
theorem Core.issueVec_summ : k.issueVec v env { o with vop := 0x58 } = k.summ o := rfl

end issueVec

/-! ### SUMM (R134, R135) -/

/-- A summary entry of a kind and tag, with its value and the instruction's label (R134). -/
def VOp.summary (o : VOp) (kind tag value : Nat) : BitVec 64 :=
  BitVec.ofNat 64 (value % 2 ^ 32 + (o.imm % 256) * 2 ^ 48 + tag * 2 ^ 56 + kind * 2 ^ 60)

/-- Whether the formats of MAX and SUM take a format (R134). -/
def VOp.sums (o : VOp) : Bool := o.fmt.isArith && o.fmt != .fp64

/-- Among the formats that a reduction takes, those of integers are those of the integer classes. -/
theorem Fmt.isInt_eq_isVecInt {f : Fmt} (h : f.isArith = true) : f.isInt = f.isVecInt := by
  revert h
  cases f <;> decide

theorem length_active_filter (msk : Bool) (m : BitVec 256) (n : Nat) : ((activeUnits msk m n).filter id).length =
    ((List.range n).filter fun e => !msk || bit m.toNat e).length := by
  rw [activeUnits, List.filter_map, List.length_map]
  rfl

section summary

variable {k : Core} {o : VOp}

theorem summEntry_count (h : o.aux = 0) : summEntry k o =
    some (o.summary 0 0xA ((activeUnits o.msk (k.mreg o.mreg) o.fmt.units).filter id).length, 0) := by
  unfold summEntry
  rw [h]
  rfl

theorem summEntry_any (h : o.aux = 1) : summEntry k o =
    some (o.summary 1 0xA (if ((activeUnits o.msk (k.mreg o.mreg) o.fmt.units).filter id).length = 0 then 0 else 1), 0) := by
  unfold summEntry
  rw [h]
  rfl

/-- The tag of a value that a reduction leaves (R134). -/
theorem summary_tag (h : o.sums = true) : (if o.fmt.isInt then 0xA else 1) = if o.fmt.isVecInt then 0xA else 1 := by
  rw [VOp.sums, Bool.and_eq_true] at h
  rw [Fmt.isInt_eq_isVecInt h.1]

/-- MAX (2) and SUM (3) are the reductions 1 and 0 of R134. -/
theorem summEntry_reduced (hsums : o.sums = true) {kind red : Nat} (h : o.aux = kind ∧ (kind = 2 ∧ red = 1 ∨ kind = 3 ∧ red = 0)) :
    let r := reduceVec red o.fmt (elems o.fmt (k.vreg o.va)) (activeUnits o.msk (k.mreg o.mreg) o.fmt.units)
    summEntry k o = some (o.summary kind (if o.fmt.isVecInt then 0xA else 1) r.1, r.2) := by
  rw [← summary_tag hsums]
  obtain ⟨haux, ⟨rfl, rfl⟩ | ⟨rfl, rfl⟩⟩ := h <;>
  · unfold summEntry
    rw [haux]
    exact if_pos hsums

/-- Kinds without a meaning, and reductions of formats that they do not take, give no entry (R138, DESIGN CHOICE 35). -/
theorem summEntry_refused (h : 4 ≤ o.aux ∨ 2 ≤ o.aux ∧ o.sums = false) : summEntry k o = none := by
  have hsums (hkind : o.aux < 4) : ¬o.sums = true := by simp [(h.resolve_left (Nat.not_le.mpr hkind)).2]
  unfold summEntry
  split
  next h0 => omega
  next h1 => omega
  next h2 => exact if_neg (hsums (by omega))
  next h3 => exact if_neg (hsums (by omega))
  next => rfl

theorem summEntry_isSome (h : o.aux < 2 ∨ o.aux < 4 ∧ o.sums = true) : ∃ e fl, summEntry k o = some (e, fl) := by
  have hkind : o.aux = 0 ∨ o.aux = 1 ∨ o.aux = 2 ∨ o.aux = 3 := by omega
  have hsums (hred : ¬o.aux < 2) : o.sums = true := (h.resolve_left hred).2
  rcases hkind with h0 | h1 | h2 | h3
  · exact ⟨_, _, summEntry_count h0⟩
  · exact ⟨_, _, summEntry_any h1⟩
  · exact ⟨_, _, summEntry_reduced (hsums (by omega)) ⟨h2, .inl ⟨rfl, rfl⟩⟩⟩
  · exact ⟨_, _, summEntry_reduced (hsums (by omega)) ⟨h3, .inr ⟨rfl, rfl⟩⟩⟩

end summary

/-- The core that a SUMM leaves, its entry behind those that wait (R135, R277). -/
def Core.summed (k : Core) (e : BitVec 64) (fl : Flags) : Core := { k.raise k.beat fl with
  vec := { (k.raise k.beat fl).vec with summ := (k.raise k.beat fl).vec.summ ++ [⟨e, k.clock + 8⟩], freeC := k.beat + 1 } }

namespace VecRow

variable {s : State} {c : CoreId} {i : Instr} {w : BitVec 64} {k : Core} {o : VOp} (h : VecRow s c i 0x58 w k o)
include h

/-- A summary entry is behind those that wait, readable eight periods on (R135, R277). -/
theorem exec_summ {e : BitVec 64} {fl : Flags} (he : summEntry k o = some (e, fl)) (hroom : k.vec.summ.length < 16)
    (hpaid : 16 ≤ k.guardLu) : ∃ k' : Core, exec i s = .next (s.withCore c k') ∧ k'.vec.summ = k.vec.summ ++ [⟨e, k.clock + 8⟩] ∧
      k'.vec.freeC = k.beat + 1 ∧ k'.guardLu = k.guardLu - 16 := by
  refine ⟨_, h.exec_ok (d := k.summed e fl) ?_ rfl hpaid,
    congrArg (fun x : Vec => x.summ ++ [⟨e, k.clock + 8⟩]) (k.raise_vec k.beat fl), rfl, rfl⟩
  rw [Core.issueVec_summ, Core.summ, he]
  exact if_neg (Nat.not_le.mpr hroom)

theorem exec_summ_overflow {e : BitVec 64} {fl : Flags} (he : summEntry k o = some (e, fl)) (hfull : 16 ≤ k.vec.summ.length) :
    exec i s = .next (s.coreFault c 0x1202 0 false) := by
  refine h.exec_event ?_
  rw [Core.issueVec_summ, Core.summ, he]
  exact if_pos hfull

theorem exec_summ_refused (he : summEntry k o = none) : exec i s = .next (s.coreFault c 0x1203 0 false) := by
  refine h.exec_event ?_
  rw [Core.issueVec_summ, Core.summ, he]

end VecRow

/-! ### COMPRESS.Q and FLUSH (R133, R256) -/

/-- The packing buffer once COMPRESS.Q has added the active units (R133). -/
def Core.packed (k : Core) (o : VOp) : List Byte := (k.queue (16 + o.aux % 16)).pack ++
  (packUnits (unitsOf o.fmt (k.vreg o.va)) (activeUnits o.msk (k.mreg o.mreg) o.fmt.units)).flatMap (toBytes (o.fmt.unitBits / 8))

/-- The core whose compute path an instruction of one beat occupies. -/
def Core.oneBeat (k : Core) : Core := { k with vec := { k.vec with freeC := k.beat + 1 } }

theorem Core.Canonical.oneBeat {k : Core} (h : k.Canonical) : k.oneBeat.Canonical := { h with vec := { h.vec with } }

/-- The entry in which a packing buffer leaves, of `count` elements (R133, DESIGN CHOICE 36). -/
def Core.packedEntry (k : Core) (o : VOp) (buf : List Byte) (count : Nat) : QEntry :=
  entryOf (BitVec.ofNat 2048 (ofBytes buf)) o.fmt count o.imm k.pushDue

/-- The core that a COMPRESS.Q leaves whose units do not fill the buffer. -/
def Core.packs (k : Core) (o : VOp) : Core :=
  k.oneBeat.setQueue (16 + o.aux % 16) { k.queue (16 + o.aux % 16) with pack := k.packed o }

theorem Core.packs_queue {k : Core} (hwf : Sparse.wf Queue.blank k.queues = true) (o : VOp) :
    (k.packs o).queue (16 + o.aux % 16) = { k.queue (16 + o.aux % 16) with pack := k.packed o } :=
  (k.oneBeat.queue_setQueue hwf ..).trans (if_pos rfl)

theorem Core.compressQ_keeps {k : Core} {o : VOp} (h : (k.packed o).length < 256) (env : Nat → Option Nat) : k.compressQ env o =
    .ok (k.packs o) := if_pos h

theorem Core.compressQ_pushes {k : Core} {o : VOp} (h : 256 ≤ (k.packed o).length) (env : Nat → Option Nat) : k.compressQ env o =
    (k.oneBeat.pushOq env o.aux (k.packedEntry o ((k.packed o).take 256) o.fmt.count)).bind fun d =>
      .ok (d.setQueue (16 + o.aux % 16) { d.queue (16 + o.aux % 16) with pack := (k.packed o).drop 256 }) :=
  if_neg (Nat.not_lt.mpr h)

theorem Core.flushOq_empty {k : Core} {o : VOp} (h : (k.queue (16 + o.aux % 16)).pack = []) (env : Nat → Option Nat) :
    k.flushOq env o = .ok k.oneBeat := if_pos (by rw [h]; rfl)

theorem Core.flushOq_pushes {k : Core} {o : VOp} (h : (k.queue (16 + o.aux % 16)).pack ≠ []) (env : Nat → Option Nat) :
    k.flushOq env o = (k.oneBeat.pushOq env o.aux (k.packedEntry o (k.queue (16 + o.aux % 16)).pack
      (8 * (k.queue (16 + o.aux % 16)).pack.length / o.fmt.width))).bind fun d =>
        .ok (d.setQueue (16 + o.aux % 16) { d.queue (16 + o.aux % 16) with pack := [] }) :=
  if_neg (by rwa [List.isEmpty_iff])

/-- Row `i` pushes entry `e` into its outbound queue and then leaves `rest` in the packing buffer. -/
structure PackRow (s : State) (c : CoreId) (i : Instr) (op : Nat) (w : BitVec 64) (k : Core) (o : VOp) (e : QEntry) (rest : List Byte) :
    Prop extends VecRow s c i op w k o where
  env    : e.env = o.imm
  pushes : k.issueVec c.v (s.envelopeOk c) { o with vop := op } = (k.oneBeat.pushOq (s.envelopeOk c) o.aux e).bind fun d =>
    .ok (d.setQueue (16 + o.aux % 16) { d.queue (16 + o.aux % 16) with pack := rest })

namespace PackRow

variable {s : State} {c : CoreId} {i : Instr} {op : Nat} {w : BitVec 64} {k : Core} {o : VOp} {e : QEntry} {rest : List Byte}
  (h : PackRow s c i op w k o e rest)
include h

theorem exec_invalid (hv : ¬k.takes (s.envelopeOk c) (16 + o.aux % 16) o.imm) :
    exec i s = .next (s.coreFault c 0x3101 (16 + o.aux % 16) false) := by
  refine h.exec_event ?_
  rw [h.pushes, Core.pushOq_invalid (k := k.oneBeat) (h.env ▸ hv)]
  rfl

variable (hv : k.takes (s.envelopeOk c) (16 + o.aux % 16) o.imm)
include hv

theorem exec_full (hroom : (k.queue (16 + o.aux % 16)).room = 0) : exec i s = .next s := by
  refine h.exec_wait (x := .queueFull) (n := 16 + o.aux % 16) ?_
  rw [h.pushes, Core.pushOq_full (k := k.oneBeat) (h.env ▸ hv) hroom]
  rfl

theorem exec_pushes (hk : k.Canonical) (hroom : (k.queue (16 + o.aux % 16)).room ≠ 0) (hpaid : 16 ≤ k.guardLu) :
    ∃ (k' : Core) (e' : QEntry), exec i s = .next (s.withCore c k') ∧ (k'.queue (16 + o.aux % 16)).pack = rest ∧
      (k'.queue (16 + o.aux % 16)).entries = (k.queue (16 + o.aux % 16)).entries ++ [e'] ∧ { e' with op := 0 } = { e with op := 0 } := by
  obtain ⟨d, e', hpush, he, hvec, hqueue⟩ := Core.pushOq_room (k := k.oneBeat) (e := e) (h.env ▸ hv) hk.queues hroom
  have hd : d.Canonical := Res.gives_ok.mp (hpush ▸ hk.oneBeat.pushOq)
  have hset := d.queue_setQueue hd.queues (16 + o.aux % 16) (16 + o.aux % 16) { d.queue (16 + o.aux % 16) with pack := rest }
  rw [if_pos rfl] at hset
  refine ⟨_, e', h.exec_ok (d := d.setQueue (16 + o.aux % 16) { d.queue (16 + o.aux % 16) with pack := rest }) ?_ ?_ hpaid,
    congrArg Queue.pack hset, (congrArg Queue.entries hset).trans (congrArg Queue.entries hqueue), he⟩
  · rw [h.pushes, hpush]
    rfl
  · exact congrArg Vec.freeC hvec

end PackRow

/-! ### EXPAND.Q (R133) -/

theorem Core.takeUnits_succ (k : Core) (f : Fmt) (n fuel m : Nat) (acc : List Nat) : k.takeUnits f n (fuel + 1) (m + 1) acc =
    (k.headData n .queueEmpty).bind fun e =>
      if m + 1 < ((entryUnits f e).drop (k.queue n).taken).length then
        .ok (k.setQueue n { k.queue n with taken := (k.queue n).taken + (m + 1) }, acc ++ ((entryUnits f e).drop (k.queue n).taken).take (m + 1))
      else (k.popEntry n).takeUnits f n fuel (m + 1 - ((entryUnits f e).drop (k.queue n).taken).length)
        (acc ++ (entryUnits f e).drop (k.queue n).taken) := rfl

/-- Taking units leaves the vector engine and the beat. -/
theorem Core.takeUnits_vec {f : Fmt} {n fuel m : Nat} {k d : Core} {acc us : List Nat} (h : k.takeUnits f n fuel m acc = .ok (d, us)) :
    d.vec = k.vec ∧ d.beat = k.beat := by
  induction fuel generalizing k m acc with
  | zero =>
    cases h
    exact ⟨rfl, rfl⟩
  | succ fuel ih =>
    cases m with
    | zero =>
      cases h
      exact ⟨rfl, rfl⟩
    | succ m =>
      rw [Core.takeUnits_succ] at h
      cases hentries : (k.queue n).entries with
      | nil =>
        rw [Core.headData_empty hentries] at h
        cases h
      | cons e rest =>
        obtain ⟨hvec, hbeat⟩ := Core.popEntry_vec hentries
        cases hhead : k.headData n .queueEmpty with
        | ok x =>
          rw [hhead, Res.bind] at h
          split at h
          · cases h
            exact ⟨rfl, rfl⟩
          · obtain ⟨hv, hb⟩ := ih h
            exact ⟨hv.trans hvec, hb.trans hbeat⟩
        | wait x m =>
          rw [hhead] at h
          cases h
        | event x m =>
          rw [hhead] at h
          cases h

/-- Units of the head entry that leave some behind them stay counted in its queue. -/
theorem Core.takeUnits_head {k : Core} {f : Fmt} {n m fuel : Nat} {e : QEntry} {rest : List QEntry}
    (he : (k.queue n).entries = e :: rest) (hmark : e.mark = none) (hc : k.cancelHolds n = false) (hpos : 0 < m)
    (hmore : (k.queue n).taken + m < (entryUnits f e).length) : k.takeUnits f n (fuel + 1) m [] =
      .ok (k.setQueue n { k.queue n with taken := (k.queue n).taken + m }, ((entryUnits f e).drop (k.queue n).taken).take m) := by
  obtain ⟨m, rfl⟩ := Nat.exists_eq_add_of_lt hpos
  rw [Nat.zero_add] at *
  rw [Core.takeUnits_succ, Core.headData_unmarked he _ hc hmark, Res.bind, if_pos (by rw [List.length_drop]; omega)]
  rfl

section expand

variable {s : State} {c : CoreId} {i : Instr} {w : BitVec 64} {k : Core} {o : VOp} (h : VecRow s c i 0x53 w k o)
include h

theorem VecRow.exec_expandQ_empty (hempty : (k.queue (o.aux % 16)).entries = [])
    (hsome : (activeUnits o.msk (k.mreg o.mreg) o.fmt.units).countP id ≠ 0) : exec i s = .next s := by
  refine h.exec_wait (x := .queueEmpty) (n := o.aux % 16) ?_
  rw [List.countP_eq_length_filter] at hsome
  obtain ⟨m, hm⟩ := Nat.exists_eq_succ_of_ne_zero hsome
  rw [Core.issueVec_expandQ, Core.expandQ]
  rw [hempty, hm, List.length_nil, Core.takeUnits_succ, Core.headData_empty hempty]
  rfl

/-- The units taken are spread over the active places of VD, ready three beats on (R133, R149). -/
theorem VecRow.exec_expandQ {d : Core} {us : List Nat} (htake : k.takeUnits o.fmt (o.aux % 16) ((k.queue (o.aux % 16)).entries.length + 1)
      ((activeUnits o.msk (k.mreg o.mreg) o.fmt.units).countP id) [] = .ok (d, us))
    (hlen : us.length = (activeUnits o.msk (k.mreg o.mreg) o.fmt.units).countP id) (hpaid : 16 ≤ k.guardLu) :
    ∃ k' : Core, exec i s = .next (s.withCore c k') ∧ k'.queue (o.aux % 16) = d.queue (o.aux % 16) ∧ k'.vec.pend = k.vec.pend ++
      [⟨k.beat + 3, .reg o.vd, BitVec.ofNat 2048 (joinBits o.fmt.unitBits (spreadUnits us (activeUnits o.msk (k.mreg o.mreg) o.fmt.units))),
        BitVec.allOnes 256⟩] := by
  obtain ⟨hvec, hbeat⟩ := Core.takeUnits_vec htake
  rw [List.countP_eq_length_filter] at htake hlen
  refine ⟨_, h.exec_ok (d := d.applyOut ⟨[(3, .reg o.vd, BitVec.ofNat 2048 (joinBits o.fmt.unitBits (spreadUnits us
    (activeUnits o.msk (k.mreg o.mreg) o.fmt.units))), BitVec.allOnes 256)], 1, 0, 0⟩) ?_ ?_ hpaid, rfl, ?_⟩
  · rw [Core.issueVec_expandQ, Core.expandQ]
    rw [htake, Res.bind]
    exact if_neg (by rw [hlen]; exact lt_irrefl _)
  · exact congrArg (· + 1) hbeat
  · rw [← hvec, ← hbeat]
    rfl

end expand

/-- Settles O20: SUMM by its kinds, COMPRESS.Q and FLUSH by what their push meets, EXPAND.Q by what it takes (DESIGN CHOICE 35 and 36,
DEDUCED 57). -/
theorem summariesAndPacking : Obligations.SummariesAndPacking := by
  unfold Obligations.SummariesAndPacking
  refine ⟨fun c w s h => ?summ, fun c w s hc h => ?pack⟩
  case summ =>
    intro k o hpaid n act sums tag entry pushes
    have hrow : VecRow s c (.vSumm c w) 0x58 w k o := ⟨rfl, h, rfl, rfl⟩
    have hn : (act.filter id).length = n := length_active_filter ..
    refine ⟨fun hroom => ⟨fun h0 => ?_, fun h1 => ?_, fun h2 hsums => ?_, fun h3 hsums => ?_⟩, fun hfull hkind => ?_, fun hbad => ?_⟩
    · exact hn ▸ hrow.exec_summ (summEntry_count h0) hroom hpaid
    · exact hn ▸ hrow.exec_summ (summEntry_any h1) hroom hpaid
    · exact hrow.exec_summ (summEntry_reduced hsums ⟨h2, .inl ⟨rfl, rfl⟩⟩) hroom hpaid
    · exact hrow.exec_summ (summEntry_reduced hsums ⟨h3, .inr ⟨rfl, rfl⟩⟩) hroom hpaid
    · obtain ⟨e, fl, he⟩ := summEntry_isSome (k := k) hkind
      exact hrow.exec_summ_overflow he hfull
    · exact hrow.exec_summ_refused (summEntry_refused hbad)
  case pack =>
    intro k o hpaid oq iq act n buf valid spread
    have hk : k.Canonical := (State.canonical_eq_true.mp hc).core.landDue
    have hwf := hk.queues
    have hcompress : VecRow s c (.vCompressQ c w) 0x52 w k o := ⟨rfl, h, rfl, rfl⟩
    have hflush : VecRow s c (.vFlushOq c w) 0x54 w k o := ⟨rfl, h, rfl, rfl⟩
    have hexpand : VecRow s c (.vExpandQ c w) 0x53 w k o := ⟨rfl, h, rfl, rfl⟩
    have hfills (hlen : 256 ≤ buf.length) : PackRow s c (.vCompressQ c w) 0x52 w k o
      (k.packedEntry o ((k.packed o).take 256) o.fmt.count) (buf.drop 256) := ⟨hcompress, rfl, Core.compressQ_pushes hlen _⟩
    have hpartly (hne : (k.queue oq).pack ≠ []) : PackRow s c (.vFlushOq c w) 0x54 w k o (k.packedEntry o (k.queue oq).pack
      (8 * (k.queue oq).pack.length / o.fmt.width)) [] := ⟨hflush, rfl, Core.flushOq_pushes hne _⟩
    refine ⟨fun hlen => ?keeps, fun hlen hv hroom => ?fills, fun hlen hv hroom => (hfills hlen).exec_full hv hroom,
      fun hlen hv => (hfills hlen).exec_invalid hv, fun hempty => ?nothing, fun hne hv hroom => ?flushes,
      fun hne hv hroom => (hpartly hne).exec_full hv hroom, fun hne hv => (hpartly hne).exec_invalid hv,
      fun hempty hn => hexpand.exec_expandQ_empty hempty hn, fun k1 us htake hlen => hexpand.exec_expandQ htake hlen hpaid,
      fun e rest he hmark hcancel hmore hpos => ?takes⟩
    case keeps =>
      have hqueue := Core.packs_queue hwf o
      exact ⟨_, hcompress.exec_ok (d := k.packs o) (Core.compressQ_keeps hlen _) rfl hpaid, congrArg Queue.pack hqueue,
        (congrArg Queue.entries hqueue).trans rfl, rfl⟩
    case fills =>
      obtain ⟨k', e, hexec, hpack, hentries, he⟩ := (hfills hlen).exec_pushes hv hk hroom hpaid
      have htag : e.tag = BitVec.ofNat 4 o.fmt.tag := congrArg QEntry.tag he
      refine ⟨k', e, hexec, hpack, hentries, congrArg QEntry.count he, ?_, congrArg QEntry.mark he⟩
      rw [htag]
      cases o.fmt <;> rfl
    case nothing => exact ⟨_, hflush.exec_ok (d := k.oneBeat) (Core.flushOq_empty hempty _) rfl hpaid, rfl, rfl⟩
    case flushes =>
      obtain ⟨k', e, hexec, hpack, hentries, he⟩ := (hpartly hne).exec_pushes hv hk hroom hpaid
      exact ⟨k', e, hexec, hpack, hentries, congrArg QEntry.count he⟩
    case takes =>
      have htake := Core.takeUnits_head (fuel := (k.queue iq).entries.length) he hmark hcancel hpos hmore
      have hlen : (((entryUnits o.fmt e).drop (k.queue iq).taken).take n).length = n := by
        rw [List.length_take, List.length_drop]
        omega
      obtain ⟨k', hexec, hqueue, hpend⟩ := hexpand.exec_expandQ htake hlen hpaid
      have hset := k.queue_setQueue hwf iq iq { k.queue iq with taken := (k.queue iq).taken + n }
      rw [if_pos rfl] at hset
      exact ⟨k', hexec, (congrArg Queue.entries (hqueue.trans hset)).trans rfl, congrArg Queue.taken (hqueue.trans hset), hpend⟩

end Sys2Proof.Machine
end

section
/-! Mailbox commands that run at once (R394 to R411): a row that serves a frame's command gives its effect. -/

namespace Sys2Proof.Machine

/-! ### Items that do not exist (Table 10 of spec/13) -/

theorem itemNeed_net {item : Nat} (h : 0x11 < item) : itemNeed 0x0403 item = 0 := by
  unfold itemNeed
  split_ifs <;> omega

theorem itemNeed_qos {item : Nat} (h : 2 < item) : itemNeed 0x0404 item = 0 := by
  unfold itemNeed
  split_ifs <;> omega

theorem itemNeed_macsec {item : Nat} (h : 1 < item) : itemNeed 0x0405 item = 0 := by
  unfold itemNeed
  split_ifs <;> omega

/-! ### From a frame to its command's effect -/

section

variable {s : State} {f : Frame} {x : Session} (h : s.CommandRuns f x)
include h

/-- The frame passes the checks of R396, so that its row goes on with what it does with the frame. -/
theorem State.CommandRuns.checkFrame (k : State → State) : s.checkFrame f 0x10 k = k (s.tookFrame f.wire) := by
  obtain ⟨hwire, hup, hentry, hport, hlen, hcrc, hhead, hkind⟩ := h.heard
  have hreaches : ¬((s.tookFrame f.wire).portUp = false ∨ ((s.tookFrame f.wire).entryOwner f.entry).isNone ∨
      f.dport ≠ (s.tookFrame f.wire).port.cfg.hmpport) := by
    rintro (hdown | hnone | hother)
    · exact Bool.false_ne_true (hdown.symm.trans hup)
    · exact Option.isSome_iff_ne_none.mp hentry (Option.isNone_iff_eq_none.mp hnone)
    · exact hother hport
  refine (State.frameIn_of_hears hwire _).trans ?_
  rw [if_neg hreaches, if_neg (by simp [hlen]), if_neg (by simp [hcrc]), if_neg (by simp [hhead]), if_neg (not_not.mpr hkind)]

/-- Its session has nothing outstanding, so that the command is taken with the next number (R406). -/
theorem State.CommandRuns.accept (t : State) : t.accept { x with lastCmd := s.tide.count } (cmdOf f x) =
    t.take { x with lastCmd := s.tide.count } (cmdOf f x) := by
  have hnew : x.high < (cmdOf f x).seq := h.number
  unfold State.accept
  dsimp only
  rw [h.idle, if_neg (by omega), if_pos hnew]
  rfl

/-- The command is accepted and starts (R409 to R411). -/
theorem State.CommandRuns.take : ((s.tookFrame f.wire).setSession { x with lastCmd := s.tide.count }).take
    { x with lastCmd := s.tide.count } (cmdOf f x) = (s.running f x).effect (s.request f x) := by
  have hhigh : max x.high (cmdOf f x).seq = frameSeq f := max_eq_right (Nat.le_of_lt h.number)
  have hfirst : Session.firstOrdered { x with lastCmd := s.tide.count } = none := by
    rw [Session.firstOrdered, h.idle]
    rfl
  have haccepting : ({ x with lastCmd := s.tide.count, cmds := x.cmds ++ [cmdOf f x], high := max x.high (cmdOf f x).seq
                              cache := x.cache.filter fun k => max x.high (cmdOf f x).seq < k.seq + 4096 } : Session) =
      x.accepting f s.tide.count := by
    rw [hhigh, h.idle]
    rfl
  have hstarts : (s.accepted f x).startCmd (s.request f x) = (s.running f x).effect (s.request f x) := by
    unfold State.startCmd
    rw [h.checked]
    dsimp only
    rw [if_pos h.fenced, if_neg (by simp [h.tested])]
    rfl
  unfold State.take
  dsimp only
  rw [hfirst, haccepting, Option.isSome_none, Bool.and_false, if_neg Bool.false_ne_true]
  exact hstarts

theorem State.CommandRuns.cmdRow {mine : Req → Bool} (hmine : mine (s.request f x) = true) :
    s.cmdRow f mine = (s.running f x).effect (s.request f x) := by
  obtain ⟨b, hb⟩ := Option.isSome_iff_exists.mp h.tag
  have hplain : f.plain x.hd = b := by rw [Frame.plain, hb, Option.getD_some]
  have hcmd : (⟨frameSeq f, b, 0, 0, f.dport⟩ : Cmd) = cmdOf f x := by rw [cmdOf, hplain]
  have hbody : ¬(cmdOf f x).body.length < 32 := Nat.not_lt.mpr h.body
  have hfound : (s.tookFrame f.wire).sessions.find?
      (fun y => y.id == frameSession f && y.peer == f.src && y.port == f.sport && y.entry == f.entry) = some x := h.found
  unfold State.cmdRow
  rw [h.checkFrame, hfound]
  dsimp only
  rw [hb]
  dsimp only
  rw [hcmd, State.takeBody, if_neg hbody]
  exact (if_pos hmine).trans ((h.accept _).trans h.take)

/-- A command row gives the effect of the command that it serves. -/
theorem State.CommandRuns.exec_effect {i : Instr} (hrow : exec i s = .next (s.cmdRow f i.serves))
    (hserves : i.serves (s.request f x) = true) : exec i s = .next ((s.running f x).effect (s.request f x)) :=
  hrow.trans (congrArg Host.Outcome.next (h.cmdRow hserves))

/-! ### What the checks have established -/

theorem State.CommandRuns.opInfo_ne_none : opInfo (s.request f x).op ≠ none := by
  intro hnone
  have hchecked := h.checked
  rw [State.precheck, hnone] at hchecked
  cases hchecked

/-- The fields of a command that starts lie within its own limits (R410). -/
theorem State.CommandRuns.badField : (s.request f x).badField = none := by
  have hchecked := h.checked
  unfold State.precheck at hchecked
  split at hchecked
  · cases hchecked
  · iterate 6
      split at hchecked
      · cases hchecked
    exact Option.map_eq_none_iff.mp hchecked

/-- An item of NET, QOS or MACSEC that a command names exists (Table 10 of spec/13). -/
theorem State.CommandRuns.itemNeed_ne_zero {op : Nat} (hop : (s.request f x).op = op) (hitems : op = 0x0403 ∨ op = 0x0404 ∨ op = 0x0405) :
    itemNeed op (s.request f x).item ≠ 0 := by
  intro hzero
  have hfield := h.badField
  unfold Req.badField at hfield
  dsimp only at hfield
  rw [hop] at hfield
  rcases hitems with rfl | rfl | rfl <;>
  · rw [Req.item] at hzero
    rw [if_pos hzero] at hfield
    cases hfield

theorem State.CommandRuns.netItem_le (hop : (s.request f x).op = 0x0403) : (s.request f x).item ≤ 0x11 :=
  not_lt.mp fun hgt => h.itemNeed_ne_zero hop (by decide) (itemNeed_net hgt)

theorem State.CommandRuns.qosItem_le (hop : (s.request f x).op = 0x0404) : (s.request f x).item ≤ 2 :=
  not_lt.mp fun hgt => h.itemNeed_ne_zero hop (by decide) (itemNeed_qos hgt)

theorem State.CommandRuns.macsecItem_le (hop : (s.request f x).op = 0x0405) : (s.request f x).item ≤ 1 :=
  not_lt.mp fun hgt => h.itemNeed_ne_zero hop (by decide) (itemNeed_macsec hgt)

end

end Sys2Proof.Machine
end

section
/-! The commands of a session and of the device's settings (R285, R303, R304, R334, R366, R368 to R370, R388, R403, R416, R420, R424): the
setting that each names, and what it leaves alone. -/

namespace Sys2Proof.Machine

/-! ### What the answer of a command leaves alone -/

theorem keptByEndings_mem : KeptByEndings (·.mem) := fun _ _ _ _ _ _ _ _ => rfl
theorem keptByEndings_lagoons : KeptByEndings (·.lagoons) := fun _ _ _ _ _ _ _ _ => rfl
theorem keptByEndings_port : KeptByEndings (·.port) := fun _ _ _ _ _ _ _ _ => rfl
theorem keptByEndings_keeper : KeptByEndings (·.keeper) := fun _ _ _ _ _ _ _ _ => rfl
theorem keptByEndings_builder : KeptByEndings (·.builder) := fun _ _ _ _ _ _ _ _ => rfl
theorem keptByEndings_tide : KeptByEndings (·.tide) := fun _ _ _ _ _ _ _ _ => rfl

/-- Memory and lagoons are those of another state. -/
def State.SameWork (t s : State) : Prop := t.mem = s.mem ∧ t.lagoons = s.lagoons

theorem State.SameWork.trans {a b c : State} (h : a.SameWork b) (h' : b.SameWork c) : a.SameWork c := ⟨h.1.trans h'.1, h.2.trans h'.2⟩

theorem State.answer_sameWork (s : State) (r : Ref) (st d e : Nat) (res : List Byte) : (s.answer r st d e res).SameWork s :=
  ⟨keptByEndings_mem.answer .., keptByEndings_lagoons.answer ..⟩

theorem State.endSession_sameWork (s : State) (id : Nat) : (s.endSession id).SameWork s :=
  ⟨keptByEndings_mem.endSession .., keptByEndings_lagoons.endSession ..⟩

theorem State.raise_sameWork (s : State) (code kind arg ploc : Nat) (lag vc : Option Nat) : (s.raise code kind arg ploc lag vc).SameWork s :=
  ⟨State.raise_mem .., State.raise_lagoons ..⟩

/-! ### The port's settings (R366, R368 to R370, R388, R420) -/

/-- The port has settings that the keeper keeps. -/
def State.NetIs (s : State) (c : NetCfg) : Prop := s.port.cfg = c ∧ s.keeper.net = c

theorem State.NetIs.answer {s : State} {c : NetCfg} (h : s.NetIs c) (r : Ref) (st d e : Nat) (res : List Byte) :
    (s.answer r st d e res).NetIs c :=
  ⟨(congrArg Port.cfg (keptByEndings_port.answer ..)).trans h.1, (congrArg Keeper.net (keptByEndings_keeper.answer ..)).trans h.2⟩

theorem State.NetIs.endSessions {s : State} {c : NetCfg} (h : s.NetIs c) (p : Session → Bool) : (s.endSessions p).NetIs c :=
  ⟨(congrArg Port.cfg (keptByEndings_port.endSessions ..)).trans h.1, (congrArg Keeper.net (keptByEndings_keeper.endSessions ..)).trans h.2⟩

theorem State.setNet_netIs (s : State) (c : NetCfg) : (s.setNet c).NetIs c := ⟨rfl, rfl⟩

theorem State.setNet_sameWork (s : State) (c : NetCfg) : (s.setNet c).SameWork s := ⟨rfl, rfl⟩

/-- A command that writes the port's settings and is answered. -/
theorem State.setNet_ok (s : State) (c : NetCfg) (r : Req) : ((s.setNet c).ok r []).SameWork s ∧ ((s.setNet c).ok r []).NetIs c :=
  ⟨(State.answer_sameWork ..).trans (s.setNet_sameWork c), (s.setNet_netIs c).answer ..⟩

/-- One that also ends the sessions whose address it has changed. -/
theorem State.setNet_okThenEnd (s : State) (c : NetCfg) (r : Req) (p : Session → Bool) :
    ((s.setNet c).okThenEnd r p).SameWork s ∧ ((s.setNet c).okThenEnd r p).NetIs c := by
  obtain ⟨hwork, hnet⟩ := s.setNet_ok c r
  exact ⟨.trans ⟨keptByEndings_mem.endSessions .., keptByEndings_lagoons.endSessions ..⟩ hwork, hnet.endSessions p⟩

theorem State.cmdMacsecEnable_spec (s : State) (r : Req) : (s.cmdMacsecEnable r).SameWork s ∧
    (s.cmdMacsecEnable r).NetIs { s.port.cfg with macsec := bit (r.arg 8 1) 0, replay := r.arg 16 24 } :=
  ⟨s.answer_sameWork .., rfl, rfl⟩

/-! ### Sessions (R403, R424) -/

theorem State.setSession_ids (s : State) (x : Session) : (s.setSession x).sessions.map (·.id) = s.sessions.map (·.id) := by
  refine (List.map_map ..).trans (List.map_congr_left fun y _ => ?_)
  dsimp only [Function.comp_apply]
  split
  next hid => exact hid.symm
  · rfl

theorem notify_ids (e : EventRec) (s : State) (x : Session) : (notify e s x).sessions.map (·.id) = s.sessions.map (·.id) := by
  unfold notify
  extract_lets sees
  split
  · exact s.setSession_ids _
  · rfl

/-- An event opens and ends no session. -/
theorem State.raise_ids (s : State) (code kind arg ploc : Nat) (lag vc : Option Nat) :
    (s.raise code kind arg ploc lag vc).sessions.map (·.id) = s.sessions.map (·.id) := by
  unfold State.raise
  dsimp only
  refine (foldl_keeps (fun s => s.sessions.map (·.id)) (fun s x => notify_ids _ s x) _ _).trans ?_
  split <;> rfl

theorem State.endDebug_ids (s : State) (p : Debug → Bool) : (s.endDebug p).sessions.map (·.id) = s.sessions.map (·.id) := by
  unfold State.endDebug
  dsimp only
  refine (foldl_keeps (fun s => s.sessions.map (·.id)) (fun s _ => s.raise_ids ..) _ _).trans ?_
  exact foldl_keeps (f := State.resumeHalted) (fun s => s.sessions.map (·.id)) (fun _ _ => rfl) _ _

/-- A session that has ended is none of those open. -/
theorem State.endSession_ids (s : State) (id : Nat) : id ∉ (s.endSession id).sessions.map (·.id) := by
  unfold State.endSession
  split
  next hnone =>
    intro hmem
    obtain ⟨y, hy, hid⟩ := List.mem_map.mp hmem
    exact List.find?_eq_none.mp hnone y hy (by simp [hid])
  next =>
    dsimp only
    rw [State.raise_ids, State.endDebug_ids]
    intro hmem
    obtain ⟨y, hy, hid⟩ := List.mem_map.mp hmem
    simp [hid] at hy

/-- The sessions of a number are open, with event groups `groups`. -/
def State.GroupsAre (s : State) (id groups : Nat) : Prop := id ∈ s.sessions.map (·.id) ∧ ∀ y ∈ s.sessions, y.id = id → y.groups = groups

theorem State.mem_setSession {s : State} {x y : Session} (h : y ∈ (s.setSession x).sessions) : y = x ∨ y ∈ s.sessions ∧ y.id ≠ x.id := by
  obtain ⟨z, hz, rfl⟩ := List.mem_map.mp h
  split
  · exact .inl rfl
  next hne => exact .inr ⟨hz, hne⟩

theorem State.setSession_groupsAre {s : State} {id : Nat} (hid : id ∈ s.sessions.map (·.id)) {x : Session} (hx : x.id = id) :
    (s.setSession x).GroupsAre id x.groups := by
  refine ⟨s.setSession_ids x ▸ hid, fun y hy hyid => ?_⟩
  rcases State.mem_setSession hy with rfl | ⟨-, hne⟩
  · rfl
  · exact absurd (hyid.trans hx.symm) hne

/-- An answer leaves the groups of every session. -/
theorem State.GroupsAre.answer {s : State} {id groups : Nat} (h : s.GroupsAre id groups) (r : Ref) (st d e : Nat) (res : List Byte) :
    (s.answer r st d e res).GroupsAre id groups := by
  unfold State.answer State.giveReply
  split
  · exact h
  next x hx =>
    split
    · exact h
    · refine ⟨(State.setSession_ids ..).symm ▸ h.1, fun y hy hyid => ?_⟩
      rcases State.mem_setSession hy with rfl | ⟨hold, -⟩
      · exact h.2 x (List.mem_of_find?_eq_some hx) hyid
      · exact h.2 y hold hyid

theorem State.GroupsAre.exists {s : State} {id groups : Nat} (h : s.GroupsAre id groups) : ∃ y ∈ s.sessions, y.id = id ∧ y.groups = groups := by
  obtain ⟨y, hy, hid⟩ := List.mem_map.mp h.1
  exact ⟨y, hy, hid, h.2 y hy hid⟩

/-- EVENTS sets the groups of its session (R424). -/
theorem State.cmdEvents_spec {s : State} {r : Req} (hopen : r.sid ∈ s.sessions.map (·.id)) :
    (s.cmdEvents r).SameWork s ∧ (s.cmdEvents r).GroupsAre r.sid (r.arg 0 16) := by
  obtain ⟨y, hy, hid⟩ := List.mem_map.mp hopen
  obtain ⟨x, hx⟩ := Option.isSome_iff_exists.mp (List.find?_isSome (p := fun y : Session => y.id == r.sid).mpr ⟨y, hy, by simp [hid]⟩)
  have hxid : x.id = r.sid := by simpa using List.find?_some hx
  unfold State.cmdEvents State.session?
  rw [hx]
  refine ⟨(State.answer_sameWork ..).trans ⟨rfl, rfl⟩, State.GroupsAre.answer ?_ ..⟩
  exact State.setSession_groupsAre (x := { x with groups := r.arg 0 16 }) hopen hxid

/-! ### The tide (R303 to R305) -/

theorem State.tideEvent_sameWork (s : State) (before code : Nat) : (s.tideEvent before code).SameWork s := State.raise_sameWork ..

theorem State.tideState_sameWork (s : State) (st : Nat) : (s.tideState st).SameWork s := by
  unfold State.tideState
  split
  · exact ⟨rfl, rfl⟩
  · exact (State.tideEvent_sameWork ..).trans ⟨rfl, rfl⟩

theorem State.stepTide_sameWork (s : State) (d : Nat) : (s.stepTide d).SameWork s := by
  have hcharged : (s.chargeAll d).SameWork s :=
    ⟨State.chargeAll_keeps (g := (·.mem)) (fun _ _ _ => rfl) s d, State.chargeAll_keeps (g := (·.lagoons)) (fun _ _ _ => rfl) s d⟩
  exact (State.tideEvent_sameWork ..).trans hcharged

theorem State.tideFree_congr {s t : State} (h : t.lagoons = s.lagoons) : t.tideFree = s.tideFree := by
  unfold State.tideFree State.lagoon
  rw [h]

/-- Discipline, domain and input are set, the count being left as it is. -/
theorem State.setDiscipline_spec (s : State) (disc pps : Bool) (domain : Nat) : (s.setDiscipline disc pps domain).SameWork s ∧
    (s.setDiscipline disc pps domain).tide.count = s.tide.count ∧ (s.setDiscipline disc pps domain).tide.disc = disc ∧
    (s.setDiscipline disc pps domain).tide.domain = domain ∧ (s.setDiscipline disc pps domain).tide.ppsOn = pps := by
  unfold State.setDiscipline
  extract_lets t s1
  cases disc with
  | true => exact ⟨⟨rfl, rfl⟩, rfl, rfl, rfl, rfl⟩
  | false =>
    rw [if_neg Bool.false_ne_true, State.tideState_tide]
    exact ⟨(State.tideState_sameWork ..).trans ⟨rfl, rfl⟩, rfl, rfl, rfl, rfl⟩

/-- The state that TIDE leaves before it steps the tide. -/
def State.disciplined (s : State) (r : Req) : State :=
  let t := s.setDiscipline (bit (r.arg 0 1) 0) (bit (r.arg 8 1) 0) (r.arg 1 7)
  { t with tide := { t.tide with set := t.tide.set || bit (r.arg 9 1) 0 } }

theorem State.cmdTide_keeps {s : State} {r : Req} (h : bit (r.arg 9 1) 0 = false) : s.cmdTide r = (s.disciplined r).ok r [] := by
  unfold State.cmdTide
  dsimp only
  simp only [h, Bool.false_eq_true, false_and, if_false]
  unfold State.disciplined
  rw [h]

theorem State.cmdTide_sets {s : State} {r : Req} (h : bit (r.arg 9 1) 0 = true) (hlen : 16 ≤ r.alen) (hfreed : s.tide.state = 0)
    (hfree : s.tideFree = true) (hlater : s.tide.count ≤ r.arg 64 64) : s.cmdTide r =
      (if s.tide.count < r.arg 64 64 then (s.disciplined r).stepTide (r.arg 64 64 - s.tide.count) else s.disciplined r).ok r [] := by
  unfold State.cmdTide
  dsimp only
  rw [if_neg fun hx => Nat.not_lt.mpr hlen hx.2, if_neg (by simp [hfreed, hfree]), if_neg fun hx => Nat.not_lt.mpr hlater hx.2]
  simp only [h, true_and]
  unfold State.disciplined
  rw [h]

/-- TIDE sets the time forwards (R303). -/
theorem State.cmdTide_sets_spec {s : State} {r : Req} (h : bit (r.arg 9 1) 0 = true) (hlen : 16 ≤ r.alen) (hfreed : s.tide.state = 0)
    (hfree : s.tideFree = true) (hlater : s.tide.count ≤ r.arg 64 64) : (s.cmdTide r).SameWork s ∧
      (s.cmdTide r).tide.count = r.arg 64 64 ∧ (s.cmdTide r).tide.set = true := by
  obtain ⟨hwork, hcount, -⟩ := s.setDiscipline_spec (bit (r.arg 0 1) 0) (bit (r.arg 8 1) 0) (r.arg 1 7)
  have hset : (s.disciplined r).tide.set = true := by
    unfold State.disciplined
    dsimp only
    rw [h, Bool.or_true]
  obtain ⟨hstep, -, -, -, hstepset⟩ := (s.disciplined r).stepTide_tide (r.arg 64 64 - s.tide.count)
  have htime : ((s.disciplined r).tide.count + (r.arg 64 64 - s.tide.count)) % 2 ^ 64 = r.arg 64 64 := by
    rw [show (s.disciplined r).tide.count = s.tide.count from hcount, Nat.add_sub_cancel' hlater]
    exact Nat.mod_eq_of_lt (bits_lt ..)
  rw [State.cmdTide_sets h hlen hfreed hfree hlater, State.ok, keptByEndings_tide.answer]
  split
  next => exact ⟨(State.answer_sameWork ..).trans ((State.stepTide_sameWork ..).trans hwork), hstep.trans htime, hstepset.trans hset⟩
  next hnow => exact ⟨(State.answer_sameWork ..).trans hwork, hcount.trans (by omega), hset⟩

/-! ### Power (R285, R416) -/

/-- The power move and state of another state, with its memory and lagoons. -/
def State.SamePower (t s : State) : Prop := t.SameWork s ∧ t.power.move = s.power.move ∧ t.power.state = s.power.state

theorem State.SamePower.trans {a b c : State} (h : a.SamePower b) (h' : b.SamePower c) : a.SamePower c :=
  ⟨h.1.trans h'.1, h.2.1.trans h'.2.1, h.2.2.trans h'.2.2⟩

theorem State.setGroup_samePower (s : State) (g : Nat) (x : PGroup) : (s.setGroup g x).SamePower s := by
  refine ⟨⟨rfl, rfl⟩, ?_⟩
  unfold State.setGroup
  dsimp only
  split
  · exact ⟨rfl, rfl⟩
  · split <;> exact ⟨rfl, rfl⟩

theorem State.writeSetpoints_samePower (s : State) (d : Nat) : (s.writeSetpoints d).SamePower s := by
  unfold State.writeSetpoints
  refine foldl_inv (P := fun t => t.SamePower s) (fun a i ha => ?_) _ _ ⟨⟨rfl, rfl⟩, rfl, rfl⟩
  exact ha

theorem State.raisePen_samePower (s : State) (g : Nat) : (s.raisePen g).SamePower s := by
  unfold State.raisePen
  dsimp only
  split
  · exact ⟨⟨rfl, rfl⟩, rfl, rfl⟩
  · split
    · exact s.setGroup_samePower ..
    · exact (State.setGroup_samePower ..).trans (s.writeSetpoints_samePower _)

/-- POWER begins its move (R416). -/
theorem State.cmdPower_moves {s : State} {r : Req} (hbmc : s.side.bmcHold = none) (htrip : (s.tripHolds && decide (r.arg 0 3 ≤ 1)) = false)
    (hcause : s.power.cause = 0) (hmove : s.power.move = none) (hlag : s.keepsFrom (r.arg 0 3) = false)
    (hstate : s.power.state ≠ r.arg 0 3) (hbar : (s.power.hb.barred && decide (r.arg 0 3 < 3)) = false) :
    (s.cmdPower r).SamePower { s with power := { s.power with move := some ⟨r.arg 0 3, some r.ref⟩ } } := by
  have hserves : ¬(s.tripHolds = true ∧ r.arg 0 3 ≤ 1) := by simpa using htrip
  have hhbm : ¬(s.power.hb.barred = true ∧ r.arg 0 3 < 3) := by simpa using hbar
  have hidle : ¬(s.power.cause ≠ 0 ∨ s.power.move.isSome ∨ s.keepsFrom (r.arg 0 3) = true) := by simp [hcause, hmove, hlag]
  unfold State.cmdPower
  extract_lets p src t
  rw [hbmc]
  dsimp only
  rw [if_neg hserves, if_neg hhbm, if_neg hidle, if_neg hstate]
  have hmoving : t.SamePower t := ⟨⟨rfl, rfl⟩, rfl, rfl⟩
  split
  · exact hmoving
  · split
    · exact t.raisePen_samePower 0
    · split
      · exact (State.raisePen_samePower ..).trans (t.raisePen_samePower 1)
      · exact hmoving

/-- While the BMC holds the device POWER is answered at once (R391). -/
theorem State.cmdPower_held {s : State} {p : Nat} (h : s.side.bmcHold = some p) (r : Req) : s.cmdPower r = s.no r 0x11 p := by
  unfold State.cmdPower
  rw [h]

/-! ### Effects by OP (Table 8 of spec/13) -/

section

variable {s : State} {r : Req}

theorem State.effect_nop (h : r.op = 0x0001) : s.effect r = s.cmdNop r := by
  rw [State.effect, h]
  rfl

theorem State.effect_close (h : r.op = 0x0002) : s.effect r = s.cmdClose r := by
  rw [State.effect, h]
  rfl

theorem State.effect_events (h : r.op = 0x0003) : s.effect r = s.cmdEvents r := by
  rw [State.effect, h]
  rfl

theorem State.effect_batchwin (h : r.op = 0x0305) : s.effect r = s.cmdBatchwin r := by
  rw [State.effect, h]
  rfl

theorem State.effect_power (h : r.op = 0x0401) : s.effect r = s.cmdPower r := by
  rw [State.effect, h]
  rfl

theorem State.effect_tide (h : r.op = 0x0402) : s.effect r = s.cmdTide r := by
  rw [State.effect, h]
  rfl

theorem State.effect_lighthouse (h : r.op = 0x0406) : s.effect r = s.cmdLighthouse r := by
  rw [State.effect, h]
  rfl

theorem State.effect_net (h : r.op = 0x0403) : s.effect r = if r.item = 0 then s.cmdNetMac r else if r.item = 1 then s.cmdNetLinkLocal r
    else if r.item = 0x11 then s.cmdNetHmpport r else s.cmdNetAddress r := by
  rw [State.effect, h]
  rfl

theorem State.effect_qos (h : r.op = 0x0404) : s.effect r = if r.item = 0 then s.cmdQosPriorities r
    else if r.item = 1 then s.cmdQosDscpMap r else s.cmdQosPfcwd r := by
  rw [State.effect, h]
  rfl

theorem State.effect_macsec (h : r.op = 0x0405) : s.effect r = if r.item = 0 then s.cmdMacsecEnable r else s.cmdMacsecCak r := by
  rw [State.effect, h]
  rfl

/-- A row whose test names an OP serves that OP. -/
theorem Req.op_of_test {op : Nat} {p : Bool} (h : (r.op == op && p) = true) : r.op = op ∧ p = true := by simpa using h

end

/-! ### The rows -/

section

variable {s : State} {f : Frame} {x : Session} (h : s.CommandRuns f x)
include h

/-- The session of a command that runs is open. -/
theorem State.CommandRuns.sid_mem : (s.request f x).sid ∈ (s.running f x).sessions.map (·.id) := by
  have hids : (s.running f x).sessions.map (·.id) = s.sessions.map (·.id) := by
    refine (List.map_map ..).trans (.trans (List.map_congr_left fun y _ => ?_) ((State.setSession_ids ..).trans (State.setSession_ids ..)))
    dsimp only [Function.comp_apply]
    split <;> rfl
  rw [hids]
  exact List.mem_map.mpr ⟨x, List.mem_of_find?_eq_some h.found, rfl⟩

/-- A row that serves the command leaves memory and lagoons, and a state of which `p` holds. -/
def State.RowDoes (s : State) (i : Instr) (r : Req) (p : State → Prop) : Prop :=
  i.serves r = true → ∃ t : State, exec i s = .next t ∧ t.mem = s.mem ∧ t.lagoons = s.lagoons ∧ p t

theorem State.CommandRuns.row_does {i : Instr} (hrow : exec i s = .next (s.cmdRow f i.serves)) {t : State} {p : State → Prop}
    (heffect : i.serves (s.request f x) = true → (s.running f x).effect (s.request f x) = t)
    (hwork : t.SameWork (s.running f x)) (hp : p t) : s.RowDoes i (s.request f x) p :=
  fun hserves => ⟨t, (h.exec_effect hrow hserves).trans (congrArg Host.Outcome.next (heffect hserves)), hwork.1, hwork.2, hp⟩

/-! #### The session's commands -/

theorem State.CommandRuns.nop :
    s.RowDoes (.cmdHmpNop f) (s.request f x) fun t => t = (s.running f x).ok (s.request f x) [] := by
  refine h.row_does rfl (fun hserves => State.effect_nop ?_) (State.answer_sameWork ..) rfl
  rcases Bool.or_eq_true_iff.mp hserves with hop | hnone
  · exact beq_iff_eq.mp hop
  · exact absurd (Option.isNone_iff_eq_none.mp hnone) h.opInfo_ne_none

theorem State.CommandRuns.close : s.RowDoes (.cmdClose f) (s.request f x) fun t => ∀ y ∈ t.sessions, y.id ≠ x.id := by
  refine h.row_does rfl (fun hserves => State.effect_close (beq_iff_eq.mp hserves))
    ((State.endSession_sameWork ..).trans (State.answer_sameWork ..)) fun y hy hid => ?_
  exact State.endSession_ids _ x.id (List.mem_map.mpr ⟨y, hy, hid⟩)

theorem State.CommandRuns.events : s.RowDoes (.cmdEvents f) (s.request f x) fun t =>
    ∃ y ∈ t.sessions, y.id = x.id ∧ y.groups = (s.request f x).arg 0 16 := by
  obtain ⟨hwork, hgroups⟩ := State.cmdEvents_spec h.sid_mem
  exact h.row_does rfl (fun hserves => State.effect_events (beq_iff_eq.mp hserves)) hwork hgroups.exists

/-! #### The port's commands -/

/-- A row that writes the port's settings, which the keeper keeps. -/
theorem State.CommandRuns.row_sets {i : Instr} (hrow : exec i s = .next (s.cmdRow f i.serves)) {c : NetCfg}
    (heffect : i.serves (s.request f x) = true →
      (s.running f x).effect (s.request f x) = ((s.running f x).setNet c).ok (s.request f x) []) :
    s.RowDoes i (s.request f x) (·.NetIs c) :=
  h.row_does hrow heffect (State.setNet_ok ..).1 (State.setNet_ok ..).2

/-- One that also ends the sessions whose address it has changed. -/
theorem State.CommandRuns.row_setsThenEnds {i : Instr} (hrow : exec i s = .next (s.cmdRow f i.serves)) {c : NetCfg} {p : Session → Bool}
    (heffect : i.serves (s.request f x) = true →
      (s.running f x).effect (s.request f x) = ((s.running f x).setNet c).okThenEnd (s.request f x) p) :
    s.RowDoes i (s.request f x) (·.NetIs c) :=
  h.row_does hrow heffect (State.setNet_okThenEnd ..).1 (State.setNet_okThenEnd ..).2

theorem State.CommandRuns.effect_netMac (hserves : (Instr.cmdNetMac f).serves (s.request f x) = true) :
    (s.running f x).effect (s.request f x) = (s.running f x).cmdNetMac (s.request f x) := by
  obtain ⟨hop, hitem⟩ := Req.op_of_test hserves
  have hle := h.netItem_le hop
  have hzero : (s.request f x).item = 0 := by
    simp only [Bool.or_eq_true, beq_iff_eq, decide_eq_true_eq] at hitem
    omega
  rw [State.effect_net hop, if_pos hzero]

theorem State.CommandRuns.netMac :
    s.RowDoes (.cmdNetMac f) (s.request f x) (·.NetIs { s.port.cfg with mac := (s.request f x).arg 8 48 }) :=
  h.row_setsThenEnds rfl h.effect_netMac

theorem State.CommandRuns.netLinkLocal : s.RowDoes (.cmdNetLinkLocal f) (s.request f x) (·.NetIs { s.port.cfg with
    local0 := if bit ((s.request f x).arg 137 1) 0 then some ((s.request f x).arg 138 12) else none }) := by
  refine h.row_sets rfl fun hserves => ?_
  obtain ⟨hop, hitem⟩ := Req.op_of_test hserves
  have hone : (s.request f x).item = 1 := beq_iff_eq.mp hitem
  rw [State.effect_net hop, if_neg (by omega), if_pos hone]
  rfl

theorem State.CommandRuns.netHmpport :
    s.RowDoes (.cmdNetHmpport f) (s.request f x) (·.NetIs { s.port.cfg with hmpport := (s.request f x).arg 8 16 }) := by
  refine h.row_sets rfl fun hserves => ?_
  obtain ⟨hop, hitem⟩ := Req.op_of_test hserves
  have hitem : (s.request f x).item = 0x11 := beq_iff_eq.mp hitem
  rw [State.effect_net hop, if_neg (by omega), if_neg (by omega), if_pos hitem]
  rfl

omit h in
theorem State.CommandRuns.effect_netAddress (hserves : (Instr.cmdNetAddress f).serves (s.request f x) = true) :
    (s.running f x).effect (s.request f x) = (s.running f x).cmdNetAddress (s.request f x) := by
  obtain ⟨hop, hitem⟩ := Req.op_of_test hserves
  simp only [inRange, Bool.and_eq_true, decide_eq_true_eq] at hitem
  rw [State.effect_net hop, if_neg (by omega), if_neg (by omega), if_neg (by omega)]

theorem State.CommandRuns.qosPriorities : s.RowDoes (.cmdQosPriorities f) (s.request f x)
    (·.NetIs { s.port.cfg with lossless := (s.request f x).arg 8 8, traffic := (s.request f x).arg 16 24 }) := by
  refine h.row_sets rfl fun hserves => ?_
  obtain ⟨hop, hitem⟩ := Req.op_of_test hserves
  have hle := h.qosItem_le hop
  have hzero : (s.request f x).item = 0 := by
    simp only [Bool.or_eq_true, beq_iff_eq, decide_eq_true_eq] at hitem
    omega
  rw [State.effect_qos hop, if_pos hzero]
  rfl

theorem State.CommandRuns.qosDscpMap :
    s.RowDoes (.cmdQosDscpMap f) (s.request f x) (·.NetIs { s.port.cfg with dscp := (s.request f x).arg 8 192 }) := by
  refine h.row_sets rfl fun hserves => ?_
  obtain ⟨hop, hitem⟩ := Req.op_of_test hserves
  have hone : (s.request f x).item = 1 := beq_iff_eq.mp hitem
  rw [State.effect_qos hop, if_neg (by omega), if_pos hone]
  rfl

theorem State.CommandRuns.qosPfcwd :
    s.RowDoes (.cmdQosPfcwd f) (s.request f x) (·.NetIs { s.port.cfg with pfcwd := (s.request f x).arg 8 32 }) := by
  refine h.row_sets rfl fun hserves => ?_
  obtain ⟨hop, hitem⟩ := Req.op_of_test hserves
  have htwo : (s.request f x).item = 2 := beq_iff_eq.mp hitem
  rw [State.effect_qos hop, if_neg (by omega), if_neg (by omega)]
  rfl

theorem State.CommandRuns.macsecEnable : s.RowDoes (.cmdMacsecEnable f) (s.request f x)
    (·.NetIs { s.port.cfg with macsec := bit ((s.request f x).arg 8 1) 0, replay := (s.request f x).arg 16 24 }) := by
  obtain ⟨hwork, hnet⟩ := State.cmdMacsecEnable_spec (s.running f x) (s.request f x)
  refine h.row_does rfl (fun hserves => ?_) hwork hnet
  obtain ⟨hop, hitem⟩ := Req.op_of_test hserves
  have hle := h.macsecItem_le hop
  have hzero : (s.request f x).item = 0 := by
    simp only [bne_iff_ne] at hitem
    omega
  rw [State.effect_macsec hop, if_pos hzero]

theorem State.CommandRuns.macsecCak : s.RowDoes (.cmdMacsecCak f) (s.request f x) (·.NetIs { s.port.cfg with
    cak := some (((s.request f x).args.drop 2).take 32, ((s.request f x).args.drop 34).take ((s.request f x).arg 8 8)) }) := by
  refine h.row_sets rfl fun hserves => ?_
  obtain ⟨hop, hitem⟩ := Req.op_of_test hserves
  have hone : (s.request f x).item = 1 := beq_iff_eq.mp hitem
  rw [State.effect_macsec hop, if_neg (by omega)]
  rfl

theorem State.CommandRuns.lighthouse : s.RowDoes (.cmdLighthouse f) (s.request f x) (·.NetIs { s.port.cfg with
    lhcfg := (s.request f x).arg 17 15 * 2 ^ 17 + (s.request f x).arg 0 14
    lhetype := (s.request f x).arg 32 16, lhport := (s.request f x).arg 48 16 }) :=
  h.row_sets rfl fun hserves => State.effect_lighthouse (beq_iff_eq.mp hserves)

/-! #### The builder, the tide and power -/

theorem State.CommandRuns.batchwin : s.RowDoes (.cmdBatchwin f) (s.request f x) fun t =>
    t.builder = { s.builder with batchwin := (s.request f x).arg 0 64 } :=
  h.row_does rfl (fun hserves => State.effect_batchwin (beq_iff_eq.mp hserves)) ((State.answer_sameWork ..).trans ⟨rfl, rfl⟩)
    (keptByEndings_builder.answer ..)

theorem State.CommandRuns.tide_keeps (hkeep : bit ((s.request f x).arg 9 1) 0 = false) : s.RowDoes (.cmdTide f) (s.request f x) fun t =>
    t.tide.count = s.tide.count ∧ t.tide.disc = bit ((s.request f x).arg 0 1) 0 ∧ t.tide.domain = (s.request f x).arg 1 7 ∧
      t.tide.ppsOn = bit ((s.request f x).arg 8 1) 0 := by
  obtain ⟨hwork, hcount, hdisc, hdomain, hpps⟩ := (s.running f x).setDiscipline_spec (bit ((s.request f x).arg 0 1) 0)
    (bit ((s.request f x).arg 8 1) 0) ((s.request f x).arg 1 7)
  refine h.row_does rfl (fun hserves => (State.effect_tide (beq_iff_eq.mp hserves)).trans (State.cmdTide_keeps hkeep))
    ((State.answer_sameWork ..).trans hwork) ?_
  rw [State.ok, keptByEndings_tide.answer]
  exact ⟨hcount, hdisc, hdomain, hpps⟩

theorem State.CommandRuns.tide_sets (hset : bit ((s.request f x).arg 9 1) 0 = true) (hlen : 16 ≤ (s.request f x).alen)
    (hstate : s.tide.state = 0) (hfree : s.tideFree = true) (hlater : s.tide.count ≤ (s.request f x).arg 64 64) :
    s.RowDoes (.cmdTide f) (s.request f x) fun t => t.tide.count = (s.request f x).arg 64 64 ∧ t.tide.set = true := by
  have hfree : (s.running f x).tideFree = true := (State.tideFree_congr rfl).trans hfree
  obtain ⟨hwork, htide⟩ := State.cmdTide_sets_spec (s := s.running f x) hset hlen hstate hfree hlater
  exact h.row_does rfl (fun hserves => State.effect_tide (beq_iff_eq.mp hserves)) hwork htide

/-- A row of POWER begins its move, or is answered at once while the BMC holds the device. -/
theorem State.CommandRuns.power_moves {i : Instr} (hrow : exec i s = .next (s.cmdRow f i.serves))
    (hop : i.serves (s.request f x) = true → (s.request f x).op = 0x0401)
    (hmoves : ((s.running f x).cmdPower (s.request f x)).SamePower { s.running f x with
      power := { s.power with move := some ⟨(s.request f x).arg 0 3, some (s.request f x).ref⟩ } }) :
    s.RowDoes i (s.request f x) fun t =>
      t.power.move = some ⟨(s.request f x).arg 0 3, some (s.request f x).ref⟩ ∧ t.power.state = s.power.state :=
  h.row_does hrow (fun hserves => State.effect_power (hop hserves)) hmoves.1 hmoves.2

theorem State.CommandRuns.power_held {i : Instr} (hrow : exec i s = .next (s.cmdRow f i.serves))
    (hop : i.serves (s.request f x) = true → (s.request f x).op = 0x0401) {p : Nat} (hbmc : s.side.bmcHold = some p) :
    s.RowDoes i (s.request f x) fun t => t = (s.running f x).no (s.request f x) 0x11 p :=
  h.row_does hrow (fun hserves => (State.effect_power (hop hserves)).trans (State.cmdPower_held (s := s.running f x) hbmc _))
    (State.answer_sameWork ..) rfl

end

/-- Settles O51: the effect of each command, in the state in which it has started (DEDUCED 75 and 79). -/
theorem settingsCommands : Obligations.SettingsCommands := by
  unfold Obligations.SettingsCommands
  intro f s x h r u c does net e others taken power
  have powered {i : Instr} (hrow : exec i s = .next (s.cmdRow f i.serves)) (hop : i.serves r = true → r.op = 0x0401) : power i :=
    ⟨fun hbmc htrip hcause hmove hlag hstate hbar =>
      h.power_moves hrow hop (State.cmdPower_moves (s := u) hbmc htrip hcause hmove hlag hstate hbar), fun _ => h.power_held hrow hop⟩
  refine ⟨h.nop, h.close, h.events, h.netMac, h.netLinkLocal, fun hclears => ?cleared, fun hbound hfree => ?bound,
    fun hbound htaken => ?inUse, h.netHmpport, h.qosPriorities, h.qosDscpMap, h.qosPfcwd, h.macsecEnable, h.macsecCak, h.lighthouse,
    h.batchwin, h.tide_keeps, h.tide_sets, powered rfl ?p0, powered rfl ?p1, powered rfl ?p2,
    powered rfl ?p3⟩
  case cleared =>
    exact h.row_setsThenEnds rfl fun hserves => (State.CommandRuns.effect_netAddress hserves).trans (if_pos hclears)
  case bound =>
    have hfree : ¬taken = true := Bool.not_eq_true _ ▸ hfree
    exact h.row_setsThenEnds rfl fun hserves => (State.CommandRuns.effect_netAddress hserves).trans ((if_neg hbound).trans (if_neg hfree))
  case inUse =>
    exact h.row_does rfl (fun hserves => (State.CommandRuns.effect_netAddress hserves).trans ((if_neg hbound).trans (if_pos htaken)))
      (u.answer_sameWork ..) rfl
  all_goals exact fun hserves => (Req.op_of_test hserves).1

end Sys2Proof.Machine
end

section
/-! Run records and the builder (R327, R330, R332, R333, R336, R413, R457): what the hashing of a run's outputs leaves, what becomes of a
lagoon whose record is accepted, and why nothing that follows the signing of a batch undoes its entry into the PREV chain. -/

namespace Sys2Proof.Machine

/-! ### Outputs that are hashed, and the record of their run (R327, R330) -/

/-- The wait for room in the builder is kept from whatever sees neither the builder, events, sessions nor the transmitter. -/
theorem State.backlogged_keeps {β : Type} (g : State → β)
    (hevent : ∀ (s : State) n l r x y, g { s with evno := n, log := l, rel := r, sessions := x, tx := y } = g s)
    (hbuilder : ∀ (s : State) b, g { s with builder := b } = g s) (s : State) : g s.backlogged = g s := by
  have hwait (a : State) (b : Builder) (code kind arg ploc : Nat) (lag vc : Option Nat) :
      g (({ a with builder := b }).raise code kind arg ploc lag vc) = g a := (State.raise_keeps g hevent ..).trans (hbuilder a b)
  unfold State.backlogged
  split
  · rfl
  · refine foldl_keeps g (fun a l => ?_) _ s
    split
    · split
      · rfl
      · exact hwait a ..
    · rfl

@[simp] theorem State.backlogged_lagoon (s : State) (i : Nat) : s.backlogged.lagoon i = s.lagoon i :=
  State.backlogged_keeps (·.lagoon i) (fun _ _ _ _ _ _ => rfl) (fun _ _ => rfl) s

/-- A record that is built names the run and its lagoon, and leaves the builder as it is where that has room. -/
theorem State.buildRecord_spec {s : State} (hs : s.canonical = true) (l : Nat) (r : Run) : ∃ q : RunRec,
    (s.buildRecord l r).lagoon l = { s.lagoon l with record := some q, hashing := none } ∧ q.runno = r.runno ∧ q.lagoon = l ∧
      (s.builder.room = true → (s.buildRecord l r).builder = s.builder) := by
  unfold State.buildRecord
  extract_lets x r'
  refine ⟨_, (State.backlogged_lagoon ..).trans (State.setLagoon_same hs l _), rfl, rfl, fun hroom => ?_⟩
  rw [State.backlogged, if_pos (by exact hroom), State.setLagoon_builder]

/-- The hashing of a lagoon's outputs has begun and no digest of it has come. -/
def State.HashBegun (s : State) (l : Nat) : Prop := ∃ h, (s.lagoon l).hashing = some h ∧ h.outs = true ∧ h.got = []

theorem State.HashBegun.postLeaf {s : State} {l : Nat} (h : s.HashBegun l) (hs : s.Canonical) (p : Nat × Nat) :
    (s.postLeaf l p).HashBegun l := by
  obtain ⟨h, hhash, houts, hgot⟩ := h
  unfold State.postLeaf
  dsimp only
  rw [hhash]
  split
  next k hk =>
    split
    · exact ⟨h, hhash, houts, hgot⟩
    · cases hk
      exact ⟨_, congrArg Lagoon.hashing (State.setLagoon_same (State.canonical_eq_true.mpr hs.setStack) l _), houts, hgot⟩
  · exact ⟨h, hhash, houts, hgot⟩

theorem State.beginHash_begun {s : State} (hs : s.Canonical) (l : Nat) (rs : List Span) : (s.beginHash l true rs).HashBegun l := by
  unfold State.beginHash State.postLeaves
  extract_lets ps
  refine (foldl_inv (P := fun a => a.Canonical ∧ a.HashBegun l) (fun a p ha => ⟨ha.1.postLeaf, ha.2.postLeaf ha.1 p⟩) _ _
    ⟨hs.setLagoon, _, congrArg Lagoon.hashing (State.setLagoon_same (State.canonical_eq_true.mpr hs) l _), rfl, rfl⟩).2

theorem Lagoon.outs_of_hashed {x : Lagoon} {outs : Bool} (h : x.hashed outs = true) : x.hashing.map (·.outs) = some outs := by
  unfold Lagoon.hashed at h
  cases hhash : x.hashing with
  | none => simp [hhash] at h
  | some k =>
    rw [hhash, Option.any_some, Bool.and_eq_true, beq_iff_eq] at h
    exact congrArg some h.1

/-- What OUTPUT_HASH_DONE acts on: a run that has ended, its outputs ready, and no record of it yet. -/
structure State.HashDue (s : State) (l : Nat) (r : Run) : Prop where
  run    : (s.lagoon l).run = some r
  record : (s.lagoon l).record = none
  ended  : (s.lagoon l).st = .faulted ∨ ((s.lagoon l).st = .draining ∧ s.outputsReady l = true)

section hash

variable {s : State} {l : Nat} {r : Run} (h : s.HashDue l r)
include h

theorem State.HashDue.not_held : ¬((s.lagoon l).record.isSome = true ∨
    (!decide ((s.lagoon l).st = .faulted ∨ ((s.lagoon l).st = .draining ∧ s.outputsReady l = true))) = true) := by
  rw [h.record, decide_eq_true h.ended]
  decide

theorem State.HashDue.exec_hashed (hhashed : (s.lagoon l).hashed true = true) :
    exec (.outputHashDone l) s = .next (s.buildRecord l r) := by
  change execOutputHashDone l s = _
  unfold execOutputHashDone
  dsimp only
  rw [h.run]
  exact congrArg Host.Outcome.next
    ((if_neg h.not_held).trans ((if_pos (Lagoon.outs_of_hashed hhashed)).trans (if_pos hhashed)))

theorem State.HashDue.exec_begins (hnone : (s.lagoon l).hashing = none) (hgood : (s.lagoon l).st = .draining → s.outputBad l = none) :
    exec (.outputHashDone l) s = .next ((s.beginHash l true (((s.lagoon l).img.map Image.outputs).getD [])).recordHashed l r) := by
  change execOutputHashDone l s = _
  unfold execOutputHashDone
  dsimp only
  rw [h.run]
  refine congrArg Host.Outcome.next ((if_neg h.not_held).trans ((if_neg (by rw [hnone]; decide)).trans ?_))
  split
  next hst hbad => cases (hgood hst).symm.trans hbad
  · rfl

end hash

/-! ### Records that are accepted (R332, R336, R413) -/

theorem State.closeBatch_keeps {β : Type} (g : State → β) (h : ∀ (s : State) b, g { s with builder := b } = g s) (s : State) :
    g s.closeBatch = g s := by
  unfold State.closeBatch
  dsimp only
  split
  · rfl
  · exact h s _

/-- What follows the acceptance of a record in the builder: a full batch closes, and records that find no room wait. -/
theorem State.closedIfFull_keeps {β : Type} (g : State → β)
    (hevent : ∀ (s : State) n l r x y, g { s with evno := n, log := l, rel := r, sessions := x, tx := y } = g s)
    (hbuilder : ∀ (s : State) b, g { s with builder := b } = g s) (full : Prop) [Decidable full] (s : State) :
    g (if full then s.closeBatch else s).backlogged = g s := by
  rw [State.backlogged_keeps g hevent hbuilder]
  split
  · exact State.closeBatch_keeps g hbuilder s
  · rfl

theorem State.closeBatch_builder {s : State} (hopen : s.builder.openRecs ≠ []) (hroom : s.builder.closed.length < 4) :
    s.closeBatch.builder = { s.builder with openRecs := [], closed := s.builder.closed ++
      [⟨s.builder.openNo, s.builder.openRecs, s.builder.topen, s.tide.count, 0, [], [], false⟩] } := by
  unfold State.closeBatch
  dsimp only
  rw [if_neg (by simpa [hopen] using hroom)]

/-- A lagoon once its run's record has been accepted: the run is over, and it is LOADED and unsealed. -/
def Lagoon.recorded (x : Lagoon) (runno : Nat) : Lagoon :=
  { x with run := none, record := none, prevrun := runno, st := .loaded, sealed := false, launch := [] }

/-- The builder takes the record of a DRAINING lagoon, with a reference, ahead of the earlier ones. -/
theorem State.acceptRecord_spec {s : State} {l : Nat} (hs : s.canonical = true) (hst : (s.lagoon l).st = .draining) (q : RunRec) :
    (∃ ref rest, (s.acceptRecord l q).runs = { q with ref := some ref } :: rest) ∧
      (s.acceptRecord l q).lagoon l = (s.lagoon l).recorded q.runno ∧ (s.acceptRecord l q).power = s.power := by
  unfold State.acceptRecord
  extract_lets b s1 b1 r1 b2 mine old kept s2 x s3 y s4
  have hs1 : s1.Canonical := .ite (State.canonical_eq_true.mp hs).setCounter (State.canonical_eq_true.mp hs)
  have hs2 : s2.canonical = true := State.canonical_eq_true.mpr { hs1 with }
  have hpower1 : s1.power = s.power := by unfold s1; split <;> rfl
  have hx : x = s.lagoon l := by unfold x s2 s1; split <;> rfl
  have hdraining : x.st = .draining := hx ▸ hst
  have hy : y.st = .draining := (congrArg Lagoon.st (State.setLagoon_same hs2 l _)).trans hdraining
  have hs4 : s4 = s3.moveLagoon l .loaded := if_pos hy
  clear_value s1
  refine ⟨⟨(b1.openNo, b1.openRecs.length), kept, ?_⟩, ?_, ?_⟩
  · rw [State.closedIfFull_keeps (·.runs) (fun _ _ _ _ _ _ => rfl) (fun _ _ => rfl), hs4, State.moveLagoon_runs]
    rfl
  · rw [State.closedIfFull_keeps (·.lagoon l) (fun _ _ _ _ _ _ => rfl) (fun _ _ => rfl), hs4,
      State.moveLagoon_setLagoon hs2 l (by exact hdraining ▸ (by decide)), ← hx]
    rfl
  · rw [State.closedIfFull_keeps (·.power) (fun _ _ _ _ _ _ => rfl) (fun _ _ => rfl), hs4, State.moveLagoon_power]
    exact hpower1

/-- The answers of WAIT_RUN are kept from whatever sees neither sessions nor the transmitter. -/
theorem State.answerWaits_keeps {β : Type} (g : State → β) (h : ∀ s l (x : List TxItem), g { s with sessions := l, tx := x } = g s)
    (s : State) (q : RunRec) : g (s.answerWaits q) = g s := by
  unfold State.answerWaits
  refine foldl_keeps g (fun a r => ?_) _ s
  split
  · exact State.answer_keeps g h ..
  · rfl

theorem State.serviceRecord_of_none {s : State} {l : Nat} (h : (s.lagoon l).svc = none) (r : RunRec) : s.serviceRecord l r = s := by
  unfold State.serviceRecord
  dsimp only
  rw [h]

theorem State.proceed_of_cause {s : State} (h : s.power.cause < 2) : s.proceed = s := if_neg fun hc => absurd hc.1 (by omega)

/-- RECORD_ACCEPTED where the builder has room, no earlier run's record is missing, and no service and no entry waits for the record. -/
theorem exec_recordAccepted {s : State} {l : Nat} {q : RunRec} (hs : s.canonical = true) (hq : (s.lagoon l).record = some q)
    (hst : (s.lagoon l).st = .draining) (hsvc : (s.lagoon l).svc = none) (hroom : s.builder.room = true) (hfirst : s.behind l = false)
    (hcause : s.power.cause < 2) : ∃ ref, (s.acceptRecord l q).runs.head? = some { q with ref := some ref } ∧
      exec (.recordAccepted l) s = .next ((s.acceptRecord l q).answerWaits { q with ref := some ref }) := by
  obtain ⟨⟨ref, rest, hruns⟩, hlagoon, hpower⟩ := State.acceptRecord_spec hs hst q
  have hsvc' : (((s.acceptRecord l q).answerWaits { q with ref := some ref }).lagoon l).svc = none := by
    rw [State.answerWaits_keeps (·.lagoon l) (fun _ _ _ => rfl), hlagoon]
    exact hsvc
  have hcause' : ((s.acceptRecord l q).answerWaits { q with ref := some ref }).power.cause < 2 := by
    rw [State.answerWaits_keeps (·.power) (fun _ _ _ => rfl), hpower]
    exact hcause
  refine ⟨ref, by rw [hruns]; rfl, ?_⟩
  have htaken : s.recordTaken l = (s.acceptRecord l q).answerWaits { q with ref := some ref } := by
    unfold State.recordTaken
    rw [hq]
    dsimp only
    rw [if_neg (by simp [hroom, hfirst]), hruns]
    exact State.serviceRecord_of_none hsvc' _
  change Host.Outcome.next (s.recordTaken l).proceed = _
  rw [htaken, State.proceed_of_cause hcause']

/-! ### Batches that are signed (R333, R335, R422, R457) -/

/-- Where the PREV chain stands: the number of the last batch signed (counter 2) and PREV, with the cause of a pending entry, on which it
depends whether the builder's open batch is closed next. -/
def State.chain (s : State) : Nat × Digest × Nat := (s.counter 2, s.builder.prev, s.power.cause)

theorem keptByEndings_chain : KeptByEndings State.chain := fun _ _ _ _ _ _ _ _ => rfl

theorem State.notice_chain (s : State) (code arg : Nat) : (s.notice code arg).chain = s.chain := keptByEndings_chain.raise ..

theorem State.stopSigning_chain (s : State) :
    ({ s with builder := { s.builder with stopped := true } } : State).chain = s.chain := rfl

theorem State.counter_setCounter {s : State} (hs : s.Canonical) (n m v : Nat) :
    (s.setCounter n v).counter m = if m = n then v else s.counter m := Sparse.get_set n m v hs.counters

theorem State.reserveLeaves_power (s : State) : s.reserveLeaves.power = s.power := by
  unfold State.reserveLeaves
  dsimp only
  split <;> rfl

theorem State.reserveNext_chain {s : State} (hs : s.Canonical) : s.reserveNext.chain = s.chain := by
  unfold State.reserveNext
  dsimp only
  split
  · have hcounter := (State.counter_setCounter hs 3 2 (s.counter 3 + 1024)).trans (if_neg (by decide))
    exact congrArg (·, s.builder.prev, s.power.cause) hcounter
  · rfl

theorem State.leafLow_chain (s : State) (before : Nat) : (s.leafLow before).chain = s.chain := by
  unfold State.leafLow
  extract_lets low
  split
  · exact State.notice_chain ..
  · rfl

theorem State.leafEvents_chain (s : State) (before : Nat) : (s.leafEvents before).chain = s.chain := by
  have hlow := s.leafLow_chain before
  unfold State.leafEvents
  generalize s.leafLow before = s1 at hlow ⊢
  dsimp only
  split
  · rw [State.notice_chain, State.stopSigning_chain, hlow]
  · exact hlow

/-- A batch that is signed is the last of the chain. -/
theorem State.signBatch_chain {s : State} (hs : s.Canonical) (b : Batch) :
    (s.signBatch b).chain = (b.no, sha384 (toBytes 192 (s.reserveLeaves.batchHeader b).toNat), s.power.cause) := by
  unfold State.signBatch
  extract_lets before s1 leaf h hb b1 kept bld kpr s2 s3 s4
  have hs2 : s2.Canonical := { hs.reserveLeaves with }
  have hs3 : s3.chain = (b.no, sha384 hb, s.power.cause) := calc
    s3.chain = ((s2.setCounter 2 b.no).reserveNext).chain := State.leafEvents_chain ..
    _ = (s2.setCounter 2 b.no).chain := State.reserveNext_chain hs2.setCounter
    _ = (b.no, sha384 hb, s1.power.cause) :=
      congrArg (·, sha384 hb, s1.power.cause) ((State.counter_setCounter hs2 2 2 b.no).trans (if_pos rfl))
    _ = (b.no, sha384 hb, s.power.cause) := by rw [State.reserveLeaves_power]
  have hs4 : s4.chain = s3.chain := by
    unfold s4
    split
    · exact State.notice_chain ..
    · exact State.notice_chain ..
  exact hs4.trans hs3

theorem State.deliver_chain {s t : State} {k : Sink} {b : Batch} (h : s.deliver k b = some t) : t.chain = s.chain := by
  unfold State.deliver at h
  dsimp only at h
  split at h
  · split at h
    · cases h
      rfl
    · cases h
  · cases h

theorem offer_chain (b : Batch) (s : State) (k : Sink) : (offer b s k).chain = s.chain := by
  unfold offer
  split
  · rfl
  · split
    next hsent => exact State.deliver_chain hsent
    · exact keptByEndings_chain.raise ..

theorem State.drainSink_chain (o : Nat) (ns : List Nat) (s : State) : (State.drainSink o ns s).chain = s.chain := by
  induction ns generalizing s with
  | nil => rfl
  | cons n rest ih =>
    unfold State.drainSink
    split
    · rfl
    · split
      · exact ih _
      · split
        next hsent => exact (ih _).trans (State.deliver_chain hsent)
        · rfl

theorem State.serveSink_chain (s : State) (o : Nat) : (s.serveSink o).chain = s.chain := State.drainSink_chain o _ s

theorem State.answerReq_chain (s : State) (l : Nat) (q : Request) (st d e : Nat) (res : List Byte) :
    (s.answerReq l q st d e res).chain = s.chain := by
  unfold State.answerReq
  split
  · split
    · split <;> rfl
    · rfl
  · exact keptByEndings_chain.answer ..

theorem State.answerBatch_chain (s : State) (b : SvcBatch) (st d : Nat) (p : Request → Bool) :
    (s.answerBatch b st d p).chain = s.chain := by
  unfold State.answerBatch
  refine foldl_keeps State.chain (fun a i => ?_) _ s
  split
  · split
    · exact State.answerReq_chain ..
    · rfl
  · rfl

theorem State.answerSigned_chain (s : State) (no : Nat) : (s.answerSigned no).chain = s.chain := by
  unfold State.answerSigned
  extract_lets mine bld t
  exact foldl_keeps State.chain (fun a b => a.answerBatch_chain b 0 0 _) mine t

theorem State.finishStop_chain (s : State) (l : Nat) : (s.finishStop l).chain = s.chain := by
  unfold State.finishStop
  split
  · split
    · split
      · exact keptByEndings_chain.answer ..
      · rfl
    · rfl
  · rfl

theorem State.closeBatch_chain (s : State) : s.closeBatch.chain = s.chain := by
  unfold State.closeBatch
  dsimp only
  split <;> rfl

theorem State.flush_chain (s : State) (r : Ref) : (s.flush r).chain = s.chain := by
  unfold State.flush
  split
  · exact keptByEndings_chain.answer ..
  · split
    · rfl
    · exact (keptByEndings_chain.answer ..).trans s.closeBatch_chain

theorem State.retryFlush_chain (s : State) : s.retryFlush.chain = s.chain := foldl_keeps State.chain State.flush_chain _ _

/-- The oldest closed batch, where it can be signed, is the last of the chain: sinks, requests, services and flushes that go on
afterwards change nothing of it. -/
theorem State.batchDone_chain {s : State} {b : Batch} {rest : List Batch} (hs : s.Canonical) (hclosed : s.builder.closed = b :: rest)
    (hon : s.power.porst = true) (hrun : s.builder.stopped = false) (hleaf : s.reserveLeaves.keeper.leaf < 2 ^ 40)
    (hsink : s.sinkBacklog < 64) :
    s.batchDone.chain = (b.no, sha384 (toBytes 192 (s.reserveLeaves.batchHeader b).toNat), s.power.cause) := by
  refine Eq.trans ?_ (State.signBatch_chain hs b)
  unfold State.batchDone
  rw [hclosed]
  dsimp only
  have hsigns : ¬(s.power.porst = false ∨ s.builder.stopped = true ∨ 2 ^ 40 ≤ s.reserveLeaves.keeper.leaf ∨ 64 ≤ s.sinkBacklog) := by
    simp only [hon, hrun, Bool.true_eq_false, Bool.false_eq_true, false_or]
    omega
  rw [if_neg hsigns, State.retryFlush_chain, apply_ite State.chain, State.closeBatch_chain, ite_self,
    foldl_keeps State.chain State.finishStop_chain, State.answerSigned_chain, State.serveSink_chain,
    foldl_keeps State.chain (offer_chain _)]

/-- Settles O43: the hashing of outputs by what it leaves, the accepted record by its lagoon, and the signed batch by the PREV chain. -/
theorem runRecords : Obligations.RunRecords := by
  unfold Obligations.RunRecords
  refine ⟨fun l s r hs hrun hrecord hended => ⟨fun hhashed => ?built, fun hnone hgood => ?begins⟩,
    fun l s q hs hq hst hsvc hroom hfirst hcause => ?accepted, fun s hopen hroom hdue => ?closed,
    fun s b rest hs hclosed hon hrun hleaf hsink hcause => ?signed⟩
  case built =>
    obtain ⟨q, hlagoon, hrunno, hlag, hbuilder⟩ := State.buildRecord_spec hs l r
    refine ⟨_, q, State.HashDue.exec_hashed ⟨hrun, hrecord, hended⟩ hhashed, ?_, hrunno, hlag, ?_, hbuilder⟩ <;> rw [hlagoon]
  case begins =>
    have hcanon := State.canonical_eq_true.mp hs
    refine ⟨_, State.HashDue.exec_begins ⟨hrun, hrecord, hended⟩ hnone hgood, ?_⟩
    unfold State.recordHashed
    split
    · obtain ⟨q, hlagoon, -⟩ := State.buildRecord_spec (State.canonical_eq_true.mpr hcanon.beginHash) l r
      exact .inl (by rw [hlagoon]; rfl)
    · exact .inr (State.beginHash_begun hcanon l _)
  case accepted =>
    obtain ⟨ref, hhead, hexec⟩ := exec_recordAccepted hs hq hst hsvc hroom hfirst hcause
    obtain ⟨-, hlagoon, -⟩ := State.acceptRecord_spec hs hst q
    refine ⟨_, { q with ref := some ref }, hexec, ?_, rfl, rfl, ?_⟩
    · rw [State.answerWaits_keeps (·.runs) (fun _ _ _ => rfl)]
      exact hhead
    · rw [State.answerWaits_keeps (·.lagoon l) (fun _ _ _ => rfl), hlagoon]
      exact ⟨rfl, rfl, rfl, rfl⟩
  case closed =>
    have hbuilder := State.closeBatch_builder hopen hroom
    refine ⟨s.closeBatch, _, congrArg Host.Outcome.next (if_pos hdue), ?_, congrArg Builder.closed hbuilder, rfl, rfl, rfl⟩
    rw [hbuilder]
  case signed =>
    have hchain := State.batchDone_chain (State.canonical_eq_true.mp hs) hclosed hon hrun hleaf hsink
    obtain ⟨hcounter, hrest⟩ := Prod.mk.inj hchain
    obtain ⟨hprev, hpower⟩ := Prod.mk.inj hrest
    refine ⟨s.batchDone, ?_, hcounter, hprev⟩
    exact congrArg Host.Outcome.next (State.proceed_of_cause (hpower ▸ hcause))

end Sys2Proof.Machine
end

section
/-! Queue pairs and the transmitter (R370 to R373, R441, R443): one rule for each operation on them, and what the failure of requests
leaves of the pairs. -/

namespace Sys2Proof.Machine

/-! ### Keyed lists -/

/-- An element of a keyed list after the one of its key has been replaced. -/
theorem find?_replaceKey {α : Type} (key : α → Nat) (l : List α) (y : α) (n : Nat) :
    (l.map (fun x => if key x = key y then y else x)).find? (fun x => key x == n) =
      (l.find? (fun x => key x == n)).map (fun x => if key x = key y then y else x) := by
  have hkey : (fun x => key x == n) ∘ (fun x => if key x = key y then y else x) = (fun x => key x == n) := by
    funext x
    dsimp only [Function.comp_apply]
    split
    next hx => rw [hx]
    · rfl
  rw [List.find?_map, hkey]

theorem State.qp?_setQp (s : State) (q : QPair) (n : Nat) :
    (s.setQp q).qp? n = (s.qp? n).map (fun x => if x.qpn = q.qpn then q else x) := find?_replaceKey QPair.qpn s.qps q n

theorem State.qpn_of_qp? {s : State} {n : Nat} {q : QPair} (h : s.qp? n = some q) : q.qpn = n := by
  simpa using List.find?_some h

theorem State.qp?_setQp_same {s : State} {n : Nat} {p q : QPair} (h : s.qp? n = some p) (hq : q.qpn = n) : (s.setQp q).qp? n = some q := by
  rw [s.qp?_setQp, h, Option.map_some, if_pos ((State.qpn_of_qp? h).trans hq.symm)]

theorem State.qp?_setQp_other {s : State} {n : Nat} {q : QPair} (hq : q.qpn ≠ n) : (s.setQp q).qp? n = s.qp? n := by
  rw [s.qp?_setQp]
  cases h : s.qp? n with
  | none => rfl
  | some p => rw [Option.map_some, if_neg (State.qpn_of_qp? h ▸ hq.symm)]

theorem State.lr?_setLr_same {s : State} {r y : LandReg} (h : y ∈ s.lrs) (hidx : y.idx = r.idx) : (s.setLr r).lr? r.idx = some r := by
  refine (find?_replaceKey LandReg.idx s.lrs r r.idx).trans ?_
  obtain ⟨x, hx⟩ := Option.isSome_iff_exists.mp (List.find?_isSome (p := fun x : LandReg => x.idx == r.idx).mpr ⟨y, h, beq_iff_eq.mpr hidx⟩)
  have hxidx : x.idx = r.idx := by simpa using List.find?_some hx
  rw [hx, Option.map_some, if_pos hxidx]

/-! ### The transmitter (R370) -/

/-- Nothing that the device sends finds the controlled port closed. -/
def State.PortOpen (s : State) : Prop := s.port.cfg.macsec = true → s.port.ctlOpen = true

theorem State.PortOpen.txClosed {s : State} (h : s.PortOpen) (x : Outgoing) : s.txClosed x = false := by
  unfold State.txClosed
  cases hmac : s.port.cfg.macsec with
  | false => rfl
  | true => rw [h hmac, Bool.not_true, Bool.and_false]

theorem State.portOpen_of_portUp {s : State} (h : s.portUp = true) : s.PortOpen := by
  intro hmac
  simpa [State.portUp, hmac] using (Bool.and_eq_true_iff.mp h).2

theorem State.sendVia_tx {s : State} {x : Outgoing} (hx : s.txClosed x = false) (e : Option Nat) :
    (s.sendVia e x).tx = ⟨x, s.txHdr e none x, []⟩ :: s.tx := by
  unfold State.sendVia State.sendData
  rw [hx]
  rfl

theorem State.send_head {s : State} (h : s.PortOpen) (x : Outgoing) : (s.send x).tx.head?.map (·.toOutgoing) = some x :=
  State.sendVia_head (h.txClosed x) _

theorem State.sendData_sent (s : State) (e port : Option Nat) (x : Outgoing) (data : List Byte) : s.tx ⊆ (s.sendData e port x data).tx := by
  unfold State.sendData
  dsimp only
  split
  · exact List.Subset.refl _
  · exact List.subset_cons_self ..

theorem State.send_sent (s : State) (x : Outgoing) : s.tx ⊆ (s.send x).tx := s.sendData_sent ..

theorem notify_sent (e : EventRec) (s : State) (x : Session) : s.tx ⊆ (notify e s x).tx := by
  unfold notify
  dsimp only
  generalize (bit x.groups (e.code / 4096) && _) = told
  cases told with
  | true => exact State.sendData_sent (s.setSession _) ..
  | false => exact List.Subset.refl _

/-- An event takes nothing back that has been sent. -/
theorem State.raise_sent (s : State) (code kind arg ploc : Nat) (lag vc : Option Nat) : s.tx ⊆ (s.raise code kind arg ploc lag vc).tx := by
  unfold State.raise
  dsimp only
  refine foldl_inv (P := fun a => s.tx ⊆ a.tx) (fun a x h => List.Subset.trans h (notify_sent _ a x)) _ _ ?_
  split
  · exact State.sendData_sent ..
  · exact List.Subset.refl _

/-- An event heads the log. -/
theorem State.raise_code (s : State) (code kind arg ploc : Nat) (lag vc : Option Nat) :
    (s.raise code kind arg ploc lag vc).log.head?.map (·.code) = some code := by
  rw [State.raise_log]
  rfl

theorem State.giveReply_keeps {β : Type} (g : State → β) (h : ∀ s l (x : List TxItem), g { s with sessions := l, tx := x } = g s)
    (s : State) (r : Ref) (form : Nat → List Byte) : g (s.giveReply r form) = g s := by
  unfold State.giveReply
  split
  · rfl
  · split
    · rfl
    · exact h s _ _

theorem State.answer_sent (s : State) (r : Ref) (st d e : Nat) (res : List Byte) : s.tx ⊆ (s.answer r st d e res).tx := by
  unfold State.answer State.giveReply
  split
  · exact List.Subset.refl _
  · split
    · exact List.Subset.refl _
    · exact State.sendData_sent (s.setSession _) ..

/-! ### Requests of a queue pair (R371, R372) -/

theorem State.sendWorks_keeps {β : Type} (g : State → β) (h : ∀ (s : State) (x : List TxItem), g { s with tx := x } = g s) (n : Nat)
    (ws : List Work) (s : State) : g (ws.foldl (fun a w => a.sendWork n w) s) = g s := foldl_keeps g (fun a _ => h a _) ws s

/-- Each request that is sent is an item of the transmitter. -/
theorem State.sendWorks_length {s : State} (h : s.PortOpen) (n : Nat) (ws : List Work) :
    (ws.foldl (fun a w => a.sendWork n w) s).tx.length = s.tx.length + ws.length := by
  induction ws generalizing s with
  | nil => rfl
  | cons w ws ih =>
    have hsent : (s.sendWork n w).tx.length = s.tx.length + 1 := congrArg List.length (State.sendVia_tx (h.txClosed _) _)
    rw [List.foldl_cons, ih (s := s.sendWork n w) h, hsent, List.length_cons]
    omega

theorem State.resend_qp? {s : State} {p q : QPair} (h : s.qp? q.qpn = some p) :
    (s.resend q).qp? q.qpn = some { q with timer := s.tide.count } := by
  unfold State.resend
  rw [State.sendWorks_keeps (·.qp? q.qpn) (fun _ _ => rfl)]
  exact State.qp?_setQp_same h rfl

theorem State.resend_length {s : State} (h : s.PortOpen) (q : QPair) : (s.resend q).tx.length = s.tx.length + q.work.length :=
  State.sendWorks_length (s := s.setQp _) h ..

/-- A request is added behind those of its queue pair. -/
theorem State.postWork_qp? {s : State} {p q : QPair} (h : s.qp? q.qpn = some p) (w : Work) :
    (s.postWork q w).qp? q.qpn = some { q with spsn := (q.spsn + q.packets w.bytes.length) % 2 ^ 24, work := q.work ++ [w]
                                               timer := if q.work = [] then s.tide.count else q.timer } :=
  State.qp?_setQp_same (q := { q with spsn := _, work := _, timer := _ }) h rfl

theorem State.postWork_qp?_other {s : State} {q : QPair} {n : Nat} (hq : q.qpn ≠ n) (w : Work) : (s.postWork q w).qp? n = s.qp? n :=
  State.qp?_setQp_other (q := { q with spsn := _, work := _, timer := _ }) hq

/-! ### Drains that go on where a queue pair has failed (R443) -/

/-- A value that is not the default is read where it was written, in canonical form or not. -/
theorem Sparse.get_set_of_ne {α : Type} [DecidableEq α] {d x : α} (hx : x ≠ d) (m : Sparse α) (i : Nat) :
    Sparse.get d (Sparse.set d m i x) i = x := by
  induction m with
  | nil => simp [Sparse.set, Sparse.get, hx]
  | cons e m ih =>
    obtain ⟨k, v⟩ := e
    unfold Sparse.set
    split
    · simp [Sparse.get]
    · split
      next hik => simp [Sparse.get, hik]
      next hik => simp [Sparse.get, hik, ih]

theorem State.setLagoon_drains {s : State} {l : Nat} {x : Lagoon} (hx : x.drains ≠ []) : ((s.setLagoon l x).lagoon l).drains = x.drains :=
  congrArg Lagoon.drains (Sparse.get_set_of_ne (fun hblank => hx (congrArg Lagoon.drains hblank)) s.lagoons l)

theorem State.sendDrain_qp? {s : State} {l n : Nat} {d : Drain} {rest : List Drain} (hd : (s.lagoon l).drains = d :: rest)
    (hn : d.qpn ≠ n) : (s.sendDrain l).qp? n = s.qp? n := by
  unfold State.sendDrain
  rw [hd]
  dsimp only
  split
  next q hq => exact State.postWork_qp?_other (State.qpn_of_qp? hq ▸ hn) _
  · rfl

theorem State.drainFailed_qp? (s : State) (l : Nat) (d : Drain) (n : Nat) : (s.drainFailed l d).qp? n = s.qp? n := by
  unfold State.drainFailed
  rw [State.answer_keeps (·.qp? n) (fun _ _ _ => rfl)]
  exact State.raise_keeps (·.qp? n) (fun _ _ _ _ _ _ => rfl) ..

/-- A queue pair that is gone or in error is given no drain. -/
theorem State.startDrains_qp? {n : Nat} (l : Nat) (ds : List Drain) {s : State} (h : ∀ q, s.qp? n = some q → q.state ≠ 0) :
    (State.startDrains l ds s).qp? n = s.qp? n := by
  induction ds generalizing s with
  | nil => rfl
  | cons d rest ih =>
    have hfailed : (State.startDrains l rest (s.drainFailed l d)).qp? n = s.qp? n := by
      have hkept := s.drainFailed_qp? l d n
      exact (ih (by rwa [hkept])).trans hkept
    unfold State.startDrains
    split
    · rfl
    · split
      next q hq =>
        split
        next hstate =>
          have hn : d.qpn ≠ n := fun hqn => h q (hqn ▸ hq) hstate
          dsimp only
          split
          · exact State.sendDrain_qp? (State.setLagoon_drains (fun hnil => List.cons_ne_nil _ _ hnil)) hn
          · rfl
        · exact hfailed
      · exact hfailed

theorem State.failDrain_qp? {s : State} {n : Nat} (h : ∀ q, s.qp? n = some q → q.state ≠ 0) (l : Nat) :
    (s.failDrain l).qp? n = s.qp? n := by
  unfold State.failDrain
  split
  next d rest _ =>
    have hkept := s.drainFailed_qp? l d n
    exact (State.startDrains_qp? l rest (by rwa [hkept])).trans hkept
  · rfl

/-- The failure of requests leaves a queue pair that is gone or in error as it is. -/
theorem State.failWorks_qp? {s : State} {n : Nat} (h : ∀ q, s.qp? n = some q → q.state ≠ 0) (qpn event : Nat) (ws : List Work) :
    (ws.foldl (failWork qpn event) s).qp? n = s.qp? n := by
  refine foldl_inv (P := fun a => a.qp? n = s.qp? n) (fun a w ha => ?_) ws s rfl
  unfold failWork
  split
  · exact (State.failDrain_qp? (by rwa [ha]) _).trans ha
  · exact (State.answerOpt_keeps (·.qp? n) (fun _ _ _ => rfl) ..).trans ha

/-- A queue pair that has failed is in error, without requests (R372). -/
theorem State.failQp_qp? {s : State} {p q : QPair} (h : s.qp? q.qpn = some p) :
    (s.failQp q).qp? q.qpn = some { q with state := 1, work := [] } := by
  unfold State.failQp
  extract_lets lag t
  have ht : t.qp? q.qpn = some { q with state := 1, work := [] } := by
    refine (State.raise_keeps (·.qp? q.qpn) (fun _ _ _ _ _ _ => rfl) ..).trans ?_
    exact State.qp?_setQp_same (q := { q with state := 1, work := [] }) h rfl
  refine (State.failWorks_qp? (fun y hy => ?_) ..).trans ht
  cases ht.symm.trans hy
  exact one_ne_zero

end Sys2Proof.Machine
end

section
/-! Landings (R311, R374): what a landing writes and counts, and what it leaves alone. -/

namespace Sys2Proof.Machine

/-- `g` sees nothing of what a landing changes beside memory and the ledger. -/
def KeptByLanding {β : Type} (g : State → β) : Prop :=
  ∀ (s : State) lagoons hbm ddr wheels n log rel sessions tx,
    g { s with lagoons := lagoons, hbm := hbm, ddr := ddr, wheels := wheels, evno := n, log := log, rel := rel, sessions := sessions, tx := tx } = g s

section

variable {β : Type} {g : State → β} (h : KeptByLanding g)
include h

theorem KeptByLanding.raise (s : State) (code kind arg ploc : Nat) (lag vc : Option Nat) : g (s.raise code kind arg ploc lag vc) = g s :=
  State.raise_keeps g (fun s n l r x y => h s s.lagoons s.hbm s.ddr s.wheels n l r x y) s ..

theorem KeptByLanding.lagoons (s : State) (x : Sparse Lagoon) : g { s with lagoons := x } = g s :=
  h s x s.hbm s.ddr s.wheels s.evno s.log s.rel s.sessions s.tx

theorem KeptByLanding.lateLanding (s : State) (l d n : Nat) : g (s.lateLanding l d n) = g s := by
  unfold State.lateLanding
  extract_lets x im
  split
  · split
    · exact (h.raise ..).trans (h.lagoons ..)
    · exact (h.raise ..).trans (h.lagoons ..)
  · rfl

theorem KeptByLanding.soil (s : State) (a n : Nat) : g (s.soil a n) = g s := by
  refine foldl_keeps g (fun t d => ?_) _ s
  split
  · exact h t t.lagoons _ t.ddr t.wheels t.evno t.log t.rel t.sessions t.tx
  · exact h t t.lagoons t.hbm _ t.wheels t.evno t.log t.rel t.sessions t.tx

theorem KeptByLanding.harbourMoves (s : State) (d n : Nat) : g (s.harbourMoves d n) = g s :=
  foldl_keeps g (fun t _ => h t t.lagoons t.hbm t.ddr _ t.evno t.log t.rel t.sessions t.tx) _ s

/-- A landing writes its bytes and counts them in the ledger. -/
theorem KeptByLanding.land (s : State) (r : LandReg) (a : Nat) (bs : List Byte) :
    g (s.land r a bs) = g ((s.writeBytes a bs).setLr { r with ledger := r.ledger + bs.length }) := by
  unfold State.land
  extract_lets t
  have ht : g t = g ((s.writeBytes a bs).setLr { r with ledger := r.ledger + bs.length }) := by
    unfold t State.clearBad
    split
    · rfl
    · exact h (State.setLr _ _) s.lagoons s.hbm s.ddr s.wheels s.evno s.log _ s.sessions s.tx
  split
  · exact ht
  · exact (foldl_keeps g (fun u l => h.lateLanding u l a _) _ _).trans ((h.harbourMoves ..).trans ((h.soil ..).trans ht))

end

theorem State.land_qps (s : State) (r : LandReg) (a : Nat) (bs : List Byte) : (s.land r a bs).qps = s.qps :=
  KeptByLanding.land (g := (·.qps)) (fun _ _ _ _ _ _ _ _ _ _ => rfl) ..

theorem State.land_port (s : State) (r : LandReg) (a : Nat) (bs : List Byte) : (s.land r a bs).port = s.port :=
  KeptByLanding.land (g := (·.port)) (fun _ _ _ _ _ _ _ _ _ _ => rfl) ..

theorem State.land_lr? {s : State} {r : LandReg} (hr : r ∈ s.lrs) (a : Nat) (bs : List Byte) :
    (s.land r a bs).lr? r.idx = some { r with ledger := r.ledger + bs.length } :=
  (KeptByLanding.land (g := (·.lr? r.idx)) (fun _ _ _ _ _ _ _ _ _ _ => rfl) ..).trans
    (State.lr?_setLr_same (r := { r with ledger := r.ledger + bs.length }) hr rfl)

theorem State.land_readByte {s : State} (hs : Memory.wf s.mem = true) (r : LandReg) (a : Nat) (bs : List Byte) (j : Nat) :
    (s.land r a bs).readByte j = if a ≤ j then (bs[j - a]?).getD (s.readByte j) else s.readByte j :=
  (KeptByLanding.land (g := (·.readByte j)) (fun _ _ _ _ _ _ _ _ _ _ => rfl) ..).trans (Sparse.get_setRun a j bs hs)

/-- The bytes that land are those of memory from then on. -/
theorem State.land_inside {s : State} (hs : Memory.wf s.mem = true) (r : LandReg) (a : Nat) {bs : List Byte} {i : Nat} (hi : i < bs.length) :
    some ((s.land r a bs).readByte (a + i)) = bs[i]? := by
  rw [State.land_readByte hs, if_pos (Nat.le_add_right ..), Nat.add_sub_cancel_left, List.getElem?_eq_getElem hi]
  rfl

/-- No other byte is written. -/
theorem State.land_outside {s : State} (hs : Memory.wf s.mem = true) (r : LandReg) {a j : Nat} {bs : List Byte} (hj : j < a ∨ a + bs.length ≤ j) :
    (s.land r a bs).readByte j = s.readByte j := by
  rw [State.land_readByte hs]
  split
  · rw [List.getElem?_eq_none (by omega)]
    rfl
  · rfl

theorem State.lateLanding_sent (s : State) (l d n : Nat) : s.tx ⊆ (s.lateLanding l d n).tx := by
  unfold State.lateLanding
  extract_lets x im
  split
  · split
    · exact State.raise_sent (s.taint l 8) ..
    · exact State.raise_sent (s.setLagoon l _) ..
  · exact List.Subset.refl _

theorem State.soil_tx (s : State) (a n : Nat) : (s.soil a n).tx = s.tx := foldl_keeps (·.tx) (fun t d => by split <;> rfl) _ s

theorem State.harbourMoves_tx (s : State) (d n : Nat) : (s.harbourMoves d n).tx = s.tx := by
  refine foldl_keeps (·.tx) (fun t g => ?_) _ s
  rfl

/-- A landing takes nothing back that has been sent. -/
theorem State.land_sent (s : State) (r : LandReg) (a : Nat) (bs : List Byte) : s.tx ⊆ (s.land r a bs).tx := by
  unfold State.land
  extract_lets t
  have ht : t.tx = s.tx := by
    unfold t State.clearBad
    split <;> rfl
  split
  · exact ht ▸ List.Subset.refl _
  · refine foldl_inv (P := fun u => s.tx ⊆ u.tx) (fun u l hu => List.Subset.trans hu (u.lateLanding_sent l a _)) _ _ ?_
    rw [State.harbourMoves_tx, State.soil_tx, ht]
    exact List.Subset.refl _

end Sys2Proof.Machine
end

section
/-! RoCEv2 requests (R371 to R376, R431): a packet that reaches its queue pair, and what its row does with one in PSN order. -/

namespace Sys2Proof.Machine

/-! ### A packet that reaches its queue pair (R371, R372) -/

/-- A packet for queue pair `q` passes the checks of the port and of R371. -/
structure State.Reaches (s : State) (p : Packet) (q : QPair) : Prop where
  heard : s.hears p.wire false (some p.entry) = true
  pair  : s.packetQp p = some q

/-- The state that a request finds: its frame has been taken, and a mark CE has been notified. -/
def State.reached (s : State) (q : QPair) (p : Packet) : State := (s.tookFrame p.wire).notifyCe q p

theorem State.reached_keeps {β : Type} (g : State → β) (h : ∀ (s : State) (x : List TxItem), g { s with tx := x } = g s) (s : State)
    (q : QPair) (p : Packet) : g (s.reached q p) = g (s.tookFrame p.wire) := by
  unfold State.reached State.notifyCe
  split
  · exact h _ _
  · rfl

theorem State.reached_mem (s : State) (q : QPair) (p : Packet) : (s.reached q p).mem = s.mem := s.reached_keeps (·.mem) (fun _ _ => rfl) q p

theorem State.reached_lrFor (s : State) (q : QPair) (p : Packet) (write : Bool) : (s.reached q p).lrFor q p write = s.lrFor q p write :=
  s.reached_keeps (·.lrFor q p write) (fun _ _ => rfl) q p

theorem State.reached_lagoon (s : State) (q : QPair) (p : Packet) (l : Nat) : (s.reached q p).lagoon l = s.lagoon l :=
  s.reached_keeps (·.lagoon l) (fun _ _ => rfl) q p

section

variable {s : State} {p : Packet} {q : QPair} (h : s.Reaches p q)
include h

theorem State.Reaches.portUp : s.portUp = true := by
  have hpair := h.pair
  unfold State.packetQp at hpair
  split at hpair
  · assumption
  · cases hpair

theorem State.Reaches.qp? : s.qp? q.qpn = some q := by
  have hpair := h.pair
  unfold State.packetQp at hpair
  rw [if_pos h.portUp] at hpair
  split at hpair
  next y hy =>
    split at hpair
    · cases hpair
      exact (State.qpn_of_qp? hy).symm ▸ hy
    · cases hpair
  · cases hpair

theorem State.Reaches.roceIn (k : State → QPair → State) : s.roceIn p k = k (s.tookFrame p.wire) q := by
  refine (State.frameIn_of_hears h.heard _).trans ?_
  have hpair : (s.tookFrame p.wire).packetQp p = some q := h.pair
  rw [hpair]

theorem State.Reaches.took_qp? : (s.tookFrame p.wire).qp? q.qpn = some q := h.qp?

theorem State.Reaches.took_open : (s.tookFrame p.wire).PortOpen := State.portOpen_of_portUp h.portUp

theorem State.Reaches.reached_qp? : (s.reached q p).qp? q.qpn = some q := (s.reached_keeps (·.qp? q.qpn) (fun _ _ => rfl) q p).trans h.qp?

theorem State.Reaches.setQp_qp? (y : QPair) (hy : y.qpn = q.qpn) : ((s.reached q p).setQp y).qp? q.qpn = some y :=
  State.qp?_setQp_same h.reached_qp? hy

theorem State.Reaches.reached_open : (s.reached q p).PortOpen :=
  (congrArg (fun c : Port => c.cfg.macsec = true → c.ctlOpen = true) (s.reached_keeps (·.port) (fun _ _ => rfl) q p)).mpr h.took_open

/-- A mark CE is notified. -/
theorem State.Reaches.reached_notified (hce : p.ce = true) : ∃ x ∈ (s.reached q p).tx, x.toOutgoing = ⟨11, q.qpn, 0, [0x81]⟩ := by
  have htx : (s.reached q p).tx = _ :=
    (congrArg State.tx (if_pos hce)).trans (State.sendVia_tx (h.took_open.txClosed ⟨11, q.qpn, 0, [0x81]⟩) _)
  rw [htx]
  exact ⟨_, List.mem_cons_self .., rfl⟩

end

/-! ### Requests in order (R371) -/

theorem State.inOrder_of_datagram {s : State} {q : QPair} {p : Packet} (hrc : p.rc = false) (f again : State → QPair → State) :
    s.inOrder q p f again = (s.notifyCe q p).send ⟨5, q.qpn, p.psn, [0xE1]⟩ := if_pos hrc

theorem State.inOrder_of_expected {s : State} {q : QPair} {p : Packet} (hrc : p.rc = true) (hpsn : p.psn % 2 ^ 24 = q.rpsn)
    (f again : State → QPair → State) : s.inOrder q p f again = f (s.notifyCe q p) q :=
  (if_neg (by simp [hrc])).trans (if_pos hpsn)

/-- Whatever becomes of a request, a congestion notification that has been sent stays sent. -/
theorem State.inOrder_sent {s : State} {q : QPair} {p : Packet} {f again : State → QPair → State} (hf : ∀ u : State, u.tx ⊆ (f u q).tx)
    (hagain : ∀ u : State, u.tx ⊆ (again u q).tx) : (s.notifyCe q p).tx ⊆ (s.inOrder q p f again).tx := by
  unfold State.inOrder
  extract_lets u
  split
  · exact u.send_sent _
  · split
    · exact hf u
    · split
      · exact hagain u
      · exact u.send_sent _

theorem State.refuseRoce_sent (s : State) (q : QPair) (p : Packet) : s.tx ⊆ (s.refuseRoce q p).tx :=
  List.Subset.trans (State.raise_sent ..) (State.send_sent ..)

theorem State.refuseRoce_qps (s : State) (q : QPair) (p : Packet) : (s.refuseRoce q p).qps = s.qps := State.raise_qps ..

theorem State.refuseRoce_mem (s : State) (q : QPair) (p : Packet) : (s.refuseRoce q p).mem = s.mem := State.raise_mem ..

theorem State.refuseRoce_log (s : State) (q : QPair) (p : Packet) : (s.refuseRoce q p).log.head?.map (·.code) = some 0x5301 :=
  State.raise_code ..

theorem State.refuseRoce_head {s : State} (h : s.PortOpen) (q : QPair) (p : Packet) :
    (s.refuseRoce q p).tx.head?.map (·.toOutgoing) = some ⟨5, q.qpn, p.psn, [0xE2]⟩ := by
  refine State.send_head ?_ _
  unfold State.PortOpen
  rw [State.raise_port]
  exact h

theorem State.serveRead_sent (s : State) (q : QPair) (p : Packet) : s.tx ⊆ (s.serveRead q p).tx := by
  unfold State.serveRead
  split
  · exact s.refuseRoce_sent q p
  · exact s.send_sent _

/-! ### A SEND to a service (R431) -/

/-- A SEND to a service is answered, or its request joins a window. -/
theorem State.decideSend_cases {P : State → Prop} {s : State} {l : Nat} (hanswer : ∀ q st d, P (s.answerReq l q st d 0 []))
    (hjoin : ∀ v, P (s.setSvc l v)) (qpn psn : Nat) (body : List Byte) : P (s.decideSend l qpn psn body) := by
  unfold State.decideSend
  extract_lets args n q
  split
  · exact hanswer ..
  · unfold State.takeRequest
    split
    · exact hanswer ..
    · split
      · exact hanswer ..
      · split
        · exact hanswer ..
        · split
          · exact hanswer ..
          · exact hjoin _

/-- `t` follows `s` with nothing but answers: memory is the same, what has been sent stays sent, and queue pair `n` expects what it did. -/
structure State.Answered (t s : State) (n : Nat) : Prop where
  mem  : t.mem = s.mem
  sent : s.tx ⊆ t.tx
  psn  : ∀ y, s.qp? n = some y → ∃ z, t.qp? n = some z ∧ z.rpsn = y.rpsn

theorem State.Answered.refl (s : State) (n : Nat) : s.Answered s n := ⟨rfl, List.Subset.refl _, fun y hy => ⟨y, hy, rfl⟩⟩

theorem State.postSend_answered {s : State} {q : QPair} (h : s.qp? q.qpn = some q) (bytes : List Byte) (n : Nat) :
    (s.postSend q bytes).Answered s n := by
  refine ⟨rfl, State.send_sent (s.setQp _) _, fun y hy => ?_⟩
  by_cases hn : q.qpn = n
  · subst hn
    cases h.symm.trans hy
    exact ⟨_, State.postWork_qp? h _, rfl⟩
  · exact ⟨y, (State.postWork_qp?_other hn _).trans hy, rfl⟩

theorem State.answerReq_answered (s : State) (l : Nat) (q : Request) (st d e : Nat) (res : List Byte) (n : Nat) :
    (s.answerReq l q st d e res).Answered s n := by
  unfold State.answerReq
  split
  · split
    next p hp =>
      split
      · exact State.postSend_answered (State.qpn_of_qp? hp ▸ hp) _ n
      · exact .refl s n
    · exact .refl s n
  · refine ⟨State.answer_mem .., s.answer_sent .., fun y hy => ⟨y, ?_, rfl⟩⟩
    exact (State.answer_keeps (·.qp? n) (fun _ _ _ => rfl) ..).trans hy

theorem State.decideSend_answered (s : State) (l qpn psn : Nat) (body : List Byte) (n : Nat) :
    (s.decideSend l qpn psn body).Answered s n :=
  State.decideSend_cases (P := (·.Answered s n)) (fun _ _ _ => s.answerReq_answered ..)
    (fun _ => ⟨rfl, List.Subset.refl _, fun y hy => ⟨y, hy, rfl⟩⟩) ..

/-! ### The rows of requests (R371 to R376) -/

/-- The requests of Table 4 of spec/12 go by PSN order, and take nothing back that has been sent. -/
theorem request_rows {p : Packet} {i : Instr} (hi : i ∈ [Instr.roceWrite p, .roceRead p, .roceSend p]) :
    ∃ f again : State → QPair → State, (∀ s, exec i s = .next (s.roceIn p fun t q => t.inOrder q p f again)) ∧
      (∀ u q, u.tx ⊆ (f u q).tx) ∧ ∀ u q, u.tx ⊆ (again u q).tx := by
  simp only [List.mem_cons, List.not_mem_nil, or_false] at hi
  rcases hi with rfl | rfl | rfl
  case inl =>
    refine ⟨_, _, fun _ => rfl, fun u q => ?_, fun u q => State.send_sent ..⟩
    split
    · exact List.Subset.refl _
    · split
      · exact u.refuseRoce_sent q p
      · exact List.Subset.trans (State.land_sent (u.setQp _) ..) (State.send_sent ..)
  case inr.inl =>
    refine ⟨_, _, fun _ => rfl, fun u q => ?_, fun u q => u.serveRead_sent q p⟩
    split
    · exact State.serveRead_sent (u.setQp _) q p
    · exact u.refuseRoce_sent q p
  case inr.inr =>
    refine ⟨_, _, fun _ => rfl, fun u q => ?_, fun u q => State.send_sent ..⟩
    split
    · exact List.Subset.trans (State.send_sent (u.setQp _) _) (State.decideSend_answered _ _ _ _ _ q.qpn).sent
    · exact u.send_sent _

section

variable {s : State} {p : Packet} {q : QPair} (h : s.Reaches p q)
include h

theorem State.Reaches.exec_datagram (hrc : p.rc = false) {i : Instr} (hi : i ∈ [Instr.roceWrite p, .roceRead p, .roceSend p]) :
    exec i s = .next ((s.reached q p).send ⟨5, q.qpn, p.psn, [0xE1]⟩) := by
  obtain ⟨f, again, hrow, -⟩ := request_rows hi
  rw [hrow, h.roceIn, State.inOrder_of_datagram hrc]
  rfl

theorem State.Reaches.exec_notifies (hce : p.ce = true) {i : Instr} (hi : i ∈ [Instr.roceWrite p, .roceRead p, .roceSend p]) :
    ∃ t : State, exec i s = .next t ∧ ∃ x ∈ t.tx, x.toOutgoing = ⟨11, q.qpn, 0, [0x81]⟩ := by
  obtain ⟨f, again, hrow, hf, hagain⟩ := request_rows hi
  obtain ⟨x, hx, hout⟩ := h.reached_notified hce
  refine ⟨_, (hrow s).trans (congrArg Host.Outcome.next (h.roceIn _)), x, ?_, hout⟩
  exact State.inOrder_sent (fun u => hf u q) (fun u => hagain u q) hx

variable (hrc : p.rc = true) (hpsn : p.psn % 2 ^ 24 = q.rpsn)
include hrc hpsn

/-- The packet expected next is performed. -/
theorem State.Reaches.exec_expected {i : Instr} {f again : State → QPair → State}
    (hrow : exec i s = .next (s.roceIn p fun t q => t.inOrder q p f again)) : exec i s = .next (f (s.reached q p) q) :=
  hrow.trans (congrArg Host.Outcome.next ((h.roceIn _).trans (State.inOrder_of_expected hrc hpsn f again)))

theorem State.Reaches.exec_write {r : LandReg} (hlen : p.bytes.length = p.len) (hmtu : p.len ≤ q.mtuBytes) (hr : s.lrFor q p true = some r) :
    exec (.roceWrite p) s =
      .next ((((s.reached q p).setQp { q with rpsn := (q.rpsn + 1) % 2 ^ 24 }).land r p.addr p.bytes).ackPacket q p) := by
  refine (h.exec_expected hrc hpsn rfl).trans (congrArg Host.Outcome.next ((if_neg (by omega)).trans ?_))
  rw [s.reached_lrFor, hr]

theorem State.Reaches.exec_write_refused (hlen : p.bytes.length = p.len) (hmtu : p.len ≤ q.mtuBytes) (hr : s.lrFor q p true = none) :
    exec (.roceWrite p) s = .next ((s.reached q p).refuseRoce q p) := by
  refine (h.exec_expected hrc hpsn rfl).trans (congrArg Host.Outcome.next ((if_neg (by omega)).trans ?_))
  rw [s.reached_lrFor, hr]

theorem State.Reaches.exec_read {r : LandReg} (hr : s.lrFor q p false = some r) : exec (.roceRead p) s =
    .next (((s.reached q p).setQp { q with rpsn := (q.rpsn + q.packets p.len) % 2 ^ 24 }).send
      ⟨5, q.qpn, p.psn, s.readBytes p.addr p.len⟩) := by
  have hlr : (s.reached q p).lrFor q p false = some r := (s.reached_lrFor q p false).trans hr
  have hbytes : (s.reached q p).readBytes p.addr p.len = s.readBytes p.addr p.len :=
    s.reached_keeps (·.readBytes p.addr p.len) (fun _ _ => rfl) q p
  refine (h.exec_expected hrc hpsn rfl).trans (congrArg Host.Outcome.next ((if_pos (by simp [hlr])).trans ?_))
  have hserved : ((s.reached q p).setQp { q with rpsn := (q.rpsn + q.packets p.len) % 2 ^ 24 }).lrFor q p false = some r := hlr
  unfold State.serveRead
  rw [hserved, ← hbytes]
  rfl

theorem State.Reaches.exec_send (hsvc : ((s.lagoon q.owner).svc.map (fun v => v.qpns.contains q.qpn)).getD false = true)
    (howner : q.owner < 8) : exec (.roceSend p) s =
      .next ((((s.reached q p).setQp { q with rpsn := (q.rpsn + 1) % 2 ^ 24 }).ackPacket q p).decideSend q.owner q.qpn p.psn p.bytes) := by
  refine (h.exec_expected hrc hpsn rfl).trans (congrArg Host.Outcome.next (if_pos ?_))
  rw [s.reached_lagoon, hsvc, decide_eq_true howner]
  rfl

theorem State.Reaches.exec_send_invalid
    (hsvc : ((s.lagoon q.owner).svc.map (fun v => v.qpns.contains q.qpn)).getD false = false ∨ 8 ≤ q.owner) :
    exec (.roceSend p) s = .next ((s.reached q p).send ⟨5, q.qpn, p.psn, [0xE1]⟩) := by
  refine (h.exec_expected hrc hpsn rfl).trans (congrArg Host.Outcome.next (if_neg ?_))
  rw [s.reached_lagoon]
  rcases hsvc with hnone | howner
  · rw [hnone, Bool.false_and]
    exact Bool.false_ne_true
  · rw [decide_eq_false (Nat.not_lt.mpr howner), Bool.and_false]
    exact Bool.false_ne_true

end

end Sys2Proof.Machine
end

section
/-! RoCEv2 responses, acknowledgements and time-outs (R371, R372, R374): which requests of a queue pair complete, and what is sent again. -/

namespace Sys2Proof.Machine

/-! ### Responses and acknowledgements -/

/-- The PSN up to which a packet acknowledges: its own, or the one before that which a NAK names. -/
def ackedPsn (p : Packet) : Nat := if p.syn = 0 then p.psn else p.psn + 2 ^ 24 - 1

/-- Whether a packet acknowledges a request. -/
def QPair.acks (q : QPair) (p : Packet) (w : Work) : Bool :=
  w.lr.isNone && decide (psnDist (w.psn + q.packets w.bytes.length - 1) (ackedPsn p) < 2 ^ 23)

theorem QPair.acks_eq {q : QPair} {p : Packet} {w : Work} (hlr : w.lr = none) :
    q.acks p w = decide (psnDist (w.psn + q.packets w.bytes.length - 1) (ackedPsn p) < 2 ^ 23) := by
  unfold QPair.acks
  rw [hlr, Option.isNone_none, Bool.true_and]

theorem ackedPsn_of_ack {p : Packet} (h : p.syn = 0) : ackedPsn p = p.psn := if_pos h

theorem ackedPsn_of_nak {p : Packet} (h : p.syn ≠ 0) : ackedPsn p = p.psn + 2 ^ 24 - 1 := if_neg h

/-- The queue pair once the packet has acknowledged its oldest requests. -/
def QPair.acknowledged (q : QPair) (p : Packet) (now : Nat) : QPair :=
  let done := q.work.takeWhile (q.acks p)
  { q with work := q.work.dropWhile (q.acks p), retries := if done.isEmpty then q.retries else 0
           rnr := if done.isEmpty then q.rnr else 0, timer := if done.isEmpty then q.timer else now }

/-- A packet that acknowledges the oldest request completes it. -/
theorem QPair.acknowledged_of_acks {q : QPair} {p : Packet} {w : Work} {rest : List Work} (hwork : q.work = w :: rest)
    (hw : q.acks p w = true) (now : Nat) :
    (q.acknowledged p now).retries = 0 ∧ (q.acknowledged p now).work.length ≤ rest.length := by
  unfold QPair.acknowledged
  rw [hwork, List.takeWhile_cons_of_pos hw, List.dropWhile_cons_of_pos hw]
  exact ⟨rfl, (List.dropWhile_sublist _).length_le⟩

/-- One that does not acknowledge it completes none. -/
theorem QPair.acknowledged_of_not_acks {q : QPair} {p : Packet} {w : Work} {rest : List Work} (hwork : q.work = w :: rest)
    (hw : q.acks p w = false) (now : Nat) : q.work.takeWhile (q.acks p) = [] ∧ q.acknowledged p now = q := by
  have hnot : ¬q.acks p w = true := by rw [hw]; exact Bool.false_ne_true
  have hnone : q.work.takeWhile (q.acks p) = [] := by rw [hwork, List.takeWhile_cons_of_neg hnot]
  have hall : q.work.dropWhile (q.acks p) = q.work := by rw [hwork, List.dropWhile_cons_of_neg hnot]
  refine ⟨hnone, ?_⟩
  unfold QPair.acknowledged
  rw [hnone, hall]
  rfl

theorem completeWorks_keeps {β : Type} (g : State → β) (h : ∀ s l (x : List TxItem), g { s with sessions := l, tx := x } = g s)
    (ws : List Work) (s : State) : g (ws.foldl completeWork s) = g s := by
  refine foldl_keeps g (fun a w => ?_) ws s
  unfold completeWork
  split
  · exact State.giveReply_keeps g h ..
  · rfl

/-- The queue pair once a response to its oldest request has come. -/
def QPair.responded (q : QPair) (p : Packet) (w : Work) (rest : List Work) (now : Nat) : QPair :=
  let left := w.bytes.drop p.bytes.length
  { q with retries := 0, timer := now
           work := if left.isEmpty then rest
             else { w with psn := (w.psn + 1) % 2 ^ 24, remote := w.remote + p.bytes.length, bytes := left } :: rest }

section

variable {s : State} {p : Packet} {q : QPair} (h : s.Reaches p q)
include h

theorem State.Reaches.exec_response {w : Work} {rest : List Work} {r : LandReg} (hwork : q.work = w :: rest) (hr : w.lr.bind s.lr? = some r)
    (hpsn : p.psn % 2 ^ 24 = w.psn) (hlen : p.bytes.length ≤ w.bytes.length) (hawake : s.lrAwake r = true) :
    exec (.roceReadResponse p) s =
      .next (((s.tookFrame p.wire).setQp (q.responded p w rest s.tide.count)).land r (r.addr + w.remote) p.bytes) := by
  refine congrArg Host.Outcome.next ((h.roceIn _).trans ?_)
  have htook : w.lr.bind (s.tookFrame p.wire).lr? = some r := hr
  have hlands : ¬(p.psn % 2 ^ 24 ≠ w.psn ∨ p.bytes.length > w.bytes.length ∨ (s.tookFrame p.wire).lrAwake r = false) := by
    rintro (hne | hlong | hasleep)
    · exact hne hpsn
    · exact Nat.not_lt.mpr hlen hlong
    · exact Bool.false_ne_true (hasleep.symm.trans hawake)
  rw [hwork]
  dsimp only
  rw [htook]
  exact if_neg hlands

/-- The state once the requests that the packet acknowledges have completed. -/
def State.ackTaken (s : State) (q : QPair) (p : Packet) : State :=
  (q.work.takeWhile (q.acks p)).foldl completeWork ((s.tookFrame p.wire).setQp (q.acknowledged p s.tide.count))

theorem State.Reaches.exec_ack : exec (.roceAck p) s = .next (
    let y := q.acknowledged p s.tide.count
    if p.syn = 0 then s.ackTaken q p
    else if p.syn = 1 then (if 7 ≤ y.rnr then (s.ackTaken q p).failQp y else (s.ackTaken q p).resend { y with rnr := y.rnr + 1 })
    else if p.syn = 2 then (if 7 ≤ y.retries then (s.ackTaken q p).failQp y else (s.ackTaken q p).resend { y with retries := y.retries + 1 })
    else (s.ackTaken q p).failQp y) :=
  congrArg Host.Outcome.next (h.roceIn _)

theorem State.Reaches.ackTaken_qp? : (s.ackTaken q p).qp? q.qpn = some (q.acknowledged p s.tide.count) := by
  refine (completeWorks_keeps (·.qp? q.qpn) (fun _ _ _ => rfl) ..).trans ?_
  exact State.qp?_setQp_same h.took_qp? rfl

theorem State.Reaches.exec_ack_completes (hsyn : p.syn = 0) : exec (.roceAck p) s = .next (s.ackTaken q p) :=
  h.exec_ack.trans (congrArg Host.Outcome.next (if_pos hsyn))

/-- An RNR NAK, 7 times at most, has what is not acknowledged sent again. -/
theorem State.Reaches.exec_ack_resends {w : Work} {rest : List Work} (hwork : q.work = w :: rest) (hsyn : p.syn = 1) (hrnr : q.rnr < 7)
    (hw : q.acks p w = false) :
    exec (.roceAck p) s = .next (((s.tookFrame p.wire).setQp q).resend { q with rnr := q.rnr + 1 }) := by
  obtain ⟨hnone, hsame⟩ := QPair.acknowledged_of_not_acks hwork hw s.tide.count
  refine h.exec_ack.trans (congrArg Host.Outcome.next ?_)
  dsimp only
  unfold State.ackTaken
  rw [hsame, hnone, if_neg (by omega), if_pos hsyn, if_neg (by omega)]
  rfl

theorem State.Reaches.exec_ack_fails (hsyn : 3 ≤ p.syn) :
    exec (.roceAck p) s = .next ((s.ackTaken q p).failQp (q.acknowledged p s.tide.count)) := by
  refine h.exec_ack.trans (congrArg Host.Outcome.next ?_)
  rw [if_neg (by omega), if_neg (by omega), if_neg (by omega)]

theorem State.Reaches.exec_cnp : exec (.cnpReceived p) s = .next ({ s.tookFrame p.wire with fresh := s.fresh + 1 }.setQp
    { q with rate := Config.cnpRate s.fresh % max 1 q.rate }) :=
  congrArg Host.Outcome.next (h.roceIn _)

end

/-! ### The ACK timer (R371, R372) -/

section

variable {s : State} {n : Nat} {q : QPair} (hq : s.qp? n = some q) (hstate : q.state = 0) (hwork : q.work ≠ []) (hon : s.power.porst = true)
include hq

theorem exec_roceAckTimeout_early (hearly : s.tide.count < q.timer + q.timeout * 1000) : exec (.roceAckTimeout n) s = .next s := by
  refine congrArg Host.Outcome.next ?_
  rw [hq]
  exact if_pos (.inr (.inr (.inr hearly)))

include hstate hwork hon

theorem exec_roceAckTimeout_due (hdue : q.timer + q.timeout * 1000 ≤ s.tide.count) : exec (.roceAckTimeout n) s =
    .next (if 7 ≤ q.retries then s.failQp q else s.resend { q with retries := q.retries + 1 }) := by
  have hruns : ¬(q.state ≠ 0 ∨ q.work = [] ∨ s.power.porst = false ∨ s.tide.count < q.timer + q.timeout * 1000) := by
    simp [hstate, hwork, hon, hdue]
  refine congrArg Host.Outcome.next ?_
  rw [hq]
  exact if_neg hruns

end

/-! ### What lands (R374) -/

theorem State.lrFor_mem {s : State} {q : QPair} {p : Packet} {write : Bool} {r : LandReg} (h : s.lrFor q p write = some r) : r ∈ s.lrs := by
  unfold State.lrFor at h
  split at h
  · cases h
  next y hy =>
    extract_lets inputs at h
    obtain ⟨-, hyr⟩ := Option.ite_none_right_eq_some.mp h
    exact Option.some.inj hyr ▸ List.mem_of_find?_eq_some hy

/-- What a WRITE in order leaves of memory and of its region's ledger. -/
theorem State.write_lands {s : State} {p : Packet} {q : QPair} (hs : s.canonical = true) {r : LandReg} (hlen : p.bytes.length = p.len)
    (hr : s.lrFor q p true = some r) (y : QPair) :
    let t := ((s.reached q p).setQp y).land r p.addr p.bytes
    (∀ i, i < p.len → some (t.readByte (p.addr + i)) = p.bytes[i]?) ∧
      (∀ a, a < p.addr ∨ p.addr + p.len ≤ a → t.readByte a = s.readByte a) ∧
      ∃ z, t.lr? r.idx = some z ∧ z.ledger = r.ledger + p.len := by
  intro t
  have hmem : Memory.wf ((s.reached q p).setQp y).mem = true := (congrArg Memory.wf (s.reached_mem q p)).trans (State.mem_wf hs)
  have hread (a : Nat) : ((s.reached q p).setQp y).readByte a = s.readByte a := s.reached_keeps (·.readByte a) (fun _ _ => rfl) q p
  have hlrs : ((s.reached q p).setQp y).lrs = s.lrs := s.reached_keeps (·.lrs) (fun _ _ => rfl) q p
  refine ⟨fun i hi => State.land_inside hmem r p.addr (by omega), fun a ha => ?_, _, State.land_lr? (hlrs ▸ State.lrFor_mem hr) .., ?_⟩
  · exact (State.land_outside hmem r (by omega)).trans (hread a)
  · rw [hlen]

/-- What a response leaves of memory. -/
theorem State.response_lands {s : State} {p : Packet} (hs : s.canonical = true) (y : QPair) (r : LandReg) (a : Nat) :
    let t := ((s.tookFrame p.wire).setQp y).land r a p.bytes
    (∀ i, i < p.bytes.length → some (t.readByte (a + i)) = p.bytes[i]?) ∧
      ∀ j, j < a ∨ a + p.bytes.length ≤ j → t.readByte j = s.readByte j := by
  intro t
  have hmem : Memory.wf ((s.tookFrame p.wire).setQp y).mem = true := State.mem_wf hs
  exact ⟨fun i hi => State.land_inside hmem r a hi, fun j hj => State.land_outside hmem r hj⟩

/-- Settles O56: a request by where it stands in the PSN order (`State.Reaches.exec_expected`), and the requests of a queue pair by what
acknowledges them. The codes of the NAKs, and that one puts the queue pair in error, are PRESUMED 67. -/
theorem roceRows : Obligations.RoceRows := by
  unfold Obligations.RoceRows
  refine ⟨fun p s q hs heard hpair => ?packets, fun n s q hq hstate hwork hon hopen => ⟨fun hearly => ?early, fun hdue hmore => ?again,
    fun hdue hlast => ?given⟩⟩
  case packets =>
    have h : s.Reaches p q := ⟨heard, hpair⟩
    intro u sent does moved
    refine ⟨fun hce i hi => h.exec_notifies hce hi, ?cnp, fun hrc i hi => h.exec_datagram hrc hi, fun hrc hpsn => ⟨?write, ?refused, ?read,
      ?send, fun hsvc => ⟨_, h.exec_send_invalid hrc hpsn hsvc, rfl⟩⟩, ?response, fun w rest hwork hlr => ⟨?done, ?old, ?rnr, ?fails⟩⟩
    case cnp =>
      refine ⟨_, h.exec_cnp, rfl, _, State.qp?_setQp_same (n := q.qpn) h.took_qp? rfl, ?_, rfl⟩
      exact Nat.mod_lt _ (by omega)
    case write =>
      intro r hlen hmtu hr
      obtain ⟨hinside, houtside, hledger⟩ := State.write_lands hs hlen hr { q with rpsn := (q.rpsn + 1) % 2 ^ 24 }
      refine ⟨_, h.exec_write hrc hpsn hlen hmtu hr, hinside, houtside, ⟨{ q with rpsn := (q.rpsn + 1) % 2 ^ 24 }, ?_, rfl⟩, hledger, State.send_head ?_ _⟩
      · exact (congrArg (List.find? _) (State.land_qps ..)).trans (h.setQp_qp? _ rfl)
      · unfold State.PortOpen
        rw [State.land_port]
        exact h.reached_open
    case refused =>
      intro hlen hmtu hr
      exact ⟨_, h.exec_write_refused hrc hpsn hlen hmtu hr, (State.refuseRoce_mem ..).trans (s.reached_mem q p),
        (State.refuseRoce_qps ..).trans (s.reached_keeps (·.qps) (fun _ _ => rfl) q p), State.refuseRoce_log ..,
        State.refuseRoce_head h.reached_open ..⟩
    case read =>
      intro r hr
      exact ⟨_, h.exec_read hrc hpsn hr, (s.reached_mem q p), ⟨_, h.setQp_qp? _ rfl, rfl⟩, State.send_head (s := State.setQp _ _) h.reached_open _⟩
    case send =>
      intro hsvc howner
      obtain ⟨hmem, -, hpsns⟩ := State.decideSend_answered
        (((s.reached q p).setQp { q with rpsn := (q.rpsn + 1) % 2 ^ 24 }).ackPacket q p) q.owner q.qpn p.psn p.bytes q.qpn
      exact ⟨_, h.exec_send hrc hpsn hsvc howner, hmem.trans (s.reached_mem q p), hpsns _ (h.setQp_qp? _ rfl)⟩
    case response =>
      intro w rest r hwork hr hpsn hlen hawake
      exact ⟨_, h.exec_response hwork hr hpsn hlen hawake, State.response_lands hs ..⟩
    case done =>
      intro hsyn hnear
      have hacks : q.acks p w = true := (QPair.acks_eq hlr).trans (decide_eq_true (ackedPsn_of_ack hsyn ▸ hnear))
      exact ⟨_, h.exec_ack_completes hsyn, _, h.ackTaken_qp?, QPair.acknowledged_of_acks hwork hacks _⟩
    case old =>
      intro hsyn hfar
      have hacks : q.acks p w = false := (QPair.acks_eq hlr).trans (decide_eq_false (ackedPsn_of_ack hsyn ▸ Nat.not_lt.mpr hfar))
      exact ⟨_, h.exec_ack_completes hsyn, _, h.ackTaken_qp?, congrArg QPair.work (QPair.acknowledged_of_not_acks hwork hacks _).2⟩
    case rnr =>
      intro hsyn hrnr hfar
      have hacks : q.acks p w = false := (QPair.acks_eq hlr).trans
        (decide_eq_false (ackedPsn_of_nak (p := p) (by omega) ▸ Nat.not_lt.mpr hfar))
      exact ⟨_, h.exec_ack_resends hwork hsyn hrnr hacks,
        State.resend_length (s := (s.tookFrame p.wire).setQp q) h.took_open { q with rnr := q.rnr + 1 }, _,
        State.resend_qp? (q := { q with rnr := q.rnr + 1 }) (State.qp?_setQp_same h.took_qp? rfl), rfl, rfl⟩
    case fails =>
      intro hsyn
      exact ⟨_, h.exec_ack_fails hsyn, _, State.failQp_qp? (q := q.acknowledged p s.tide.count) h.ackTaken_qp?, rfl, rfl⟩
  case early => exact exec_roceAckTimeout_early hq hearly
  case again =>
    cases State.qpn_of_qp? hq
    refine ⟨_, { q with retries := q.retries + 1, timer := s.tide.count },
      (exec_roceAckTimeout_due hq hstate hwork hon hdue).trans (congrArg Host.Outcome.next (if_neg (by omega))), ?_, rfl, rfl, rfl,
      State.resend_length hopen _⟩
    exact State.resend_qp? (q := { q with retries := q.retries + 1 }) hq
  case given =>
    cases State.qpn_of_qp? hq
    refine ⟨_, { q with state := 1, work := [] },
      (exec_roceAckTimeout_due hq hstate hwork hon hdue).trans (congrArg Host.Outcome.next (if_pos hlast)), ?_, rfl, rfl⟩
    exact State.failQp_qp? hq

end Sys2Proof.Machine
end

section
/-! The Ethernet port (R364 to R370, R377, R393): what its rows leave of the port, and which frames it answers, resolves or drops. -/

namespace Sys2Proof.Machine

/-! ### Rows that leave the work alone -/

/-- A row leaves memory and lagoons, and a state of which `p` holds. -/
def State.PortDoes (s : State) (i : Instr) (p : State → Prop) : Prop :=
  ∃ t : State, exec i s = .next t ∧ t.mem = s.mem ∧ t.lagoons = s.lagoons ∧ p t

theorem State.portDoes {s t : State} {i : Instr} {p : State → Prop} (hexec : exec i s = .next t) (hwork : t.SameWork s) (hp : p t) :
    s.PortDoes i p := ⟨t, hexec, hwork.1, hwork.2, hp⟩

/-- An event heads the log, and leaves the port, memory and lagoons as they were. -/
theorem State.notice_spec (s : State) (code arg : Nat) : (s.notice code arg).SameWork s ∧ (s.notice code arg).port = s.port ∧
    (s.notice code arg).log.head?.map (·.code) = some code :=
  ⟨State.raise_sameWork .., State.raise_port .., State.raise_code ..⟩

/-! ### Link and flow control (R364, R369, R393) -/

/-- The state whose link has come up. -/
def State.linked (s : State) (w m : Nat) : State := { s with port := { s.port with link := some w, lanes := m } }

theorem State.linkUp_does {s : State} {lanes w m : Nat} (hon : s.power.porst = true) (hstep : s.boot.step4 = true)
    (hoff : s.side.offReady = false) (hlink : s.port.link = none)
    (hw : (linkWidths s.straps.linkMode).find? (fun w => lanes &&& w.2 == w.2) = some (w, m)) :
    s.PortDoes (.linkUp lanes) fun t => t.port.link = some w ∧ t.port.lanes = m ∧ (t.log.head?).map (·.code) =
      some (if ((linkWidths s.straps.linkMode).head?).map Prod.fst = some w then 0x5101 else 0x5103) := by
  obtain ⟨hwork, hport, hcode⟩ := ((s.linked w m).countLink 2).notice_spec 0x5101 (argL m w)
  have htrains : ¬(s.power.porst = false ∨ s.boot.step4 = false ∨ s.side.offReady ∨ s.port.link.isSome) := by
    simp [hon, hstep, hoff, hlink]
  have hexec : exec (.linkUp lanes) s = .next (
      let t := ((s.linked w m).countLink 2).notice 0x5101 (argL m w)
      if ((linkWidths s.straps.linkMode).head?).map Prod.fst ≠ some w then (t.countLink 3).notice 0x5103 (argL m w) else t) := by
    refine congrArg Host.Outcome.next ((if_neg htrains).trans ?_)
    rw [hw]
    rfl
  have hlinked : (((s.linked w m).countLink 2).notice 0x5101 (argL m w)).port.link = some w ∧
      (((s.linked w m).countLink 2).notice 0x5101 (argL m w)).port.lanes = m := by
    rw [hport]
    exact ⟨rfl, rfl⟩
  by_cases hfirst : ((linkWidths s.straps.linkMode).head?).map Prod.fst = some w
  · rw [if_pos hfirst]
    exact State.portDoes (hexec.trans (congrArg Host.Outcome.next (if_neg (not_not.mpr hfirst)))) hwork ⟨hlinked.1, hlinked.2, hcode⟩
  · obtain ⟨hwork', hport', hcode'⟩ :=
      ((((s.linked w m).countLink 2).notice 0x5101 (argL m w)).countLink 3).notice_spec 0x5103 (argL m w)
    rw [if_neg hfirst]
    refine State.portDoes (hexec.trans (congrArg Host.Outcome.next (if_pos hfirst))) (hwork'.trans hwork) ?_
    rw [hport']
    exact ⟨hlinked.1, hlinked.2, hcode'⟩

section

variable {s : State} {w : Nat} (hlink : s.port.link = some w)
include hlink

theorem State.linkDown_does : s.PortDoes .linkDown fun t => t.port.link = none ∧ t.port.paused = [] ∧
    (t.log.head?).map (·.code) = some 0x5102 := by
  obtain ⟨hwork, hport, hcode⟩ := State.notice_spec { s with port := { s.port with link := none, lanes := 0, paused := [] } } 0x5102
    (argL s.port.lanes w)
  have hexec : exec .linkDown s =
      .next (({ s with port := { s.port with link := none, lanes := 0, paused := [] } } : State).notice 0x5102 (argL s.port.lanes w)) := by
    refine congrArg Host.Outcome.next ?_
    rw [hlink]
  exact State.portDoes hexec hwork ⟨congrArg Port.link hport, congrArg Port.paused hport, hcode⟩

theorem State.fecDegraded_does : s.PortDoes .fecDegraded fun t => t.port = s.port ∧ (t.log.head?).map (·.code) = some 0x5104 := by
  obtain ⟨hwork, hport, hcode⟩ := s.notice_spec 0x5104 (argL s.port.lanes w)
  have hexec : exec .fecDegraded s = .next (s.notice 0x5104 (argL s.port.lanes w)) := by
    refine congrArg Host.Outcome.next ?_
    rw [hlink]
  exact State.portDoes hexec hwork ⟨hport, hcode⟩

theorem exec_pauseFrame {n : Nat} (hn : n < 8) (on : Bool) : exec (.pauseFrame n on) s = .next { s with port := { s.port with
    paused := if on then ((s.port.paused.find? (fun p => p.prio == n)).getD ⟨n, s.tide.count, false⟩) ::
        s.port.paused.filter (fun p => p.prio != n)
      else s.port.paused.filter (fun p => p.prio != n) } } := by
  have hlinked : ¬(8 ≤ n ∨ s.port.link.isNone) := by simp [hn, hlink]
  exact congrArg Host.Outcome.next (if_neg hlinked)

theorem State.pauseFrame_does {n : Nat} (hn : n < 8) : s.PortDoes (.pauseFrame n true) fun t => ∃ p ∈ t.port.paused, p.prio = n := by
  refine State.portDoes (exec_pauseFrame hlink hn true) ⟨rfl, rfl⟩ ⟨_, List.mem_cons_self .., ?_⟩
  cases hold : s.port.paused.find? (fun p => p.prio == n) with
  | none => rfl
  | some p => simpa using List.find?_some hold

theorem State.releaseFrame_does {n : Nat} (hn : n < 8) : s.PortDoes (.pauseFrame n false) fun t => ∀ p ∈ t.port.paused, p.prio ≠ n := by
  refine State.portDoes (exec_pauseFrame hlink hn false) ⟨rfl, rfl⟩ fun p hp => ?_
  simpa using (List.mem_filter.mp hp).2

end

theorem State.pfcHold_does {s : State} {n : Nat} {p : Paused} (hp : s.port.paused.find? (fun p => p.prio == n) = some p)
    (hraised : p.raised = false) (hlong : p.since + s.port.cfg.pfcwd * 1000000 < s.tide.count) : s.PortDoes (.pfcHold n) fun t =>
      (t.log.head?).map (·.code) = some 0x5106 ∧ ∀ q ∈ t.port.paused, q.prio = n → q.raised = true := by
  obtain ⟨hwork, hport, hcode⟩ := State.notice_spec { s with port := { s.port with paused := raisePause n s.port.paused } } 0x5106 (argV 0 n)
  have hexec : exec (.pfcHold n) s =
      .next (({ s with port := { s.port with paused := raisePause n s.port.paused } } : State).notice 0x5106 (argV 0 n)) := by
    refine congrArg Host.Outcome.next ?_
    rw [hp]
    exact if_pos ⟨hraised, hlong⟩
  refine State.portDoes hexec hwork ⟨hcode, fun q hq hprio => ?_⟩
  rw [hport] at hq
  obtain ⟨y, -, rfl⟩ := List.mem_map.mp hq
  split at hprio
  next hy => rw [if_pos hy]
  next hy => exact absurd hprio hy

/-! ### MACsec (R370) -/

theorem newSa_head (l : List Sa) (an : Nat) : (newSa l an).head?.map (·.an) = some an := by
  unfold newSa
  split
  · assumption
  · rfl

theorem newSa_length {l : List Sa} (h : l.length ≤ 2) (an : Nat) : (newSa l an).length ≤ 2 := by
  unfold newSa
  split
  · exact h
  · exact List.length_take_le ..

theorem State.mkaFrame_does {s : State} {m : Mka} (hmac : s.port.cfg.macsec = true) (hcak : s.port.cfg.cak.isSome = true)
    (hon : s.power.porst = true) (hvalid : m.valid = true) (hlive : m.live = true) : s.PortDoes (.mkaFrame m) fun t =>
      t.port.ctlOpen = true ∧ (t.port.sas.head?).map (·.an) = some (m.an % 4) ∧ (t.port.txSas.head?).map (·.an) = some (m.an % 4) ∧
        (s.port.sas.length ≤ 2 → t.port.sas.length ≤ 2) ∧ (s.port.txSas.length ≤ 2 → t.port.txSas.length ≤ 2) := by
  have hagrees : ¬(s.port.cfg.macsec = false ∨ s.port.cfg.cak.isNone ∨ s.power.porst = false ∨ m.valid = false ∨ m.live = false) := by
    simp [hmac, hon, hvalid, hlive, Option.isSome_iff_ne_none.mp hcak]
  exact State.portDoes (congrArg Host.Outcome.next (if_neg hagrees)) ⟨rfl, rfl⟩
    ⟨rfl, newSa_head .., newSa_head .., fun h => newSa_length h _, fun h => newSa_length h _⟩

/-- Nothing leaves by the controlled port while it is closed (DEDUCED 111). -/
theorem State.send_closed {s : State} (hmac : s.port.cfg.macsec = true) (hclosed : s.port.ctlOpen = false) {x : Outgoing}
    (hx : txSecure s.port.cfg x.kind = true) : s.send x = s := by
  have htx : s.txClosed x = true := by simp [State.txClosed, hmac, hclosed, hx]
  unfold State.send State.sendVia State.sendData
  rw [if_pos htx]

theorem State.macsecPeerLost_does {s : State} (hmac : s.port.cfg.macsec = true) (hopen : s.port.ctlOpen = true) :
    s.PortDoes .macsecPeerLost fun t => t.port.ctlOpen = false ∧ t.port.sas = [] ∧ t.port.txSas = [] ∧
      (t.log.head?).map (·.code) = some 0x5105 := by
  obtain ⟨hwork, hport, hcode⟩ := State.notice_spec { s with port := { s.port with ctlOpen := false, sas := [], txSas := [] } } 0x5105 0
  exact State.portDoes (congrArg Host.Outcome.next (if_pos ⟨hmac, hopen⟩)) hwork
    ⟨congrArg Port.ctlOpen hport, congrArg Port.sas hport, congrArg Port.txSas hport, hcode⟩

/-! ### Frames of the network layer (R365 to R367, R377) -/

/-- The row answers with `x`, from address entry `e`. -/
def State.Replies (s : State) (i : Instr) (e : Option Nat) (x : Outgoing) : Prop :=
  s.PortDoes i fun t => ∃ h : TxHdr, t.tx = ⟨x, h, []⟩ :: s.tx ∧ h.hop = 64 ∧ h.df = true ∧ h.vlan = e.bind s.entryVlan ∧
    h.src = e.bind s.entryAddr

/-- The row drops the frame and counts it. -/
def State.Drops (s : State) (i : Instr) : Prop := s.PortDoes i fun t => t.tx = s.tx ∧ t.port.dropped = s.port.dropped + 1

theorem State.portOpen_of_netUp {s : State} (h : s.netUp = true) : s.PortOpen := by
  intro hmac
  simpa [State.netUp, hmac] using (Bool.and_eq_true_iff.mp h).2

/-- A frame that is taken and answered. -/
theorem State.replies_of_heard {s : State} {i : Instr} {w : Wire} {e : Option Nat} {x : Outgoing}
    (hexec : exec i s = .next ((s.tookFrame w).sendVia e x)) (hx : (s.tookFrame w).txClosed x = false) : s.Replies i e x :=
  State.portDoes hexec ⟨rfl, rfl⟩ ⟨_, State.sendVia_tx hx e, rfl, rfl, rfl, rfl⟩

/-- A frame of an accepted length that no entry takes is dropped, whether or not it passes the checks of R366 and R370. -/
theorem State.drops_of_frameIn {s : State} {i : Instr} {w : Wire} (hmin : 64 ≤ w.len) (hmax : w.len ≤ 9216)
    (hexec : exec i s = .next (s.frameIn w false none State.dropFrame)) : s.Drops i := by
  refine State.portDoes (t := (s.tookFrame w).dropFrame) (hexec.trans (congrArg Host.Outcome.next ?_)) ⟨rfl, rfl⟩ ⟨rfl, rfl⟩
  unfold State.frameIn
  rw [if_neg (Nat.not_lt.mpr hmax), if_neg (Nat.not_lt.mpr hmin), ite_self]

/-- A frame that is too long is dropped as oversize. -/
theorem State.oversize_of_frameIn {s : State} {i : Instr} {w : Wire} {e : Option Nat} {k : State → State} (hlong : 9216 < w.len)
    (hexec : exec i s = .next (s.frameIn w false e k)) : s.PortDoes i fun t => t.tx = s.tx ∧ t.port.oversize = s.port.oversize + 1 :=
  State.portDoes (hexec.trans (congrArg Host.Outcome.next (if_pos hlong))) ⟨rfl, rfl⟩ ⟨rfl, rfl⟩

section

variable {s : State} {p : NetFrame} (hup : s.netUp = true)
include hup

/-- A frame for an address of the device that its row takes. -/
theorem State.netIn_of_entry {e : Nat} (he : s.entryOf p.target p.wire.v4 = some e) (hears : s.hears p.wire false (some e) = true)
    {ok : Nat → Bool} (hok : ok e = true) (k : State → Nat → State) : s.netIn p ok k = k (s.tookFrame p.wire) e := by
  unfold State.netIn
  rw [if_neg (by simp [hup]), he]
  exact (if_pos hok).trans (State.frameIn_of_hears hears _)

/-- One that its row does not take. -/
theorem State.netIn_of_not_ok {e : Nat} (he : s.entryOf p.target p.wire.v4 = some e) {ok : Nat → Bool} (hok : ok e = false)
    (k : State → Nat → State) : s.netIn p ok k = s.frameIn p.wire false none State.dropFrame := by
  unfold State.netIn
  rw [if_neg (by simp [hup]), he]
  exact if_neg (by simp [hok])

/-- One for an address that the device does not hold. -/
theorem State.netIn_of_no_entry (he : s.entryOf p.target p.wire.v4 = none) (ok : Nat → Bool) (k : State → Nat → State) :
    s.netIn p ok k = s.frameIn p.wire false none State.dropFrame := by
  unfold State.netIn
  rw [if_neg (by simp [hup]), he]

/-- Every frame meets the checks of the port. -/
theorem State.netIn_eq_frameIn (ok : Nat → Bool) (k : State → Nat → State) :
    ∃ e k', s.netIn p ok k = s.frameIn p.wire false e k' := by
  unfold State.netIn
  rw [if_neg (by simp [hup])]
  split
  · split
    · exact ⟨_, _, rfl⟩
    · exact ⟨_, _, rfl⟩
  · exact ⟨_, _, rfl⟩

theorem State.netRow_replies {i : Instr} {ok : Nat → Bool} {x : State → Outgoing}
    (hrow : exec i s = .next (s.netIn p ok fun t e => t.sendVia (some e) (x t))) {e : Nat} (he : s.entryOf p.target p.wire.v4 = some e)
    (hears : s.hears p.wire false (some e) = true) (hok : ok e = true) : s.Replies i (some e) (x (s.tookFrame p.wire)) :=
  State.replies_of_heard (hrow.trans (congrArg Host.Outcome.next (State.netIn_of_entry hup he hears hok _)))
    (State.PortOpen.txClosed (s := s.tookFrame p.wire) (State.portOpen_of_netUp hup) _)

theorem State.echoRequest_replies {e : Nat} (he : s.entryOf p.target p.wire.v4 = some e) (hears : s.hears p.wire false (some e) = true)
    (hne : e ≠ 0) : s.Replies (.echoRequest p) (some e) ⟨6, p.peer, if p.wire.v4 then 0 else 0x81, p.body⟩ :=
  State.netRow_replies (ok := fun e => e != 0) (x := fun _ => ⟨6, p.peer, if p.wire.v4 then 0 else 0x81, p.body⟩) hup rfl he hears
    (bne_iff_ne.mpr hne)

theorem State.neighbourSolicitation_replies {e : Nat} (he : s.entryOf p.target p.wire.v4 = some e)
    (hears : s.hears p.wire false (some e) = true) (hv6 : p.wire.v4 = false) :
    s.Replies (.neighbourSolicitation p) (some e) ⟨6, p.peer, 0x88, toBytes 16 p.target ++ toBytes 6 s.macAddr⟩ :=
  State.netRow_replies (x := fun t => ⟨6, p.peer, 0x88, toBytes 16 p.target ++ toBytes 6 t.macAddr⟩) hup rfl he hears (by simp [hv6])

theorem State.arpRequest_replies {e : Nat} (he : s.entryOf p.target p.wire.v4 = some e) (hears : s.hears p.wire false (some e) = true)
    (hv4 : p.wire.v4 = true) : s.Replies (.arpRequest p) (some e) ⟨6, p.peer, 2, toBytes 4 p.target ++ toBytes 6 s.macAddr⟩ :=
  State.netRow_replies (x := fun t => ⟨6, p.peer, 2, toBytes 4 p.target ++ toBytes 6 t.macAddr⟩) hup rfl he hears hv4

theorem State.netRow_drops {i : Instr} {ok : Nat → Bool} {k : State → Nat → State} (hrow : exec i s = .next (s.netIn p ok k))
    (he : s.entryOf p.target p.wire.v4 = none) (hmin : 64 ≤ p.wire.len) (hmax : p.wire.len ≤ 9216) : s.Drops i :=
  State.drops_of_frameIn hmin hmax (hrow.trans (congrArg Host.Outcome.next (State.netIn_of_no_entry hup he ok k)))

/-- Each row of the network layer drops a frame that is too long. -/
theorem State.netRows_oversize (hlong : 9216 < p.wire.len) {i : Instr} (hi : i ∈ [Instr.echoRequest p, .neighbourSolicitation p,
    .neighbourAdvertisement p, .arpRequest p, .arpReply p]) :
    s.PortDoes i fun t => t.tx = s.tx ∧ t.port.oversize = s.port.oversize + 1 := by
  have hnet {j : Instr} {ok : Nat → Bool} {k : State → Nat → State} (hrow : exec j s = .next (s.netIn p ok k)) :
      s.PortDoes j fun t => t.tx = s.tx ∧ t.port.oversize = s.port.oversize + 1 := by
    obtain ⟨e, k', hframe⟩ := State.netIn_eq_frameIn hup ok k
    exact State.oversize_of_frameIn hlong (hrow.trans (congrArg Host.Outcome.next hframe))
  have hlearns {j : Instr} {k : State → State} (hrow : exec j s = .next (if s.netUp = false then s else s.frameIn p.wire false none k)) :
      s.PortDoes j fun t => t.tx = s.tx ∧ t.port.oversize = s.port.oversize + 1 :=
    State.oversize_of_frameIn hlong (hrow.trans (congrArg Host.Outcome.next (if_neg (by simp [hup]))))
  simp only [List.mem_cons, List.not_mem_nil, or_false] at hi
  rcases hi with rfl | rfl | rfl | rfl | rfl
  · exact hnet rfl
  · exact hnet rfl
  · exact hlearns rfl
  · exact hnet rfl
  · exact hlearns rfl

/-- An address that has been resolved stands for what was announced last. -/
theorem State.learnRow_resolves {i : Instr} {k : State → State}
    (hrow : exec i s = .next (if s.netUp = false then s else s.frameIn p.wire false none k)) (hears : s.hears p.wire false none = true)
    (hk : k (s.tookFrame p.wire) = (s.tookFrame p.wire).resolve p.target p.mac) : s.PortDoes i fun t =>
      t.port.resolved.head? = some (p.target, p.mac) ∧ ∀ y ∈ t.port.resolved, y.1 = p.target → y.2 = p.mac := by
  have hexec : exec i s = .next ((s.tookFrame p.wire).resolve p.target p.mac) :=
    hrow.trans (congrArg Host.Outcome.next ((if_neg (by simp [hup])).trans ((State.frameIn_of_hears hears k).trans hk)))
  refine State.portDoes hexec ⟨rfl, rfl⟩ ⟨rfl, fun y hy hpeer => ?_⟩
  rcases List.mem_cons.mp hy with rfl | hold
  · rfl
  · exact absurd hpeer (by simpa using (List.mem_filter.mp hold).2)

end

theorem State.peerDelayRequest_replies {s : State} {p : NetFrame} (hon : s.power.porst = true) (hoff : s.side.offReady = false)
    (hlink : s.port.link.isSome = true) (hears : s.hears p.wire true none = true) :
    s.Replies (.peerDelayRequest p) none ⟨12, p.peer, 3, toBytes 8 s.tide.count ++ toBytes 8 s.tide.count ++ p.body⟩ := by
  have hrow : ¬(s.power.porst = false ∨ s.port.link.isNone ∨ s.side.offReady) := by
    simp [hon, hoff, Option.isSome_iff_ne_none.mp hlink]
  exact State.replies_of_heard (congrArg Host.Outcome.next ((if_neg hrow).trans (State.frameIn_of_hears hears _)))
    (State.txClosed_of_uncontrolled _ (List.mem_of_getLast? rfl))

end Sys2Proof.Machine
end

section
/-! The lighthouse (R378, R385): the snapshot that a probe leaves, and the reply that leaves when it is due. -/

namespace Sys2Proof.Machine

/-! ### Probes -/

/-- A probe that the port hands to the lighthouse. -/
structure State.Probes (s : State) (p : Probe) (w : Nat) : Prop where
  on    : s.power.porst = true
  held  : s.side.offReady = false
  link  : s.port.link = some w
  heard : s.hears p.wire (lhMode s.port.cfg == 1) (if p.l2 then none else some p.entry) = true

/-- The snapshot of a probe, with the reply due. -/
def State.snapshot (s : State) (p : Probe) (w : Nat) : LhReply :=
  ⟨s.tide.count + (if w = 400 then 240 else 180), s.tide.count, s.lhPayload p.word, p.l2, p.wire.mac, p.peer, p.sport, p.dport,
    frameVlan p.wire, p.entry⟩

section

variable {s : State} {p : Probe} {w : Nat} (h : s.Probes p w)
include h

theorem State.Probes.exec : exec (.lighthouseProbe p) s = .next (
    let t := s.tookFrame p.wire
    if s.lhAccepts p = false then t.dropProbe
    else if (s.port.lastProbe.map (fun n => decide (s.tide.count < n + lhGap s.port.cfg))).getD false then
      t.dropProbe.limited 0x5201 0 (s.port.lhDrops + 1) 0 none none
    else { t with port := { t.port with lastProbe := some s.tide.count, lhReplies := s.port.lhReplies ++ [s.snapshot p w] } }) := by
  have hready : ¬(s.power.porst = false ∨ s.side.offReady) := by simp [h.on, h.held]
  refine congrArg Host.Outcome.next ((if_neg hready).trans ?_)
  rw [h.link]
  exact State.frameIn_of_hears h.heard _

theorem State.Probes.drops (hno : s.lhAccepts p = false) : s.PortDoes (.lighthouseProbe p) fun t =>
    t.port.lhReplies = s.port.lhReplies ∧ t.port.lhDrops = s.port.lhDrops + 1 :=
  State.portDoes (h.exec.trans (congrArg Host.Outcome.next (if_pos hno))) ⟨rfl, rfl⟩ ⟨rfl, rfl⟩

/-- A probe that is accepted, and not too soon after the last, leaves its snapshot as the newest reply. -/
theorem State.Probes.answers (hyes : s.lhAccepts p = true)
    (hgap : ∀ n, s.port.lastProbe = some n → n + lhGap s.port.cfg ≤ s.tide.count) : s.PortDoes (.lighthouseProbe p) fun t =>
      t.port.lastProbe = some s.tide.count ∧ t.port.lhReplies = s.port.lhReplies ++ [s.snapshot p w] := by
  have hspaced : ¬(s.port.lastProbe.map (fun n => decide (s.tide.count < n + lhGap s.port.cfg))).getD false = true := by
    cases hlast : s.port.lastProbe with
    | none => exact Bool.false_ne_true
    | some n => simpa using hgap n hlast
  exact State.portDoes (h.exec.trans (congrArg Host.Outcome.next ((if_neg (by simp [hyes])).trans (if_neg hspaced)))) ⟨rfl, rfl⟩ ⟨rfl, rfl⟩

end

/-! ### Replies -/

/-- A reply finds the port open in mode open, or where the controlled port is (DEDUCED 111). -/
theorem State.txClosed_of_light {s : State} {x : Outgoing} (hx : x.kind = 4)
    (hopen : s.port.cfg.macsec = true → lhMode s.port.cfg ≠ 1 → s.port.ctlOpen = true) : s.txClosed x = false := by
  unfold State.txClosed
  by_cases hsends : s.port.cfg.macsec = true ∧ lhMode s.port.cfg ≠ 1
  · rw [hopen hsends.1 hsends.2, Bool.not_true, Bool.and_false]
  · by_cases hmac : s.port.cfg.macsec = true
    · have hmode : bits s.port.cfg.lhcfg 30 2 = 1 := not_not.mp fun hne => hsends ⟨hmac, hne⟩
      simp [txSecure, hx, hmode]
    · simp [hmac]

/-- A reply leaves for the probe's source, with the probe's VLAN ID, its addresses and ports swapped. -/
theorem State.sendLight_tx {s : State} (r : LhReply) (body : List Byte)
    (hopen : s.port.cfg.macsec = true → lhMode s.port.cfg ≠ 1 → s.port.ctlOpen = true) :
    ∃ x : TxItem, (s.sendLight r body).tx = x :: s.tx ∧ x.kind = 4 ∧ x.hdr.vlan = r.vlan ∧ x.hdr.prio = lhPri s.port.cfg ∧
      x.dest = (if r.l2 then r.mac else r.peer) ∧ x.hdr.swap = some (r.mac, r.dport) ∧
      (r.l2 = false → x.hdr.src = s.entryAddr r.entry ∧ x.hdr.port = some r.dport ∧ x.num = r.sport) ∧ x.body = body := by
  unfold State.sendLight
  extract_lets x hdr
  have hclosed : ¬s.txClosed x = true := by
    rw [State.txClosed_of_light (x := x) rfl hopen]
    exact Bool.false_ne_true
  rw [if_neg hclosed]
  refine ⟨_, rfl, rfl, rfl, ?_, rfl, rfl, fun hl2 => ?_, rfl⟩
  · unfold hdr
    split <;> rfl
  · unfold hdr x
    rw [hl2]
    exact ⟨rfl, rfl, rfl⟩

theorem exec_lighthouseReply {s : State} {r : LhReply} {rest : List LhReply} (hreplies : s.port.lhReplies = r :: rest)
    (hlink : s.port.link.isSome = true) (hdue : r.due ≤ s.tide.count) (htime : s.tide.count ≤ r.due + 1000)
    (hheld : s.port.paused.any (fun p => p.prio == lhPri s.port.cfg) = false) : exec .lighthouseReply s =
      .next (({ s with port := { s.port with lhReplies := rest } } : State).sendLight r
        (toBytes 96 (r.payload.toNat + b2n (decide (r.due + 4 < s.tide.count)) * 2 ^ 25))) := by
  refine congrArg Host.Outcome.next ?_
  rw [hreplies]
  have hwaits : ¬(s.tide.count < r.due ∨ s.port.link.isNone) := by simp [hdue, Option.isSome_iff_ne_none.mp hlink]
  exact (if_neg hwaits).trans ((if_neg (Nat.not_lt.mpr htime)).trans (if_neg (by simp [hheld])))

/-- The oldest reply leaves when it is due, marked LATE where it is. -/
theorem State.lighthouseReply_does {s : State} {r : LhReply} {rest : List LhReply} (hreplies : s.port.lhReplies = r :: rest)
    (hlink : s.port.link.isSome = true) (hdue : r.due ≤ s.tide.count) (htime : s.tide.count ≤ r.due + 1000)
    (hheld : s.port.paused.any (fun p => p.prio == lhPri s.port.cfg) = false)
    (hopen : s.port.cfg.macsec = true → lhMode s.port.cfg ≠ 1 → s.port.ctlOpen = true) :
    s.PortDoes .lighthouseReply fun t => t.port.lhReplies = rest ∧ ∃ x : TxItem, t.tx = x :: s.tx ∧ x.kind = 4 ∧ x.hdr.vlan = r.vlan ∧
      x.hdr.prio = lhPri s.port.cfg ∧ x.dest = (if r.l2 then r.mac else r.peer) ∧ x.hdr.swap = some (r.mac, r.dport) ∧
      (r.l2 = false → x.hdr.src = s.entryAddr r.entry ∧ x.hdr.port = some r.dport ∧ x.num = r.sport) ∧
      x.body = toBytes 96 (r.payload.toNat + (if r.due + 4 < s.tide.count then 2 ^ 25 else 0)) := by
  have hlate : b2n (decide (r.due + 4 < s.tide.count)) * 2 ^ 25 = if r.due + 4 < s.tide.count then 2 ^ 25 else 0 := by
    by_cases h : r.due + 4 < s.tide.count <;> simp [h, b2n]
  have hexec := exec_lighthouseReply hreplies hlink hdue htime hheld
  rw [hlate] at hexec
  exact State.portDoes hexec ⟨rfl, rfl⟩ ⟨rfl, State.sendLight_tx (s := { s with port := { s.port with lhReplies := rest } }) r _ hopen⟩

/-- Settles O55: each row by what it leaves of the port, with memory and lagoons as they were. That nothing leaves by a controlled port
that is closed is DEDUCED 111, and the bytes of the peer-delay reply are DEDUCED 62. -/
theorem portRows : Obligations.PortRows := by
  unfold Obligations.PortRows
  intro s does replies drops raised
  refine ⟨fun lanes w m => State.linkUp_does, fun w hlink => ⟨State.linkDown_does hlink, State.fecDegraded_does hlink,
    fun n hn => ⟨State.pauseFrame_does hlink hn, State.releaseFrame_does hlink hn⟩⟩, fun n p => State.pfcHold_does,
    fun m => State.mkaFrame_does, fun hmac hclosed x => State.send_closed hmac hclosed, State.macsecPeerLost_does,
    fun p hup => ⟨fun e he hears => ?entry, fun he hmin hmax => ⟨State.netRow_drops hup rfl he hmin hmax,
      State.netRow_drops hup rfl he hmin hmax, State.netRow_drops hup rfl he hmin hmax⟩,
      fun hlong i hi => State.netRows_oversize hup hlong hi, fun hears => ⟨fun hv6 => ?advertisement, fun hv4 => ?reply⟩⟩,
    fun p => State.peerDelayRequest_replies, fun p w hon hoff hlink heard => ?probe, fun r rest => State.lighthouseReply_does⟩
  case entry =>
    have hlen : 64 ≤ p.wire.len ∧ p.wire.len ≤ 9216 := by
      simp only [State.hears, Bool.and_eq_true, decide_eq_true_eq] at hears
      exact hears.1
    refine ⟨State.echoRequest_replies hup he hears, fun hzero => ?_, State.neighbourSolicitation_replies hup he hears,
      State.arpRequest_replies hup he hears⟩
    exact State.drops_of_frameIn hlen.1 hlen.2
      (congrArg Host.Outcome.next (State.netIn_of_not_ok hup he (by simp [hzero]) _))
  case advertisement => exact State.learnRow_resolves hup rfl hears (if_neg (by simp [hv6]))
  case reply => exact State.learnRow_resolves hup rfl hears (if_pos hv4)
  case probe =>
    have h : s.Probes p w := ⟨hon, hoff, hlink, heard⟩
    refine ⟨h.drops, fun hyes hgap => ?_⟩
    obtain ⟨t, hexec, hmem, hlagoons, hlast, hnew⟩ := h.answers hyes hgap
    exact ⟨t, hexec, hmem, hlagoons, hlast, s.snapshot p w, hnew, rfl, rfl, rfl, rfl, rfl⟩

end Sys2Proof.Machine
end

section
/-! Commands over objects, sinks, batches, queue pairs, landing regions and packages (R333, R334, R371 to R373, R412, R421, R422, R462):
what each makes of the state in which it runs. -/

namespace Sys2Proof.Machine

/-! ### Sinks (R422) -/

theorem State.owner_of_sink? {s : State} {o : Nat} {k : Sink} (h : s.sink? o = some k) : k.owner = o := by
  simpa using List.find?_some h

theorem State.sink?_setSink_same {s : State} {o : Nat} {p k : Sink} (h : s.sink? o = some p) (hk : k.owner = o) :
    (s.setSink k).sink? o = some k := by
  refine (find?_replaceKey Sink.owner s.sinks k o).trans ?_
  rw [show s.sinks.find? (fun x => x.owner == o) = some p from h, Option.map_some, if_pos ((State.owner_of_sink? h).trans hk.symm)]

/-- Sink `p` is sink `k` after deliveries: they fill slots, and change neither its place nor what the host has consumed. -/
structure Sink.Follows (p k : Sink) : Prop where
  owner : p.owner = k.owner
  qpn   : p.qpn = k.qpn
  rkey  : p.rkey = k.rkey
  base  : p.base = k.base
  slot  : p.slot = k.slot
  slots : p.slots = k.slots
  acked : p.acked = k.acked
  used  : k.used ≤ p.used

theorem Sink.Follows.refl (k : Sink) : k.Follows k := ⟨rfl, rfl, rfl, rfl, rfl, rfl, rfl, le_rfl⟩

theorem Sink.Follows.trans {a b c : Sink} (h : a.Follows b) (h' : b.Follows c) : a.Follows c :=
  ⟨h.owner.trans h'.owner, h.qpn.trans h'.qpn, h.rkey.trans h'.rkey, h.base.trans h'.base, h.slot.trans h'.slot, h.slots.trans h'.slots,
    h.acked.trans h'.acked, h'.used.trans h.used⟩

/-- An owner's sink follows one. -/
def State.SinkFollows (s : State) (o : Nat) (k : Sink) : Prop := ∃ p, s.sink? o = some p ∧ p.Follows k

theorem State.deliver_follows {s t : State} {o : Nat} {p k : Sink} {b : Batch} (hp : s.sink? o = some p) (hk : k.owner = o)
    (h : s.deliver k b = some t) : t.SinkFollows o k := by
  unfold State.deliver at h
  extract_lets bs at h
  split at h
  next q slot n hq hroom =>
    obtain ⟨-, ht⟩ := Option.ite_none_right_eq_some.mp h
    cases ht
    exact ⟨_, State.sink?_setSink_same (k := { k with next := (k.next + n) % k.slots, used := k.used + n }) hp hk,
      rfl, rfl, rfl, rfl, rfl, rfl, rfl, Nat.le_add_right ..⟩
  · cases h

theorem State.drainSink_follows {o : Nat} (ns : List Nat) {s : State} {k : Sink} (h : s.sink? o = some k) :
    (State.drainSink o ns s).SinkFollows o k := by
  induction ns generalizing s k with
  | nil => exact ⟨k, h, .refl k⟩
  | cons n rest ih =>
    have howner : k.owner = o := State.owner_of_sink? h
    unfold State.drainSink
    rw [h]
    dsimp only
    split
    · obtain ⟨p, hp, hfollows⟩ := ih (State.sink?_setSink_same (k := { k with queue := rest }) h howner)
      exact ⟨p, hp, hfollows.trans ⟨rfl, rfl, rfl, rfl, rfl, rfl, rfl, le_rfl⟩⟩
    · split
      next t ht =>
        obtain ⟨y, hy, hyk⟩ := State.deliver_follows h (k := { k with queue := rest }) howner ht
        obtain ⟨p, hp, hpy⟩ := ih hy
        exact ⟨p, hp, hpy.trans (hyk.trans ⟨rfl, rfl, rfl, rfl, rfl, rfl, rfl, le_rfl⟩)⟩
      · exact ⟨k, h, .refl k⟩

/-- A sink that is served and whose command is answered. -/
theorem State.serveSink_ok_follows {s : State} {o : Nat} {k : Sink} (h : s.sink? o = some k) (r : Req) (res : List Byte) :
    ((s.serveSink o).ok r res).SinkFollows o k := by
  obtain ⟨p, hp, hfollows⟩ := State.drainSink_follows (((s.sink? o).map (·.queue)).getD []) h
  exact ⟨p, (State.answer_keeps (·.sink? o) (fun _ _ _ => rfl) ..).trans hp, hfollows⟩

section

variable {s : State} {r : Req}

theorem State.cmdSink_removes (h : r.arg 160 16 = 0) : (s.cmdSink r).sinks = s.sinks.filter (fun k => k.owner != r.owner) := by
  unfold State.cmdSink
  dsimp only
  rw [if_pos h]
  exact State.answer_sinks ..

theorem State.cmdSink_sets {q : QPair} (h : r.arg 160 16 ≠ 0) (hq : s.qp? (r.arg 0 16) = some q) (howner : q.owner = r.owner) :
    ∃ k ∈ (s.cmdSink r).sinks, k.owner = r.owner ∧ k.qpn = q.qpn ∧ k.rkey = r.arg 32 32 ∧ k.base = r.arg 64 64 ∧ k.slot = r.arg 128 32 ∧
      k.slots = r.arg 160 16 := by
  unfold State.cmdSink
  extract_lets o others
  rw [if_neg h, hq]
  dsimp only
  rw [if_neg (not_not.mpr howner)]
  obtain ⟨p, hp, hfollows⟩ := State.serveSink_ok_follows
    (s := { s with sinks := ⟨o, q.qpn, r.arg 32 32, r.arg 64 64, r.arg 128 32, r.arg 160 16, 0, 0, 0,
      ((s.sink? o).map (·.queue)).getD []⟩ :: others }) (o := o) (List.find?_cons_of_pos (beq_self_eq_true o)) r []
  exact ⟨p, List.mem_of_find?_eq_some hp, hfollows.owner, hfollows.qpn, hfollows.rkey, hfollows.base, hfollows.slot, hfollows.slots⟩

theorem State.cmdSinkAck_counts {k : Sink} (hk : s.sink? r.owner = some k) (hlow : k.acked ≤ r.arg 0 32) (hhigh : r.arg 0 32 ≤ k.used) :
    ∃ p, (s.cmdSinkAck r).sink? r.owner = some p ∧ p.acked = r.arg 0 32 ∧ k.used ≤ p.used := by
  have howner : k.owner = r.owner := State.owner_of_sink? hk
  unfold State.cmdSinkAck
  rw [hk]
  dsimp only
  rw [if_neg (by omega)]
  obtain ⟨p, hp, hfollows⟩ :=
    State.serveSink_ok_follows (State.sink?_setSink_same (k := { k with acked := r.arg 0 32 }) hk howner) r []
  exact ⟨p, hp, hfollows.acked, hfollows.used⟩

theorem State.cmdSinkAck_refused {k : Sink} (hk : s.sink? r.owner = some k) (hout : r.arg 0 32 < k.acked ∨ k.used < r.arg 0 32) :
    s.cmdSinkAck r = s.no r 6 32 := by
  unfold State.cmdSinkAck
  rw [hk]
  exact if_pos hout

/-! ### Objects and batches (R333, R334, R421) -/

theorem State.cmdRead_bytes {b : List Byte} (h : s.object r.scope r.lag (r.arg 0 8) (r.arg 64 64) = .bytes b) :
    s.cmdRead r = s.ok r (objectPart b (r.arg 128 32) (r.arg 160 10)) := by
  unfold State.cmdRead
  rw [h]

theorem State.cmdXfer_posts {b : List Byte} {q : QPair} (h : s.object r.scope r.lag (r.arg 0 8) (r.arg 64 64) = .bytes b)
    (hq : s.qp? (r.arg 192 16) = some q) (howner : q.owner = r.owner) (hstate : q.state = 0)
    (hne : objectPart b (r.arg 128 32) (r.arg 160 32) ≠ []) :
    s.cmdXfer r = s.postWrite q (r.arg 224 32) (r.arg 256 64) (objectPart b (r.arg 128 32) (r.arg 160 32)) (some r.ref) none
      (s.replyBody r.scope r.op 0 0 0 (toBytes 4 (objectPart b (r.arg 128 32) (r.arg 160 32)).length)) := by
  unfold State.cmdXfer
  rw [h]
  dsimp only
  rw [hq]
  dsimp only
  rw [if_neg (not_not.mpr howner), if_neg (not_not.mpr hstate), if_neg hne]

/-- The queue pair of an XFER has one request more, which brings the object's part and is answered when it has been acknowledged. -/
theorem State.cmdXfer_queues {b : List Byte} {q : QPair} (h : s.object r.scope r.lag (r.arg 0 8) (r.arg 64 64) = .bytes b)
    (hq : s.qp? (r.arg 192 16) = some q) (howner : q.owner = r.owner) (hstate : q.state = 0)
    (hne : objectPart b (r.arg 128 32) (r.arg 160 32) ≠ []) : ∃ (w : Work) (p : QPair), (s.cmdXfer r).qp? q.qpn = some p ∧
      p.work = q.work ++ [w] ∧ w.bytes = objectPart b (r.arg 128 32) (r.arg 160 32) ∧ w.rkey = r.arg 224 32 ∧ w.remote = r.arg 256 64 ∧
      w.ref = some r.ref ∧
      w.reply = s.replyBody r.scope r.op 0 0 0 (toBytes 4 (objectPart b (r.arg 128 32) (r.arg 160 32)).length) := by
  rw [State.cmdXfer_posts h hq howner hstate hne]
  exact ⟨_, _, State.postWork_qp? (State.qpn_of_qp? hq ▸ hq) _, rfl, rfl, rfl, rfl, rfl, rfl⟩

theorem State.cmdFlush_empty (h : s.builder.openRecs = []) : s.cmdFlush r = s.ok r (toBytes 8 0) := if_pos h

theorem State.cmdFlush_closes (h : s.builder.openRecs ≠ []) (hroom : s.builder.closed.length < 4) :
    (s.cmdFlush r).builder.openRecs = [] ∧ ∃ b : Batch, (s.cmdFlush r).builder.closed = s.builder.closed ++ [b] ∧
      b.no = s.builder.openNo ∧ b.recs = s.builder.openRecs := by
  have hflush : s.cmdFlush r = s.closeBatch.answer r.ref 0 0 0 (toBytes 8 s.builder.openNo) :=
    (if_neg h).trans (if_neg (Nat.not_le.mpr hroom))
  rw [hflush, State.answer_builder, State.closeBatch_builder h hroom]
  exact ⟨rfl, _, rfl, rfl, rfl⟩

theorem State.cmdFlush_waits (h : s.builder.openRecs ≠ []) (hfull : 4 ≤ s.builder.closed.length) :
    s.cmdFlush r = { s with builder := { s.builder with flushes := s.builder.flushes ++ [r.ref] } } :=
  (if_neg h).trans (if_pos hfull)

theorem State.cmdPath_found {b : Batch} {q : RunRec} (hb : (s.builder.signed ++ s.builder.closed).find? (fun b => b.no == r.arg 0 64) = some b)
    (hq : b.recs[r.arg 64 32]? = some q) (hsees : scopeSees r.scope q.lagoon = true) :
    s.cmdPath r = s.ok r (digestBytes q.leaf ++ [BitVec.ofNat 8 (siblings 17 (b.recs.map RunRec.leaf) (r.arg 64 32)).length] ++
      (siblings 17 (b.recs.map RunRec.leaf) (r.arg 64 32)).flatMap digestBytes) := by
  unfold State.cmdPath
  rw [hb]
  dsimp only
  rw [hq]
  exact if_neg (by simp [hsees])

/-! ### Queue pairs (R371, R372) -/

theorem State.cmdQpCreate_adds {n : Nat} (h : (List.range 4096).find? (fun n => (s.qp? (n + 1)).isNone) = some n) :
    ∃ q : QPair, (s.cmdQpCreate r).qps = s.qps ++ [q] ∧ q.qpn = n + 1 ∧ q.owner = r.owner ∧ q.rqpn = r.arg 136 24 ∧ q.spsn = r.arg 168 24 ∧
      q.rpsn = r.arg 200 24 ∧ q.state = 0 ∧ q.work = [] := by
  unfold State.cmdQpCreate
  rw [h]
  exact ⟨_, State.answer_qps .., rfl, rfl, rfl, rfl, rfl, rfl, rfl⟩

/-- Whether a sink or a service uses a queue pair. -/
def State.qpUsed (s : State) (q : QPair) : Bool :=
  s.sinks.any (fun k => k.qpn == q.qpn) || (List.range 8).any (fun l => ((s.lagoon l).svc.map (fun v => v.qpns.contains q.qpn)).getD false)

theorem State.cmdQpDestroy_used {q : QPair} (hq : s.qp? (r.arg 0 16) = some q) (howner : q.owner = r.owner) (h : s.qpUsed q = true) :
    s.cmdQpDestroy r = s.no r 0x0E 0 := by
  unfold State.cmdQpDestroy
  rw [hq]
  exact (if_neg (not_not.mpr howner)).trans (if_pos h)

/-- A queue pair that has been destroyed is none of those left, though the drains that it fails go on with other pairs. -/
theorem State.cmdQpDestroy_removes {q : QPair} (hq : s.qp? (r.arg 0 16) = some q) (howner : q.owner = r.owner) (h : s.qpUsed q = false) :
    ∀ y ∈ (s.cmdQpDestroy r).qps, y.qpn ≠ q.qpn := by
  have hgone : ({ s with qps := s.qps.filter (fun y => y.qpn != q.qpn) } : State).qp? q.qpn = none :=
    List.find?_eq_none.mpr fun y hy => by simpa using (List.mem_filter.mp hy).2
  have hleft : (q.work.foldl (failWork q.qpn 0) { s with qps := s.qps.filter (fun y => y.qpn != q.qpn) }).qp? q.qpn = none :=
    (State.failWorks_qp? (fun y hy => by cases hgone.symm.trans hy) ..).trans hgone
  have hcmd : s.cmdQpDestroy r =
      (q.work.foldl (failWork q.qpn 0) { s with qps := s.qps.filter (fun y => y.qpn != q.qpn) }).ok r [] := by
    unfold State.cmdQpDestroy
    rw [hq]
    exact (if_neg (not_not.mpr howner)).trans (if_neg (Bool.eq_false_iff.mp h))
  intro y hy
  rw [hcmd, State.ok, State.answer_qps] at hy
  simpa using List.find?_eq_none.mp hleft y hy

/-! ### Landing regions (R373, R412) -/

/-- Of 257 keys in a row one is free, since there are 256 regions at most. -/
theorem State.newKey_fresh (h : s.lrs.length ≤ 256) (n : Nat) : ∀ z ∈ s.lrs, z.rkey ≠ s.newKey n := by
  have hfree : ∃ x ∈ (List.range 257).map (fun i => (Config.rkey n + i) % 2 ^ 32), !(s.lrs.any (fun y => y.rkey == x)) := by
    by_contra hnone
    have htaken : (List.range 257).map (fun i => (Config.rkey n + i) % 2 ^ 32) ⊆ s.lrs.map (·.rkey) := by
      intro x hx
      have hany : s.lrs.any (fun y => y.rkey == x) = true := by
        by_contra hfree
        exact hnone ⟨x, hx, by simp [hfree]⟩
      obtain ⟨y, hy, hkey⟩ := List.any_eq_true.mp hany
      exact List.mem_map.mpr ⟨y, hy, beq_iff_eq.mp hkey⟩
    have hnodup : ((List.range 257).map (fun i => (Config.rkey n + i) % 2 ^ 32)).Nodup := by
      refine List.nodup_range.map_on fun i hi j hj hij => ?_
      rw [List.mem_range] at hi hj
      omega
    have hcount := (hnodup.subperm htaken).length_le
    rw [List.length_map, List.length_map, List.length_range] at hcount
    omega
  obtain ⟨x, hx⟩ := Option.isSome_iff_exists.mp (List.find?_isSome.mpr hfree)
  have hkey : s.newKey n = x := congrArg (fun y : Option Nat => y.getD (Config.rkey n % 2 ^ 32)) hx
  intro z hz hzkey
  have hnot := List.find?_some hx
  rw [← hkey] at hnot
  simp only [Bool.not_eq_true', List.any_eq_false, beq_iff_eq] at hnot
  exact hnot z hz hzkey

theorem State.cmdLrRegister_adds {n : Nat} (hholds : s.holds r.owner (r.arg 0 64) (r.arg 64 64) = true)
    (hn : (List.range 256).find? (fun i => (s.lr? i).isNone) = some n) :
    ∃ y : LandReg, (s.cmdLrRegister r).lrs = s.lrs ++ [y] ∧ y.idx = n ∧ y.addr = r.arg 0 64 ∧ y.len = r.arg 64 64 ∧ y.owner = r.owner ∧
      y.ledger = 0 ∧ (s.lrs.length ≤ 256 → ∀ z ∈ s.lrs, z.rkey ≠ y.rkey) := by
  unfold State.cmdLrRegister
  dsimp only
  rw [if_neg (by simp [hholds]), hn]
  exact ⟨_, State.answer_lrs .., rfl, rfl, rfl, rfl, rfl, fun hlen => State.newKey_fresh (s := s.draw.2) hlen _⟩

theorem State.cmdLrDeregister_removes {y : LandReg} (hy : s.lr? (r.arg 0 8) = some y) (howner : y.owner = r.owner)
    (h : s.fenced (fun z => z.idx == y.idx) = false) : (s.cmdLrDeregister r).lrs = s.lrs.filter (fun z => z.idx != y.idx) := by
  unfold State.cmdLrDeregister
  rw [hy]
  dsimp only
  rw [if_neg (not_not.mpr howner), if_neg (by simp [h])]
  exact State.answer_lrs ..

theorem State.cmdLrDeregister_fenced {y : LandReg} (hy : s.lr? (r.arg 0 8) = some y) (howner : y.owner = r.owner)
    (h : s.fenced (fun z => z.idx == y.idx) = true) : s.cmdLrDeregister r = s.no r 0x0E 0 := by
  unfold State.cmdLrDeregister
  rw [hy]
  exact (if_neg (not_not.mpr howner)).trans (if_pos h)

/-! ### Packages (R462) -/

section

variable (hholds : s.holds r.owner (r.arg 0 64) (r.arg 64 64) = true) (hawake : s.awake (r.arg 0 64) (r.arg 64 64) = true)
include hholds hawake

/-- A package whose signatures pass is held. -/
theorem State.cmdLibPut_holds (hpass : packFail (s.readBytes (r.arg 0 64) (r.arg 64 64)) = none)
    (hok : packOk (s.readBytes (r.arg 0 64) (r.arg 64 64)) = true) : ∃ p ∈ (s.cmdLibPut r).libs,
      p.bytes = s.readBytes (r.arg 0 64) (r.arg 64 64) ∧ p.triple = packTriple (s.readBytes (r.arg 0 64) (r.arg 64 64)) ∧
      p.digest = sha384 (s.readBytes (r.arg 0 64) (r.arg 64 64)) := by
  unfold State.cmdLibPut
  dsimp only
  rw [if_neg (by simp [hholds]), if_neg (by simp [hawake]), hpass]
  dsimp only
  rw [if_neg (by simp [hok]), State.ok, State.answer_libs]
  exact ⟨_, List.mem_append_right _ (List.mem_singleton_self _), rfl, rfl, rfl⟩

/-- One with a signature that fails is not. -/
theorem State.cmdLibPut_fails {d : Nat} (hfail : packFail (s.readBytes (r.arg 0 64) (r.arg 64 64)) = some d) :
    (s.cmdLibPut r).libs = s.libs ∧ (s.cmdLibPut r).log.head?.map (·.code) = some 0x6105 := by
  unfold State.cmdLibPut
  dsimp only
  rw [if_neg (by simp [hholds]), if_neg (by simp [hawake]), hfail]
  dsimp only
  rw [State.answer_libs, State.raise_libs, State.answer_keeps (·.log) (fun _ _ _ => rfl)]
  exact ⟨rfl, State.raise_code ..⟩

end

end

end Sys2Proof.Machine
end

section
/-! Tenant keys (R399, R403, R458): the keys that TENANT_KEY leaves, and the sessions that end with a key. -/

namespace Sys2Proof.Machine

/-! ### Sessions that end with their key (R403, R458) -/

/-- What does not change of a session that stays open: its number, scope and key. -/
def Session.kind (x : Session) : Nat × Nat × Nat := (x.id, x.scope, x.keyid)

/-- The kinds of the sessions that are open. -/
def State.kinds (s : State) : List (Nat × Nat × Nat) := s.sessions.map Session.kind

theorem notify_kinds {s : State} {x : Session} {ks : List (Nat × Nat × Nat)} (hs : s.kinds ⊆ ks) (hx : x.kind ∈ ks) (e : EventRec) :
    (notify e s x).kinds ⊆ ks := by
  unfold notify
  extract_lets sees y
  split
  · intro k hk
    obtain ⟨z, hz, rfl⟩ := List.mem_map.mp hk
    rcases State.mem_setSession hz with rfl | ⟨hold, -⟩
    · exact hx
    · exact hs (List.mem_map_of_mem hold)
  · exact hs

/-- An event opens no session. -/
theorem State.raise_kinds (s : State) (code kind arg ploc : Nat) (lag vc : Option Nat) : (s.raise code kind arg ploc lag vc).kinds ⊆ s.kinds := by
  unfold State.raise
  dsimp only
  refine List.foldlRecOn _ _ (motive := fun a : State => a.kinds ⊆ s.kinds) ?_ fun a ha x hx => notify_kinds ha ?_ _
  · split <;> exact List.Subset.refl _
  · split at hx <;> exact List.mem_map_of_mem hx

theorem State.endDebug_kinds (s : State) (p : Debug → Bool) : (s.endDebug p).kinds ⊆ s.kinds := by
  unfold State.endDebug
  extract_lets gone covered t
  have ht : t.kinds = s.kinds := foldl_keeps (f := State.resumeHalted) State.kinds (fun _ _ => rfl) _ { s with dbgs := _ }
  exact foldl_inv (P := fun a : State => a.kinds ⊆ s.kinds) (fun a d ha => List.Subset.trans (a.raise_kinds ..) ha) _ t
    (ht ▸ List.Subset.refl _)

/-- The sessions open after one has ended were open before. -/
theorem State.endSession_kinds (s : State) (id : Nat) : (s.endSession id).kinds ⊆ s.kinds := by
  unfold State.endSession
  split
  · exact List.Subset.refl _
  · refine List.Subset.trans (State.raise_kinds ..) (List.Subset.trans (State.endDebug_kinds ..) ?_)
    exact List.map_subset _ (List.filter_subset_self _)

/-- Of the sessions that a list names none is left, and no other is opened. -/
theorem State.endEach (xs : List Session) (s : State) :
    (xs.foldl (fun a x => a.endSession x.id) s).kinds ⊆ s.kinds ∧
      ∀ x ∈ xs, ∀ y ∈ (xs.foldl (fun a x => a.endSession x.id) s).sessions, y.id ≠ x.id := by
  induction xs generalizing s with
  | nil => exact ⟨List.Subset.refl _, fun x hx => absurd hx List.not_mem_nil⟩
  | cons z zs ih =>
    obtain ⟨hkinds, hgone⟩ := ih (s.endSession z.id)
    refine ⟨List.Subset.trans hkinds (s.endSession_kinds z.id), fun x hx y hy => ?_⟩
    rcases List.mem_cons.mp hx with rfl | hlater
    · intro hid
      obtain ⟨w, hw, hkind⟩ := List.mem_map.mp (hkinds (List.mem_map_of_mem hy))
      exact s.endSession_ids x.id (List.mem_map.mpr ⟨w, hw, (congrArg Prod.fst hkind).trans hid⟩)
    · exact hgone x hlater y hy

/-- No session is left that a test of scope and key picks. -/
theorem State.endSessions_none (s : State) (p : Nat → Nat → Bool) :
    ∀ y ∈ (s.endSessions fun x => p x.scope x.keyid).sessions, p y.scope y.keyid = false := by
  intro y hy
  obtain ⟨hkinds, hgone⟩ := State.endEach (s.sessions.filter fun x => p x.scope x.keyid) s
  obtain ⟨z, hz, hkind⟩ := List.mem_map.mp (hkinds (List.mem_map_of_mem hy))
  have hid : z.id = y.id := congrArg Prod.fst hkind
  have hscope : z.scope = y.scope := congrArg (·.2.1) hkind
  have hkey : z.keyid = y.keyid := congrArg (·.2.2) hkind
  by_contra hpicked
  rw [Bool.not_eq_false, ← hscope, ← hkey] at hpicked
  exact hgone z (List.mem_filter.mpr ⟨hz, hpicked⟩) y hy hid.symm

/-! ### Tenant keys (R458) -/

/-- The key that TENANT_KEY names. -/
def Req.tenantKey (r : Req) : TenantKey := ⟨r.arg 0 8, (r.args.drop 2).take 97⟩

theorem State.cmdKeyInstall_adds {s : State} {r : Req} (hnew : s.keeper.tkeys.contains r.tenantKey = false)
    (hroom : (s.keeper.tkeys.filter (fun y => y.scope == r.tenantKey.scope)).length < 8) :
    (s.cmdKeyInstall r).keeper.tkeys = s.keeper.tkeys ++ [r.tenantKey] := by
  have hcmd : s.cmdKeyInstall r = (s.setKeys (s.keeper.tkeys ++ [r.tenantKey])).ok r (toBytes 8 (keyId r.tenantKey.key)) :=
    (if_neg (Bool.eq_false_iff.mp hnew)).trans (if_neg (Nat.not_le.mpr hroom))
  rw [hcmd, State.ok, keptByEndings_keeper.answer]
  rfl

theorem State.cmdKeyRemove_removes {s : State} {r : Req} (hheld : s.keeper.tkeys.contains r.tenantKey = true)
    (hlast : r.tenantKey.scope = 0 → (s.keeper.tkeys.filter (fun y => y.scope == 0)).length ≠ 1) :
    (s.cmdKeyRemove r).keeper.tkeys = s.keeper.tkeys.filter (fun y => y != r.tenantKey) ∧
      ∀ y ∈ (s.cmdKeyRemove r).sessions, ¬(y.scope = r.tenantKey.scope ∧ y.keyid = keyId r.tenantKey.key) := by
  have hcmd : s.cmdKeyRemove r =
      ((s.setKeys (s.keeper.tkeys.filter (fun y => y != r.tenantKey))).ok r (toBytes 8 (keyId r.tenantKey.key))).endSessions
        (fun x => x.scope == r.tenantKey.scope && x.keyid == keyId r.tenantKey.key) :=
    (if_neg fun hno => Bool.false_ne_true (hno.symm.trans hheld)).trans (if_neg fun hx => hlast hx.1 hx.2)
  rw [hcmd]
  refine ⟨?_, fun y hy hboth => ?_⟩
  · rw [keptByEndings_keeper.endSessions, State.ok, keptByEndings_keeper.answer]
    rfl
  · have hnone := State.endSessions_none _ (fun scope keyid => scope == r.tenantKey.scope && keyid == keyId r.tenantKey.key) y hy
    simp [hboth.1, hboth.2] at hnone

end Sys2Proof.Machine
end

section
/-! The rows of the object commands (R419): a frame's command takes effect in a state that has the same objects. -/

namespace Sys2Proof.Machine

/-! ### Effects by OP (Table 8 of spec/13) -/

section

variable {s : State} {r : Req}

theorem State.effect_read (h : r.op = 0x0201) : s.effect r = s.cmdRead r := by
  rw [State.effect, h]
  rfl

theorem State.effect_xfer (h : r.op = 0x0202) : s.effect r = s.cmdXfer r := by
  rw [State.effect, h]
  rfl

theorem State.effect_sink (h : r.op = 0x0301) : s.effect r = s.cmdSink r := by
  rw [State.effect, h]
  rfl

theorem State.effect_sinkAck (h : r.op = 0x0302) : s.effect r = s.cmdSinkAck r := by
  rw [State.effect, h]
  rfl

theorem State.effect_flush (h : r.op = 0x0303) : s.effect r = s.cmdFlush r := by
  rw [State.effect, h]
  rfl

theorem State.effect_path (h : r.op = 0x0304) : s.effect r = s.cmdPath r := by
  rw [State.effect, h]
  rfl

theorem State.effect_qpCreate (h : r.op = 0x0501) : s.effect r = s.cmdQpCreate r := by
  rw [State.effect, h]
  rfl

theorem State.effect_qpDestroy (h : r.op = 0x0502) : s.effect r = s.cmdQpDestroy r := by
  rw [State.effect, h]
  rfl

theorem State.effect_lrRegister (h : r.op = 0x0503) : s.effect r = s.cmdLrRegister r := by
  rw [State.effect, h]
  rfl

theorem State.effect_lrDeregister (h : r.op = 0x0504) : s.effect r = s.cmdLrDeregister r := by
  rw [State.effect, h]
  rfl

theorem State.effect_libPut (h : r.op = 0x0601) : s.effect r = s.cmdLibPut r := by
  rw [State.effect, h]
  rfl

theorem State.effect_tenantKey (h : r.op = 0x0407) : s.effect r = if r.arg 8 1 = 0 then s.cmdKeyInstall r else s.cmdKeyRemove r := by
  rw [State.effect, h]
  rfl

theorem State.effect_keyInstall {f : Frame} (hserves : (Instr.cmdTenantKeyInstall f).serves r = true) : s.effect r = s.cmdKeyInstall r := by
  obtain ⟨hop, hclear⟩ := Req.op_of_test hserves
  rw [State.effect_tenantKey hop, if_pos (beq_iff_eq.mp hclear)]

theorem State.effect_keyRemove {f : Frame} (hserves : (Instr.cmdTenantKeyRemove f).serves r = true) : s.effect r = s.cmdKeyRemove r := by
  obtain ⟨hop, hset⟩ := Req.op_of_test hserves
  rw [State.effect_tenantKey hop, if_neg (by simp [beq_iff_eq.mp hset])]

end

/-! ### The rows -/

section

variable {s : State} {f : Frame} {x : Session} (h : s.CommandRuns f x)
include h

/-- A row that serves the command leaves a state of which `p` holds. -/
theorem State.CommandRuns.row_leaves {i : Instr} (hrow : exec i s = .next (s.cmdRow f i.serves)) {t : State} {p : State → Prop}
    (heffect : i.serves (s.request f x) = true → (s.running f x).effect (s.request f x) = t) (hp : p t) :
    i.serves (s.request f x) = true → ∃ t : State, exec i s = .next t ∧ p t :=
  fun hserves => ⟨t, (h.exec_effect hrow hserves).trans (congrArg Host.Outcome.next (heffect hserves)), hp⟩

/-- The same for a row whose test names nothing but its OP. -/
theorem State.CommandRuns.opRow_leaves {op : Nat} {i : Instr} (hrow : exec i s = .next (s.cmdRow f i.serves))
    (htest : i.serves (s.request f x) = ((s.request f x).op == op)) {t : State} {p : State → Prop}
    (heffect : (s.request f x).op = op → (s.running f x).effect (s.request f x) = t) (hp : p t) :
    i.serves (s.request f x) = true → ∃ t : State, exec i s = .next t ∧ p t :=
  h.row_leaves hrow (fun hserves => heffect (beq_iff_eq.mp (htest.symm.trans hserves))) hp

end

/-! ### The state in which a command runs -/

/-- `u` has the objects of `s`: a command that starts changes its session and the port's counts alone. -/
structure State.SameObjects (u s : State) : Prop where
  qps     : u.qps = s.qps
  lrs     : u.lrs = s.lrs
  sinks   : u.sinks = s.sinks
  lagoons : u.lagoons = s.lagoons
  libs    : u.libs = s.libs
  builder : u.builder = s.builder
  keeper  : u.keeper = s.keeper
  mem     : u.mem = s.mem
  tx      : u.tx = s.tx

theorem State.SameObjects.trans {a b c : State} (h : a.SameObjects b) (h' : b.SameObjects c) : a.SameObjects c :=
  ⟨h.qps.trans h'.qps, h.lrs.trans h'.lrs, h.sinks.trans h'.sinks, h.lagoons.trans h'.lagoons, h.libs.trans h'.libs,
    h.builder.trans h'.builder, h.keeper.trans h'.keeper, h.mem.trans h'.mem, h.tx.trans h'.tx⟩

theorem State.tookFrame_sameObjects (s : State) (w : Wire) : (s.tookFrame w).SameObjects s :=
  ⟨rfl, rfl, rfl, rfl, rfl, rfl, rfl, rfl, rfl⟩

theorem State.setSession_sameObjects (s : State) (x : Session) : (s.setSession x).SameObjects s :=
  ⟨rfl, rfl, rfl, rfl, rfl, rfl, rfl, rfl, rfl⟩

theorem State.setPhase_sameObjects (s : State) (r : Ref) (phase deadline : Nat) : (s.setPhase r phase deadline).SameObjects s :=
  ⟨rfl, rfl, rfl, rfl, rfl, rfl, rfl, rfl, rfl⟩

theorem State.running_sameObjects (s : State) (f : Frame) (x : Session) : (s.running f x).SameObjects s :=
  (State.setPhase_sameObjects ..).trans ((State.setSession_sameObjects ..).trans ((State.setSession_sameObjects ..).trans
    (s.tookFrame_sameObjects f.wire)))

section

variable {s u : State} (h : u.SameObjects s)
include h

theorem State.SameObjects.qp?_eq : u.qp? = s.qp? := by
  unfold State.qp?
  rw [h.qps]

theorem State.SameObjects.lr?_eq : u.lr? = s.lr? := by
  unfold State.lr?
  rw [h.lrs]

theorem State.SameObjects.sink?_eq : u.sink? = s.sink? := by
  unfold State.sink?
  rw [h.sinks]

theorem State.SameObjects.lagoon_eq : u.lagoon = s.lagoon := by
  unfold State.lagoon
  rw [h.lagoons]

theorem State.SameObjects.readBytes_eq : u.readBytes = s.readBytes := by
  unfold State.readBytes
  rw [h.mem]

end

/-- Settles O52: each row by the effect of its command, in the state `u` in which it runs, which has the objects of `s`. A FLUSH that waits is
DEDUCED 72, the reply of an XFER formed as its object is copied DEDUCED 89, and a sink that replaces another, with the range of SINK_ACK,
DEDUCED 71. -/
theorem objectCommands : Obligations.ObjectCommands := by
  unfold Obligations.ObjectCommands
  intro f s x h r u does key
  have row {i : Instr} (hrow : exec i s = .next (s.cmdRow f i.serves)) {t : State} {p : State → Prop}
      (heffect : i.serves r = true → u.effect r = t) (hp : p t) : does i p := h.row_leaves hrow heffect hp
  have opRow {op : Nat} {i : Instr} (hrow : exec i s = .next (s.cmdRow f i.serves)) (htest : i.serves r = (r.op == op)) {t : State}
      {p : State → Prop} (heffect : r.op = op → u.effect r = t) (hp : p t) : does i p := h.opRow_leaves hrow htest heffect hp
  have hsame : u.SameObjects s := State.running_sameObjects s f x
  clear_value r u
  rw [← hsame.qp?_eq, ← hsame.qps, ← hsame.lr?_eq, ← hsame.lrs, ← hsame.sink?_eq, ← hsame.sinks, ← hsame.lagoon_eq, ← hsame.libs,
    ← hsame.builder, ← hsame.keeper, ← hsame.readBytes_eq, ← hsame.tx]
  refine ⟨fun b hobj => ⟨?read, fun q hq howner hstate hne => ?xfer⟩, fun hnone => ?unsink,
    fun q hsome hq howner => ?sink, fun k hk => ⟨fun hlow hhigh => ?acked, fun hout => ?notAcked⟩, fun hempty => ?flushNone,
    fun hopen hroom => ?flush, fun hopen hfull => ?flushWaits, fun b q hb hq hsees => ?path, fun n hn => ?create,
    fun q hq howner => ⟨fun hfree => ?destroy, fun hused => ?used⟩, fun n hholds hn => ?register,
    fun y hy howner => ⟨fun hfree => ?deregister, fun hfenced => ?fenced⟩, fun hholds hawake => ⟨fun hpass hok => ?held, fun d hfail => ?failed⟩,
    fun hnew hroom => ?install, fun hheld hlast => ?remove⟩
  case read => exact opRow rfl rfl (fun hop => (State.effect_read hop).trans (State.cmdRead_bytes hobj)) rfl
  case xfer => exact opRow rfl rfl State.effect_xfer (State.cmdXfer_queues hobj hq howner hstate hne)
  case unsink => exact opRow rfl rfl State.effect_sink (State.cmdSink_removes hnone)
  case sink => exact opRow rfl rfl State.effect_sink (State.cmdSink_sets hsome hq howner)
  case acked => exact opRow rfl rfl State.effect_sinkAck (State.cmdSinkAck_counts hk hlow hhigh)
  case notAcked => exact opRow rfl rfl (fun hop => (State.effect_sinkAck hop).trans (State.cmdSinkAck_refused hk hout)) rfl
  case flushNone => exact opRow rfl rfl (fun hop => (State.effect_flush hop).trans (State.cmdFlush_empty hempty)) rfl
  case flush => exact opRow rfl rfl State.effect_flush (State.cmdFlush_closes hopen hroom)
  case flushWaits => exact opRow rfl rfl (fun hop => (State.effect_flush hop).trans (State.cmdFlush_waits hopen hfull)) ⟨rfl, rfl, rfl⟩
  case path => exact opRow rfl rfl (fun hop => (State.effect_path hop).trans (State.cmdPath_found hb hq hsees)) rfl
  case create => exact opRow rfl rfl State.effect_qpCreate (State.cmdQpCreate_adds hn)
  case destroy => exact opRow rfl rfl State.effect_qpDestroy (State.cmdQpDestroy_removes hq howner hfree)
  case used => exact opRow rfl rfl (fun hop => (State.effect_qpDestroy hop).trans (State.cmdQpDestroy_used hq howner hused)) rfl
  case register => exact opRow rfl rfl State.effect_lrRegister (State.cmdLrRegister_adds hholds hn)
  case deregister => exact opRow rfl rfl State.effect_lrDeregister (State.cmdLrDeregister_removes hy howner hfree)
  case fenced => exact opRow rfl rfl (fun hop => (State.effect_lrDeregister hop).trans (State.cmdLrDeregister_fenced hy howner hfenced)) rfl
  case held => exact opRow rfl rfl State.effect_libPut (State.cmdLibPut_holds hholds hawake hpass hok)
  case failed => exact opRow rfl rfl State.effect_libPut (State.cmdLibPut_fails hholds hawake hfail)
  case install => exact row rfl State.effect_keyInstall (State.cmdKeyInstall_adds hnew hroom)
  case remove => exact row rfl State.effect_keyRemove (State.cmdKeyRemove_removes hheld hlast)

end Sys2Proof.Machine
end
